-- ==== Sys2Proof/Word.lean ====
section
/-!
DEFINITION. Sys2Proof/Word.lean: the word types of the model.
Register words are 64 bits (chapter 02 to 23, "All registers are 64 bits"); memory is bytes (R5, little-endian).
-/
namespace Sys2Proof

/-- One byte of memory. -/
abbrev Byte := BitVec 8

/-- One 64-bit register word. -/
abbrev W64 := BitVec 64

/-- A logical tile ID, 9 bits: x in bits 8:4 and y in bits 3:0 (R5). -/
abbrev Tile := Fin 512

/-- A core of a tile, 0 to 23 (R124). -/
abbrev CoreIx := Fin 24

/-- A Wylet port, W0 to W15. -/
abbrev Port := Fin 16

/-- A clear bit width for chip IDs: 17 bits (R5). -/
abbrev Chip := BitVec 17

/-- The register access codes of R7. -/
inductive Acc where
  | rw | ro | w1c | w1s | rc | wo
deriving DecidableEq, Repr

/-- A field of a register: its low bit, its width, its access code and its reset value (R7). -/
structure Fld where
  lo  : Nat
  len : Nat
  acc : Acc
  rst : Nat
deriving DecidableEq, Repr

end Sys2Proof
end

