-- ==== Sys2Proof/Syntax.lean ====
section
/-!
DEFINITION. Sys2Proof/Syntax.lean: the commands of the block, one constructor for each row of spec/opcode_table.json, and the
packets, frames and words that they carry.
-/
namespace Sys2Proof

/-- What a check of stored data finds (R74 to R77): nothing, an error it corrects, or one it cannot correct. -/
inductive Ecc where
  | clean | corr | uncorr
deriving DecidableEq, Repr

/-- What the code on a link finds in a beat or flit (R201, R337): nothing, a corrected error, an uncorrectable error in a
data flit, or one in a header. -/
inductive LinkErr where
  | ok | ce | dataUe | hdrUe
deriving DecidableEq, Repr

/-- A BN packet: the header of R175 and its payload, with the POISON sideband of each data flit (R172). For MC_WR and
MC_WR_CB, `far` is the far-corner tile; for every other OP it is 0 and `schip` is the source chip. -/
structure BnPkt where
  dchip : BitVec 17
  schip : BitVec 17
  far   : BitVec 9
  dtile : BitVec 9
  len   : BitVec 13
  op    : BitVec 5
  tc    : BitVec 2
  epoch : Bool
  rmode : BitVec 2
  tag   : BitVec 10
  stile : BitVec 9
  addr  : BitVec 42
  data  : List Byte
  psn   : List Bool
deriving DecidableEq, Repr

/-- A CN packet: the header of R311 with its operation fields, its payload, and whether a payload flit is poisoned. `rcd` is the
channel record of the sender, which R324 and R327 use for an AM and a CLOSE_REQ and for which R312 names no bits. -/
structure CnPkt where
  dtile : BitVec 9
  stile : BitVec 9
  op    : BitVec 4
  tc    : BitVec 2
  epoch : Bool
  len   : BitVec 7
  dhub  : Bool
  shub  : Bool
  flds  : BitVec 30
  data  : List Byte
  psn   : Bool
  rcd   : BitVec 6
deriving DecidableEq, Repr

/-- Who makes a register access: a core, the host, the Glovos plane, a BN packet of a tile of this chip (such as an engine's
flag write), or another chip. -/
inductive Requester where
  | core (t : Tile) (c : CoreIx)
  | host
  | glovos
  | engine (t : Tile)
  | remote (chip : Chip)
deriving DecidableEq, Repr

/-- A data frame of a Wylet port (R438): its header fields and its payload; LEN is the payload's length. SEQ is 0 until the port sends
the frame. -/
structure WlpFrame where
  dchip : BitVec 17
  schip : BitVec 17
  tc    : BitVec 2
  eq    : BitVec 3
  route : BitVec 13
  seq   : BitVec 16
  carry : BitVec 48
  data  : List Byte
deriving DecidableEq, Repr

/-- What a receiver finds wrong with the blocks of a frame (R446, row 1): nothing, an uncorrectable codeword, or a broken block
sequence. -/
inductive BlkErr where
  | ok | fecUe | fmt
deriving DecidableEq, Repr

/-- What the code of a perimeter ring slot finds (R502): nothing, a corrected error, an uncorrectable one in the first 32 B of a frame,
or one elsewhere. -/
inductive SlotErr where
  | ok | ce | hdrUe | ue
deriving DecidableEq, Repr

/-- What the owner of a bitten point was moving (R387): nothing that is still under way (a bank, the vault port, a hold), a packet
of the bulk or control network whose header had not left the router by output `out`, one whose header had and of which `sent` data flits
had moved, the head frame of an egress queue or of a pool that enters the ring, or the Beacon transfer of a descriptor queue. -/
inductive Bitten where
  | none
  | bn (p : BnPkt) (inp : Fin 5) (out : Fin 5)
  | bnSent (p : BnPkt) (out : Fin 5) (sent : Nat)
  | cn (p : CnPkt) (inp : Fin 5) (out : Fin 5)
  | cnSent (p : CnPkt) (out : Fin 5)
  | egress (n : Port) (q : Fin 8)
  | ring (n : Port) (q : Fin 8)
  | beacon (t : Tile) (ch : Fin 4)
deriving DecidableEq, Repr

/-- What the host has set in the function's configuration space and the device acts on (R554, R556, R564, R566, R568): Memory Space
Enable, MSI-X Enable, Function Mask, Completion Timeout Disable, the maximum payload and
read request sizes in bytes, and the binary logarithm of the size of BAR2. -/
structure PciCfg where
  mse    : Bool
  msixEn : Bool
  fmask  : Bool
  ctoDis : Bool
  mps    : Nat
  mrrs   : Nat
  bar2   : Nat
deriving DecidableEq, Repr

/-- How the host completes a Memory Read (R564): with data, with data and EP set, or with Unsupported Request or Completer Abort. -/
inductive HostEnd where
  | data | ep | refused
deriving DecidableEq, Repr

/-- A CAN FD frame (R601): the fields of its identifier and its data. -/
structure CanFrame where
  prio : BitVec 3
  dst  : BitVec 7
  src  : BitVec 7
  seg  : BitVec 3
  xid  : BitVec 9
  data : List Byte
deriving DecidableEq, Repr

/-- A reading of a temperature sensor (R647): a value in 1/16 °C, or a failed self-check. -/
abbrev TempReading := Option (BitVec 16)

/-- What the critical-path monitors of a domain report (R659): margin short at the present frequency, enough, or in excess. -/
inductive Margin where
  | short | enough | excess
deriving DecidableEq, Repr

/-- What asks for a cold or warm reset (R674): the input, SYS_RESET_N, a register write, an FLR, or the end of a re-flash. -/
inductive ResetSource where
  | input | pin | register | flr | reflash
deriving DecidableEq, Repr

/-- A request to the DOE mailbox (R572): DOE Discovery by its index, the SPDM requests that the device supports with what their answers
depend on, and any other. -/
inductive DoeReq where
  | discovery (index : Nat)
  | getVersion
  | getCapabilities
  | negotiateAlgorithms
  | getDigests
  | getCertificate (slot off len : Nat)
  | challenge (slot : Nat) (nonce : List Byte)
  | getMeasurements (index : Nat) (sign : Bool) (slot : Nat) (nonce : List Byte)
  | other
deriving DecidableEq, Repr

/-- What waits for an answer with a timer (R711): an NIU tag, the n-th outstanding access of a core, or a send record in OPENING or
CLOSING. -/
inductive Waiting where
  | tag (t : Tile) (g : BitVec 10)
  | core (t : Tile) (c : CoreIx) (n : Nat)
  | record (t : Tile) (i : Fin 64)
deriving DecidableEq, Repr

/-- The commands: what the world outside and the passing of time do to the device, one at a time. -/
inductive Instr where
  /-- PILOT_POWER_ON (R736): VSTBY33 enters its range: the pilot domain leaves power-on reset, samples the straps and starts the pilot counter. -/
  | pilotPowerOn (keeper test : Bool)
  /-- VSTBY33_LOSS (R737): VSTBY33 stays below 3.0 V for 10 µs: the first stage and every IVR switch off and the pilot domain is held in power-on reset. -/
  | vstby33Loss
  /-- PCLK_LOSS (R743): No PCLK edge for 1 µs: the monitor holds the pilot domain in power-on reset. -/
  | pclkLoss
  /-- COLD_RESET (R682): A cold reset from the input, SYS_RESET_N or a register request starts the cold start sequence. -/
  | coldReset (src : ResetSource)
  /-- WARM_RESET (R683): A warm reset follows the cold start with the exceptions of R683. -/
  | warmReset (src : ResetSource)
  /-- FABRIC_RESET (R686): A fabric reset discards traffic in the fabric, ends NIU tags with DEST_DOWN and resets fabric state. -/
  | fabricReset
  /-- TILE_RESET (R687): A tile reset stops the tile's cores, scrubs its CM and returns its tile blocks to reset. -/
  | tileReset
  /-- RST_CTRL_COLD (R675): A write of BOOT_RST_CTRL.COLD requests a cold reset that begins 1 µs after the acknowledgement. -/
  | rstCtrlCold
  /-- RST_CTRL_WARM (R675): A write of BOOT_RST_CTRL.WARM requests a warm reset that begins 1 µs after the acknowledgement. -/
  | rstCtrlWarm
  /-- RST_CTRL_FABRIC (R675): A write of BOOT_RST_CTRL.FABRIC requests a fabric reset. -/
  | rstCtrlFabric
  /-- RST_CTRL_TILE (R687): A write of BOOT_RST_CTRL.TILE requests a reset of the tile named by TILE_ID, optionally with RELOAD. -/
  | rstCtrlTile (t : Tile) (reload : Bool)
  /-- IVR_GROUP_START (R651): A regulator group begins soft start at its place in the start order. -/
  | ivrGroupStart
  /-- IVR_SOFTSTART_CHECK (R649): The soft-start check at 100 µs or 250 µs into a regulator's ramp judges the start good or faulty. -/
  | ivrSoftstartCheck (rail : Fin 75) (late bad : Bool)
  /-- IVR_FAULT_IN_OPERATION (R649): A running regulator meets an overcurrent or overvoltage condition for 10 µs and switches off. -/
  | ivrFaultInOperation (rail : Fin 75) (ov : Bool)
  /-- IVR_RETRY_START (R650): 10 ms after a failed attempt, the regulator starts again. -/
  | ivrRetryStart (rail : Fin 75)
  /-- BOOT_FIRMWARE_VERIFIED (R682): The header and GLV_FW of the first slot tried are verified, the firmware runs and DICT_CAP is written. -/
  | bootFirmwareVerified (bad : BitVec 3)
  /-- MAP_FORM (R38): Once the regulators have settled, the device forms the tile map from fuses and failed domains and publishes it. -/
  | mapForm
  /-- SCRUB_COMPLETE (R82): A tile's boot scrub completes and SCRUB_DONE sets. -/
  | scrubComplete (t : Tile)
  /-- BOOT_VERIFY_PASS (R681): The verify pass over the slots completes and selects the first slot that passes. -/
  | bootVerifyPass (bad : BitVec 3)
  /-- BOOT_APPLY_PASS (R684): The apply pass writes the fabric tables, loads cluster code and the runtime, and starts the cores. -/
  | bootApplyPass (readErr : Bool)
  /-- TILE_MAP_APPLY (R45): A write of TILE_MAP_CTRL.APPLY starts re-forming the map, or is refused when the device is not quiesced. -/
  | tileMapApply
  /-- MAP_APPLY_COMPLETE (R46): An apply completes: the new map takes effect together and MAP_SEQ increments. -/
  | mapApplyComplete
  /-- APPLY_CN_DISCARD (R56): A CN packet still held in a router 4,000 FCLK after APPLYING set is discarded. -/
  | applyCnDiscard (t : Tile) (inp : Fin 5) (p : CnPkt)
  /-- TILE_MEM_CFG_WRITE (R91): A write to TILE_MEM_CFG sets the memory modes field by field, subject to the mode lock and the value checks. -/
  | tileMemCfgWrite (v : W64)
  /-- PATROL_VISIT (R86): The patrol scrub's pace falls due and the patrol visits its next vault line. -/
  | patrolVisit (t : Tile) (ecc : Ecc)
  /-- CORE_INSTRUCTION (R124): A core executes one instruction of its supported extensions other than those with rows of their own. -/
  | coreInstruction (t : Tile) (c : CoreIx) (w : BitVec 32)
  /-- CORE_LOAD (R64): A core load reaches its window and is performed, or raises its exception. -/
  | coreLoad (t : Tile) (c : CoreIx) (w : BitVec 32) (ecc : List (Nat × Ecc))
  /-- CORE_STORE (R64): A core store reaches its window and is performed, or raises its exception. -/
  | coreStore (t : Tile) (c : CoreIx) (w : BitVec 32) (ecc : List (Nat × Ecc))
  /-- CORE_AMO (R68): A core AMO is performed at the memory that holds the line. -/
  | coreAmo (t : Tile) (c : CoreIx) (w : BitVec 32) (ecc : List (Nat × Ecc))
  /-- CORE_LR (R64): A core load-reserved to its own CM or vault. -/
  | coreLr (t : Tile) (c : CoreIx) (w : BitVec 32) (ecc : List (Nat × Ecc))
  /-- CORE_SC (R64): A core store-conditional to its own CM or vault. -/
  | coreSc (t : Tile) (c : CoreIx) (w : BitVec 32) (held : Bool) (ecc : List (Nat × Ecc))
  /-- CORE_FENCE (R69): A FENCE waits for the acknowledgements that its predecessor set requires. -/
  | coreFence (t : Tile) (c : CoreIx) (w : BitVec 32)
  /-- CORE_FENCE_I (R124): FENCE.I orders the issuing hart's own instruction fetch. -/
  | coreFenceI (t : Tile) (c : CoreIx) (w : BitVec 32)
  /-- MTIMER_EXPIRE (R126): The time CSR reaches TILE_MTIMECMP and MTIP sets. -/
  | mtimerExpire (t : Tile) (c : CoreIx)
  /-- TILE_CORE_RUN_WRITE (R128): A write to TILE_CORE_RUN starts cores at TILE_BOOT_PC or requests that they stop. -/
  | tileCoreRunWrite (who : Requester) (t : Tile) (v : W64)
  /-- CORE_STOP_COMPLETE (R128): A stopping core reaches an instruction boundary after its outstanding accesses complete. -/
  | coreStopComplete (t : Tile) (c : CoreIx)
  /-- COMM_RSV_SET (R129): TILE_CORE_CTRL.COMM_RSV sets, reserving core 23 and its queues for the runtime. -/
  | commRsvSet (t : Tile)
  /-- QUEUE_PI_WRITE (R134): A PI write publishes posted descriptors to a queue, or is ignored with QERR. -/
  | queuePiWrite (who : Requester) (t : Tile) (q : Fin 22) (v : BitVec 16)
  /-- QUEUE_DESC_WRITE (R159): A write to a queue's DESC or CPL register configures or disables the queue, or is refused with CFG_ERR. -/
  | queueDescWrite (who : Requester) (t : Tile) (q : Fin 22) (cpl : Bool) (v : W64)
  /-- CQ_CI_WRITE (R136): A CQ_CI write frees completion slots and resumes an engine held on a full completion ring. -/
  | cqCiWrite (who : Requester) (t : Tile) (q : Fin 22) (v : BitVec 16)
  /-- QUEUE_ABORT (R139): A write of CTRL.ABORT stops running descriptors and completes posted ones ABORTED. -/
  | queueAbort (who : Requester) (t : Tile) (q : Fin 22)
  /-- DESCRIPTOR_COMPLETE (R136): A descriptor's writes are acknowledged; its flag write and completion entry follow. -/
  | descriptorComplete (t : Tile) (q : Fin 22) (idx : BitVec 20)
  /-- DMV_COPY (R140): A DMV COPY descriptor is checked and copies rows between two global addresses. -/
  | dmvCopy (t : Tile) (ch : Fin 4) (ecc : List (Nat × Ecc))
  /-- DMV_FILL (R140): A DMV FILL descriptor writes an 8 B pattern over the destination rows. -/
  | dmvFill (t : Tile) (ch : Fin 4)
  /-- DMV_BEACON (R282): A BEACON descriptor requests a Beacon bus transfer. -/
  | dmvBeacon (t : Tile) (ch : Fin 4)
  /-- DMV_TAPER (R294): A TAPER descriptor injects stream bytes at a chain's head. -/
  | dmvTaper (t : Tile) (ch : Fin 4) (ecc : List (Nat × Ecc))
  /-- MXE_MATMUL (R144): An MXE descriptor computes C = A × B or D + A × B, with optional arrival gating. -/
  | mxeMatmul (t : Tile) (ahead : Nat) (ecc : List (Nat × Ecc))
  /-- MXE_PIECE_READY (R146): A gated piece becomes ready and the MXE consumes it in K order. -/
  | mxePieceReady (t : Tile) (waited ahead : Nat) (ecc : List (Nat × Ecc))
  /-- MXE_GATE_TIMEOUT (R149): The MXE waits on one piece for GATE_TIMEOUT and completes with GATE_TIMEOUT. -/
  | mxeGateTimeout (t : Tile)
  /-- RCX_CONVERT (R150): An RCX descriptor converts or sums up to 8 arrays into the destination format. -/
  | rcxConvert (t : Tile) (ecc : List (Nat × Ecc))
  /-- VXE_OP (R152): A VXE descriptor applies its element-wise or row operation. -/
  | vxeOp (t : Tile) (ecc : List (Nat × Ecc))
  /-- CDX_COMPRESS (R266): CDX COMPRESS writes a codeblock stream from the source bytes. -/
  | cdxCompress (t : Tile) (one : Bool) (ecc : List (Nat × Ecc))
  /-- CDX_DECOMPRESS (R265): CDX DECOMPRESS walks a codeblock stream, checks each block and writes its output. -/
  | cdxDecompress (t : Tile) (one : Bool) (ecc : List (Nat × Ecc))
  /-- CDX_TBL_BUILD (R268): TBL_BUILD counts a sample, builds a table image and optionally loads it. -/
  | cdxTblBuild (t : Tile) (one : Bool) (ecc : List (Nat × Ecc))
  /-- CDX_TBL_LOAD (R269): TBL_LOAD requests that a table image be loaded into the store. -/
  | cdxTblLoad (t : Tile) (one : Bool) (ecc : List (Nat × Ecc))
  /-- CDX_TBL_EVICT (R269): TBL_EVICT requests that a table be removed from the store. -/
  | cdxTblEvict (t : Tile) (one : Bool)
  /-- TBL_SWITCH (R269): After the jobs and descriptors that name the ID have drained, the load or evict takes effect in one CCLK. -/
  | tblSwitch (t : Tile) (one : Bool) (idx : BitVec 16)
  /-- TILE_SLEEP (R157): A write of TILE_PWR_CTRL.SLEEP begins sleep entry or is ignored. -/
  | tileSleep (t : Tile)
  /-- SLEEP_ENTRY_COMPLETE (R157): Sleep entry completes with the vault in self-refresh and the cores and engines gated. -/
  | sleepEntryComplete (t : Tile)
  /-- TILE_WAKE (R157): A write of TILE_PWR_CTRL.WAKE starts a sleeping tile's return to run. -/
  | tileWake (t : Tile)
  /-- WAKE_COMPLETE (R157): A waking tile returns to the run state with every core stopped. -/
  | wakeComplete (t : Tile)
  /-- DOZE_ENTER (R156): The idle conditions have held for DOZE_IDLE × 64 CCLK and the tile dozes. -/
  | dozeEnter (t : Tile)
  /-- DOZE_WAKE (R156): An interrupt, PI write, memory access or DOZE_EN clear wakes a dozing tile. -/
  | dozeWake (t : Tile)
  /-- BN_PACKET_INJECT (R186): The NIU starts a BN packet once its tag, shaper and class order allow, stamping its epoch. -/
  | bnPacketInject (t : Tile) (vc : Fin 4) (waited : Nat)
  /-- BN_ROUTE (R179): A BN header arrives at a router, which chooses its output or its multicast forks. -/
  | bnRoute (t : Tile) (inp : Fin 5) (p : BnPkt) (err : LinkErr) (waited : Nat)
  /-- BN_RD_REQ (R189): A destination NIU performs an RD_REQ and sends RD_RSP. -/
  | bnRdReq (t : Tile) (p : BnPkt) (ecc : List (Nat × Ecc))
  /-- BN_WR (R189): A destination NIU performs a WR and sends WR_ACK. -/
  | bnWr (t : Tile) (p : BnPkt) (ecc : List (Nat × Ecc))
  /-- BN_WR_CB (R263): A destination NIU hands a WR_CB to its decoder, which checks it and writes it before WR_ACK. -/
  | bnWrCb (t : Tile) (p : BnPkt) (ecc : List (Nat × Ecc))
  /-- BN_AMO (R190): A destination NIU performs a well-formed AMO and sends AMO_RSP. -/
  | bnAmo (t : Tile) (p : BnPkt) (ecc : List (Nat × Ecc))
  /-- BN_MC_WR (R196): A multicast target writes the payload, its flag, and sends MC_ACK. -/
  | bnMcWr (t : Tile) (p : BnPkt) (ecc : List (Nat × Ecc))
  /-- BN_MC_WR_CB (R274): A multicast target decodes a compressed payload, writes it and sends MC_ACK. -/
  | bnMcWrCb (t : Tile) (p : BnPkt) (ecc : List (Nat × Ecc))
  /-- BN_RD_RSP (R69): A read response reaches its requester, completing a load or a descriptor piece. -/
  | bnRdRsp (t : Tile) (p : BnPkt) (ecc : List (Nat × Ecc))
  /-- BN_WR_ACK (R69): A write acknowledgement reaches its requester. -/
  | bnWrAck (t : Tile) (p : BnPkt)
  /-- BN_AMO_RSP (R177): An AMO response returns the old value to its requester. -/
  | bnAmoRsp (t : Tile) (p : BnPkt)
  /-- BN_MC_ACK (R197): A multicast acknowledgement reaches the source NIU, which completes the descriptor on the last. -/
  | bnMcAck (t : Tile) (p : BnPkt)
  /-- NQ_PUT (R192): An NQ PUT sends local bytes to a global destination. -/
  | nqPut (t : Tile) (n : Fin 4) (ecc : List (Nat × Ecc))
  /-- NQ_GET (R192): An NQ GET reads a global source into the own tile. -/
  | nqGet (t : Tile) (n : Fin 4)
  /-- NQ_MCAST (R195): An NQ MCAST writes one payload into a tile rectangle. -/
  | nqMcast (t : Tile) (n : Fin 4) (ecc : List (Nat × Ecc))
  /-- NQ_REDUCE (R219): A REDUCE descriptor sends a contribution as one packet per segment. -/
  | nqReduce (t : Tile) (n : Fin 4) (ecc : List (Nat × Ecc))
  /-- NQ_XMCAST (R491): An XMCAST descriptor writes one payload into a rectangle on every chip of a box. -/
  | nqXmcast (t : Tile) (n : Fin 4) (ecc : List (Nat × Ecc))
  /-- BN_PLANE_CFG_WRITE (R203): A write to BN_PLANE_CFG changes plane routing, or is refused when not quiesced. -/
  | bnPlaneCfgWrite (v : W64)
  /-- RED_ARM (R222): A RED_ARM descriptor is checked and waits for a free context. -/
  | redArm (t : Tile)
  /-- RED_ARM_START (R223): A context frees and the waiting arm is started. -/
  | redArmStart (t : Tile)
  /-- RED_ROUTER_ARRIVAL (R225): A B1 packet header at a plane-B router combines with a held packet, is held, or is forwarded. -/
  | redRouterArrival (t : Tile) (inp : Fin 5) (p : BnPkt) (err : LinkErr) (res : List (Nat × Bool))
  /-- RED_JOIN_WINDOW_CLOSE (R225): A held packet's join window closes unmatched and it is forwarded unchanged. -/
  | redJoinWindowClose (t : Tile) (p : BnPkt)
  /-- RED_ORDERED_TIMEOUT (R237): An ordered hold lasts ORD_TMO × 64 FCLK and releases its packets with ORD cleared. -/
  | redOrderedTimeout (t : Tile) (p : BnPkt)
  /-- RED_NIU_ARRIVAL (R229): The destination NIU checks a B1 packet and accumulates or discards it. -/
  | redNiuArrival (t : Tile) (p : BnPkt) (ecc : List (Nat × Ecc)) (res : List (Nat × Bool))
  /-- RED_SEGMENT_ROUND (R232): A segment's count reaches EXPECT and RCX rounds it to FMT_DST. -/
  | redSegmentRound (t : Tile) (c : Fin 16) (seg : BitVec 10) (ecc : List (Nat × Ecc))
  /-- RED_NAK_RECEIVE (R241): A source NIU receives RED_NAK and records it. -/
  | redNakReceive (t : Tile) (p : BnPkt)
  /-- RED_DONE_CLR (R233): A write of RED_CFG.DONE_CLR clears every DONE_VALID. -/
  | redDoneClr (t : Tile)
  /-- BEACON_GRANT (R284): A Beacon transfer is granted once it holds all its buses and places START. -/
  | beaconGrant (t : Tile) (ch : Fin 4) (waited : Nat) (ecc : List (Nat × Ecc))
  /-- BEACON_START_BEAT (R287): A START beat reaches a tap, which opens or ignores the transfer. -/
  | beaconStartBeat (t : Tile) (ch : Fin 4) (u : Tile) (sb : Bool)
  /-- BEACON_DATA_BEAT (R288): A DATA beat reaches an open tap and lands in CM, with piece flags. -/
  | beaconDataBeat (t : Tile) (ch : Fin 4) (u : Tile) (err : LinkErr) (stop : Nat)
  /-- BEACON_END_BEAT (R290): An END beat reaches a tap, which merges its outcome into the summary. -/
  | beaconEndBeat (t : Tile) (ch : Fin 4) (u : Tile) (miss : Bool)
  /-- BEACON_SUMMARY_RETURN (R291): The summary reaches the source, which frees the buses and completes the descriptor. -/
  | beaconSummaryReturn (t : Tile) (ch : Fin 4)
  /-- BEACON_SUMMARY_TIMEOUT (R308): After an abort or a bite the summary has not returned in time, so the buses are freed. -/
  | beaconSummaryTimeout (t : Tile) (ch : Fin 4)
  /-- BCN_TAP_WRITE (R300): A write to BCN_TAP_ENT or BCN_TAP_LAND configures a tap entry, or is ignored. -/
  | bcnTapWrite (t : Tile) (e : Fin 4) (land : Bool) (v : W64)
  /-- TAPER_BEAT_ACCEPT (R295): A Taper port accepts a beat when it has ring space and credit, lands it and forwards it. -/
  | taperBeatAccept (t : Tile) (stall : Nat)
  /-- TPR_RP_WRITE (R297): A TPR_RP write releases ring space, or is ignored with RP_ERR. -/
  | tprRpWrite (t : Tile) (v : BitVec 32)
  /-- TPR_CFG_WRITE (R301): A write to TPR_CFG, TPR_RING or TPR_FLAG_CFG configures a port and checks READY. -/
  | tprCfgWrite (t : Tile) (r : Fin 3) (v : W64)
  /-- TAPER_BREAK (R302): A BREAK travels upstream and each port sets BROKEN and accepts nothing more. -/
  | taperBreak (t : Tile)
  /-- CN_ROUTE (R315): A CN header arrives at a router, which routes it by dimension order. -/
  | cnRoute (t : Tile) (inp : Fin 5) (p : CnPkt) (err : LinkErr) (waited : Nat)
  /-- CN_RRD (R318): A register read arrives at its target and is answered with RRSP. -/
  | cnRrd (p : CnPkt)
  /-- CN_RWR (R318): A register write arrives at its target, is performed and answered with RWACK. -/
  | cnRwr (p : CnPkt)
  /-- CN_RRSP (R318): A register read response reaches its requester. -/
  | cnRrsp (p : CnPkt)
  /-- CN_RWACK (R318): A register write acknowledgement reaches its requester. -/
  | cnRwack (p : CnPkt)
  /-- CN_INTR (R320): An INTR packet reaches the hub and raises its event. -/
  | cnIntr (p : CnPkt)
  /-- CN_AM (R327): An active message arrives and is appended, combined or discarded. -/
  | cnAm (t : Tile) (p : CnPkt) (ecc : List (Nat × Ecc))
  /-- CN_CRED (R327): A CRED returns credits to a send record, or reports a NAK. -/
  | cnCred (t : Tile) (p : CnPkt)
  /-- CN_CTL_OPEN (R323): A CTL OPEN is judged at the receive record and answered with OPEN_RSP. -/
  | cnCtlOpen (t : Tile) (p : CnPkt)
  /-- CN_CTL_CLOSE (R324): A CTL CLOSE closes the receive record and is answered with CLOSE_RSP. -/
  | cnCtlClose (t : Tile) (p : CnPkt)
  /-- CN_OPEN_RSP (R323): An OPEN_RSP moves the send record to OPEN or CLOSED. -/
  | cnOpenRsp (t : Tile) (p : CnPkt)
  /-- CN_CLOSE_RSP (R324): A CLOSE_RSP moves the send record to CLOSED. -/
  | cnCloseRsp (t : Tile) (p : CnPkt)
  /-- CN_CLOSE_REQ (R324): A CLOSE_REQ makes the send record close as if CLOSE were written. -/
  | cnCloseReq (t : Tile) (p : CnPkt)
  /-- AMQ_LISTEN (R322): The LISTEN command puts a receive record in LISTEN. -/
  | amqListen (t : Tile) (ch : BitVec 6)
  /-- AMQ_OPEN (R323): The OPEN command sends CTL OPEN from a send record. -/
  | amqOpen (t : Tile) (ch peerChan : BitVec 6)
  /-- AMQ_CLOSE (R324): The CLOSE command starts closing a record. -/
  | amqClose (t : Tile) (ch : BitVec 6)
  /-- AMQ_SEND_GO (R326): A GO write sends an active message, queues it for credit, or refuses it. -/
  | amqSendGo (t : Tile) (c : CoreIx) (v : W64)
  /-- AQ_CI_WRITE (R331): An AQ_CI write consumes entries and returns their credits. -/
  | aqCiWrite (t : Tile) (q : Fin 8) (v : BitVec 16)
  /-- AQ_CFG_WRITE (R338): A write to AQ_CFG configures a receive queue, or is ignored with CFG_ERR. -/
  | aqCfgWrite (t : Tile) (q : Fin 8) (v : W64)
  /-- AMQ_CHAN_CFG_WRITE (R339): A write to AMQ_CHAN_CFG configures a CLOSED record, or is ignored. -/
  | amqChanCfgWrite (t : Tile) (ch : BitVec 6) (v : W64)
  /-- WICK_ARRIVE (R353): A write to WICK_ARRIVE is counted or ignored at the member's node. -/
  | wickArrive (t : Tile) (c : BitVec 6)
  /-- WICK_CTX_TIMEOUT (R358): A context has not released after TMO × 1,024 FCLK and breaks. -/
  | wickCtxTimeout (c : BitVec 6)
  /-- WICK_CTX_CFG_WRITE (R359): A write to WICK_CTX_CFG reconfigures a context, or is ignored. -/
  | wickCtxCfgWrite (c : BitVec 6) (v : W64)
  /-- WICK_FLAG_OP_WRITE (R360): A write to WICK_FLAG_OP or WICK_DEV_FLAG_OP queues a flag update. -/
  | wickFlagOpWrite (t : Option Tile) (v : BitVec 10)
  /-- WICK_FLAG_UPDATE (R352): The root applies a flag update and broadcasts it to every mirror. -/
  | wickFlagUpdate (t : Option Tile)
  /-- WICK_WATCH_WRITE (R361): A write to WICK_WATCH arms a watch, which may fire at once. -/
  | wickWatchWrite (t : Tile) (w : Fin 4) (v : W64)
  /-- WICK_TOKEN_ARRIVE (R363): An ARRIVE token from a child is taken at the root. -/
  | wickTokenArrive (n : Port) (tok : BitVec 14)
  /-- WICK_TOKEN_RELEASE (R363): A RELEASE token from the parent releases the context locally and onward. -/
  | wickTokenRelease (n : Port) (tok : BitVec 14)
  /-- WICK_TOKEN_BREAK (R363): A BREAK token breaks the context and is passed on. -/
  | wickTokenBreak (n : Port) (tok : BitVec 14)
  /-- ARB_WINDOW_BOUNDARY (R376): A point's window ends, refilling WS counters, clearing quotas and changing bank where due. -/
  | arbWindowBoundary (t : Option Tile) (p : Fin 128)
  /-- SNUFFER_BITE (R385): The Snuffer's count reaches its limit and bites with INTR or RELEASE. -/
  | snufferBite (t : Option Tile) (p : Fin 128) (r : Fin 512) (what : Bitten)
  /-- ARB_CNT_CLR (R391): A write of ARB_CTRL.CNT_CLR clears the selected point's counters. -/
  | arbCntClr (t : Option Tile)
  /-- EPC_COMMIT_WRITE (R409): A write to EPC_COMMIT starts a commit in SWITCH, or is refused while one runs. -/
  | epcCommitWrite (v : W64) (hi : Bool)
  /-- EPOCH_SWITCH (R409): At T_SW injectors stamp the new epoch and shadow banks become active. -/
  | epochSwitch
  /-- EPOCH_COPY_START (R409): The old epoch has drained and every point has changed bank, so COPY begins. -/
  | epochCopyStart (fclks : BitVec 32)
  /-- EPOCH_COMMIT_END (R409): COPY ends and the commit returns to IDLE. -/
  | epochCommitEnd
  /-- EPOCH_DRAIN_SLOW (R411): DRAIN lasts DRAIN_TMO × 1,024 FCLK and DRAIN_SLOW sets. -/
  | epochDrainSlow
  /-- SHADOW_WRITE (R412): A write to a shadow register takes effect, or is dropped as late. -/
  | shadowWrite (t : Option Tile) (off : BitVec 25) (wide : Bool) (v : W64)
  /-- QUIESCE_REQUEST (R416): A write of 1 to EPC_QUIESCE.REQ stops new traffic and begins quiesce. -/
  | quiesceRequest
  /-- QUIESCE_REACHED (R416): No traffic remains in the device and QUIESCED sets. -/
  | quiesceReached
  /-- QUIESCE_SLOW (R416): Quiescing lasts DRAIN_TMO × 1,024 FCLK and QSLOW sets. -/
  | quiesceSlow
  /-- QUIESCE_RESUME (R417): A write of 0 to REQ resumes traffic, after any apply in progress. -/
  | quiesceResume
  /-- WLP_CFG_WRITE (R441): A write to WLP_CFG enables a port for training, or disables and flushes it. -/
  | wlpCfgWrite (n : Port) (v : W64)
  /-- WLP_RETRAIN (R453): A write of WLP_CTRL.RETRAIN loses the link or restarts training. -/
  | wlpRetrain (n : Port)
  /-- WLP_PORT_RST (R441): A write of WLP_CTRL.PORT_RST flushes the port, increments INCARN and restarts it from OFF. -/
  | wlpPortRst (n : Port)
  /-- WLP_SIGNAL_DETECT (R441): Signal appears on all 16 lanes and training leaves DETECT. -/
  | wlpSignalDetect (n : Port)
  /-- WLP_LANE_LOCK (R441): Every lane locks to PAM4 and training leaves ADAPT. -/
  | wlpLaneLock (n : Port)
  /-- WLP_LANE_ALIGN (R441): All lanes hold codeword lock and alignment and training enters IDENT. -/
  | wlpLaneAlign (n : Port) (logical : List (BitVec 4)) (inv : BitVec 16)
  /-- WLP_TRAIN_TIMEOUT (R441): A training step runs out of time and falls back to DETECT. -/
  | wlpTrainTimeout (n : Port)
  /-- TRAIN_BLOCK_RECEIVE (R442): A TRAIN block advances the ANNOUNCE, ACK and READY handshake. -/
  | trainBlockReceive (n : Port) (bs : List Byte)
  /-- WLP_FRAME_SEND (R445): A port starts a frame once replay room, credit, hold and shaper allow. -/
  | wlpFrameSend (n : Port) (waited held : Nat)
  /-- WLP_FRAME_RECEIVE (R446): A received frame is checked and accepted into its pool or discarded. -/
  | wlpFrameReceive (n : Port) (blk : BlkErr) (bytes : List Byte) (fec : List (Fin 16 × Nat))
  /-- SIDE_BLOCK_RECEIVE (R451): A SIDE block delivers acknowledgements, a NAK, credits, HOLD and sideband slots. -/
  | sideBlockReceive (n : Port) (bs : List Byte) (fec : List (Fin 16 × Nat))
  /-- WLP_ACK_TIMEOUT (R448): The oldest frame is not acknowledged within ACK_TMO, starting a replay or reaching the retry limit. -/
  | wlpAckTimeout (n : Port)
  /-- WLP_SB_RESEND_TIMEOUT (R452): The oldest sideband content waits ACK_TMO and the stream is resent. -/
  | wlpSbResendTimeout (n : Port) (mgmt : Bool)
  /-- WLP_LINK_LOSS (R453): A lane loses signal or lock, or uncorrectable codewords repeat, and the port enters REJOIN. -/
  | wlpLinkLoss (n : Port)
  /-- WLP_REJOIN_EXPIRE (R454): The rejoin window ends and the port enters DOWN with a flush. -/
  | wlpRejoinExpire (n : Port)
  /-- WLP_EXPECT_WRITE (R444): A write to WLP_EXPECT sets the expected partner and moves a HELD port back to training. -/
  | wlpExpectWrite (n : Port) (v : W64)
  /-- WLP_MGMT_TX_WRITE (R452): A write to WLP_MGMT_TX pushes a management word, or sets MGMT_OVF. -/
  | wlpMgmtTxWrite (n : Port) (v : W64)
  /-- WLP_MGMT_RX_READ (R753): A read of WLP_MGMT_RX returns and removes the head management word. -/
  | wlpMgmtRxRead (n : Port)
  /-- GATE_FRAME_BUILD (R485): A packet bound for another chip reaches its gate's builder and becomes a frame. -/
  | gateFrameBuild (n : Port) (p : BnPkt)
  /-- GATE_FRAME_INJECT (R486): A frame for this chip leaves its pool and its inner packet enters the BN. -/
  | gateFrameInject (n : Port) (q : Fin 8)
  /-- TRANSIT_FRAME (R488): An input station routes a transit frame over the perimeter ring to its exit port. -/
  | transitFrame (n : Port) (q : Fin 8) (slot : SlotErr) (waited : Nat)
  /-- XMCAST_FRAME_RECEIVE (R493): A chip receives a cross-chip multicast frame, forwards it and multicasts it locally. -/
  | xmcastFrameReceive (n : Port) (q : Fin 8) (dflag : Option (Nat × Nat)) (slots : List SlotErr)
  /-- COL_ALLREDUCE (R524): A collective ALLREDUCE entry runs its reduce-scatter and all-gather. -/
  | colAllreduce (t : Tile) (g : Fin 8) (ecc : List (Nat × Ecc))
  /-- COL_REDUCE_SCATTER (R524): A collective REDUCE_SCATTER entry runs. -/
  | colReduceScatter (t : Tile) (g : Fin 8) (ecc : List (Nat × Ecc))
  /-- COL_ALLGATHER (R525): A collective ALLGATHER entry runs with padding and overflow rules. -/
  | colAllgather (t : Tile) (g : Fin 8) (ecc : List (Nat × Ecc))
  /-- COL_BROADCAST (R524): A collective BROADCAST entry runs by XMCAST pieces from the root. -/
  | colBroadcast (t : Tile) (g : Fin 8) (ecc : List (Nat × Ecc))
  /-- COL_ALLTOALL (R525): A collective ALLTOALL entry runs. -/
  | colAlltoall (t : Tile) (g : Fin 8) (ecc : List (Nat × Ecc))
  /-- COL_BARRIER (R524): A collective BARRIER entry runs. -/
  | colBarrier (t : Tile) (g : Fin 8) (ecc : List (Nat × Ecc))
  /-- COL_CHUNK_SEND (R520): The runtime sends a chunk once its credit allows. -/
  | colChunkSend (t : Tile) (g : Fin 8) (dir : Fin 2) (ecc : List (Nat × Ecc))
  /-- COL_SLOT_FLAG_SEEN (R521): The runtime takes a slot flag, reduces the chunk and returns the credit. -/
  | colSlotFlagSeen (t : Tile) (g : Fin 8) (dir : Fin 2) (ecc : List (Nat × Ecc))
  /-- COL_WAIT_TIMEOUT (R529): A wait for a flag or credit exceeds TMO and the group breaks. -/
  | colWaitTimeout (t : Tile) (g : Fin 8)
  /-- COL_GCTRL_OPEN (R531): OPEN on a CLOSED slot opens the group, or records a cause. -/
  | colGctrlOpen (t : Tile) (g : Fin 8)
  /-- COL_GCTRL_CLOSE (R531): CLOSE ends the group's entries and closes it. -/
  | colGctrlClose (t : Tile) (g : Fin 8)
  /-- COL_GCTRL_REFORM (R530): REFORM re-forms the group without excluded chips. -/
  | colGctrlReform (t : Tile) (g : Fin 8)
  /-- ADMIT (R544): A write of BOOT_ADM_CTRL.ADMIT starts judging a manifest, or is refused with BUSY. -/
  | admitWrite
  /-- ADMIT_JUDGEMENT_COMPLETE (R545): The judgement completes, admitting and locking modes or recording a refusal. -/
  | admitJudgementComplete (ecc : List (Nat × Ecc))
  /-- ADM_RELEASE (R547): A write of RELEASE clears ADMITTED and unlocks the mode fields. -/
  | admRelease
  /-- BAR0_READ (R559): A host read of BAR0 is performed through the hub and completed. -/
  | bar0Read (off : BitVec 26) (len : BitVec 13) (be : Bool)
  /-- BAR0_WRITE (R559): A host write of BAR0 is performed through the hub, or dropped. -/
  | bar0Write (off : BitVec 26) (data : List Byte) (be : Bool)
  /-- BAR2_READ (R560): A host read of BAR2 is formed into BN reads and returned in completions. -/
  | bar2Read (off : BitVec 37) (len : BitVec 13)
  /-- BAR2_WRITE (R560): A host write of BAR2 is formed into BN writes. -/
  | bar2Write (off : BitVec 37) (data : List Byte) (ep : Bool)
  /-- BAR4_DOORBELL_WRITE (R562): A doorbell write performs one RWR to its mapped target, or is dropped. -/
  | bar4DoorbellWrite (off : BitVec 20) (data : List Byte)
  /-- BAR4_READ (R562): A host read of BAR4 returns 0. -/
  | bar4Read (off : BitVec 20) (len : BitVec 13)
  /-- HOST_WINDOW_REQUEST (R564): The gate NIU turns a host-window packet into Memory Read or Write TLPs. -/
  | hostWindowRequest (p : BnPkt)
  /-- HOST_COMPLETION_RECEIVE (R564): A completion for a device read of host memory becomes an RD_RSP. -/
  | hostCompletionReceive (k off : Nat) (st : HostEnd) (data : List Byte)
  /-- HOST_CPL_TIMEOUT (R566): A device Memory Read gets no completion in time and ends with DEST_DOWN. -/
  | hostCplTimeout (k off : Nat)
  /-- HIF_CPL_WATCHDOG (R566): A host read is not answered within CPL_WD and gets a Completer Abort. -/
  | hifCplWatchdog (id : Nat)
  /-- MSIX_SEND (R568): A pending vector is sent once enable, mask, BME and link allow. -/
  | msixSend (v : BitVec 8)
  /-- HIF_MSIX_TRIG_WRITE (R569): A write to HIF_MSIX_TRIG sets a vector pending. -/
  | hifMsixTrigWrite (v : BitVec 8)
  /-- PERST_N_ASSERT (R571): PERST_N or a hot reset returns the host port and most HIF registers to reset. -/
  | perstNAssert (hot : Bool)
  /-- FLR (R571): A function level reset resets every HIF register, and optionally takes a warm reset. -/
  | flr
  /-- HOST_LINK_DOWN (R571): The host link goes down and host-window accesses end. -/
  | hostLinkDown
  /-- D3HOT_ENTER (R571): The function enters D3hot and BAR requests get Unsupported Request. -/
  | d3hotEnter
  /-- DOE_REQUEST (R572): A DOE request for Discovery or CMA/SPDM is answered. -/
  | doeRequest (req : DoeReq)
  /-- DOE_ABORT (R573): A DOE Abort discards the request in progress. -/
  | doeAbort
  /-- BAR2_RESIZE (R574): A Resizable BAR write changes the size of BAR2 while Memory Space Enable is 0. -/
  | bar2Resize (log2 : BitVec 6)
  /-- GLV_WAKE_EVENT (R584): A wake event starts an asleep plane's GCLK. -/
  | glvWakeEvent
  /-- GLV_WAKE_COMPLETE (R583): The first core instruction runs and the plane is AWAKE. -/
  | glvWakeComplete
  /-- GLV_SLEEP_ENTER (R585): The idle conditions have held for IDLE_US and the plane enters ASLEEP. -/
  | glvSleepEnter
  /-- GLV_LOCKSTEP_MISMATCH (R580): The comparator finds the cores' outputs differ and a restart begins. -/
  | glvLockstepMismatch
  /-- GLV_WATCHDOG_EXPIRE (R586): No watchdog kick arrives within WDOG_MS while AWAKE and a restart begins. -/
  | glvWatchdogExpire
  /-- GLV_SRAM_UE (R581): An uncorrectable Glovos SRAM error starts a restart. -/
  | glvSramUe
  /-- GLV_FIRMWARE_RESTART (R586): The firmware requests a restart, as for image activation. -/
  | glvFirmwareRestart
  /-- GLV_CTRL_RESTART (R589): A write of GLV_CTRL.RESTART starts a restart, including from HALTED. -/
  | glvCtrlRestart
  /-- GLV_CTRL_WAKE (R584): A write of GLV_CTRL.WAKE wakes the plane. -/
  | glvCtrlWake
  /-- GLV_RESTART_COMPLETE (R587): The firmware restores its state, RESTARTING clears and the gap entry is written. -/
  | glvRestartComplete
  /-- GLV_WDOG_KICK (R586): A write to GLV_WDOG_KICK restarts the watchdog count. -/
  | glvWdogKick
  /-- GLV_ALERT_SET_WRITE (R604): A write of GLV_ALERT_SET.FW sets alert bit 8. -/
  | glvAlertSetWrite (v : W64)
  /-- HELLO_TIMER (R605): Every HELLO_S seconds the plane sends a HELLO word on every ACTIVE port. -/
  | helloTimer
  /-- MGMT_WORD_RECEIVE (R605): The plane reads a received management word and records or discards it. -/
  | mgmtWordReceive (n : Port)
  /-- SPI_NOP (R592): An SPI NOP transaction returns the status word. -/
  | spiNop (mode3 : Bool) (addr : BitVec 16) (extra : Nat)
  /-- SPI_READ_WINDOW (R598): An SPI READ of the hardware window returns its words. -/
  | spiReadWindow (mode3 : Bool) (len : Fin 257) (addr : BitVec 16) (extra : Nat)
  /-- SPI_READ_MAILBOX (R599): An SPI READ of the mailbox returns plane-to-board words. -/
  | spiReadMailbox (mode3 : Bool) (len : Fin 257) (extra : Nat)
  /-- SPI_WRITE_WINDOW (R598): An SPI WRITE performs W1C words of the hardware window. -/
  | spiWriteWindow (mode3 : Bool) (addr : BitVec 16) (data : List (BitVec 32)) (extra : Nat)
  /-- SPI_WRITE_MAILBOX (R599): An SPI WRITE stores words in the board-to-plane mailbox. -/
  | spiWriteMailbox (mode3 : Bool) (data : List (BitVec 32)) (extra : Nat)
  /-- SPI_ABORT (R596): SPI_CS_N rises early and the transaction aborts. -/
  | spiAbort (mode3 : Bool) (cmd : BitVec 32) (clocks : Nat) (data : List (BitVec 32))
  /-- SPI_EARLY_SELECT (R597): SPI_CS_N falls less than 2 PCLK after it rose and the transaction is ignored. -/
  | spiEarlySelect (clocks : Nat)
  /-- CAN_FRAME_RECEIVE (R602): A CAN FD frame for this node is accepted and joined into a protocol frame. -/
  | canFrameReceive (f : CanFrame) (classic : Bool)
  /-- CAN_REASSEMBLY_TIMEOUT (R602): No segment arrives for 100 ms and the reassembly is discarded. -/
  | canReassemblyTimeout (src : BitVec 7) (xid : BitVec 9)
  /-- PWRBRAKE_N_ASSERT (R657): PWRBRAKE_N is seen low and the brake preset is applied. -/
  | pwrbrakeNAssert
  /-- PWRBRAKE_N_RELEASE (R657): PWRBRAKE_N is seen high and the brake bounds lift. -/
  | pwrbrakeNRelease
  /-- DICT_READ (R620): A Glovos READ request is judged and returns the object's value. -/
  | dictRead
  /-- DICT_WRITE (R625): A Glovos WRITE request is judged, committed with its journal entry, and answered. -/
  | dictWrite (flashFail : Bool)
  /-- DICT_OPEN (R622): An OPEN request creates a PENDING session and returns ND. -/
  | dictOpen
  /-- DICT_AUTH (R622): An AUTH request checks PC and opens the session, or closes it. -/
  | dictAuth
  /-- DICT_CLOSE (R623): A CLOSE request ends the session after its response. -/
  | dictClose
  /-- GLV_MBX_GO (R635): A GO write submits the PCIe mailbox request, or is ignored with DROP. -/
  | glvMbxGo (v : W64)
  /-- SESSION_PENDING_TIMEOUT (R624): A PENDING session closes 1 s after its OPEN response. -/
  | sessionPendingTimeout (sid : BitVec 4)
  /-- SESSION_IDLE_TIMEOUT (R624): An OPEN session closes after SESS_IDLE_S seconds without a valid request. -/
  | sessionIdleTimeout (sid : BitVec 4)
  /-- LOCKOUT_EXPIRE (R624): A lockout of LOCKOUT_S seconds ends. -/
  | lockoutExpire (k : Fin 130)
  /-- MBX_RESPONSE_DROP (R618): A response finds no room in the SPI FIFO within 100 ms and is dropped. -/
  | mbxResponseDrop
  /-- IMAGE_VERIFY_COMPLETE (R688): The check started by COMMIT 1 completes and the slot ends VALID or BAD. -/
  | imageVerifyComplete (readErr : Bool)
  /-- REFLASH_REQ (R692): A keeper receives a REQ frame asking for slots to be re-flashed. -/
  | reflashReq
  /-- REFLASH_START (R692): A target receives START, marks slots WRITING and erases ahead. -/
  | reflashStart
  /-- REFLASH_DATA (R692): A target receives a DATA frame and writes its bytes. -/
  | reflashData
  /-- REFLASH_END (R692): A target receives END, verifies the slots and acknowledges. -/
  | reflashEnd (readErr : Bool)
  /-- REFLASH_ACK (R692): A keeper receives ACK and resends from the frame number it names. -/
  | reflashAck
  /-- REFLASH_REQ_TIMER (R691): A device in RECOVERY sends a REQ every 1 s. -/
  | reflashReqTimer
  /-- REFLASH_ACK_TIMEOUT (R692): The keeper gets no ACK for 100 ms and resends from the last acknowledged frame. -/
  | reflashAckTimeout
  /-- KEEPER_ANSWER_DELAY (R693): A keeper's delay with no START seen ends and it answers the REQ. -/
  | keeperAnswerDelay
  /-- SERVICE_PREPARE (R694): A write of BOOT_SVC_CTRL.PREPARE starts taking the module to a safe state, or is refused. -/
  | servicePrepare
  /-- SERVICE_SAFE (R694): The preparation completes and SVC.STATE reads SAFE. -/
  | serviceSafe
  /-- POWER_LOOP_TICK (R656): Once per µs the power loop lowers or raises one clock setting toward the cap in force. -/
  | powerLoopTick (p vin iin v5 : BitVec 16) (margin : Bool)
  /-- EXCURSION_HOLD_END (R658): The 1 ms excursion hold ends and the brake is released. -/
  | excursionHoldEnd
  /-- VOLTAGE_LOOP_TICK (R659): A domain's voltage loop adjusts its output from the path monitors, stretching at the ceiling. -/
  | voltageLoopTick (rail : Fin 72) (m : Margin) (vout : BitVec 10) (iout : BitVec 16)
  /-- TEMP_SAMPLE (R647): Every 4 µs the sensors are sampled and judged against the thermal levels. -/
  | tempSample (rs : Vector TempReading 16)
  /-- THERM_WARN_THROTTLE (R661): Every 100 µs under warning, CCLK drops by 25 MHz. -/
  | thermWarnThrottle
  /-- THERM_TRIP_CLEAR (R661): Every sensor has read below TRIP_T − 10 °C for 1 ms and the trip clears. -/
  | thermTripClear
  /-- VIN_UNDERVOLTAGE (R663): The input stays below 40.0 V for 100 µs and a brake is applied. -/
  | vinUndervoltage
  /-- VIN_UV_CLEAR (R663): The input stays at or above 41.0 V for 1 ms and the undervoltage brake ends. -/
  | vinUvClear
  /-- CRITICAL_SHUTDOWN (R663): The input is out of range for 10 µs, or a sensor is critical, and IVRs 0 to 73 switch off. -/
  | criticalShutdown (high : Bool) (vin : BitVec 16)
  /-- PWR_HOST_CAP_WRITE (R655): A write to PWR_HOST_CAP changes the host term of the cap in force. -/
  | pwrHostCapWrite (v : W64)
  /-- PWR_CAP_LATCH_WRITE (R655): The plane writes DICT_CAP or BRAKE_LEVEL into PWR_CAP_LATCH, or the write is refused. -/
  | pwrCapLatchWrite (who : Requester) (v : W64)
  /-- PWR_CLK_CFG_WRITE (R668): A write to PWR_CLK_CFG sets the clock bounds, or is refused. -/
  | pwrClkCfgWrite (v : W64)
  /-- PWR_VMAX_WRITE (R669): A write to PWR_VMAX sets the voltage ceilings, or is refused. -/
  | pwrVmaxWrite (v : W64)
  /-- RSP_TIMEOUT (R711): A tag, CN access or record waits RSP_TMO × 65,536 FCLK and its wait ends. -/
  | rspTimeout (w : Waiting)
  /-- QUARANTINE_END (R712): A timed-out tag or access leaves quarantine and may be reused. -/
  | quarantineEnd (w : Waiting)
  /-- EMB_QUEUE_WRITE (R716): The log writes or merges the next queued event. -/
  | embQueueWrite
  /-- EMB_UNFREEZE (R718): A write of EMB_CTRL.UNFREEZE clears FROZEN once the entries are copied. -/
  | embUnfreeze
  /-- EMB_COPY_NOW (R720): A write of EMB_CTRL.COPY_NOW starts a copy-out. -/
  | embCopyNow
  /-- EMB_COPY_TIMER (R720): Every EMB_COPY_S seconds the plane copies log entries to flash. -/
  | embCopyTimer
  /-- EMB_SW_WRITE (R715): A write to EMB_SW appends an SW entry. -/
  | embSwWrite (who : Requester) (v : W64)
  /-- REGISTER_WRITE (R7): A write to a register that has no row of its own acts as its access codes state. -/
  | registerWrite (who : Requester) (t : Option Tile) (off : BitVec 25) (wide : Bool) (v : W64)
  /-- PCLK_RESTORE (R743): PCLK edges resume after a loss and the monitor releases the pilot domain from power-on reset. -/
  | pclkRestore (keeper test : Bool)
  /-- HOST_LINK_UP (R571): The PCIe link completes training and LINK_UP sets, so pending MSI-X vectors and host-window accesses may proceed. -/
  | hostLinkUp (flit : Bool) (speed : BitVec 3) (width : BitVec 5) (bme : Bool) (cfg : PciCfg)
  /-- D3HOT_EXIT (R571): The host returns the function from D3hot to D0 and BAR requests and host-window accesses are served again. -/
  | d3hotExit
  /-- SPI_INVALID_COMMAND (R592): An SPI transaction whose command word is invalid shifts out 0xFF, performs nothing and sets CMD_ERR. -/
  | spiInvalidCommand (mode3 : Bool) (cmd : BitVec 32) (more : Nat)
  /-- CAN_BUS_ERROR (R600): A CAN FD error detected on the bus changes REC or TEC and may move the controller to error passive or bus-off. -/
  | canBusError (tx primary : Bool)
  /-- CAN_BUS_OFF_RECOVERY (R600): After 128 occurrences of 11 recessive bits a bus-off controller recovers and integrates, applying any pending GLV_CAN_BT. -/
  | canBusOffRecovery
  /-- SLOT_ERASE_COMPLETE (R688): The flash erase of a download slot's block finishes, so DATA writes to it are no longer answered BUSY. -/
  | slotEraseComplete
  /-- EMB_COPY_COMPLETE (R720): A copy-out has written every entry up to NEXT − 1 to flash, COPY_BUSY clears and COPIED sets after a freeze. -/
  | embCopyComplete
deriving DecidableEq, Repr

end Sys2Proof
end

