-- ==== Sys2Proof/Decode.lean ====
section
/-!
DEFINITION. Sys2Proof/Decode.lean: the command that a word spells. No row of spec/opcode_table.json has bits (the commands are
events and operations of the block, not words of a program), so no word spells a command (assumption 2).
-/
namespace Sys2Proof

/-- The command that the bits of a word spell: none, since the table gives no row any bits. -/
def decodeTableWord (_nbits _w : Nat) : Option Instr := none

end Sys2Proof
end

