-- ==== Sys2Proof/Config.lean ====
section
/-!
DEFINITION. Sys2Proof/Config.lean: the values that the spec leaves open (free values: constants with no body) and the values
that one device fixes. Each has a row in notes/assumptions.
-/
namespace Sys2Proof

/-- A 64-bit value that the spec leaves open; the argument is the number of the draw (assumption 4). -/
opaque Config.freeWord : Nat → BitVec 64

/-- A choice of one bit that the spec leaves open; the argument is the number of the draw (assumption 4). -/
opaque Config.freeBit : Nat → Bool

/-- Whether package-merge takes a symbol before a package of equal weight; R268 orders only symbols. -/
opaque Config.pmLeafFirst : Bool

/-- The beats that a Taper port's input may hold before its neighbour has no credit left; R295 gives no number. -/
opaque Config.taperCredits : Nat

/-- The silicon stepping code (R125, R627, R747). -/
opaque Config.stepping : BitVec 4

/-- The PCI Device ID of a device whose marked grade code is not issued; R627 gives none. -/
opaque Config.unmarkedDeviceId : BitVec 16

/-- INSTALLER_KEY, MAKER_KEY and CAL as set at manufacture (R627). -/
opaque Config.installerKey : BitVec 256
opaque Config.makerKey : BitVec 256
opaque Config.calRecord : List (BitVec 8)

/-- The device's identity chain, which the maker provisions (R572). -/
opaque Config.certChain : List (BitVec 8)

/-- The SHA-384 of a measurement whose contents R573 names without their encoding: the index and those contents. -/
opaque Config.measureDigest : Nat → List (BitVec 8) → BitVec 384

/-- The PRIO of the re-flash frames that a device sends; R692 gives none. -/
opaque Config.reflashPrio : BitVec 3

end Sys2Proof
end

