-- ==== Sys2Proof/Machine/Bits.lean ====
section
/-!
DEFINITION. Sys2Proof/Machine/Bits.lean: bit fields of register words, little-endian byte lists (R5), saturating counters
(R11), and sparse maps in one canonical form.
-/
namespace Sys2Proof.Machine

/-! ### Bit fields -/

/-- The mask of a field. -/
def fmask (f : Fld) : W64 := BitVec.ofNat 64 ((2 ^ f.len - 1) * 2 ^ f.lo)

/-- The value of a field of a word. -/
def fget (v : W64) (f : Fld) : Nat := v.toNat / 2 ^ f.lo % 2 ^ f.len

/-- A word with one field set to a value, its low bits taken. -/
def fset (v : W64) (f : Fld) (x : Nat) : W64 :=
  (v &&& ~~~(fmask f)) ||| BitVec.ofNat 64 (x % 2 ^ f.len * 2 ^ f.lo)

/-- The all-ones value of a field. -/
def fmax (f : Fld) : Nat := 2 ^ f.len - 1

/-- R11: a counter field that saturates at its all-ones value. -/
def satAdd (f : Fld) (v : W64) (n : Nat) : W64 := fset v f (min (fget v f + n) (fmax f))

/-- The mask of a list of fields. -/
def fieldsMask (fs : List Fld) : W64 := fs.foldl (fun m f => m ||| fmask f) 0

/-- The reset word of a list of fields. -/
def fieldsReset (fs : List Fld) : W64 := fs.foldl (fun m f => m ||| BitVec.ofNat 64 (f.rst % 2 ^ f.len * 2 ^ f.lo)) 0

/-- A field cut out of a number: `len` bits from bit `lo`. -/
def bitsOf (x lo len : Nat) : Nat := x / 2 ^ lo % 2 ^ len

/-- One bit of a number. -/
def bitOf (x i : Nat) : Bool := x.testBit i

/-- A Boolean as a number. -/
def b2n (b : Bool) : Nat := if b then 1 else 0

/-- The ceiling of a quotient. -/
def ceilDiv (a b : Nat) : Nat := (a + b - 1) / b

/-! ### Bytes -/

/-- R5: the number a little-endian byte list spells. -/
def leNat : List Byte → Nat
  | [] => 0
  | b :: bs => b.toNat + 256 * leNat bs

/-- R5: the `n` low bytes of a number, least significant first. -/
def leBytes : Nat → Nat → List Byte
  | 0, _ => []
  | n + 1, x => BitVec.ofNat 8 x :: leBytes n (x / 256)

/-- A function of a number, which an evaluation computes before it goes on. -/
def forceNat {α : Type} (n : Nat) (f : Nat → α) : α :=
  match n with
  | 0 => f 0
  | k + 1 => f (k + 1)

/-- `n` bytes of a list from an offset, as a number (bytes past the end read 0). -/
def leAt (bs : List Byte) (off n : Nat) : Nat := leNat ((bs.drop off).take n)

/-- `n` bytes of a list from an offset, filled with zero bytes past the end. -/
def sliceZ (bs : List Byte) (off n : Nat) : List Byte :=
  let p := (bs.drop off).take n
  p ++ List.replicate (n - p.length) 0

/-- A list of bytes cut into pieces of `n` (the last may be shorter); `k` bounds the number of pieces. -/
def chunks {α : Type} (n : Nat) : Nat → List α → List (List α)
  | 0, _ => []
  | _, [] => []
  | k + 1, l => l.take n :: chunks n k (l.drop n)

/-- The two's-complement value of the low `n` bits of a number. -/
def toSigned (n x : Nat) : Int :=
  let m := x % 2 ^ n
  if m < 2 ^ (n - 1) then (m : Int) else (m : Int) - (2 ^ n : Nat)

/-- The `n`-bit two's-complement code of an integer. -/
def ofSigned (n : Nat) (x : Int) : Nat := (x % ((2 ^ n : Nat) : Int)).toNat

/-! ### Sparse maps -/

/-- The value at a key; `d` where the map lists none. -/
def smGet {α : Type} (d : α) : List (Nat × α) → Nat → α
  | [], _ => d
  | (k', v) :: m, k => if k = k' then v else smGet d m k

/-- The map with the value at a key set; an entry equal to the default `d` is left out. -/
def smSet {α : Type} [DecidableEq α] (d : α) (m : List (Nat × α)) (k : Nat) (v : α) : List (Nat × α) :=
  m.filter (fun p => p.1 < k) ++ ((if v = d then [] else [(k, v)]) ++ m.filter (fun p => k < p.1))

/-- The map with a value entered at a key as it is. -/
def smIns {α : Type} (m : List (Nat × α)) (k : Nat) (v : α) : List (Nat × α) :=
  m.filter (fun p => p.1 < k) ++ (k, v) :: m.filter (fun p => k < p.1)

/-- The map with the values of consecutive keys set. -/
def smRun {α : Type} [DecidableEq α] (d : α) : List (Nat × α) → Nat → List α → List (Nat × α)
  | m, _, [] => m
  | m, k, v :: vs => smRun d (smSet d m k v) (k + 1) vs

/-- The map without the entries whose keys are listed. -/
def smClr {α : Type} (m : List (Nat × α)) (ks : List Nat) : List (Nat × α) := m.filter (fun p => !ks.contains p.1)

/-- The map without the entries whose keys lie in a range, `lo` included and `hi` not. -/
def smClrRange {α : Type} (m : List (Nat × α)) (lo hi : Nat) : List (Nat × α) :=
  m.filter (fun p => p.1 < lo || hi ≤ p.1)

/-- The keys of a map rise strictly. -/
def smSorted {α : Type} : List (Nat × α) → Bool
  | [] => true
  | [_] => true
  | (a, _) :: (b, v) :: m => decide (a < b) && smSorted ((b, v) :: m)

/-- The canonical form: keys rise strictly and no entry equals the default of its key. -/
def smWf {α : Type} [DecidableEq α] (d : Nat → α) (m : List (Nat × α)) : Bool :=
  smSorted m && m.all (fun p => decide (p.2 ≠ d p.1))

/-- The values at `n` consecutive keys. -/
def smRead {α : Type} (d : α) (m : List (Nat × α)) (k : Nat) : Nat → List α
  | 0 => []
  | n + 1 => smGet d m k :: smRead d m (k + 1) n

end Sys2Proof.Machine
end

