-- ==== Sys2Proof/Machine/RegNames.lean ====
section
/-!
DEFINITION. Sys2Proof/Machine/RegNames.lean: the names of every register of the spec's register tables.
One constructor for each register, or for each array of registers, of a tile register window (`TReg`) and of the
device global registers (`DReg`). A key `RKey` adds the tile and the index in the array.
-/
namespace Sys2Proof.Machine

/-- The registers of a tile register window (R89). -/
inductive TReg where
  | TILE_ID  -- TILE_ID, TILE_BASE + 0x0000 (05_cluster.md, = SYS / = MAP)
  | TILE_ERR_SUM  -- TILE_ERR_SUM, TILE_BASE + 0x0008 (05_cluster.md, live view, R704)
  | TILE_FPFLAGS  -- TILE_FPFLAGS, TILE_BASE + 0x0010 (05_cluster.md, R116)
  | TILE_IRQ_PEND  -- TILE_IRQ_PEND, TILE_BASE + 0x0018 (05_cluster.md, R154)
  | TILE_IRQ_ROUTE  -- TILE_IRQ_ROUTE[3], TILE_BASE + 0x0020 (05_cluster.md, ROUTE2 holds byte 0 only)
  | TILE_CORE_CTRL  -- TILE_CORE_CTRL, TILE_BASE + 0x0100 (05_cluster.md, R129)
  | TILE_CORE_RUN  -- TILE_CORE_RUN, TILE_BASE + 0x0108 (05_cluster.md, R128)
  | TILE_CORE_STAT  -- TILE_CORE_STAT, TILE_BASE + 0x0110 (05_cluster.md, R128, R129)
  | TILE_MSIP  -- TILE_MSIP, TILE_BASE + 0x0118 (05_cluster.md)
  | TILE_BOOT_PC  -- TILE_BOOT_PC[24], TILE_BASE + 0x0200 (05_cluster.md)
  | TILE_MTIMECMP  -- TILE_MTIMECMP[24], TILE_BASE + 0x0300 (05_cluster.md, R126)
  | TILE_VLT_STAT  -- TILE_VLT_STAT, TILE_BASE + 0x0400 (05_cluster.md, 03)
  | TILE_VLT_CE_CNT  -- TILE_VLT_CE_CNT, TILE_BASE + 0x0408 (05_cluster.md, 03)
  | TILE_VLT_UE_CNT  -- TILE_VLT_UE_CNT, TILE_BASE + 0x0410 (05_cluster.md, 03)
  | TILE_VLT_NWR_CNT  -- TILE_VLT_NWR_CNT, TILE_BASE + 0x0418 (05_cluster.md, 03)
  | TILE_VLT_NWR_ADDR  -- TILE_VLT_NWR_ADDR, TILE_BASE + 0x0420 (05_cluster.md, 03)
  | TILE_VLT_UE_ADDR  -- TILE_VLT_UE_ADDR, TILE_BASE + 0x0428 (05_cluster.md, 03)
  | TILE_VLT_PATROL  -- TILE_VLT_PATROL, TILE_BASE + 0x0430 (05_cluster.md, R86)
  | TILE_PWR_CTRL  -- TILE_PWR_CTRL, TILE_BASE + 0x0600 (05_cluster.md, R156, R157)
  | TILE_PWR_STAT  -- TILE_PWR_STAT, TILE_BASE + 0x0608 (05_cluster.md, R156, R157)
  | Q_DESC  -- Q_DESC[22], each queue block + 0x0000 (05_cluster.md, R159)
  | Q_CPL  -- Q_CPL[22], each queue block + 0x0008 (05_cluster.md, R159)
  | Q_PI  -- Q_PI[22], each queue block + 0x0010 (05_cluster.md, R134)
  | Q_CI  -- Q_CI[22], each queue block + 0x0018 (05_cluster.md)
  | Q_CQ_PI  -- Q_CQ_PI[22], each queue block + 0x0020 (05_cluster.md)
  | Q_CQ_CI  -- Q_CQ_CI[22], each queue block + 0x0028 (05_cluster.md, R136)
  | Q_CTRL  -- Q_CTRL[22], each queue block + 0x0030 (05_cluster.md, R139)
  | Q_STAT  -- Q_STAT[22], each queue block + 0x0038 (05_cluster.md, R134, R159)
  | Q_DONE_CNT  -- Q_DONE_CNT[22], each queue block + 0x0040 (05_cluster.md)
  | Q_ERR_CNT  -- Q_ERR_CNT[22], each queue block + 0x0048 (05_cluster.md)
  | TILE_MXE_GATE_WAIT  -- TILE_MXE_GATE_WAIT, TILE_BASE + 0x0D00 (05_cluster.md, 05)
  | TILE_MXE_RA_READ  -- TILE_MXE_RA_READ, TILE_BASE + 0x0D08 (05_cluster.md, 05)
  | TILE_MXE_RA_CANCEL  -- TILE_MXE_RA_CANCEL, TILE_BASE + 0x0D10 (05_cluster.md, 05)
  | CM_STAT  -- CM_STAT, CM_BASE + 0x0000 (03_address_memory.md, R83)
  | CM_CE_CNT  -- CM_CE_CNT, CM_BASE + 0x0008 (03_address_memory.md)
  | CM_UE_CNT  -- CM_UE_CNT, CM_BASE + 0x0010 (03_address_memory.md)
  | CM_UE_ADDR  -- CM_UE_ADDR, CM_BASE + 0x0018 (03_address_memory.md)
  | NIU_CFG  -- NIU_CFG, NIU_BASE + 0x0000 (06_bulk_network.md)
  | NIU_STAT  -- NIU_STAT, NIU_BASE + 0x0008 (06_bulk_network.md, R189)
  | NIU_IRQ_STAT  -- NIU_IRQ_STAT, NIU_BASE + 0x0010 (06_bulk_network.md)
  | NIU_OUTST  -- NIU_OUTST, NIU_BASE + 0x0018 (06_bulk_network.md)
  | NIU_TX_A_BYTES  -- NIU_TX_A_BYTES, NIU_BASE + 0x0400 (06_bulk_network.md)
  | NIU_TX_B_BYTES  -- NIU_TX_B_BYTES, NIU_BASE + 0x0408 (06_bulk_network.md)
  | NIU_RX_A_BYTES  -- NIU_RX_A_BYTES, NIU_BASE + 0x0410 (06_bulk_network.md)
  | NIU_RX_B_BYTES  -- NIU_RX_B_BYTES, NIU_BASE + 0x0418 (06_bulk_network.md)
  | NIU_BAD_OP_CNT  -- NIU_BAD_OP_CNT, NIU_BASE + 0x0420 (06_bulk_network.md)
  | BN_TILE_STAT  -- BN_TILE_STAT, BN_BASE + 0x0000 (06_bulk_network.md, R201)
  | BN_LINK_CE_CNT  -- BN_LINK_CE_CNT, BN_BASE + 0x0008 (06_bulk_network.md)
  | BN_LINK_UE_CNT  -- BN_LINK_UE_CNT, BN_BASE + 0x0010 (06_bulk_network.md)
  | BN_PIN_OVR_A  -- BN_PIN_OVR_A, BN_BASE + 0x0018 (06_bulk_network.md, R182)
  | BN_PIN_OVR_B  -- BN_PIN_OVR_B, BN_BASE + 0x0020 (06_bulk_network.md, R182)
  | BN_FLIT_CNT  -- BN_FLIT_CNT[10], BN_BASE + 0x0100 (06_bulk_network.md, index 5p + o)
  | BN_PIN_SHADOW  -- BN_PIN_SHADOW[128], BN_BASE + 0x0800 (06_bulk_network.md, R202, index 32(2p + set) + word)
  | BN_PIN_ACTIVE  -- BN_PIN_ACTIVE[128], BN_BASE + 0x0C00 (06_bulk_network.md, R202)
  | RED_CFG  -- RED_CFG, RED_BASE + 0x0000 (07_reduction.md)
  | RED_STATUS  -- RED_STATUS, RED_BASE + 0x0008 (07_reduction.md)
  | RED_BAD_INFO  -- RED_BAD_INFO, RED_BASE + 0x0010 (07_reduction.md)
  | RED_NAK_INFO  -- RED_NAK_INFO, RED_BASE + 0x0018 (07_reduction.md)
  | RED_CTX  -- RED_CTX[16], RED_BASE + 0x0200 (07_reduction.md)
  | RED_COMBINE_CNT  -- RED_COMBINE_CNT, RED_BASE + 0x0300 (07_reduction.md)
  | RED_HOLD_EXP_CNT  -- RED_HOLD_EXP_CNT, RED_BASE + 0x0308 (07_reduction.md)
  | RED_SLOT_FULL_CNT  -- RED_SLOT_FULL_CNT, RED_BASE + 0x0310 (07_reduction.md)
  | RED_SLOT_RSV_CNT  -- RED_SLOT_RSV_CNT, RED_BASE + 0x0318 (07_reduction.md)
  | RED_SLOT_CANCEL_CNT  -- RED_SLOT_CANCEL_CNT, RED_BASE + 0x0320 (07_reduction.md)
  | RED_NIU_SPEC_CNT  -- RED_NIU_SPEC_CNT, RED_BASE + 0x0328 (07_reduction.md)
  | RED_NIU_CANCEL_CNT  -- RED_NIU_CANCEL_CNT, RED_BASE + 0x0330 (07_reduction.md)
  | RED_LATE_CNT  -- RED_LATE_CNT, RED_BASE + 0x0338 (07_reduction.md)
  | RED_NOARM_CNT  -- RED_NOARM_CNT, RED_BASE + 0x0340 (07_reduction.md)
  | RED_MISMATCH_CNT  -- RED_MISMATCH_CNT, RED_BASE + 0x0348 (07_reduction.md)
  | RED_OVER_CNT  -- RED_OVER_CNT, RED_BASE + 0x0350 (07_reduction.md)
  | RED_RES_RETRY_CNT  -- RED_RES_RETRY_CNT, RED_BASE + 0x0358 (07_reduction.md)
  | RED_RES_ERR_CNT  -- RED_RES_ERR_CNT, RED_BASE + 0x0360 (07_reduction.md)
  | RED_ORD_BRK_CNT  -- RED_ORD_BRK_CNT, RED_BASE + 0x0368 (07_reduction.md)
  | RED_NAK_CNT  -- RED_NAK_CNT, RED_BASE + 0x0370 (07_reduction.md)
  | RED_OTREE_SHADOW  -- RED_OTREE_SHADOW[2], RED_BASE + 0x0400 (07_reduction.md)
  | RED_OTREE_ACTIVE  -- RED_OTREE_ACTIVE[2], RED_BASE + 0x0440 (07_reduction.md)
  | RED_DONE  -- RED_DONE[128], RED_BASE + 0x0800 (07_reduction.md, bit 2j DONE_VALID, 2j + 1 DONE_GEN)
  | CDX_STAT  -- CDX_STAT, CDX_BASE + 0x0000 (08_compression.md)
  | CDX_BAD_INFO  -- CDX_BAD_INFO, CDX_BASE + 0x0008 (08_compression.md)
  | CDX_SLOT  -- CDX_SLOT[16], CDX_BASE + 0x0100 (08_compression.md)
  | CDX_ENC_IN_BYTES  -- CDX_ENC_IN_BYTES, CDX_BASE + 0x0200 (08_compression.md)
  | CDX_ENC_OUT_BYTES  -- CDX_ENC_OUT_BYTES, CDX_BASE + 0x0208 (08_compression.md)
  | CDX_DEC_IN_BYTES  -- CDX_DEC_IN_BYTES, CDX_BASE + 0x0210 (08_compression.md)
  | CDX_DEC_OUT_BYTES  -- CDX_DEC_OUT_BYTES, CDX_BASE + 0x0218 (08_compression.md)
  | CDX_PLAIN_CNT  -- CDX_PLAIN_CNT, CDX_BASE + 0x0220 (08_compression.md)
  | CDX_RAW_PLANE_CNT  -- CDX_RAW_PLANE_CNT, CDX_BASE + 0x0228 (08_compression.md)
  | CDX_HDR_ERR_CNT  -- CDX_HDR_ERR_CNT, CDX_BASE + 0x0230 (08_compression.md)
  | CDX_TBL_ERR_CNT  -- CDX_TBL_ERR_CNT, CDX_BASE + 0x0238 (08_compression.md)
  | CDX_DEC_ERR_CNT  -- CDX_DEC_ERR_CNT, CDX_BASE + 0x0240 (08_compression.md)
  | CDX_CRC_ERR_CNT  -- CDX_CRC_ERR_CNT, CDX_BASE + 0x0248 (08_compression.md)
  | BCN_TAP_ENT  -- BCN_TAP_ENT[4], BCN_BASE + 0x0000 (09_beacon_taper.md, R300)
  | BCN_TAP_LAND  -- BCN_TAP_LAND[4], BCN_BASE + 0x0008 (09_beacon_taper.md, R300)
  | BCN_STAT  -- BCN_STAT, BCN_BASE + 0x0040 (09_beacon_taper.md)
  | BCN_RX_BYTES  -- BCN_RX_BYTES, BCN_BASE + 0x0100 (09_beacon_taper.md)
  | BCN_XFER_CNT  -- BCN_XFER_CNT, BCN_BASE + 0x0108 (09_beacon_taper.md)
  | BCN_STOP_CNT  -- BCN_STOP_CNT, BCN_BASE + 0x0110 (09_beacon_taper.md)
  | BCN_CE_CNT  -- BCN_CE_CNT, BCN_BASE + 0x0118 (09_beacon_taper.md)
  | BCN_UE_CNT  -- BCN_UE_CNT, BCN_BASE + 0x0120 (09_beacon_taper.md)
  | TPR_CFG  -- TPR_CFG, TPR_BASE + 0x0000 (09_beacon_taper.md, R301)
  | TPR_RING  -- TPR_RING, TPR_BASE + 0x0008 (09_beacon_taper.md, R301)
  | TPR_WP  -- TPR_WP, TPR_BASE + 0x0010 (09_beacon_taper.md)
  | TPR_RP  -- TPR_RP, TPR_BASE + 0x0018 (09_beacon_taper.md, R297)
  | TPR_FLAG_CFG  -- TPR_FLAG_CFG, TPR_BASE + 0x0020 (09_beacon_taper.md)
  | TPR_FLAG_BASE  -- TPR_FLAG_BASE, TPR_BASE + 0x0028 (09_beacon_taper.md)
  | TPR_STAT  -- TPR_STAT, TPR_BASE + 0x0030 (09_beacon_taper.md)
  | TPR_IN_BYTES  -- TPR_IN_BYTES, TPR_BASE + 0x0100 (09_beacon_taper.md)
  | TPR_STALL_CNT  -- TPR_STALL_CNT, TPR_BASE + 0x0108 (09_beacon_taper.md)
  | TPR_SKIP_CNT  -- TPR_SKIP_CNT, TPR_BASE + 0x0110 (09_beacon_taper.md)
  | CN_TILE_STAT  -- CN_TILE_STAT, CN_BASE + 0x0000 (10_control_messages.md, R337)
  | CN_LINK_CE_CNT  -- CN_LINK_CE_CNT, CN_BASE + 0x0008 (10_control_messages.md)
  | CN_LINK_UE_CNT  -- CN_LINK_UE_CNT, CN_BASE + 0x0010 (10_control_messages.md)
  | CN_BAD_OP_CNT  -- CN_BAD_OP_CNT, CN_BASE + 0x0018 (10_control_messages.md)
  | CN_FLIT_CNT  -- CN_FLIT_CNT[5], CN_BASE + 0x0100 (10_control_messages.md)
  | AMQ_CFG  -- AMQ_CFG, AMQ_BASE + 0x0000 (10_control_messages.md)
  | AMQ_STAT  -- AMQ_STAT, AMQ_BASE + 0x0008 (10_control_messages.md)
  | AMQ_CTL_CMD  -- AMQ_CTL_CMD, AMQ_BASE + 0x0010 (10_control_messages.md)
  | AMQ_BAD_INFO  -- AMQ_BAD_INFO, AMQ_BASE + 0x0018 (10_control_messages.md)
  | AMQ_TX_CNT  -- AMQ_TX_CNT, AMQ_BASE + 0x0040 (10_control_messages.md)
  | AMQ_RX_CNT  -- AMQ_RX_CNT, AMQ_BASE + 0x0048 (10_control_messages.md)
  | AMQ_DISCARD_CNT  -- AMQ_DISCARD_CNT, AMQ_BASE + 0x0050 (10_control_messages.md)
  | AMQ_NAK_CNT  -- AMQ_NAK_CNT, AMQ_BASE + 0x0058 (10_control_messages.md)
  | AMQ_COMB_CNT  -- AMQ_COMB_CNT, AMQ_BASE + 0x0060 (10_control_messages.md)
  | AMQ_COMB_NOARM_CNT  -- AMQ_COMB_NOARM_CNT, AMQ_BASE + 0x0068 (10_control_messages.md)
  | AMQ_COMB_LATE_CNT  -- AMQ_COMB_LATE_CNT, AMQ_BASE + 0x0070 (10_control_messages.md)
  | AQ_CFG  -- AQ_CFG[8], AMQ_BASE + 0x0100 (10_control_messages.md, R338)
  | AQ_SWORD  -- AQ_SWORD[8], AMQ_BASE + 0x0108 (10_control_messages.md)
  | AQ_PI  -- AQ_PI[8], AMQ_BASE + 0x0110 (10_control_messages.md)
  | AQ_CI  -- AQ_CI[8], AMQ_BASE + 0x0118 (10_control_messages.md, R331)
  | AMQ_HANDLER  -- AMQ_HANDLER[32], AMQ_BASE + 0x0200 (10_control_messages.md, byte j: EN MODE OP FMT in bits 7:2)
  | AMQ_CHAN_CFG  -- AMQ_CHAN_CFG[64], AMQ_BASE + 0x0300 (10_control_messages.md, R339)
  | AMQ_CHAN_STAT  -- AMQ_CHAN_STAT[64], AMQ_BASE + 0x0308 (10_control_messages.md)
  | AMQ_SEND_BUF  -- AMQ_SEND_BUF[192], AMQ_BASE + 0x0800 (10_control_messages.md, index 8c + word)
  | AMQ_SEND_GO  -- AMQ_SEND_GO[24], AMQ_BASE + 0x0E00 (10_control_messages.md, R326)
  | AMQ_SEND_STAT  -- AMQ_SEND_STAT[24], AMQ_BASE + 0x0E08 (10_control_messages.md, R326)
  | WICK_ARRIVE  -- WICK_ARRIVE, WICK_BASE + 0x0000 (11_wick.md, R353)
  | WICK_ARRIVED  -- WICK_ARRIVED, WICK_BASE + 0x0008 (11_wick.md)
  | WICK_REL_PEND  -- WICK_REL_PEND, WICK_BASE + 0x0010 (11_wick.md)
  | WICK_STAT  -- WICK_STAT, WICK_BASE + 0x0018 (11_wick.md)
  | WICK_FLAG_OP  -- WICK_FLAG_OP, WICK_BASE + 0x0020 (11_wick.md, R360)
  | WICK_LAND  -- WICK_LAND[8], WICK_BASE + 0x0040 (11_wick.md)
  | WICK_WATCH  -- WICK_WATCH[4], WICK_BASE + 0x0080 (11_wick.md, R361)
  | WICK_FLAG_MIRROR  -- WICK_FLAG_MIRROR[4], WICK_BASE + 0x0100 (11_wick.md)
  | WICK_ARRIVE_CNT  -- WICK_ARRIVE_CNT, WICK_BASE + 0x0200 (11_wick.md)
  | WICK_REL_CNT  -- WICK_REL_CNT, WICK_BASE + 0x0208 (11_wick.md)
  | WICK_DUP_CNT  -- WICK_DUP_CNT, WICK_BASE + 0x0210 (11_wick.md)
  | WICK_NONMEM_CNT  -- WICK_NONMEM_CNT, WICK_BASE + 0x0218 (11_wick.md)
  | ARB_SEL  -- ARB_SEL, ARB_BASE + 0x0000 (12_arbitration.md, R393)
  | ARB_CFG_SHADOW  -- ARB_CFG_SHADOW, ARB_BASE + 0x0008 (12_arbitration.md, R392)
  | ARB_CFG_ACTIVE  -- ARB_CFG_ACTIVE, ARB_BASE + 0x0010 (12_arbitration.md, R392)
  | ARB_CTRL  -- ARB_CTRL, ARB_BASE + 0x0018 (12_arbitration.md, R391)
  | ARB_STAT  -- ARB_STAT, ARB_BASE + 0x0020 (12_arbitration.md)
  | ARB_REQ_SHADOW  -- ARB_REQ_SHADOW[39], ARB_BASE + 0x0100 (12_arbitration.md, R392)
  | ARB_REQ_ACTIVE  -- ARB_REQ_ACTIVE[39], ARB_BASE + 0x0300 (12_arbitration.md, R392)
  | ARB_CNT_GRANTS  -- ARB_CNT_GRANTS[39], ARB_BASE + 0x0800 (12_arbitration.md, R391)
  | ARB_CNT_WAIT  -- ARB_CNT_WAIT[39], ARB_BASE + 0x0808 (12_arbitration.md, R391)
  | ARB_CNT_LONGEST  -- ARB_CNT_LONGEST[39], ARB_BASE + 0x0810 (12_arbitration.md, R391)
  | SNF_CFG  -- SNF_CFG[63], SNF_BASE + 0x0000 (12_arbitration.md)
  | SNF_STAT  -- SNF_STAT, SNF_BASE + 0x0200 (12_arbitration.md)
  | SNF_BITE_CNT  -- SNF_BITE_CNT[63], SNF_BASE + 0x0400 (12_arbitration.md)
  | SHP_NIU_SHADOW  -- SHP_NIU_SHADOW[4], SHP_BASE + 0x0000 (13_policy_epochs.md)
  | SHP_NIU_ACTIVE  -- SHP_NIU_ACTIVE[4], SHP_BASE + 0x0040 (13_policy_epochs.md)
  | SHP_RST  -- SHP_RST, SHP_BASE + 0x0080 (13_policy_epochs.md, R415)
  | SHP_DIRTY  -- SHP_DIRTY, SHP_BASE + 0x0088 (13_policy_epochs.md)
  | SHP_TOKENS  -- SHP_TOKENS[4], SHP_BASE + 0x0090 (13_policy_epochs.md)
  | SHP_HELD_CNT  -- SHP_HELD_CNT[4], SHP_BASE + 0x0100 (13_policy_epochs.md)
  | SHP_BYTES  -- SHP_BYTES[4], SHP_BASE + 0x0140 (13_policy_epochs.md, R404)
  | COL_RT_STAT  -- COL_RT_STAT, COL_BASE + 0x0000 (16_collectives.md)
  | COL_TX_BYTES  -- COL_TX_BYTES[8], COL_BASE + 0x0150 (16_collectives.md)
  | COL_RX_BYTES  -- COL_RX_BYTES[8], COL_BASE + 0x0158 (16_collectives.md)
  | COL_OVF_CNT  -- COL_OVF_CNT[8], COL_BASE + 0x0160 (16_collectives.md)
  | COL_OVF_BYTES  -- COL_OVF_BYTES[8], COL_BASE + 0x0168 (16_collectives.md)
  | COL_STALE_CNT  -- COL_STALE_CNT[8], COL_BASE + 0x0170 (16_collectives.md)
  | COL_TMO_CNT  -- COL_TMO_CNT[8], COL_BASE + 0x0178 (16_collectives.md)
  | COL_GCFG0  -- COL_GCFG0[8], COL_BASE + 0x0180 (16_collectives.md)
  | COL_GCFG1  -- COL_GCFG1[8], COL_BASE + 0x0188 (16_collectives.md)
  | COL_GCFG2  -- COL_GCFG2[8], COL_BASE + 0x0190 (16_collectives.md)
  | COL_GCFG3  -- COL_GCFG3[8], COL_BASE + 0x0198 (16_collectives.md)
  | COL_GCTRL  -- COL_GCTRL[8], COL_BASE + 0x01A0 (16_collectives.md)
  | COL_GSTAT  -- COL_GSTAT[8], COL_BASE + 0x01A8 (16_collectives.md)
  | COL_GFAIL  -- COL_GFAIL[8], COL_BASE + 0x01B0 (16_collectives.md)
  | COL_EXCL  -- COL_EXCL[64], COL_BASE + 0x01C0 (16_collectives.md, index 8s + k)
deriving DecidableEq, Repr

/-- The device global registers (R90). -/
inductive DReg where
  | TILE_GRID  -- TILE_GRID, TILE_MAP_BASE + 0x0000 (02_tile_array.md, = FUSE / = MAP)
  | TILE_MAP_STAT  -- TILE_MAP_STAT, TILE_MAP_BASE + 0x0008 (02_tile_array.md)
  | TILE_MAP_CTRL  -- TILE_MAP_CTRL, TILE_MAP_BASE + 0x0010 (02_tile_array.md, R45)
  | TILE_ROW_DARK  -- TILE_ROW_DARK[16], TILE_MAP_BASE + 0x0100 (02_tile_array.md, = MAP)
  | TILE_ROW_FAIL  -- TILE_ROW_FAIL[16], TILE_MAP_BASE + 0x0180 (02_tile_array.md, = MAP)
  | TILE_DOM_FAIL0  -- TILE_DOM_FAIL0, TILE_MAP_BASE + 0x0200 (02_tile_array.md)
  | TILE_DOM_FAIL1  -- TILE_DOM_FAIL1, TILE_MAP_BASE + 0x0208 (02_tile_array.md)
  | TILE_DOM_ACCEPT0  -- TILE_DOM_ACCEPT0, TILE_MAP_BASE + 0x0210 (02_tile_array.md, = FLASH)
  | TILE_DOM_ACCEPT1  -- TILE_DOM_ACCEPT1, TILE_MAP_BASE + 0x0218 (02_tile_array.md, = FLASH)
  | TILE_DOWN_MAP  -- TILE_DOWN_MAP[8], TILE_MAP_BASE + 0x0300 (02_tile_array.md)
  | TILE_L2P  -- TILE_L2P[64], TILE_MAP_BASE + 0x0400 (02_tile_array.md, = MAP)
  | TILE_MEM_CFG  -- TILE_MEM_CFG, TILE_MEM_BASE + 0x0000 (03_address_memory.md, R91)
  | TILE_MEM_STAT  -- TILE_MEM_STAT, TILE_MEM_BASE + 0x0008 (03_address_memory.md)
  | BOOT_STAT  -- BOOT_STAT, BOOT_BASE + 0x0000 (22_boot_images_service.md)
  | BOOT_CFG  -- BOOT_CFG, BOOT_BASE + 0x0008 (22_boot_images_service.md, R684)
  | BOOT_RST_CTRL  -- BOOT_RST_CTRL, BOOT_BASE + 0x0010 (22_boot_images_service.md)
  | BOOT_RST_STAT  -- BOOT_RST_STAT, BOOT_BASE + 0x0018 (22_boot_images_service.md)
  | BOOT_SVC_CTRL  -- BOOT_SVC_CTRL, BOOT_BASE + 0x0020 (22_boot_images_service.md)
  | BOOT_SVC_STAT  -- BOOT_SVC_STAT, BOOT_BASE + 0x0028 (22_boot_images_service.md)
  | BOOT_RFL_STAT  -- BOOT_RFL_STAT, BOOT_BASE + 0x0030 (22_boot_images_service.md, ROLE = STRAP)
  | BOOT_WARM_CNT  -- BOOT_WARM_CNT, BOOT_BASE + 0x0100 (22_boot_images_service.md)
  | BOOT_FALLBACK_CNT  -- BOOT_FALLBACK_CNT, BOOT_BASE + 0x0108 (22_boot_images_service.md)
  | BOOT_RFL_CNT  -- BOOT_RFL_CNT, BOOT_BASE + 0x0110 (22_boot_images_service.md)
  | BOOT_TILE_RST_CNT  -- BOOT_TILE_RST_CNT, BOOT_BASE + 0x0118 (22_boot_images_service.md)
  | BOOT_ADM_ADDR  -- BOOT_ADM_ADDR, BOOT_BASE + 0x8000 (22_boot_images_service.md, 17)
  | BOOT_ADM_CTRL  -- BOOT_ADM_CTRL, BOOT_BASE + 0x8008 (22_boot_images_service.md, 17: bit 0 ADMIT)
  | BOOT_ADM_STAT  -- BOOT_ADM_STAT, BOOT_BASE + 0x8010 (22_boot_images_service.md, 17)
  | BOOT_ADM_MODEL  -- BOOT_ADM_MODEL, BOOT_BASE + 0x8018 (22_boot_images_service.md, 17)
  | BOOT_ADM_REFUSE_CNT  -- BOOT_ADM_REFUSE_CNT, BOOT_BASE + 0x8020 (22_boot_images_service.md, 17)
  | ERR_STAT  -- ERR_STAT, ERR_BASE + 0x0000 (23_errors_ember.md, R707)
  | ERR_CFG  -- ERR_CFG, ERR_BASE + 0x0008 (23_errors_ember.md, R711)
  | ERR_DEV_SUM  -- ERR_DEV_SUM, ERR_BASE + 0x0010 (23_errors_ember.md, live view)
  | ERR_CNT  -- ERR_CNT[4], ERR_BASE + 0x0020 (23_errors_ember.md)
  | ERR_FIRST  -- ERR_FIRST[4], ERR_BASE + 0x0040 (23_errors_ember.md)
  | ERR_RSP_TMO_CNT  -- ERR_RSP_TMO_CNT, ERR_BASE + 0x0060 (23_errors_ember.md, R711)
  | ERR_LATE_RSP_CNT  -- ERR_LATE_RSP_CNT, ERR_BASE + 0x0068 (23_errors_ember.md, R712)
  | ERR_TILE_SUM  -- ERR_TILE_SUM[8], ERR_BASE + 0x0100 (23_errors_ember.md, live view)
  | ERR_CORE_BUS  -- ERR_CORE_BUS[512], ERR_BASE + 0x1000 (23_errors_ember.md, R710)
  | EMB_STAT  -- EMB_STAT, EMB_BASE + 0x0000 (23_errors_ember.md)
  | EMB_CTRL  -- EMB_CTRL, EMB_BASE + 0x0008 (23_errors_ember.md)
  | EMB_CFG  -- EMB_CFG, EMB_BASE + 0x0010 (23_errors_ember.md)
  | EMB_COPY  -- EMB_COPY, EMB_BASE + 0x0018 (23_errors_ember.md)
  | EMB_SW  -- EMB_SW, EMB_BASE + 0x0020 (23_errors_ember.md)
  | EMB_LOST  -- EMB_LOST, EMB_BASE + 0x0100 (23_errors_ember.md)
  | EMB_OVWR  -- EMB_OVWR, EMB_BASE + 0x0108 (23_errors_ember.md)
  | EMB_MERGE_CNT  -- EMB_MERGE_CNT, EMB_BASE + 0x0110 (23_errors_ember.md)
  | EMB_RAM  -- EMB_RAM[16384], EMB_BASE + 0x80000 (23_errors_ember.md, index 4s + word)
  | EPC_COMMIT  -- EPC_COMMIT, EPC_BASE + 0x0000 (13_policy_epochs.md, R409)
  | EPC_CFG  -- EPC_CFG, EPC_BASE + 0x0008 (13_policy_epochs.md)
  | EPC_STAT  -- EPC_STAT, EPC_BASE + 0x0010 (13_policy_epochs.md)
  | EPC_QUIESCE  -- EPC_QUIESCE, EPC_BASE + 0x0018 (13_policy_epochs.md, R416)
  | EPC_LATE_INFO  -- EPC_LATE_INFO, EPC_BASE + 0x0020 (13_policy_epochs.md)
  | EPC_NQ_INFO  -- EPC_NQ_INFO, EPC_BASE + 0x0028 (13_policy_epochs.md)
  | EPC_COMMIT_CNT  -- EPC_COMMIT_CNT, EPC_BASE + 0x0100 (13_policy_epochs.md)
  | EPC_LATE_CNT  -- EPC_LATE_CNT, EPC_BASE + 0x0108 (13_policy_epochs.md)
  | EPC_NQ_CNT  -- EPC_NQ_CNT, EPC_BASE + 0x0110 (13_policy_epochs.md)
  | EPC_DRAIN_LAST  -- EPC_DRAIN_LAST, EPC_BASE + 0x0118 (13_policy_epochs.md)
  | BN_PLANE_CFG  -- BN_PLANE_CFG, BN_DEV_BASE + 0x0000 (06_bulk_network.md, R203)
  | BN_DEV_STAT  -- BN_DEV_STAT, BN_DEV_BASE + 0x0008 (06_bulk_network.md)
  | RED_DEV_STAT  -- RED_DEV_STAT, RED_DEV_BASE + 0x0000 (07_reduction.md)
  | WICK_DEV_STAT  -- WICK_DEV_STAT, WICK_DEV_BASE + 0x0000 (11_wick.md, R364)
  | WICK_DEV_FLAG_OP  -- WICK_DEV_FLAG_OP, WICK_DEV_BASE + 0x0008 (11_wick.md, R360)
  | WICK_FLAG_SEQ  -- WICK_FLAG_SEQ, WICK_DEV_BASE + 0x0010 (11_wick.md)
  | WICK_FLAG_STATE  -- WICK_FLAG_STATE[4], WICK_DEV_BASE + 0x0100 (11_wick.md)
  | WICK_CTX_CFG  -- WICK_CTX_CFG[64], WICK_DEV_BASE + 0x1000 (11_wick.md, R359)
  | WICK_CTX_STAT  -- WICK_CTX_STAT[64], WICK_DEV_BASE + 0x1008 (11_wick.md)
  | WICK_TOKEN_TX_CNT  -- WICK_TOKEN_TX_CNT, WICK_DEV_BASE + 0x2000 (11_wick.md)
  | WICK_TOKEN_RX_CNT  -- WICK_TOKEN_RX_CNT, WICK_DEV_BASE + 0x2008 (11_wick.md)
  | WICK_TOKEN_DROP_CNT  -- WICK_TOKEN_DROP_CNT, WICK_DEV_BASE + 0x2010 (11_wick.md)
  | WICK_BREAK_CNT  -- WICK_BREAK_CNT, WICK_DEV_BASE + 0x2018 (11_wick.md)
  | BCN_DEV_HELD  -- BCN_DEV_HELD, BCN_DEV_BASE + 0x0000 (09_beacon_taper.md)
  | ARB_DEV_SEL  -- ARB_DEV_SEL, ARB_DEV_BASE + 0x0000 (12_arbitration.md, R393)
  | ARB_DEV_CFG_SHADOW  -- ARB_DEV_CFG_SHADOW, ARB_DEV_BASE + 0x0008 (12_arbitration.md, R392)
  | ARB_DEV_CFG_ACTIVE  -- ARB_DEV_CFG_ACTIVE, ARB_DEV_BASE + 0x0010 (12_arbitration.md, R392)
  | ARB_DEV_CTRL  -- ARB_DEV_CTRL, ARB_DEV_BASE + 0x0018 (12_arbitration.md, R391)
  | ARB_DEV_STAT  -- ARB_DEV_STAT, ARB_DEV_BASE + 0x0020 (12_arbitration.md)
  | ARB_DEV_REQ_SHADOW  -- ARB_DEV_REQ_SHADOW[512], ARB_DEV_BASE + 0x1000 (12_arbitration.md, R392)
  | ARB_DEV_REQ_ACTIVE  -- ARB_DEV_REQ_ACTIVE[512], ARB_DEV_BASE + 0x2000 (12_arbitration.md, R392)
  | ARB_DEV_CNT_GRANTS  -- ARB_DEV_CNT_GRANTS[512], ARB_DEV_BASE + 0x4000 (12_arbitration.md, R391)
  | ARB_DEV_CNT_WAIT  -- ARB_DEV_CNT_WAIT[512], ARB_DEV_BASE + 0x4008 (12_arbitration.md, R391)
  | ARB_DEV_CNT_LONGEST  -- ARB_DEV_CNT_LONGEST[512], ARB_DEV_BASE + 0x4010 (12_arbitration.md, R391)
  | SNF_DEV_CFG  -- SNF_DEV_CFG[97], SNF_DEV_BASE + 0x0000 (12_arbitration.md)
  | SNF_DEV_STAT  -- SNF_DEV_STAT, SNF_DEV_BASE + 0x0800 (12_arbitration.md)
  | SNF_DEV_BITE_CNT  -- SNF_DEV_BITE_CNT[97], SNF_DEV_BASE + 0x1000 (12_arbitration.md)
  | SHP_WLP_SHADOW  -- SHP_WLP_SHADOW[64], SHP_DEV_BASE + 0x0000 (13_policy_epochs.md, index 4n + t)
  | SHP_WLP_ACTIVE  -- SHP_WLP_ACTIVE[64], SHP_DEV_BASE + 0x0200 (13_policy_epochs.md)
  | SHP_LS_SHADOW  -- SHP_LS_SHADOW[16], SHP_DEV_BASE + 0x0400 (13_policy_epochs.md)
  | SHP_LS_ACTIVE  -- SHP_LS_ACTIVE[16], SHP_DEV_BASE + 0x0480 (13_policy_epochs.md)
  | SHP_DEV_RST  -- SHP_DEV_RST, SHP_DEV_BASE + 0x0500 (13_policy_epochs.md)
  | SHP_DEV_DIRTY  -- SHP_DEV_DIRTY, SHP_DEV_BASE + 0x0508 (13_policy_epochs.md)
  | SHP_WLP_TOKENS  -- SHP_WLP_TOKENS[64], SHP_DEV_BASE + 0x0600 (13_policy_epochs.md)
  | SHP_WLP_HELD_CNT  -- SHP_WLP_HELD_CNT[64], SHP_DEV_BASE + 0x0800 (13_policy_epochs.md)
  | COL_DEV_GRP  -- COL_DEV_GRP[64], COL_DEV_BASE + 0x0000 (16_collectives.md)
  | COL_DEV_STAT  -- COL_DEV_STAT, COL_DEV_BASE + 0x0200 (16_collectives.md)
  | SYS_CHIP  -- SYS_CHIP, SYS_BASE + 0x0000 (15_system_network.md, = FLASH)
  | SYS_SHAPE0  -- SYS_SHAPE0, SYS_BASE + 0x0008 (15_system_network.md)
  | SYS_SHAPE1  -- SYS_SHAPE1, SYS_BASE + 0x0010 (15_system_network.md)
  | SYS_PORT_MAP  -- SYS_PORT_MAP[2], SYS_BASE + 0x0018 (15_system_network.md, byte n)
  | SYS_CFG  -- SYS_CFG, SYS_BASE + 0x0028 (15_system_network.md, R479)
  | SYS_STAT  -- SYS_STAT, SYS_BASE + 0x0030 (15_system_network.md)
  | SYS_FAIL_INFO  -- SYS_FAIL_INFO, SYS_BASE + 0x0038 (15_system_network.md)
  | SYS_NOROUTE_CNT  -- SYS_NOROUTE_CNT, SYS_BASE + 0x0100 (15_system_network.md)
  | SYS_FAIL_CNT  -- SYS_FAIL_CNT, SYS_BASE + 0x0108 (15_system_network.md)
  | SYS_BAD_FRAME_CNT  -- SYS_BAD_FRAME_CNT, SYS_BASE + 0x0110 (15_system_network.md)
  | SYS_PIN_OVR_CNT  -- SYS_PIN_OVR_CNT, SYS_BASE + 0x0118 (15_system_network.md)
  | SYS_DISCARD_CNT  -- SYS_DISCARD_CNT, SYS_BASE + 0x0120 (15_system_network.md)
  | SYS_ORDER_SHADOW  -- SYS_ORDER_SHADOW[2], SYS_BASE + 0x0200 (15_system_network.md, R496)
  | SYS_ORDER_ACTIVE  -- SYS_ORDER_ACTIVE[2], SYS_BASE + 0x0210 (15_system_network.md, R496)
  | SYS_PIN_SHADOW  -- SYS_PIN_SHADOW[96], SYS_BASE + 0x0400 (15_system_network.md, index 48s + 8d + w)
  | SYS_PIN_ACTIVE  -- SYS_PIN_ACTIVE[96], SYS_BASE + 0x0800 (15_system_network.md)
  | PRG_STAT  -- PRG_STAT, PRG_BASE + 0x0000 (15_system_network.md, R502)
  | PRG_CE_CNT  -- PRG_CE_CNT, PRG_BASE + 0x0008 (15_system_network.md)
  | PRG_UE_CNT  -- PRG_UE_CNT, PRG_BASE + 0x0010 (15_system_network.md)
  | PRG_IN_CNT  -- PRG_IN_CNT[16], PRG_BASE + 0x0100 (15_system_network.md)
  | PRG_OUT_CNT  -- PRG_OUT_CNT[16], PRG_BASE + 0x0180 (15_system_network.md)
  | PRG_EQ_FREE  -- PRG_EQ_FREE[128], PRG_BASE + 0x0300 (15_system_network.md, index 8n + q)
  | WLP_CFG  -- WLP_CFG[16], WLP_BASE + 0x0000 (14_wylet_ports.md)
  | WLP_CTRL  -- WLP_CTRL[16], WLP_BASE + 0x0008 (14_wylet_ports.md)
  | WLP_STAT  -- WLP_STAT[16], WLP_BASE + 0x0010 (14_wylet_ports.md)
  | WLP_EVENT  -- WLP_EVENT[16], WLP_BASE + 0x0018 (14_wylet_ports.md)
  | WLP_NONCE  -- WLP_NONCE[16], WLP_BASE + 0x0020 (14_wylet_ports.md, R443)
  | WLP_INCARN  -- WLP_INCARN[16], WLP_BASE + 0x0028 (14_wylet_ports.md, R443)
  | WLP_PARTNER_NONCE  -- WLP_PARTNER_NONCE[16], WLP_BASE + 0x0030 (14_wylet_ports.md)
  | WLP_PARTNER_ID  -- WLP_PARTNER_ID[16], WLP_BASE + 0x0038 (14_wylet_ports.md)
  | WLP_EXPECT  -- WLP_EXPECT[16], WLP_BASE + 0x0040 (14_wylet_ports.md)
  | WLP_LOSS_INFO  -- WLP_LOSS_INFO[16], WLP_BASE + 0x0048 (14_wylet_ports.md)
  | WLP_SEQ  -- WLP_SEQ[16], WLP_BASE + 0x0050 (14_wylet_ports.md)
  | WLP_REPLAY_FILL  -- WLP_REPLAY_FILL[16], WLP_BASE + 0x0058 (14_wylet_ports.md)
  | WLP_MGMT_TX  -- WLP_MGMT_TX[16], WLP_BASE + 0x0060 (14_wylet_ports.md, R452)
  | WLP_MGMT_RX  -- WLP_MGMT_RX[16], WLP_BASE + 0x0068 (14_wylet_ports.md, R753)
  | WLP_MGMT_STAT  -- WLP_MGMT_STAT[16], WLP_BASE + 0x0070 (14_wylet_ports.md)
  | WLP_LANE_CFG  -- WLP_LANE_CFG[256], WLP_BASE + 0x0100 (14_wylet_ports.md, index 16n + l)
  | WLP_LANE_STAT  -- WLP_LANE_STAT[256], WLP_BASE + 0x0180 (14_wylet_ports.md)
  | WLP_SYM_CNT  -- WLP_SYM_CNT[256], WLP_BASE + 0x0200 (14_wylet_ports.md)
  | WLP_CNT  -- WLP_CNT[288], WLP_BASE + 0x0300 (14_wylet_ports.md, index 18n + k)
  | HIF_CFG  -- HIF_CFG, HIF_BASE + 0x0000 (18_host_pcie.md)
  | HIF_STAT  -- HIF_STAT, HIF_BASE + 0x0008 (18_host_pcie.md)
  | HIF_BAR2_VBASE  -- HIF_BAR2_VBASE, HIF_BASE + 0x0010 (18_host_pcie.md)
  | HIF_ERR_INFO  -- HIF_ERR_INFO, HIF_BASE + 0x0018 (18_host_pcie.md)
  | HIF_MSIX_TRIG  -- HIF_MSIX_TRIG, HIF_BASE + 0x0020 (18_host_pcie.md, R569)
  | HIF_HWIN_DOWN_CNT  -- HIF_HWIN_DOWN_CNT, HIF_BASE + 0x0100 (18_host_pcie.md)
  | HIF_HWIN_INV_CNT  -- HIF_HWIN_INV_CNT, HIF_BASE + 0x0108 (18_host_pcie.md)
  | HIF_HWIN_ERR_CNT  -- HIF_HWIN_ERR_CNT, HIF_BASE + 0x0110 (18_host_pcie.md)
  | HIF_HWIN_TMO_CNT  -- HIF_HWIN_TMO_CNT, HIF_BASE + 0x0118 (18_host_pcie.md)
  | HIF_HWIN_PSN_CNT  -- HIF_HWIN_PSN_CNT, HIF_BASE + 0x0120 (18_host_pcie.md)
  | HIF_BAR_ERR_CNT  -- HIF_BAR_ERR_CNT, HIF_BASE + 0x0128 (18_host_pcie.md)
  | HIF_DB_CNT  -- HIF_DB_CNT, HIF_BASE + 0x0130 (18_host_pcie.md)
  | HIF_DB_ERR_CNT  -- HIF_DB_ERR_CNT, HIF_BASE + 0x0138 (18_host_pcie.md)
  | HIF_CPL_WD_CNT  -- HIF_CPL_WD_CNT, HIF_BASE + 0x0140 (18_host_pcie.md)
  | HIF_MSIX_CNT  -- HIF_MSIX_CNT, HIF_BASE + 0x0148 (18_host_pcie.md)
  | HIF_DB_MAP  -- HIF_DB_MAP[256], HIF_BASE + 0x1000 (18_host_pcie.md)
  | HIF_EVT_VEC  -- HIF_EVT_VEC[64], HIF_BASE + 0x2000 (18_host_pcie.md, reset VEC = 4k + j)
  | HIF_HWIN  -- HIF_HWIN[1024], HIF_BASE + 0x4000 (18_host_pcie.md)
  | GLV_STAT  -- GLV_STAT, GLV_BASE + 0x0000 (19_glovos_plane.md)
  | GLV_PILOT  -- GLV_PILOT, GLV_BASE + 0x0008 (19_glovos_plane.md, R579)
  | GLV_CTRL  -- GLV_CTRL, GLV_BASE + 0x0010 (19_glovos_plane.md)
  | GLV_CFG  -- GLV_CFG, GLV_BASE + 0x0018 (19_glovos_plane.md)
  | GLV_FAST  -- GLV_FAST, GLV_BASE + 0x0020 (19_glovos_plane.md, R603)
  | GLV_ALERT_SRC  -- GLV_ALERT_SRC, GLV_BASE + 0x0028 (19_glovos_plane.md, R604)
  | GLV_ALERT_EN  -- GLV_ALERT_EN, GLV_BASE + 0x0030 (19_glovos_plane.md, R604)
  | GLV_ALERT_SET  -- GLV_ALERT_SET, GLV_BASE + 0x0038 (19_glovos_plane.md)
  | GLV_GAP_LAST  -- GLV_GAP_LAST, GLV_BASE + 0x0040 (19_glovos_plane.md, R588)
  | GLV_WDOG_KICK  -- GLV_WDOG_KICK, GLV_BASE + 0x0048 (19_glovos_plane.md)
  | GLV_SRAM_CE_CNT  -- GLV_SRAM_CE_CNT, GLV_BASE + 0x0100 (19_glovos_plane.md)
  | GLV_CAN_RX_CNT  -- GLV_CAN_RX_CNT, GLV_BASE + 0x0108 (19_glovos_plane.md)
  | GLV_CAN_TX_CNT  -- GLV_CAN_TX_CNT, GLV_BASE + 0x0110 (19_glovos_plane.md)
  | GLV_CAN_DROP_CNT  -- GLV_CAN_DROP_CNT, GLV_BASE + 0x0118 (19_glovos_plane.md)
  | GLV_CAN_CLASSIC_CNT  -- GLV_CAN_CLASSIC_CNT, GLV_BASE + 0x0120 (19_glovos_plane.md)
  | GLV_CAN_REASM_ERR_CNT  -- GLV_CAN_REASM_ERR_CNT, GLV_BASE + 0x0128 (19_glovos_plane.md)
  | GLV_WAKE_CNT  -- GLV_WAKE_CNT, GLV_BASE + 0x0130 (19_glovos_plane.md)
  | GLV_MGMT_BAD_CNT  -- GLV_MGMT_BAD_CNT, GLV_BASE + 0x0138 (19_glovos_plane.md)
  | GLV_CAN_CFG  -- GLV_CAN_CFG, GLV_BASE + 0x0200 (19_glovos_plane.md, = FLASH)
  | GLV_CAN_BT  -- GLV_CAN_BT, GLV_BASE + 0x0208 (19_glovos_plane.md)
  | GLV_CAN_STAT  -- GLV_CAN_STAT, GLV_BASE + 0x0210 (19_glovos_plane.md)
  | GLV_MBX_CTRL  -- GLV_MBX_CTRL, GLV_BASE + 0x8000 (19_glovos_plane.md, R635)
  | GLV_MBX_STAT  -- GLV_MBX_STAT, GLV_BASE + 0x8008 (19_glovos_plane.md)
  | GLV_MBX_REQ  -- GLV_MBX_REQ[256], GLV_BASE + 0x9000 (19_glovos_plane.md)
  | GLV_MBX_RSP  -- GLV_MBX_RSP[256], GLV_BASE + 0xA000 (19_glovos_plane.md)
  | SPT_STAT  -- SPT_STAT, SPT_BASE + 0x0000 (19_glovos_plane.md)
  | SPT_XTRA  -- SPT_XTRA, SPT_BASE + 0x0008 (19_glovos_plane.md)
  | SPT_TXN_CNT  -- SPT_TXN_CNT, SPT_BASE + 0x0010 (19_glovos_plane.md)
  | SPT_ABORT_CNT  -- SPT_ABORT_CNT, SPT_BASE + 0x0018 (19_glovos_plane.md)
  | SPT_CMDERR_CNT  -- SPT_CMDERR_CNT, SPT_BASE + 0x0020 (19_glovos_plane.md)
  | SPT_LAST_CMD  -- SPT_LAST_CMD, SPT_BASE + 0x0028 (19_glovos_plane.md)
  | PWR_STAT  -- PWR_STAT, PWR_BASE + 0x0000 (21_power_thermal.md)
  | PWR_CAP_LATCH  -- PWR_CAP_LATCH, PWR_BASE + 0x0008 (21_power_thermal.md)
  | PWR_HOST_CAP  -- PWR_HOST_CAP, PWR_BASE + 0x0010 (21_power_thermal.md)
  | PWR_CLK_CFG  -- PWR_CLK_CFG, PWR_BASE + 0x0018 (21_power_thermal.md)
  | PWR_VMAX  -- PWR_VMAX, PWR_BASE + 0x0020 (21_power_thermal.md)
  | PWR_BRAKE_CFG  -- PWR_BRAKE_CFG, PWR_BASE + 0x0028 (21_power_thermal.md)
  | PWR_CLK_STAT  -- PWR_CLK_STAT, PWR_BASE + 0x0030 (21_power_thermal.md)
  | PWR_MEAS  -- PWR_MEAS, PWR_BASE + 0x0038 (21_power_thermal.md)
  | PWR_VIN  -- PWR_VIN, PWR_BASE + 0x0040 (21_power_thermal.md)
  | PWR_ERR_INFO  -- PWR_ERR_INFO, PWR_BASE + 0x0048 (21_power_thermal.md)
  | PWR_THERM_CFG  -- PWR_THERM_CFG, PWR_BASE + 0x0080 (21_power_thermal.md)
  | PWR_TEMP  -- PWR_TEMP[16], PWR_BASE + 0x0100 (21_power_thermal.md)
  | PWR_BRAKE_CNT  -- PWR_BRAKE_CNT, PWR_BASE + 0x0200 (21_power_thermal.md)
  | PWR_EXC_CNT  -- PWR_EXC_CNT, PWR_BASE + 0x0208 (21_power_thermal.md)
  | PWR_TRIP_CNT  -- PWR_TRIP_CNT, PWR_BASE + 0x0210 (21_power_thermal.md)
  | PWR_WARN_US  -- PWR_WARN_US, PWR_BASE + 0x0218 (21_power_thermal.md)
  | PWR_CAP_US  -- PWR_CAP_US, PWR_BASE + 0x0220 (21_power_thermal.md)
  | PWR_FSTRETCH_US  -- PWR_FSTRETCH_US, PWR_BASE + 0x0228 (21_power_thermal.md)
  | IVR_STAT  -- IVR_STAT[75], IVR_BASE + 0x0000 (21_power_thermal.md)
  | IVR_STRETCH_CNT  -- IVR_STRETCH_CNT[75], IVR_BASE + 0x0400 (21_power_thermal.md)
  | IVR_FAIL0  -- IVR_FAIL0, IVR_BASE + 0x0800 (21_power_thermal.md)
  | IVR_FAIL1  -- IVR_FAIL1, IVR_BASE + 0x0808 (21_power_thermal.md)
  | CN_DEV_STAT  -- CN_DEV_STAT, CN_DEV_BASE + 0x0000 (10_control_messages.md)
  | CN_HUB_RX_CNT  -- CN_HUB_RX_CNT, CN_DEV_BASE + 0x0008 (10_control_messages.md)
  | CN_HUB_TX_CNT  -- CN_HUB_TX_CNT, CN_DEV_BASE + 0x0010 (10_control_messages.md)
deriving DecidableEq, Repr

/-- A register: of the window of a logical tile, or of the device; with its index in an array (0 for a single one). -/
inductive RKey where
  | tile (t : Fin 512) (r : TReg) (i : Fin 65536)
  | dev (r : DReg) (i : Fin 65536)
deriving DecidableEq, Repr

end Sys2Proof.Machine
end

