-- ==== Sys2Proof/Machine/RegMap.lean ====
section
/-!
DEFINITION. Sys2Proof/Machine/RegMap.lean: where every register lies, its fields, their access codes (R7) and reset values.
Written from the register tables of chapters 02 to 23; block bases from R89 and R90.
-/
namespace Sys2Proof.Machine

/-! TILE_ID, TILE_BASE + 0x0000 (05_cluster.md, = SYS / = MAP) -/
def f_TILE_ID_CHIP_ID : Fld := ⟨47, 17, .ro, 0⟩
def f_TILE_ID_PY : Fld := ⟨24, 4, .ro, 0⟩
def f_TILE_ID_PX : Fld := ⟨16, 6, .ro, 0⟩
def f_TILE_ID_LID : Fld := ⟨0, 9, .ro, 0⟩
/-! TILE_ERR_SUM, TILE_BASE + 0x0008 (05_cluster.md, live view, R704) -/
def f_TILE_ERR_SUM_BLOCK : Fld := ⟨0, 18, .ro, 0⟩
/-! TILE_FPFLAGS, TILE_BASE + 0x0010 (05_cluster.md, R116) -/
def f_TILE_FPFLAGS_CDX : Fld := ⟨12, 4, .w1c, 0⟩
def f_TILE_FPFLAGS_RCX : Fld := ⟨8, 4, .w1c, 0⟩
def f_TILE_FPFLAGS_VXE : Fld := ⟨4, 4, .w1c, 0⟩
def f_TILE_FPFLAGS_MXE : Fld := ⟨0, 4, .w1c, 0⟩
/-! TILE_IRQ_PEND, TILE_BASE + 0x0018 (05_cluster.md, R154) -/
def f_TILE_IRQ_PEND_PEND : Fld := ⟨0, 17, .w1c, 0⟩
/-! TILE_IRQ_ROUTE[3], TILE_BASE + 0x0020 (05_cluster.md, ROUTE2 holds byte 0 only) -/
def f_TILE_IRQ_ROUTE_EN7 : Fld := ⟨63, 1, .rw, 0⟩
def f_TILE_IRQ_ROUTE_CORE7 : Fld := ⟨56, 5, .rw, 0⟩
def f_TILE_IRQ_ROUTE_EN6 : Fld := ⟨55, 1, .rw, 0⟩
def f_TILE_IRQ_ROUTE_CORE6 : Fld := ⟨48, 5, .rw, 0⟩
def f_TILE_IRQ_ROUTE_EN5 : Fld := ⟨47, 1, .rw, 0⟩
def f_TILE_IRQ_ROUTE_CORE5 : Fld := ⟨40, 5, .rw, 0⟩
def f_TILE_IRQ_ROUTE_EN4 : Fld := ⟨39, 1, .rw, 0⟩
def f_TILE_IRQ_ROUTE_CORE4 : Fld := ⟨32, 5, .rw, 0⟩
def f_TILE_IRQ_ROUTE_EN3 : Fld := ⟨31, 1, .rw, 0⟩
def f_TILE_IRQ_ROUTE_CORE3 : Fld := ⟨24, 5, .rw, 0⟩
def f_TILE_IRQ_ROUTE_EN2 : Fld := ⟨23, 1, .rw, 0⟩
def f_TILE_IRQ_ROUTE_CORE2 : Fld := ⟨16, 5, .rw, 0⟩
def f_TILE_IRQ_ROUTE_EN1 : Fld := ⟨15, 1, .rw, 0⟩
def f_TILE_IRQ_ROUTE_CORE1 : Fld := ⟨8, 5, .rw, 0⟩
def f_TILE_IRQ_ROUTE_EN0 : Fld := ⟨7, 1, .rw, 0⟩
def f_TILE_IRQ_ROUTE_CORE0 : Fld := ⟨0, 5, .rw, 0⟩
/-! TILE_CORE_CTRL, TILE_BASE + 0x0100 (05_cluster.md, R129) -/
def f_TILE_CORE_CTRL_COMM_RSV : Fld := ⟨0, 1, .w1s, 0⟩
/-! TILE_CORE_RUN, TILE_BASE + 0x0108 (05_cluster.md, R128) -/
def f_TILE_CORE_RUN_RUN : Fld := ⟨0, 24, .rw, 0⟩
/-! TILE_CORE_STAT, TILE_BASE + 0x0110 (05_cluster.md, R128, R129) -/
def f_TILE_CORE_STAT_RSV_REFUSED : Fld := ⟨48, 1, .w1c, 0⟩
def f_TILE_CORE_STAT_WFI : Fld := ⟨24, 24, .ro, 0⟩
def f_TILE_CORE_STAT_STOPPED : Fld := ⟨0, 24, .ro, 0xffffff⟩
/-! TILE_MSIP, TILE_BASE + 0x0118 (05_cluster.md) -/
def f_TILE_MSIP_MSIP : Fld := ⟨0, 24, .rw, 0⟩
/-! TILE_BOOT_PC[24], TILE_BASE + 0x0200 (05_cluster.md) -/
def f_TILE_BOOT_PC_PC : Fld := ⟨2, 62, .rw, 0⟩
/-! TILE_MTIMECMP[24], TILE_BASE + 0x0300 (05_cluster.md, R126) -/
def f_TILE_MTIMECMP_CMP : Fld := ⟨0, 64, .rw, 0xffffffffffffffff⟩
/-! TILE_VLT_STAT, TILE_BASE + 0x0400 (05_cluster.md, 03) -/
def f_TILE_VLT_STAT_CE_SEEN : Fld := ⟨4, 1, .w1c, 0⟩
def f_TILE_VLT_STAT_UE_SEEN : Fld := ⟨3, 1, .w1c, 0⟩
def f_TILE_VLT_STAT_NWR_SEEN : Fld := ⟨2, 1, .w1c, 0⟩
def f_TILE_VLT_STAT_SELF_REFRESH : Fld := ⟨1, 1, .ro, 0⟩
def f_TILE_VLT_STAT_SCRUB_DONE : Fld := ⟨0, 1, .ro, 0⟩
/-! TILE_VLT_CE_CNT, TILE_BASE + 0x0408 (05_cluster.md, 03) -/
def f_TILE_VLT_CE_CNT_COUNT : Fld := ⟨0, 48, .rw, 0⟩
/-! TILE_VLT_UE_CNT, TILE_BASE + 0x0410 (05_cluster.md, 03) -/
def f_TILE_VLT_UE_CNT_COUNT : Fld := ⟨0, 48, .rw, 0⟩
/-! TILE_VLT_NWR_CNT, TILE_BASE + 0x0418 (05_cluster.md, 03) -/
def f_TILE_VLT_NWR_CNT_COUNT : Fld := ⟨0, 48, .rw, 0⟩
/-! TILE_VLT_NWR_ADDR, TILE_BASE + 0x0420 (05_cluster.md, 03) -/
def f_TILE_VLT_NWR_ADDR_VALID : Fld := ⟨63, 1, .ro, 0⟩
def f_TILE_VLT_NWR_ADDR_LINE : Fld := ⟨6, 41, .ro, 0⟩
/-! TILE_VLT_UE_ADDR, TILE_BASE + 0x0428 (05_cluster.md, 03) -/
def f_TILE_VLT_UE_ADDR_VALID : Fld := ⟨63, 1, .ro, 0⟩
def f_TILE_VLT_UE_ADDR_LINE : Fld := ⟨6, 41, .ro, 0⟩
/-! TILE_VLT_PATROL, TILE_BASE + 0x0430 (05_cluster.md, R86) -/
def f_TILE_VLT_PATROL_PASSES : Fld := ⟨32, 32, .ro, 0⟩
def f_TILE_VLT_PATROL_NEXT_LINE : Fld := ⟨0, 22, .ro, 0⟩
/-! TILE_PWR_CTRL, TILE_BASE + 0x0600 (05_cluster.md, R156, R157) -/
def f_TILE_PWR_CTRL_DOZE_IDLE : Fld := ⟨8, 8, .rw, 16⟩
def f_TILE_PWR_CTRL_WAKE : Fld := ⟨2, 1, .wo, 0⟩
def f_TILE_PWR_CTRL_SLEEP : Fld := ⟨1, 1, .wo, 0⟩
def f_TILE_PWR_CTRL_DOZE_EN : Fld := ⟨0, 1, .rw, 1⟩
/-! TILE_PWR_STAT, TILE_BASE + 0x0608 (05_cluster.md, R156, R157) -/
def f_TILE_PWR_STAT_WAKES : Fld := ⟨16, 32, .ro, 0⟩
def f_TILE_PWR_STAT_SLEEP_REFUSED : Fld := ⟨2, 1, .w1c, 0⟩
def f_TILE_PWR_STAT_STATE : Fld := ⟨0, 2, .ro, 0⟩
/-! Q_DESC[22], each queue block + 0x0000 (05_cluster.md, R159) -/
def f_Q_DESC_LOG2_SIZE : Fld := ⟨28, 4, .rw, 4⟩
def f_Q_DESC_BASE : Fld := ⟨6, 17, .rw, 0⟩
def f_Q_DESC_ENABLE : Fld := ⟨0, 1, .rw, 0⟩
/-! Q_CPL[22], each queue block + 0x0008 (05_cluster.md, R159) -/
def f_Q_CPL_BASE : Fld := ⟨6, 17, .rw, 0⟩
/-! Q_PI[22], each queue block + 0x0010 (05_cluster.md, R134) -/
def f_Q_PI_PI : Fld := ⟨0, 16, .rw, 0⟩
/-! Q_CI[22], each queue block + 0x0018 (05_cluster.md) -/
def f_Q_CI_CI : Fld := ⟨0, 16, .ro, 0⟩
/-! Q_CQ_PI[22], each queue block + 0x0020 (05_cluster.md) -/
def f_Q_CQ_PI_CQ_PI : Fld := ⟨0, 16, .ro, 0⟩
/-! Q_CQ_CI[22], each queue block + 0x0028 (05_cluster.md, R136) -/
def f_Q_CQ_CI_CQ_CI : Fld := ⟨0, 16, .rw, 0⟩
/-! Q_CTRL[22], each queue block + 0x0030 (05_cluster.md, R139) -/
def f_Q_CTRL_ERR_IRQ : Fld := ⟨1, 1, .rw, 0⟩
def f_Q_CTRL_ABORT : Fld := ⟨0, 1, .wo, 0⟩
/-! Q_STAT[22], each queue block + 0x0038 (05_cluster.md, R134, R159) -/
def f_Q_STAT_ABORTING : Fld := ⟨3, 1, .ro, 0⟩
def f_Q_STAT_CFG_ERR : Fld := ⟨2, 1, .w1c, 0⟩
def f_Q_STAT_QERR : Fld := ⟨1, 1, .w1c, 0⟩
def f_Q_STAT_BUSY : Fld := ⟨0, 1, .ro, 0⟩
/-! Q_DONE_CNT[22], each queue block + 0x0040 (05_cluster.md) -/
def f_Q_DONE_CNT_COUNT : Fld := ⟨0, 48, .rw, 0⟩
/-! Q_ERR_CNT[22], each queue block + 0x0048 (05_cluster.md) -/
def f_Q_ERR_CNT_COUNT : Fld := ⟨0, 48, .rw, 0⟩
/-! TILE_MXE_GATE_WAIT, TILE_BASE + 0x0D00 (05_cluster.md, 05) -/
def f_TILE_MXE_GATE_WAIT_COUNT : Fld := ⟨0, 48, .rw, 0⟩
/-! TILE_MXE_RA_READ, TILE_BASE + 0x0D08 (05_cluster.md, 05) -/
def f_TILE_MXE_RA_READ_COUNT : Fld := ⟨0, 48, .rw, 0⟩
/-! TILE_MXE_RA_CANCEL, TILE_BASE + 0x0D10 (05_cluster.md, 05) -/
def f_TILE_MXE_RA_CANCEL_COUNT : Fld := ⟨0, 48, .rw, 0⟩
/-! CM_STAT, CM_BASE + 0x0000 (03_address_memory.md, R83) -/
def f_CM_STAT_UE_SEEN : Fld := ⟨2, 1, .w1c, 0⟩
def f_CM_STAT_CE_SEEN : Fld := ⟨1, 1, .w1c, 0⟩
def f_CM_STAT_SCRUB_DONE : Fld := ⟨0, 1, .ro, 0⟩
/-! CM_CE_CNT, CM_BASE + 0x0008 (03_address_memory.md) -/
def f_CM_CE_CNT_COUNT : Fld := ⟨0, 48, .rw, 0⟩
/-! CM_UE_CNT, CM_BASE + 0x0010 (03_address_memory.md) -/
def f_CM_UE_CNT_COUNT : Fld := ⟨0, 48, .rw, 0⟩
/-! CM_UE_ADDR, CM_BASE + 0x0018 (03_address_memory.md) -/
def f_CM_UE_ADDR_VALID : Fld := ⟨63, 1, .ro, 0⟩
def f_CM_UE_ADDR_LINE : Fld := ⟨6, 17, .ro, 0⟩
/-! NIU_CFG, NIU_BASE + 0x0000 (06_bulk_network.md) -/
def f_NIU_CFG_DMV3_RMODE : Fld := ⟨46, 2, .rw, 0⟩
def f_NIU_CFG_DMV2_RMODE : Fld := ⟨44, 2, .rw, 0⟩
def f_NIU_CFG_DMV1_RMODE : Fld := ⟨42, 2, .rw, 0⟩
def f_NIU_CFG_DMV0_RMODE : Fld := ⟨40, 2, .rw, 0⟩
def f_NIU_CFG_DMV3_TC : Fld := ⟨38, 2, .rw, 0⟩
def f_NIU_CFG_DMV2_TC : Fld := ⟨36, 2, .rw, 0⟩
def f_NIU_CFG_DMV1_TC : Fld := ⟨34, 2, .rw, 0⟩
def f_NIU_CFG_DMV0_TC : Fld := ⟨32, 2, .rw, 0⟩
def f_NIU_CFG_CORE_RMODE : Fld := ⟨4, 2, .rw, 0⟩
def f_NIU_CFG_CORE_TC : Fld := ⟨0, 2, .rw, 1⟩
/-! NIU_STAT, NIU_BASE + 0x0008 (06_bulk_network.md, R189) -/
def f_NIU_STAT_POISON_RX : Fld := ⟨1, 1, .w1c, 0⟩
def f_NIU_STAT_BAD_OP : Fld := ⟨0, 1, .w1c, 0⟩
/-! NIU_IRQ_STAT, NIU_BASE + 0x0010 (06_bulk_network.md) -/
def f_NIU_IRQ_STAT_NQ : Fld := ⟨0, 4, .w1c, 0⟩
/-! NIU_OUTST, NIU_BASE + 0x0018 (06_bulk_network.md) -/
def f_NIU_OUTST_TAGS : Fld := ⟨0, 11, .ro, 0⟩
/-! NIU_TX_A_BYTES, NIU_BASE + 0x0400 (06_bulk_network.md) -/
def f_NIU_TX_A_BYTES_COUNT : Fld := ⟨0, 48, .rw, 0⟩
/-! NIU_TX_B_BYTES, NIU_BASE + 0x0408 (06_bulk_network.md) -/
def f_NIU_TX_B_BYTES_COUNT : Fld := ⟨0, 48, .rw, 0⟩
/-! NIU_RX_A_BYTES, NIU_BASE + 0x0410 (06_bulk_network.md) -/
def f_NIU_RX_A_BYTES_COUNT : Fld := ⟨0, 48, .rw, 0⟩
/-! NIU_RX_B_BYTES, NIU_BASE + 0x0418 (06_bulk_network.md) -/
def f_NIU_RX_B_BYTES_COUNT : Fld := ⟨0, 48, .rw, 0⟩
/-! NIU_BAD_OP_CNT, NIU_BASE + 0x0420 (06_bulk_network.md) -/
def f_NIU_BAD_OP_CNT_COUNT : Fld := ⟨0, 48, .rw, 0⟩
/-! BN_TILE_STAT, BN_BASE + 0x0000 (06_bulk_network.md, R201) -/
def f_BN_TILE_STAT_HDR_UE : Fld := ⟨2, 1, .w1c, 0⟩
def f_BN_TILE_STAT_LINK_UE : Fld := ⟨1, 1, .w1c, 0⟩
def f_BN_TILE_STAT_LINK_CE : Fld := ⟨0, 1, .w1c, 0⟩
/-! BN_LINK_CE_CNT, BN_BASE + 0x0008 (06_bulk_network.md) -/
def f_BN_LINK_CE_CNT_COUNT : Fld := ⟨0, 48, .rw, 0⟩
/-! BN_LINK_UE_CNT, BN_BASE + 0x0010 (06_bulk_network.md) -/
def f_BN_LINK_UE_CNT_COUNT : Fld := ⟨0, 48, .rw, 0⟩
/-! BN_PIN_OVR_A, BN_BASE + 0x0018 (06_bulk_network.md, R182) -/
def f_BN_PIN_OVR_A_COUNT : Fld := ⟨0, 48, .rw, 0⟩
/-! BN_PIN_OVR_B, BN_BASE + 0x0020 (06_bulk_network.md, R182) -/
def f_BN_PIN_OVR_B_COUNT : Fld := ⟨0, 48, .rw, 0⟩
/-! BN_FLIT_CNT[10], BN_BASE + 0x0100 (06_bulk_network.md, index 5p + o) -/
def f_BN_FLIT_CNT_COUNT : Fld := ⟨0, 48, .rw, 0⟩
/-! BN_PIN_SHADOW[128], BN_BASE + 0x0800 (06_bulk_network.md, R202, index 32(2p + set) + word) -/
def f_BN_PIN_SHADOW_ENTRIES : Fld := ⟨0, 64, .rw, 0xffffffffffffffff⟩
/-! BN_PIN_ACTIVE[128], BN_BASE + 0x0C00 (06_bulk_network.md, R202) -/
def f_BN_PIN_ACTIVE_ENTRIES : Fld := ⟨0, 64, .ro, 0xffffffffffffffff⟩
/-! RED_CFG, RED_BASE + 0x0000 (07_reduction.md) -/
def f_RED_CFG_DONE_CLR : Fld := ⟨16, 1, .wo, 0⟩
def f_RED_CFG_ORD_TMO : Fld := ⟨8, 8, .rw, 16⟩
def f_RED_CFG_SEEN_IRQ : Fld := ⟨1, 1, .rw, 0⟩
def f_RED_CFG_COMBINE_EN : Fld := ⟨0, 1, .rw, 1⟩
/-! RED_STATUS, RED_BASE + 0x0008 (07_reduction.md) -/
def f_RED_STATUS_CTX_ARMED : Fld := ⟨48, 16, .ro, 0⟩
def f_RED_STATUS_SLOTS_HELD : Fld := ⟨44, 4, .ro, 0⟩
def f_RED_STATUS_SLOTS_SPEC : Fld := ⟨40, 4, .ro, 0⟩
def f_RED_STATUS_NIU_SPEC : Fld := ⟨32, 8, .ro, 0⟩
def f_RED_STATUS_NAK_SEEN : Fld := ⟨7, 1, .w1c, 0⟩
def f_RED_STATUS_ORD_BROKEN : Fld := ⟨6, 1, .w1c, 0⟩
def f_RED_STATUS_RES_ERR : Fld := ⟨5, 1, .w1c, 0⟩
def f_RED_STATUS_OVER_SEEN : Fld := ⟨4, 1, .w1c, 0⟩
def f_RED_STATUS_MISMATCH_SEEN : Fld := ⟨3, 1, .w1c, 0⟩
def f_RED_STATUS_NOARM_SEEN : Fld := ⟨2, 1, .w1c, 0⟩
def f_RED_STATUS_LATE_SEEN : Fld := ⟨1, 1, .w1c, 0⟩
/-! RED_BAD_INFO, RED_BASE + 0x0010 (07_reduction.md) -/
def f_RED_BAD_INFO_VALID : Fld := ⟨63, 1, .ro, 0⟩
def f_RED_BAD_INFO_REASON : Fld := ⟨60, 3, .ro, 0⟩
def f_RED_BAD_INFO_STATUS : Fld := ⟨52, 8, .ro, 0⟩
def f_RED_BAD_INFO_RID : Fld := ⟨40, 12, .ro, 0⟩
def f_RED_BAD_INFO_GEN : Fld := ⟨39, 1, .ro, 0⟩
def f_RED_BAD_INFO_SEG : Fld := ⟨29, 10, .ro, 0⟩
def f_RED_BAD_INFO_NCONTRIB : Fld := ⟨19, 10, .ro, 0⟩
def f_RED_BAD_INFO_TILE : Fld := ⟨0, 9, .ro, 0⟩
/-! RED_NAK_INFO, RED_BASE + 0x0018 (07_reduction.md) -/
def f_RED_NAK_INFO_VALID : Fld := ⟨63, 1, .ro, 0⟩
def f_RED_NAK_INFO_REASON : Fld := ⟨60, 3, .ro, 0⟩
def f_RED_NAK_INFO_STATUS : Fld := ⟨52, 8, .ro, 0⟩
def f_RED_NAK_INFO_RID : Fld := ⟨40, 12, .ro, 0⟩
def f_RED_NAK_INFO_GEN : Fld := ⟨39, 1, .ro, 0⟩
def f_RED_NAK_INFO_SEG : Fld := ⟨29, 10, .ro, 0⟩
def f_RED_NAK_INFO_NCONTRIB : Fld := ⟨19, 10, .ro, 0⟩
def f_RED_NAK_INFO_TILE : Fld := ⟨0, 9, .ro, 0⟩
/-! RED_CTX[16], RED_BASE + 0x0200 (07_reduction.md) -/
def f_RED_CTX_VALID : Fld := ⟨63, 1, .ro, 0⟩
def f_RED_CTX_ORD : Fld := ⟨62, 1, .ro, 0⟩
def f_RED_CTX_GEN : Fld := ⟨61, 1, .ro, 0⟩
def f_RED_CTX_KIND : Fld := ⟨60, 1, .ro, 0⟩
def f_RED_CTX_RID : Fld := ⟨48, 12, .ro, 0⟩
def f_RED_CTX_SEGS_DONE : Fld := ⟨32, 11, .ro, 0⟩
def f_RED_CTX_TAG : Fld := ⟨0, 16, .ro, 0⟩
/-! RED_COMBINE_CNT, RED_BASE + 0x0300 (07_reduction.md) -/
def f_RED_COMBINE_CNT_COUNT : Fld := ⟨0, 48, .rw, 0⟩
/-! RED_HOLD_EXP_CNT, RED_BASE + 0x0308 (07_reduction.md) -/
def f_RED_HOLD_EXP_CNT_COUNT : Fld := ⟨0, 48, .rw, 0⟩
/-! RED_SLOT_FULL_CNT, RED_BASE + 0x0310 (07_reduction.md) -/
def f_RED_SLOT_FULL_CNT_COUNT : Fld := ⟨0, 48, .rw, 0⟩
/-! RED_SLOT_RSV_CNT, RED_BASE + 0x0318 (07_reduction.md) -/
def f_RED_SLOT_RSV_CNT_COUNT : Fld := ⟨0, 48, .rw, 0⟩
/-! RED_SLOT_CANCEL_CNT, RED_BASE + 0x0320 (07_reduction.md) -/
def f_RED_SLOT_CANCEL_CNT_COUNT : Fld := ⟨0, 48, .rw, 0⟩
/-! RED_NIU_SPEC_CNT, RED_BASE + 0x0328 (07_reduction.md) -/
def f_RED_NIU_SPEC_CNT_COUNT : Fld := ⟨0, 48, .rw, 0⟩
/-! RED_NIU_CANCEL_CNT, RED_BASE + 0x0330 (07_reduction.md) -/
def f_RED_NIU_CANCEL_CNT_COUNT : Fld := ⟨0, 48, .rw, 0⟩
/-! RED_LATE_CNT, RED_BASE + 0x0338 (07_reduction.md) -/
def f_RED_LATE_CNT_COUNT : Fld := ⟨0, 48, .rw, 0⟩
/-! RED_NOARM_CNT, RED_BASE + 0x0340 (07_reduction.md) -/
def f_RED_NOARM_CNT_COUNT : Fld := ⟨0, 48, .rw, 0⟩
/-! RED_MISMATCH_CNT, RED_BASE + 0x0348 (07_reduction.md) -/
def f_RED_MISMATCH_CNT_COUNT : Fld := ⟨0, 48, .rw, 0⟩
/-! RED_OVER_CNT, RED_BASE + 0x0350 (07_reduction.md) -/
def f_RED_OVER_CNT_COUNT : Fld := ⟨0, 48, .rw, 0⟩
/-! RED_RES_RETRY_CNT, RED_BASE + 0x0358 (07_reduction.md) -/
def f_RED_RES_RETRY_CNT_COUNT : Fld := ⟨0, 48, .rw, 0⟩
/-! RED_RES_ERR_CNT, RED_BASE + 0x0360 (07_reduction.md) -/
def f_RED_RES_ERR_CNT_COUNT : Fld := ⟨0, 48, .rw, 0⟩
/-! RED_ORD_BRK_CNT, RED_BASE + 0x0368 (07_reduction.md) -/
def f_RED_ORD_BRK_CNT_COUNT : Fld := ⟨0, 48, .rw, 0⟩
/-! RED_NAK_CNT, RED_BASE + 0x0370 (07_reduction.md) -/
def f_RED_NAK_CNT_COUNT : Fld := ⟨0, 48, .rw, 0⟩
/-! RED_OTREE_SHADOW[2], RED_BASE + 0x0400 (07_reduction.md) -/
def f_RED_OTREE_SHADOW_MASK7 : Fld := ⟨56, 5, .rw, 0⟩
def f_RED_OTREE_SHADOW_MASK6 : Fld := ⟨48, 5, .rw, 0⟩
def f_RED_OTREE_SHADOW_MASK5 : Fld := ⟨40, 5, .rw, 0⟩
def f_RED_OTREE_SHADOW_MASK4 : Fld := ⟨32, 5, .rw, 0⟩
def f_RED_OTREE_SHADOW_MASK3 : Fld := ⟨24, 5, .rw, 0⟩
def f_RED_OTREE_SHADOW_MASK2 : Fld := ⟨16, 5, .rw, 0⟩
def f_RED_OTREE_SHADOW_MASK1 : Fld := ⟨8, 5, .rw, 0⟩
def f_RED_OTREE_SHADOW_MASK0 : Fld := ⟨0, 5, .rw, 0⟩
/-! RED_OTREE_ACTIVE[2], RED_BASE + 0x0440 (07_reduction.md) -/
def f_RED_OTREE_ACTIVE_MASK7 : Fld := ⟨56, 5, .ro, 0⟩
def f_RED_OTREE_ACTIVE_MASK6 : Fld := ⟨48, 5, .ro, 0⟩
def f_RED_OTREE_ACTIVE_MASK5 : Fld := ⟨40, 5, .ro, 0⟩
def f_RED_OTREE_ACTIVE_MASK4 : Fld := ⟨32, 5, .ro, 0⟩
def f_RED_OTREE_ACTIVE_MASK3 : Fld := ⟨24, 5, .ro, 0⟩
def f_RED_OTREE_ACTIVE_MASK2 : Fld := ⟨16, 5, .ro, 0⟩
def f_RED_OTREE_ACTIVE_MASK1 : Fld := ⟨8, 5, .ro, 0⟩
def f_RED_OTREE_ACTIVE_MASK0 : Fld := ⟨0, 5, .ro, 0⟩
/-! RED_DONE[128], RED_BASE + 0x0800 (07_reduction.md, bit 2j DONE_VALID, 2j + 1 DONE_GEN) -/
def f_RED_DONE_BITS : Fld := ⟨0, 64, .ro, 0⟩
/-! CDX_STAT, CDX_BASE + 0x0000 (08_compression.md) -/
def f_CDX_STAT_SLOT_VALID : Fld := ⟨16, 16, .ro, 0⟩
def f_CDX_STAT_CRC_SEEN : Fld := ⟨3, 1, .w1c, 0⟩
def f_CDX_STAT_DEC_SEEN : Fld := ⟨2, 1, .w1c, 0⟩
def f_CDX_STAT_TBL_SEEN : Fld := ⟨1, 1, .w1c, 0⟩
def f_CDX_STAT_HDR_SEEN : Fld := ⟨0, 1, .w1c, 0⟩
/-! CDX_BAD_INFO, CDX_BASE + 0x0008 (08_compression.md) -/
def f_CDX_BAD_INFO_VALID : Fld := ⟨63, 1, .ro, 0⟩
def f_CDX_BAD_INFO_REASON : Fld := ⟨60, 3, .ro, 0⟩
def f_CDX_BAD_INFO_SCHIP : Fld := ⟨43, 17, .ro, 0⟩
def f_CDX_BAD_INFO_STILE : Fld := ⟨34, 9, .ro, 0⟩
def f_CDX_BAD_INFO_TABLE_ID : Fld := ⟨18, 16, .ro, 0⟩
/-! CDX_SLOT[16], CDX_BASE + 0x0100 (08_compression.md) -/
def f_CDX_SLOT_VALID : Fld := ⟨63, 1, .ro, 0⟩
def f_CDX_SLOT_UNIT : Fld := ⟨52, 4, .ro, 0⟩
def f_CDX_SLOT_NPLANES : Fld := ⟨48, 4, .ro, 0⟩
def f_CDX_SLOT_TABLE_ID : Fld := ⟨32, 16, .ro, 0⟩
def f_CDX_SLOT_CHECKSUM : Fld := ⟨0, 32, .ro, 0⟩
/-! CDX_ENC_IN_BYTES, CDX_BASE + 0x0200 (08_compression.md) -/
def f_CDX_ENC_IN_BYTES_COUNT : Fld := ⟨0, 48, .rw, 0⟩
/-! CDX_ENC_OUT_BYTES, CDX_BASE + 0x0208 (08_compression.md) -/
def f_CDX_ENC_OUT_BYTES_COUNT : Fld := ⟨0, 48, .rw, 0⟩
/-! CDX_DEC_IN_BYTES, CDX_BASE + 0x0210 (08_compression.md) -/
def f_CDX_DEC_IN_BYTES_COUNT : Fld := ⟨0, 48, .rw, 0⟩
/-! CDX_DEC_OUT_BYTES, CDX_BASE + 0x0218 (08_compression.md) -/
def f_CDX_DEC_OUT_BYTES_COUNT : Fld := ⟨0, 48, .rw, 0⟩
/-! CDX_PLAIN_CNT, CDX_BASE + 0x0220 (08_compression.md) -/
def f_CDX_PLAIN_CNT_COUNT : Fld := ⟨0, 48, .rw, 0⟩
/-! CDX_RAW_PLANE_CNT, CDX_BASE + 0x0228 (08_compression.md) -/
def f_CDX_RAW_PLANE_CNT_COUNT : Fld := ⟨0, 48, .rw, 0⟩
/-! CDX_HDR_ERR_CNT, CDX_BASE + 0x0230 (08_compression.md) -/
def f_CDX_HDR_ERR_CNT_COUNT : Fld := ⟨0, 48, .rw, 0⟩
/-! CDX_TBL_ERR_CNT, CDX_BASE + 0x0238 (08_compression.md) -/
def f_CDX_TBL_ERR_CNT_COUNT : Fld := ⟨0, 48, .rw, 0⟩
/-! CDX_DEC_ERR_CNT, CDX_BASE + 0x0240 (08_compression.md) -/
def f_CDX_DEC_ERR_CNT_COUNT : Fld := ⟨0, 48, .rw, 0⟩
/-! CDX_CRC_ERR_CNT, CDX_BASE + 0x0248 (08_compression.md) -/
def f_CDX_CRC_ERR_CNT_COUNT : Fld := ⟨0, 48, .rw, 0⟩
/-! BCN_TAP_ENT[4], BCN_BASE + 0x0000 (09_beacon_taper.md, R300) -/
def f_BCN_TAP_ENT_EN : Fld := ⟨15, 1, .rw, 0⟩
def f_BCN_TAP_ENT_BUS : Fld := ⟨14, 1, .rw, 0⟩
def f_BCN_TAP_ENT_CHANNEL : Fld := ⟨8, 6, .rw, 0⟩
def f_BCN_TAP_ENT_FLAG_EN : Fld := ⟨7, 1, .rw, 0⟩
def f_BCN_TAP_ENT_WIN_LOG2 : Fld := ⟨0, 5, .rw, 12⟩
/-! BCN_TAP_LAND[4], BCN_BASE + 0x0008 (09_beacon_taper.md, R300) -/
def f_BCN_TAP_LAND_FLAG_OFF : Fld := ⟨32, 23, .rw, 0⟩
def f_BCN_TAP_LAND_WIN_BASE : Fld := ⟨0, 23, .rw, 0⟩
/-! BCN_STAT, BCN_BASE + 0x0040 (09_beacon_taper.md) -/
def f_BCN_STAT_SB_ERR : Fld := ⟨3, 1, .w1c, 0⟩
def f_BCN_STAT_UE : Fld := ⟨2, 1, .w1c, 0⟩
def f_BCN_STAT_CE : Fld := ⟨1, 1, .w1c, 0⟩
def f_BCN_STAT_CFG_ERR : Fld := ⟨0, 1, .w1c, 0⟩
/-! BCN_RX_BYTES, BCN_BASE + 0x0100 (09_beacon_taper.md) -/
def f_BCN_RX_BYTES_COUNT : Fld := ⟨0, 48, .rw, 0⟩
/-! BCN_XFER_CNT, BCN_BASE + 0x0108 (09_beacon_taper.md) -/
def f_BCN_XFER_CNT_COUNT : Fld := ⟨0, 48, .rw, 0⟩
/-! BCN_STOP_CNT, BCN_BASE + 0x0110 (09_beacon_taper.md) -/
def f_BCN_STOP_CNT_COUNT : Fld := ⟨0, 48, .rw, 0⟩
/-! BCN_CE_CNT, BCN_BASE + 0x0118 (09_beacon_taper.md) -/
def f_BCN_CE_CNT_COUNT : Fld := ⟨0, 48, .rw, 0⟩
/-! BCN_UE_CNT, BCN_BASE + 0x0120 (09_beacon_taper.md) -/
def f_BCN_UE_CNT_COUNT : Fld := ⟨0, 48, .rw, 0⟩
/-! TPR_CFG, TPR_BASE + 0x0000 (09_beacon_taper.md, R301) -/
def f_TPR_CFG_EN : Fld := ⟨31, 1, .rw, 0⟩
def f_TPR_CFG_LAND : Fld := ⟨30, 1, .rw, 0⟩
def f_TPR_CFG_HEAD_CH : Fld := ⟨28, 2, .rw, 0⟩
def f_TPR_CFG_IN : Fld := ⟨26, 2, .rw, 0⟩
def f_TPR_CFG_OUT : Fld := ⟨24, 2, .rw, 0⟩
def f_TPR_CFG_LEN : Fld := ⟨16, 7, .rw, 1⟩
def f_TPR_CFG_POS : Fld := ⟨8, 6, .rw, 0⟩
/-! TPR_RING, TPR_BASE + 0x0008 (09_beacon_taper.md, R301) -/
def f_TPR_RING_BASE : Fld := ⟨12, 11, .rw, 0⟩
def f_TPR_RING_LOG2 : Fld := ⟨0, 5, .rw, 0⟩
/-! TPR_WP, TPR_BASE + 0x0010 (09_beacon_taper.md) -/
def f_TPR_WP_WP : Fld := ⟨0, 32, .ro, 0⟩
/-! TPR_RP, TPR_BASE + 0x0018 (09_beacon_taper.md, R297) -/
def f_TPR_RP_RP : Fld := ⟨0, 32, .rw, 0⟩
/-! TPR_FLAG_CFG, TPR_BASE + 0x0020 (09_beacon_taper.md) -/
def f_TPR_FLAG_CFG_FLAG_OFF : Fld := ⟨32, 23, .rw, 0⟩
def f_TPR_FLAG_CFG_PIECE_LOG2 : Fld := ⟨21, 5, .rw, 0⟩
def f_TPR_FLAG_CFG_NFLAGM1 : Fld := ⟨0, 8, .rw, 0⟩
/-! TPR_FLAG_BASE, TPR_BASE + 0x0028 (09_beacon_taper.md) -/
def f_TPR_FLAG_BASE_FBASE : Fld := ⟨0, 32, .rw, 0⟩
/-! TPR_STAT, TPR_BASE + 0x0030 (09_beacon_taper.md) -/
def f_TPR_STAT_BROKEN : Fld := ⟨5, 1, .ro, 0⟩
def f_TPR_STAT_READY : Fld := ⟨4, 1, .ro, 0⟩
def f_TPR_STAT_SKIPPED : Fld := ⟨3, 1, .w1c, 0⟩
def f_TPR_STAT_RP_ERR : Fld := ⟨2, 1, .w1c, 0⟩
def f_TPR_STAT_CHAIN_ERR : Fld := ⟨1, 1, .w1c, 0⟩
def f_TPR_STAT_CFG_ERR : Fld := ⟨0, 1, .w1c, 0⟩
/-! TPR_IN_BYTES, TPR_BASE + 0x0100 (09_beacon_taper.md) -/
def f_TPR_IN_BYTES_COUNT : Fld := ⟨0, 48, .rw, 0⟩
/-! TPR_STALL_CNT, TPR_BASE + 0x0108 (09_beacon_taper.md) -/
def f_TPR_STALL_CNT_COUNT : Fld := ⟨0, 48, .rw, 0⟩
/-! TPR_SKIP_CNT, TPR_BASE + 0x0110 (09_beacon_taper.md) -/
def f_TPR_SKIP_CNT_COUNT : Fld := ⟨0, 48, .rw, 0⟩
/-! CN_TILE_STAT, CN_BASE + 0x0000 (10_control_messages.md, R337) -/
def f_CN_TILE_STAT_BAD_OP : Fld := ⟨3, 1, .w1c, 0⟩
def f_CN_TILE_STAT_HDR_UE : Fld := ⟨2, 1, .w1c, 0⟩
def f_CN_TILE_STAT_LINK_UE : Fld := ⟨1, 1, .w1c, 0⟩
def f_CN_TILE_STAT_LINK_CE : Fld := ⟨0, 1, .w1c, 0⟩
/-! CN_LINK_CE_CNT, CN_BASE + 0x0008 (10_control_messages.md) -/
def f_CN_LINK_CE_CNT_COUNT : Fld := ⟨0, 48, .rw, 0⟩
/-! CN_LINK_UE_CNT, CN_BASE + 0x0010 (10_control_messages.md) -/
def f_CN_LINK_UE_CNT_COUNT : Fld := ⟨0, 48, .rw, 0⟩
/-! CN_BAD_OP_CNT, CN_BASE + 0x0018 (10_control_messages.md) -/
def f_CN_BAD_OP_CNT_COUNT : Fld := ⟨0, 48, .rw, 0⟩
/-! CN_FLIT_CNT[5], CN_BASE + 0x0100 (10_control_messages.md) -/
def f_CN_FLIT_CNT_COUNT : Fld := ⟨0, 48, .rw, 0⟩
/-! AMQ_CFG, AMQ_BASE + 0x0000 (10_control_messages.md) -/
def f_AMQ_CFG_SWORD_BASE : Fld := ⟨3, 20, .rw, 0⟩
def f_AMQ_CFG_SWORD_EN : Fld := ⟨0, 1, .rw, 0⟩
/-! AMQ_STAT, AMQ_BASE + 0x0008 (10_control_messages.md) -/
def f_AMQ_STAT_NAK_SEEN : Fld := ⟨4, 1, .w1c, 0⟩
def f_AMQ_STAT_DISCARD_SEEN : Fld := ⟨3, 1, .w1c, 0⟩
def f_AMQ_STAT_OVERRUN : Fld := ⟨2, 1, .w1c, 0⟩
def f_AMQ_STAT_CTL_ERR : Fld := ⟨1, 1, .w1c, 0⟩
def f_AMQ_STAT_CFG_ERR : Fld := ⟨0, 1, .w1c, 0⟩
/-! AMQ_CTL_CMD, AMQ_BASE + 0x0010 (10_control_messages.md) -/
def f_AMQ_CTL_CMD_PEER_CHAN : Fld := ⟨16, 6, .wo, 0⟩
def f_AMQ_CTL_CMD_CMD : Fld := ⟨8, 2, .wo, 0⟩
def f_AMQ_CTL_CMD_INDEX : Fld := ⟨0, 6, .wo, 0⟩
/-! AMQ_BAD_INFO, AMQ_BASE + 0x0018 (10_control_messages.md) -/
def f_AMQ_BAD_INFO_VALID : Fld := ⟨63, 1, .ro, 0⟩
def f_AMQ_BAD_INFO_REASON : Fld := ⟨60, 3, .ro, 0⟩
def f_AMQ_BAD_INFO_STILE : Fld := ⟨51, 9, .ro, 0⟩
def f_AMQ_BAD_INFO_CHAN : Fld := ⟨45, 6, .ro, 0⟩
def f_AMQ_BAD_INFO_HANDLER : Fld := ⟨37, 8, .ro, 0⟩
def f_AMQ_BAD_INFO_LOFF : Fld := ⟨0, 16, .ro, 0⟩
/-! AMQ_TX_CNT, AMQ_BASE + 0x0040 (10_control_messages.md) -/
def f_AMQ_TX_CNT_COUNT : Fld := ⟨0, 48, .rw, 0⟩
/-! AMQ_RX_CNT, AMQ_BASE + 0x0048 (10_control_messages.md) -/
def f_AMQ_RX_CNT_COUNT : Fld := ⟨0, 48, .rw, 0⟩
/-! AMQ_DISCARD_CNT, AMQ_BASE + 0x0050 (10_control_messages.md) -/
def f_AMQ_DISCARD_CNT_COUNT : Fld := ⟨0, 48, .rw, 0⟩
/-! AMQ_NAK_CNT, AMQ_BASE + 0x0058 (10_control_messages.md) -/
def f_AMQ_NAK_CNT_COUNT : Fld := ⟨0, 48, .rw, 0⟩
/-! AMQ_COMB_CNT, AMQ_BASE + 0x0060 (10_control_messages.md) -/
def f_AMQ_COMB_CNT_COUNT : Fld := ⟨0, 48, .rw, 0⟩
/-! AMQ_COMB_NOARM_CNT, AMQ_BASE + 0x0068 (10_control_messages.md) -/
def f_AMQ_COMB_NOARM_CNT_COUNT : Fld := ⟨0, 48, .rw, 0⟩
/-! AMQ_COMB_LATE_CNT, AMQ_BASE + 0x0070 (10_control_messages.md) -/
def f_AMQ_COMB_LATE_CNT_COUNT : Fld := ⟨0, 48, .rw, 0⟩
/-! AQ_CFG[8], AMQ_BASE + 0x0100 (10_control_messages.md, R338) -/
def f_AQ_CFG_LEVEL : Fld := ⟨36, 3, .rw, 1⟩
def f_AQ_CFG_LOG2_SIZE : Fld := ⟨32, 4, .rw, 4⟩
def f_AQ_CFG_BASE : Fld := ⟨4, 19, .rw, 0⟩
def f_AQ_CFG_IRQ_EN : Fld := ⟨1, 1, .rw, 0⟩
def f_AQ_CFG_ENABLE : Fld := ⟨0, 1, .rw, 0⟩
/-! AQ_SWORD[8], AMQ_BASE + 0x0108 (10_control_messages.md) -/
def f_AQ_SWORD_OFF : Fld := ⟨3, 20, .rw, 0⟩
/-! AQ_PI[8], AMQ_BASE + 0x0110 (10_control_messages.md) -/
def f_AQ_PI_PI : Fld := ⟨0, 16, .ro, 0⟩
/-! AQ_CI[8], AMQ_BASE + 0x0118 (10_control_messages.md, R331) -/
def f_AQ_CI_CI : Fld := ⟨0, 16, .rw, 0⟩
/-! AMQ_HANDLER[32], AMQ_BASE + 0x0200 (10_control_messages.md, byte j: EN MODE OP FMT in bits 7:2) -/
def f_AMQ_HANDLER_EN7 : Fld := ⟨63, 1, .rw, 0⟩
def f_AMQ_HANDLER_MODE7 : Fld := ⟨62, 1, .rw, 0⟩
def f_AMQ_HANDLER_OP7 : Fld := ⟨60, 2, .rw, 0⟩
def f_AMQ_HANDLER_FMT7 : Fld := ⟨58, 2, .rw, 0⟩
def f_AMQ_HANDLER_EN6 : Fld := ⟨55, 1, .rw, 0⟩
def f_AMQ_HANDLER_MODE6 : Fld := ⟨54, 1, .rw, 0⟩
def f_AMQ_HANDLER_OP6 : Fld := ⟨52, 2, .rw, 0⟩
def f_AMQ_HANDLER_FMT6 : Fld := ⟨50, 2, .rw, 0⟩
def f_AMQ_HANDLER_EN5 : Fld := ⟨47, 1, .rw, 0⟩
def f_AMQ_HANDLER_MODE5 : Fld := ⟨46, 1, .rw, 0⟩
def f_AMQ_HANDLER_OP5 : Fld := ⟨44, 2, .rw, 0⟩
def f_AMQ_HANDLER_FMT5 : Fld := ⟨42, 2, .rw, 0⟩
def f_AMQ_HANDLER_EN4 : Fld := ⟨39, 1, .rw, 0⟩
def f_AMQ_HANDLER_MODE4 : Fld := ⟨38, 1, .rw, 0⟩
def f_AMQ_HANDLER_OP4 : Fld := ⟨36, 2, .rw, 0⟩
def f_AMQ_HANDLER_FMT4 : Fld := ⟨34, 2, .rw, 0⟩
def f_AMQ_HANDLER_EN3 : Fld := ⟨31, 1, .rw, 0⟩
def f_AMQ_HANDLER_MODE3 : Fld := ⟨30, 1, .rw, 0⟩
def f_AMQ_HANDLER_OP3 : Fld := ⟨28, 2, .rw, 0⟩
def f_AMQ_HANDLER_FMT3 : Fld := ⟨26, 2, .rw, 0⟩
def f_AMQ_HANDLER_EN2 : Fld := ⟨23, 1, .rw, 0⟩
def f_AMQ_HANDLER_MODE2 : Fld := ⟨22, 1, .rw, 0⟩
def f_AMQ_HANDLER_OP2 : Fld := ⟨20, 2, .rw, 0⟩
def f_AMQ_HANDLER_FMT2 : Fld := ⟨18, 2, .rw, 0⟩
def f_AMQ_HANDLER_EN1 : Fld := ⟨15, 1, .rw, 0⟩
def f_AMQ_HANDLER_MODE1 : Fld := ⟨14, 1, .rw, 0⟩
def f_AMQ_HANDLER_OP1 : Fld := ⟨12, 2, .rw, 0⟩
def f_AMQ_HANDLER_FMT1 : Fld := ⟨10, 2, .rw, 0⟩
def f_AMQ_HANDLER_EN0 : Fld := ⟨7, 1, .rw, 0⟩
def f_AMQ_HANDLER_MODE0 : Fld := ⟨6, 1, .rw, 0⟩
def f_AMQ_HANDLER_OP0 : Fld := ⟨4, 2, .rw, 0⟩
def f_AMQ_HANDLER_FMT0 : Fld := ⟨2, 2, .rw, 0⟩
/-! AMQ_CHAN_CFG[64], AMQ_BASE + 0x0300 (10_control_messages.md, R339) -/
def f_AMQ_CHAN_CFG_ROLE : Fld := ⟨62, 2, .rw, 0⟩
def f_AMQ_CHAN_CFG_TC : Fld := ⟨60, 2, .rw, 0⟩
def f_AMQ_CHAN_CFG_AQ : Fld := ⟨57, 3, .rw, 0⟩
def f_AMQ_CHAN_CFG_SLVL : Fld := ⟨54, 3, .rw, 0⟩
def f_AMQ_CHAN_CFG_ANY : Fld := ⟨53, 1, .rw, 0⟩
def f_AMQ_CHAN_CFG_PEER : Fld := ⟨44, 9, .rw, 0⟩
def f_AMQ_CHAN_CFG_CREDITS : Fld := ⟨36, 8, .rw, 0⟩
def f_AMQ_CHAN_CFG_WIN : Fld := ⟨32, 4, .rw, 0⟩
def f_AMQ_CHAN_CFG_WIN_BASE : Fld := ⟨6, 17, .rw, 0⟩
/-! AMQ_CHAN_STAT[64], AMQ_BASE + 0x0308 (10_control_messages.md) -/
def f_AMQ_CHAN_STAT_STATE : Fld := ⟨61, 3, .ro, 0⟩
def f_AMQ_CHAN_STAT_DLVL : Fld := ⟨58, 3, .ro, 0⟩
def f_AMQ_CHAN_STAT_WIN : Fld := ⟨54, 4, .ro, 0⟩
def f_AMQ_CHAN_STAT_CREDITS : Fld := ⟨46, 8, .ro, 0⟩
def f_AMQ_CHAN_STAT_PEER_CHAN : Fld := ⟨40, 6, .ro, 0⟩
def f_AMQ_CHAN_STAT_PEER_TILE : Fld := ⟨31, 9, .ro, 0⟩
def f_AMQ_CHAN_STAT_RESULT : Fld := ⟨28, 3, .ro, 0⟩
def f_AMQ_CHAN_STAT_MSGS : Fld := ⟨0, 16, .ro, 0⟩
/-! AMQ_SEND_BUF[192], AMQ_BASE + 0x0800 (10_control_messages.md, index 8c + word) -/
def f_AMQ_SEND_BUF_DATA : Fld := ⟨0, 64, .rw, 0⟩
/-! AMQ_SEND_GO[24], AMQ_BASE + 0x0E00 (10_control_messages.md, R326) -/
def f_AMQ_SEND_GO_GO : Fld := ⟨0, 64, .wo, 0⟩
/-! AMQ_SEND_STAT[24], AMQ_BASE + 0x0E08 (10_control_messages.md, R326) -/
def f_AMQ_SEND_STAT_BUSY : Fld := ⟨63, 1, .ro, 0⟩
def f_AMQ_SEND_STAT_SENT : Fld := ⟨16, 16, .ro, 0⟩
def f_AMQ_SEND_STAT_LAST : Fld := ⟨0, 4, .ro, 0⟩
/-! WICK_ARRIVE, WICK_BASE + 0x0000 (11_wick.md, R353) -/
def f_WICK_ARRIVE_CTX : Fld := ⟨0, 6, .wo, 0⟩
/-! WICK_ARRIVED, WICK_BASE + 0x0008 (11_wick.md) -/
def f_WICK_ARRIVED_ARR : Fld := ⟨0, 64, .ro, 0⟩
/-! WICK_REL_PEND, WICK_BASE + 0x0010 (11_wick.md) -/
def f_WICK_REL_PEND_REL : Fld := ⟨0, 64, .w1c, 0⟩
/-! WICK_STAT, WICK_BASE + 0x0018 (11_wick.md) -/
def f_WICK_STAT_DUP : Fld := ⟨3, 1, .w1c, 0⟩
def f_WICK_STAT_NONMEMBER : Fld := ⟨2, 1, .w1c, 0⟩
def f_WICK_STAT_BROKEN_SEEN : Fld := ⟨1, 1, .w1c, 0⟩
def f_WICK_STAT_CFG_ERR : Fld := ⟨0, 1, .w1c, 0⟩
/-! WICK_FLAG_OP, WICK_BASE + 0x0020 (11_wick.md, R360) -/
def f_WICK_FLAG_OP_OP : Fld := ⟨8, 2, .wo, 0⟩
def f_WICK_FLAG_OP_FLAG : Fld := ⟨0, 8, .wo, 0⟩
/-! WICK_LAND[8], WICK_BASE + 0x0040 (11_wick.md) -/
def f_WICK_LAND_EN : Fld := ⟨63, 1, .rw, 0⟩
def f_WICK_LAND_IRQ_EN : Fld := ⟨62, 1, .rw, 0⟩
def f_WICK_LAND_CTX : Fld := ⟨48, 6, .rw, 0⟩
def f_WICK_LAND_OFF : Fld := ⟨3, 20, .rw, 0⟩
/-! WICK_WATCH[4], WICK_BASE + 0x0080 (11_wick.md, R361) -/
def f_WICK_WATCH_EN : Fld := ⟨63, 1, .rw, 0⟩
def f_WICK_WATCH_IRQ_EN : Fld := ⟨62, 1, .rw, 0⟩
def f_WICK_WATCH_VALUE : Fld := ⟨61, 1, .rw, 0⟩
def f_WICK_WATCH_FLAG : Fld := ⟨48, 8, .rw, 0⟩
def f_WICK_WATCH_OFF : Fld := ⟨3, 20, .rw, 0⟩
/-! WICK_FLAG_MIRROR[4], WICK_BASE + 0x0100 (11_wick.md) -/
def f_WICK_FLAG_MIRROR_FLAGS : Fld := ⟨0, 64, .ro, 0⟩
/-! WICK_ARRIVE_CNT, WICK_BASE + 0x0200 (11_wick.md) -/
def f_WICK_ARRIVE_CNT_COUNT : Fld := ⟨0, 48, .rw, 0⟩
/-! WICK_REL_CNT, WICK_BASE + 0x0208 (11_wick.md) -/
def f_WICK_REL_CNT_COUNT : Fld := ⟨0, 48, .rw, 0⟩
/-! WICK_DUP_CNT, WICK_BASE + 0x0210 (11_wick.md) -/
def f_WICK_DUP_CNT_COUNT : Fld := ⟨0, 48, .rw, 0⟩
/-! WICK_NONMEM_CNT, WICK_BASE + 0x0218 (11_wick.md) -/
def f_WICK_NONMEM_CNT_COUNT : Fld := ⟨0, 48, .rw, 0⟩
/-! ARB_SEL, ARB_BASE + 0x0000 (12_arbitration.md, R393) -/
def f_ARB_SEL_POINT : Fld := ⟨0, 6, .rw, 0⟩
/-! ARB_CFG_SHADOW, ARB_BASE + 0x0008 (12_arbitration.md, R392) -/
def f_ARB_CFG_SHADOW_TC3 : Fld := ⟨62, 2, .rw, 0⟩
def f_ARB_CFG_SHADOW_TC2 : Fld := ⟨60, 2, .rw, 0⟩
def f_ARB_CFG_SHADOW_TC1 : Fld := ⟨58, 2, .rw, 0⟩
def f_ARB_CFG_SHADOW_TC0 : Fld := ⟨56, 2, .rw, 0⟩
def f_ARB_CFG_SHADOW_Q3 : Fld := ⟨48, 8, .rw, 0⟩
def f_ARB_CFG_SHADOW_Q2 : Fld := ⟨40, 8, .rw, 0⟩
def f_ARB_CFG_SHADOW_WIN : Fld := ⟨16, 16, .rw, 0⟩
def f_ARB_CFG_SHADOW_GRANT : Fld := ⟨2, 1, .rw, 0⟩
def f_ARB_CFG_SHADOW_TIMING : Fld := ⟨1, 1, .rw, 0⟩
def f_ARB_CFG_SHADOW_MODE : Fld := ⟨0, 1, .rw, 0⟩
/-! ARB_CFG_ACTIVE, ARB_BASE + 0x0010 (12_arbitration.md, R392) -/
def f_ARB_CFG_ACTIVE_TC3 : Fld := ⟨62, 2, .ro, 0⟩
def f_ARB_CFG_ACTIVE_TC2 : Fld := ⟨60, 2, .ro, 0⟩
def f_ARB_CFG_ACTIVE_TC1 : Fld := ⟨58, 2, .ro, 0⟩
def f_ARB_CFG_ACTIVE_TC0 : Fld := ⟨56, 2, .ro, 0⟩
def f_ARB_CFG_ACTIVE_Q3 : Fld := ⟨48, 8, .ro, 0⟩
def f_ARB_CFG_ACTIVE_Q2 : Fld := ⟨40, 8, .ro, 0⟩
def f_ARB_CFG_ACTIVE_WIN : Fld := ⟨16, 16, .ro, 0⟩
def f_ARB_CFG_ACTIVE_GRANT : Fld := ⟨2, 1, .ro, 0⟩
def f_ARB_CFG_ACTIVE_TIMING : Fld := ⟨1, 1, .ro, 0⟩
def f_ARB_CFG_ACTIVE_MODE : Fld := ⟨0, 1, .ro, 0⟩
/-! ARB_CTRL, ARB_BASE + 0x0018 (12_arbitration.md, R391) -/
def f_ARB_CTRL_CNT_CLR : Fld := ⟨0, 1, .wo, 0⟩
/-! ARB_STAT, ARB_BASE + 0x0020 (12_arbitration.md) -/
def f_ARB_STAT_OWNED : Fld := ⟨63, 1, .ro, 0⟩
def f_ARB_STAT_PARKED : Fld := ⟨62, 1, .ro, 0⟩
def f_ARB_STAT_HOLDING : Fld := ⟨61, 1, .ro, 0⟩
def f_ARB_STAT_MASK3 : Fld := ⟨60, 1, .ro, 0⟩
def f_ARB_STAT_MASK2 : Fld := ⟨59, 1, .ro, 0⟩
def f_ARB_STAT_BANK : Fld := ⟨58, 1, .ro, 0⟩
def f_ARB_STAT_OWNER : Fld := ⟨32, 9, .ro, 0⟩
def f_ARB_STAT_WIN_POS : Fld := ⟨0, 16, .ro, 0⟩
/-! ARB_REQ_SHADOW[39], ARB_BASE + 0x0100 (12_arbitration.md, R392) -/
def f_ARB_REQ_SHADOW_CLASS : Fld := ⟨16, 2, .rw, 0⟩
def f_ARB_REQ_SHADOW_WEIGHT : Fld := ⟨0, 16, .rw, 0⟩
/-! ARB_REQ_ACTIVE[39], ARB_BASE + 0x0300 (12_arbitration.md, R392) -/
def f_ARB_REQ_ACTIVE_CLASS : Fld := ⟨16, 2, .ro, 0⟩
def f_ARB_REQ_ACTIVE_WEIGHT : Fld := ⟨0, 16, .ro, 0⟩
/-! ARB_CNT_GRANTS[39], ARB_BASE + 0x0800 (12_arbitration.md, R391) -/
def f_ARB_CNT_GRANTS_COUNT : Fld := ⟨0, 48, .rw, 0⟩
/-! ARB_CNT_WAIT[39], ARB_BASE + 0x0808 (12_arbitration.md, R391) -/
def f_ARB_CNT_WAIT_COUNT : Fld := ⟨0, 48, .rw, 0⟩
/-! ARB_CNT_LONGEST[39], ARB_BASE + 0x0810 (12_arbitration.md, R391) -/
def f_ARB_CNT_LONGEST_LONGEST : Fld := ⟨0, 32, .rw, 0⟩
/-! SNF_CFG[63], SNF_BASE + 0x0000 (12_arbitration.md) -/
def f_SNF_CFG_EN : Fld := ⟨63, 1, .rw, 1⟩
def f_SNF_CFG_ACTION : Fld := ⟨62, 1, .rw, 1⟩
def f_SNF_CFG_LIMIT_LOG2 : Fld := ⟨0, 5, .rw, 20⟩
/-! SNF_STAT, SNF_BASE + 0x0200 (12_arbitration.md) -/
def f_SNF_STAT_VALID : Fld := ⟨63, 1, .ro, 0⟩
def f_SNF_STAT_FIRST_REQ : Fld := ⟨48, 9, .ro, 0⟩
def f_SNF_STAT_FIRST_POINT : Fld := ⟨40, 7, .ro, 0⟩
def f_SNF_STAT_CUT_RSP : Fld := ⟨1, 1, .w1c, 0⟩
def f_SNF_STAT_BITE : Fld := ⟨0, 1, .w1c, 0⟩
/-! SNF_BITE_CNT[63], SNF_BASE + 0x0400 (12_arbitration.md) -/
def f_SNF_BITE_CNT_COUNT : Fld := ⟨0, 48, .rw, 0⟩
/-! SHP_NIU_SHADOW[4], SHP_BASE + 0x0000 (13_policy_epochs.md) -/
def f_SHP_NIU_SHADOW_EN : Fld := ⟨63, 1, .rw, 0⟩
def f_SHP_NIU_SHADOW_BURST : Fld := ⟨32, 20, .rw, 0⟩
def f_SHP_NIU_SHADOW_RATE : Fld := ⟨0, 16, .rw, 0⟩
/-! SHP_NIU_ACTIVE[4], SHP_BASE + 0x0040 (13_policy_epochs.md) -/
def f_SHP_NIU_ACTIVE_EN : Fld := ⟨63, 1, .ro, 0⟩
def f_SHP_NIU_ACTIVE_BURST : Fld := ⟨32, 20, .ro, 0⟩
def f_SHP_NIU_ACTIVE_RATE : Fld := ⟨0, 16, .ro, 0⟩
/-! SHP_RST, SHP_BASE + 0x0080 (13_policy_epochs.md, R415) -/
def f_SHP_RST_RST : Fld := ⟨0, 4, .rw, 15⟩
/-! SHP_DIRTY, SHP_BASE + 0x0088 (13_policy_epochs.md) -/
def f_SHP_DIRTY_DIRTY : Fld := ⟨0, 4, .ro, 0⟩
/-! SHP_TOKENS[4], SHP_BASE + 0x0090 (13_policy_epochs.md) -/
def f_SHP_TOKENS_TOKENS : Fld := ⟨0, 32, .ro, 0⟩
/-! SHP_HELD_CNT[4], SHP_BASE + 0x0100 (13_policy_epochs.md) -/
def f_SHP_HELD_CNT_COUNT : Fld := ⟨0, 48, .rw, 0⟩
/-! SHP_BYTES[4], SHP_BASE + 0x0140 (13_policy_epochs.md, R404) -/
def f_SHP_BYTES_COUNT : Fld := ⟨0, 48, .rw, 0⟩
/-! COL_RT_STAT, COL_BASE + 0x0000 (16_collectives.md) -/
def f_COL_RT_STAT_BEAT : Fld := ⟨32, 32, .ro, 0⟩
def f_COL_RT_STAT_RUNNING : Fld := ⟨16, 1, .ro, 0⟩
def f_COL_RT_STAT_VERSION : Fld := ⟨0, 16, .ro, 0⟩
/-! COL_TX_BYTES[8], COL_BASE + 0x0150 (16_collectives.md) -/
def f_COL_TX_BYTES_COUNT : Fld := ⟨0, 48, .rw, 0⟩
/-! COL_RX_BYTES[8], COL_BASE + 0x0158 (16_collectives.md) -/
def f_COL_RX_BYTES_COUNT : Fld := ⟨0, 48, .rw, 0⟩
/-! COL_OVF_CNT[8], COL_BASE + 0x0160 (16_collectives.md) -/
def f_COL_OVF_CNT_COUNT : Fld := ⟨0, 48, .rw, 0⟩
/-! COL_OVF_BYTES[8], COL_BASE + 0x0168 (16_collectives.md) -/
def f_COL_OVF_BYTES_COUNT : Fld := ⟨0, 48, .rw, 0⟩
/-! COL_STALE_CNT[8], COL_BASE + 0x0170 (16_collectives.md) -/
def f_COL_STALE_CNT_COUNT : Fld := ⟨0, 48, .rw, 0⟩
/-! COL_TMO_CNT[8], COL_BASE + 0x0178 (16_collectives.md) -/
def f_COL_TMO_CNT_COUNT : Fld := ⟨0, 48, .rw, 0⟩
/-! COL_GCFG0[8], COL_BASE + 0x0180 (16_collectives.md) -/
def f_COL_GCFG0_HI_CHIP : Fld := ⟨17, 17, .rw, 0⟩
def f_COL_GCFG0_LO_CHIP : Fld := ⟨0, 17, .rw, 0⟩
/-! COL_GCFG1[8], COL_BASE + 0x0188 (16_collectives.md) -/
def f_COL_GCFG1_ONCHIP_EN : Fld := ⟨63, 1, .rw, 0⟩
def f_COL_GCFG1_ORD : Fld := ⟨62, 1, .rw, 0⟩
def f_COL_GCFG1_RID : Fld := ⟨48, 12, .rw, 0⟩
def f_COL_GCFG1_TMO : Fld := ⟨32, 16, .rw, 0⟩
def f_COL_GCFG1_FAR : Fld := ⟨18, 9, .rw, 0⟩
def f_COL_GCFG1_NEAR : Fld := ⟨9, 9, .rw, 0⟩
/-! COL_GCFG2[8], COL_BASE + 0x0190 (16_collectives.md) -/
def f_COL_GCFG2_STG_OFF : Fld := ⟨32, 23, .rw, 0⟩
def f_COL_GCFG2_NSLOT_LOG2 : Fld := ⟨8, 4, .rw, 0⟩
def f_COL_GCFG2_CHUNK_LOG2 : Fld := ⟨0, 4, .rw, 0⟩
/-! COL_GCFG3[8], COL_BASE + 0x0198 (16_collectives.md) -/
def f_COL_GCFG3_ARMFLAG_OFF : Fld := ⟨32, 23, .rw, 0⟩
def f_COL_GCFG3_ACC_OFF : Fld := ⟨0, 23, .rw, 0⟩
/-! COL_GCTRL[8], COL_BASE + 0x01A0 (16_collectives.md) -/
def f_COL_GCTRL_REFORM : Fld := ⟨2, 1, .wo, 0⟩
def f_COL_GCTRL_CLOSE : Fld := ⟨1, 1, .wo, 0⟩
def f_COL_GCTRL_OPEN : Fld := ⟨0, 1, .wo, 0⟩
/-! COL_GSTAT[8], COL_BASE + 0x01A8 (16_collectives.md) -/
def f_COL_GSTAT_STATE : Fld := ⟨62, 2, .ro, 0⟩
def f_COL_GSTAT_CAUSE : Fld := ⟨58, 4, .ro, 0⟩
def f_COL_GSTAT_GID : Fld := ⟨52, 6, .ro, 0⟩
def f_COL_GSTAT_FORM : Fld := ⟨44, 8, .ro, 0⟩
def f_COL_GSTAT_NAX : Fld := ⟨41, 3, .ro, 0⟩
def f_COL_GSTAT_BUSY : Fld := ⟨40, 1, .ro, 0⟩
def f_COL_GSTAT_ENTRY : Fld := ⟨0, 32, .ro, 0⟩
/-! COL_GFAIL[8], COL_BASE + 0x01B0 (16_collectives.md) -/
def f_COL_GFAIL_VALID : Fld := ⟨63, 1, .ro, 0⟩
def f_COL_GFAIL_TILE : Fld := ⟨32, 9, .ro, 0⟩
def f_COL_GFAIL_CHIP : Fld := ⟨0, 17, .ro, 0⟩
/-! COL_EXCL[64], COL_BASE + 0x01C0 (16_collectives.md, index 8s + k) -/
def f_COL_EXCL_VALID : Fld := ⟨63, 1, .rw, 0⟩
def f_COL_EXCL_CHIP : Fld := ⟨0, 17, .rw, 0⟩
/-! TILE_GRID, TILE_MAP_BASE + 0x0000 (02_tile_array.md, = FUSE / = MAP) -/
def f_TILE_GRID_OPTION : Fld := ⟨40, 4, .ro, 0⟩
def f_TILE_GRID_MARKED : Fld := ⟨32, 8, .ro, 0⟩
def f_TILE_GRID_GRADE : Fld := ⟨24, 8, .ro, 0⟩
def f_TILE_GRID_WIDTH : Fld := ⟨16, 8, .ro, 0⟩
def f_TILE_GRID_HEIGHT : Fld := ⟨8, 8, .ro, 16⟩
def f_TILE_GRID_DARK_PER_ROW : Fld := ⟨0, 8, .ro, 0⟩
/-! TILE_MAP_STAT, TILE_MAP_BASE + 0x0008 (02_tile_array.md) -/
def f_TILE_MAP_STAT_MAP_SEQ : Fld := ⟨16, 16, .ro, 0⟩
def f_TILE_MAP_STAT_FUSE_B_USED : Fld := ⟨3, 1, .ro, 0⟩
def f_TILE_MAP_STAT_NO_GRADE : Fld := ⟨2, 1, .ro, 0⟩
def f_TILE_MAP_STAT_PENDING : Fld := ⟨1, 1, .ro, 0⟩
def f_TILE_MAP_STAT_APPLYING : Fld := ⟨0, 1, .ro, 0⟩
/-! TILE_MAP_CTRL, TILE_MAP_BASE + 0x0010 (02_tile_array.md, R45) -/
def f_TILE_MAP_CTRL_APPLY : Fld := ⟨0, 1, .wo, 0⟩
/-! TILE_ROW_DARK[16], TILE_MAP_BASE + 0x0100 (02_tile_array.md, = MAP) -/
def f_TILE_ROW_DARK_DARK : Fld := ⟨0, 34, .ro, 0⟩
/-! TILE_ROW_FAIL[16], TILE_MAP_BASE + 0x0180 (02_tile_array.md, = MAP) -/
def f_TILE_ROW_FAIL_FAIL : Fld := ⟨0, 34, .ro, 0⟩
/-! TILE_DOM_FAIL0, TILE_MAP_BASE + 0x0200 (02_tile_array.md) -/
def f_TILE_DOM_FAIL0_FAILED : Fld := ⟨0, 64, .ro, 0⟩
/-! TILE_DOM_FAIL1, TILE_MAP_BASE + 0x0208 (02_tile_array.md) -/
def f_TILE_DOM_FAIL1_FAILED : Fld := ⟨0, 4, .ro, 0⟩
/-! TILE_DOM_ACCEPT0, TILE_MAP_BASE + 0x0210 (02_tile_array.md, = FLASH) -/
def f_TILE_DOM_ACCEPT0_ACCEPTED : Fld := ⟨0, 64, .ro, 0⟩
/-! TILE_DOM_ACCEPT1, TILE_MAP_BASE + 0x0218 (02_tile_array.md, = FLASH) -/
def f_TILE_DOM_ACCEPT1_ACCEPTED : Fld := ⟨0, 4, .ro, 0⟩
/-! TILE_DOWN_MAP[8], TILE_MAP_BASE + 0x0300 (02_tile_array.md) -/
def f_TILE_DOWN_MAP_DOWN : Fld := ⟨0, 64, .ro, 0⟩
/-! TILE_L2P[64], TILE_MAP_BASE + 0x0400 (02_tile_array.md, = MAP) -/
def f_TILE_L2P_PX : Fld := ⟨0, 64, .ro, 0⟩
/-! TILE_MEM_CFG, TILE_MEM_BASE + 0x0000 (03_address_memory.md, R91) -/
def f_TILE_MEM_CFG_SCRUB_HOURS : Fld := ⟨24, 8, .rw, 8⟩
def f_TILE_MEM_CFG_CM_HASH : Fld := ⟨16, 1, .rw, 0⟩
def f_TILE_MEM_CFG_KEEP_ON_WARM : Fld := ⟨12, 1, .rw, 0⟩
def f_TILE_MEM_CFG_NWR_MODE : Fld := ⟨8, 2, .rw, 1⟩
def f_TILE_MEM_CFG_STRIPE : Fld := ⟨4, 2, .rw, 1⟩
def f_TILE_MEM_CFG_VAULT_MODE : Fld := ⟨0, 2, .rw, 0⟩
/-! TILE_MEM_STAT, TILE_MEM_BASE + 0x0008 (03_address_memory.md) -/
def f_TILE_MEM_STAT_SCRUB_TILES : Fld := ⟨32, 10, .ro, 0⟩
def f_TILE_MEM_STAT_CFG_ERR : Fld := ⟨2, 1, .w1c, 0⟩
def f_TILE_MEM_STAT_MODE_LOCKED : Fld := ⟨1, 1, .w1c, 0⟩
def f_TILE_MEM_STAT_SCRUB_DONE : Fld := ⟨0, 1, .ro, 0⟩
/-! BOOT_STAT, BOOT_BASE + 0x0000 (22_boot_images_service.md) -/
def f_BOOT_STAT_READY : Fld := ⟨63, 1, .ro, 0⟩
def f_BOOT_STAT_FALLBACK : Fld := ⟨62, 1, .ro, 0⟩
def f_BOOT_STAT_STAGE : Fld := ⟨56, 4, .ro, 0⟩
def f_BOOT_STAT_RUNNING : Fld := ⟨48, 2, .ro, 0⟩
def f_BOOT_STAT_FAIL_B : Fld := ⟨8, 4, .ro, 0⟩
def f_BOOT_STAT_FAIL_A : Fld := ⟨4, 4, .ro, 0⟩
def f_BOOT_STAT_FAIL_G : Fld := ⟨0, 4, .ro, 0⟩
/-! BOOT_CFG, BOOT_BASE + 0x0008 (22_boot_images_service.md, R684) -/
def f_BOOT_CFG_RT_EN : Fld := ⟨1, 1, .rw, 1⟩
/-! BOOT_RST_CTRL, BOOT_BASE + 0x0010 (22_boot_images_service.md) -/
def f_BOOT_RST_CTRL_TILE_ID : Fld := ⟨16, 9, .wo, 0⟩
def f_BOOT_RST_CTRL_RELOAD : Fld := ⟨5, 1, .wo, 0⟩
def f_BOOT_RST_CTRL_TILE : Fld := ⟨3, 1, .wo, 0⟩
def f_BOOT_RST_CTRL_FABRIC : Fld := ⟨2, 1, .wo, 0⟩
def f_BOOT_RST_CTRL_WARM : Fld := ⟨1, 1, .wo, 0⟩
def f_BOOT_RST_CTRL_COLD : Fld := ⟨0, 1, .wo, 0⟩
/-! BOOT_RST_STAT, BOOT_BASE + 0x0018 (22_boot_images_service.md) -/
def f_BOOT_RST_STAT_LAST : Fld := ⟨61, 3, .ro, 0⟩
def f_BOOT_RST_STAT_SOURCE : Fld := ⟨57, 4, .ro, 0⟩
def f_BOOT_RST_STAT_TILE_BUSY : Fld := ⟨1, 1, .ro, 0⟩
def f_BOOT_RST_STAT_CFG_ERR : Fld := ⟨0, 1, .w1c, 0⟩
/-! BOOT_SVC_CTRL, BOOT_BASE + 0x0020 (22_boot_images_service.md) -/
def f_BOOT_SVC_CTRL_PREPARE : Fld := ⟨0, 1, .wo, 0⟩
/-! BOOT_SVC_STAT, BOOT_BASE + 0x0028 (22_boot_images_service.md) -/
def f_BOOT_SVC_STAT_STATE : Fld := ⟨1, 2, .ro, 0⟩
def f_BOOT_SVC_STAT_SVC_REFUSED : Fld := ⟨0, 1, .w1c, 0⟩
/-! BOOT_RFL_STAT, BOOT_BASE + 0x0030 (22_boot_images_service.md, ROLE = STRAP) -/
def f_BOOT_RFL_STAT_ROLE : Fld := ⟨62, 2, .ro, 0⟩
def f_BOOT_RFL_STAT_STATE : Fld := ⟨59, 3, .ro, 0⟩
def f_BOOT_RFL_STAT_SLOTS : Fld := ⟨48, 3, .ro, 0⟩
def f_BOOT_RFL_STAT_FRAME : Fld := ⟨0, 24, .ro, 0⟩
/-! BOOT_WARM_CNT, BOOT_BASE + 0x0100 (22_boot_images_service.md) -/
def f_BOOT_WARM_CNT_COUNT : Fld := ⟨0, 48, .rw, 0⟩
/-! BOOT_FALLBACK_CNT, BOOT_BASE + 0x0108 (22_boot_images_service.md) -/
def f_BOOT_FALLBACK_CNT_COUNT : Fld := ⟨0, 48, .rw, 0⟩
/-! BOOT_RFL_CNT, BOOT_BASE + 0x0110 (22_boot_images_service.md) -/
def f_BOOT_RFL_CNT_COUNT : Fld := ⟨0, 48, .rw, 0⟩
/-! BOOT_TILE_RST_CNT, BOOT_BASE + 0x0118 (22_boot_images_service.md) -/
def f_BOOT_TILE_RST_CNT_COUNT : Fld := ⟨0, 48, .rw, 0⟩
/-! BOOT_ADM_ADDR, BOOT_BASE + 0x8000 (22_boot_images_service.md, 17) -/
def f_BOOT_ADM_ADDR_ADDR : Fld := ⟨6, 58, .rw, 0⟩
/-! BOOT_ADM_CTRL, BOOT_BASE + 0x8008 (22_boot_images_service.md, 17: bit 0 ADMIT) -/
def f_BOOT_ADM_CTRL_RELEASE : Fld := ⟨1, 1, .wo, 0⟩
def f_BOOT_ADM_CTRL_ADM : Fld := ⟨0, 1, .wo, 0⟩
/-! BOOT_ADM_STAT, BOOT_BASE + 0x8010 (22_boot_images_service.md, 17) -/
def f_BOOT_ADM_STAT_ADMITTED : Fld := ⟨63, 1, .ro, 0⟩
def f_BOOT_ADM_STAT_BUSY : Fld := ⟨62, 1, .ro, 0⟩
def f_BOOT_ADM_STAT_WITHDRAWN : Fld := ⟨61, 1, .w1c, 0⟩
def f_BOOT_ADM_STAT_REFUSED : Fld := ⟨60, 1, .w1c, 0⟩
def f_BOOT_ADM_STAT_TILE : Fld := ⟨16, 9, .ro, 0⟩
def f_BOOT_ADM_STAT_CODE : Fld := ⟨0, 8, .ro, 0⟩
/-! BOOT_ADM_MODEL, BOOT_BASE + 0x8018 (22_boot_images_service.md, 17) -/
def f_BOOT_ADM_MODEL_MODEL_ID : Fld := ⟨0, 64, .ro, 0⟩
/-! BOOT_ADM_REFUSE_CNT, BOOT_BASE + 0x8020 (22_boot_images_service.md, 17) -/
def f_BOOT_ADM_REFUSE_CNT_COUNT : Fld := ⟨0, 48, .rw, 0⟩
/-! ERR_STAT, ERR_BASE + 0x0000 (23_errors_ember.md, R707) -/
def f_ERR_STAT_CLASS : Fld := ⟨0, 4, .w1c, 0⟩
/-! ERR_CFG, ERR_BASE + 0x0008 (23_errors_ember.md, R711) -/
def f_ERR_CFG_RSP_TMO : Fld := ⟨16, 16, .rw, 0x1000⟩
def f_ERR_CFG_EVT_EN : Fld := ⟨0, 4, .rw, 14⟩
/-! ERR_DEV_SUM, ERR_BASE + 0x0010 (23_errors_ember.md, live view) -/
def f_ERR_DEV_SUM_WLP : Fld := ⟨32, 16, .ro, 0⟩
def f_ERR_DEV_SUM_BLK : Fld := ⟨0, 18, .ro, 0⟩
/-! ERR_CNT[4], ERR_BASE + 0x0020 (23_errors_ember.md) -/
def f_ERR_CNT_COUNT : Fld := ⟨0, 48, .rw, 0⟩
/-! ERR_FIRST[4], ERR_BASE + 0x0040 (23_errors_ember.md) -/
def f_ERR_FIRST_VALID : Fld := ⟨63, 1, .ro, 0⟩
def f_ERR_FIRST_KIND : Fld := ⟨32, 16, .ro, 0⟩
def f_ERR_FIRST_LOC : Fld := ⟨16, 16, .ro, 0⟩
def f_ERR_FIRST_SUB : Fld := ⟨8, 8, .ro, 0⟩
/-! ERR_RSP_TMO_CNT, ERR_BASE + 0x0060 (23_errors_ember.md, R711) -/
def f_ERR_RSP_TMO_CNT_COUNT : Fld := ⟨0, 48, .rw, 0⟩
/-! ERR_LATE_RSP_CNT, ERR_BASE + 0x0068 (23_errors_ember.md, R712) -/
def f_ERR_LATE_RSP_CNT_COUNT : Fld := ⟨0, 48, .rw, 0⟩
/-! ERR_TILE_SUM[8], ERR_BASE + 0x0100 (23_errors_ember.md, live view) -/
def f_ERR_TILE_SUM_TILES : Fld := ⟨0, 64, .ro, 0⟩
/-! ERR_CORE_BUS[512], ERR_BASE + 0x1000 (23_errors_ember.md, R710) -/
def f_ERR_CORE_BUS_POISON : Fld := ⟨24, 24, .w1c, 0⟩
def f_ERR_CORE_BUS_STORE : Fld := ⟨0, 24, .w1c, 0⟩
/-! EMB_STAT, EMB_BASE + 0x0000 (23_errors_ember.md) -/
def f_EMB_STAT_FROZEN : Fld := ⟨63, 1, .ro, 0⟩
def f_EMB_STAT_COPIED : Fld := ⟨62, 1, .ro, 0⟩
def f_EMB_STAT_COPY_BUSY : Fld := ⟨61, 1, .ro, 0⟩
def f_EMB_STAT_COUNT : Fld := ⟨32, 13, .ro, 0⟩
def f_EMB_STAT_NEXT : Fld := ⟨0, 32, .ro, 0⟩
/-! EMB_CTRL, EMB_BASE + 0x0008 (23_errors_ember.md) -/
def f_EMB_CTRL_UNFREEZE : Fld := ⟨1, 1, .wo, 0⟩
def f_EMB_CTRL_COPY_NOW : Fld := ⟨0, 1, .wo, 0⟩
/-! EMB_CFG, EMB_BASE + 0x0010 (23_errors_ember.md) -/
def f_EMB_CFG_MERGE_EN : Fld := ⟨0, 1, .rw, 1⟩
/-! EMB_COPY, EMB_BASE + 0x0018 (23_errors_ember.md) -/
def f_EMB_COPY_NEXT_COPY : Fld := ⟨0, 32, .ro, 0⟩
/-! EMB_SW, EMB_BASE + 0x0020 (23_errors_ember.md) -/
def f_EMB_SW_VALUE : Fld := ⟨0, 64, .wo, 0⟩
/-! EMB_LOST, EMB_BASE + 0x0100 (23_errors_ember.md) -/
def f_EMB_LOST_COUNT : Fld := ⟨0, 48, .rw, 0⟩
/-! EMB_OVWR, EMB_BASE + 0x0108 (23_errors_ember.md) -/
def f_EMB_OVWR_COUNT : Fld := ⟨0, 48, .rw, 0⟩
/-! EMB_MERGE_CNT, EMB_BASE + 0x0110 (23_errors_ember.md) -/
def f_EMB_MERGE_CNT_COUNT : Fld := ⟨0, 48, .rw, 0⟩
/-! EMB_RAM[16384], EMB_BASE + 0x80000 (23_errors_ember.md, index 4s + word) -/
def f_EMB_RAM_WORD : Fld := ⟨0, 64, .ro, 0⟩
/-! EPC_COMMIT, EPC_BASE + 0x0000 (13_policy_epochs.md, R409) -/
def f_EPC_COMMIT_ID : Fld := ⟨0, 16, .wo, 0⟩
/-! EPC_CFG, EPC_BASE + 0x0008 (13_policy_epochs.md) -/
def f_EPC_CFG_DRAIN_TMO : Fld := ⟨16, 16, .rw, 1024⟩
def f_EPC_CFG_COPY_ON_DRAIN : Fld := ⟨0, 1, .rw, 1⟩
/-! EPC_STAT, EPC_BASE + 0x0010 (13_policy_epochs.md) -/
def f_EPC_STAT_LAST_ID : Fld := ⟨48, 16, .ro, 0⟩
def f_EPC_STAT_COMMIT_RESET : Fld := ⟨13, 1, .w1c, 0⟩
def f_EPC_STAT_QSLOW : Fld := ⟨12, 1, .w1c, 0⟩
def f_EPC_STAT_DRAIN_SLOW : Fld := ⟨11, 1, .w1c, 0⟩
def f_EPC_STAT_BUSY_REFUSED : Fld := ⟨10, 1, .w1c, 0⟩
def f_EPC_STAT_LATE_WRITE : Fld := ⟨9, 1, .w1c, 0⟩
def f_EPC_STAT_NEEDS_QUIESCE : Fld := ⟨8, 1, .w1c, 0⟩
def f_EPC_STAT_QUIESCED : Fld := ⟨5, 1, .ro, 0⟩
def f_EPC_STAT_QUIESCING : Fld := ⟨4, 1, .ro, 0⟩
def f_EPC_STAT_EPOCH : Fld := ⟨3, 1, .ro, 0⟩
def f_EPC_STAT_PHASE : Fld := ⟨0, 2, .ro, 0⟩
/-! EPC_QUIESCE, EPC_BASE + 0x0018 (13_policy_epochs.md, R416) -/
def f_EPC_QUIESCE_REQ : Fld := ⟨0, 1, .rw, 0⟩
/-! EPC_LATE_INFO, EPC_BASE + 0x0020 (13_policy_epochs.md) -/
def f_EPC_LATE_INFO_VALID : Fld := ⟨63, 1, .ro, 0⟩
def f_EPC_LATE_INFO_DEV : Fld := ⟨62, 1, .ro, 0⟩
def f_EPC_LATE_INFO_TILE : Fld := ⟨25, 9, .ro, 0⟩
def f_EPC_LATE_INFO_OFFSET : Fld := ⟨0, 25, .ro, 0⟩
/-! EPC_NQ_INFO, EPC_BASE + 0x0028 (13_policy_epochs.md) -/
def f_EPC_NQ_INFO_VALID : Fld := ⟨63, 1, .ro, 0⟩
def f_EPC_NQ_INFO_DEV : Fld := ⟨62, 1, .ro, 0⟩
def f_EPC_NQ_INFO_TILE : Fld := ⟨25, 9, .ro, 0⟩
def f_EPC_NQ_INFO_OFFSET : Fld := ⟨0, 25, .ro, 0⟩
/-! EPC_COMMIT_CNT, EPC_BASE + 0x0100 (13_policy_epochs.md) -/
def f_EPC_COMMIT_CNT_COUNT : Fld := ⟨0, 48, .rw, 0⟩
/-! EPC_LATE_CNT, EPC_BASE + 0x0108 (13_policy_epochs.md) -/
def f_EPC_LATE_CNT_COUNT : Fld := ⟨0, 48, .rw, 0⟩
/-! EPC_NQ_CNT, EPC_BASE + 0x0110 (13_policy_epochs.md) -/
def f_EPC_NQ_CNT_COUNT : Fld := ⟨0, 48, .rw, 0⟩
/-! EPC_DRAIN_LAST, EPC_BASE + 0x0118 (13_policy_epochs.md) -/
def f_EPC_DRAIN_LAST_FCLKS : Fld := ⟨0, 32, .rw, 0⟩
/-! BN_PLANE_CFG, BN_DEV_BASE + 0x0000 (06_bulk_network.md, R203) -/
def f_BN_PLANE_CFG_B_ADAPT_EN : Fld := ⟨5, 1, .rw, 1⟩
def f_BN_PLANE_CFG_A_ADAPT_EN : Fld := ⟨4, 1, .rw, 1⟩
def f_BN_PLANE_CFG_B_ORDER : Fld := ⟨1, 1, .rw, 1⟩
def f_BN_PLANE_CFG_A_ORDER : Fld := ⟨0, 1, .rw, 0⟩
/-! BN_DEV_STAT, BN_DEV_BASE + 0x0008 (06_bulk_network.md) -/
def f_BN_DEV_STAT_VALID : Fld := ⟨63, 1, .ro, 0⟩
def f_BN_DEV_STAT_FIRST_TILE : Fld := ⟨0, 9, .ro, 0⟩
/-! RED_DEV_STAT, RED_DEV_BASE + 0x0000 (07_reduction.md) -/
def f_RED_DEV_STAT_VALID : Fld := ⟨63, 1, .ro, 0⟩
def f_RED_DEV_STAT_FIRST_TILE : Fld := ⟨0, 9, .ro, 0⟩
/-! WICK_DEV_STAT, WICK_DEV_BASE + 0x0000 (11_wick.md, R364) -/
def f_WICK_DEV_STAT_TOKEN_ERR : Fld := ⟨1, 1, .w1c, 0⟩
def f_WICK_DEV_STAT_CFG_ERR : Fld := ⟨0, 1, .w1c, 0⟩
/-! WICK_DEV_FLAG_OP, WICK_DEV_BASE + 0x0008 (11_wick.md, R360) -/
def f_WICK_DEV_FLAG_OP_OP : Fld := ⟨8, 2, .wo, 0⟩
def f_WICK_DEV_FLAG_OP_FLAG : Fld := ⟨0, 8, .wo, 0⟩
/-! WICK_FLAG_SEQ, WICK_DEV_BASE + 0x0010 (11_wick.md) -/
def f_WICK_FLAG_SEQ_SEQ : Fld := ⟨0, 32, .ro, 0⟩
/-! WICK_FLAG_STATE[4], WICK_DEV_BASE + 0x0100 (11_wick.md) -/
def f_WICK_FLAG_STATE_FLAGS : Fld := ⟨0, 64, .ro, 0⟩
/-! WICK_CTX_CFG[64], WICK_DEV_BASE + 0x1000 (11_wick.md, R359) -/
def f_WICK_CTX_CFG_EN : Fld := ⟨63, 1, .rw, 0⟩
def f_WICK_CTX_CFG_ABSENT : Fld := ⟨62, 1, .rw, 0⟩
def f_WICK_CTX_CFG_XCHIP : Fld := ⟨61, 1, .rw, 0⟩
def f_WICK_CTX_CFG_UPV : Fld := ⟨60, 1, .rw, 0⟩
def f_WICK_CTX_CFG_UP_PORT : Fld := ⟨56, 4, .rw, 0⟩
def f_WICK_CTX_CFG_DOWN_MASK : Fld := ⟨40, 16, .rw, 0⟩
def f_WICK_CTX_CFG_NEAR : Fld := ⟨31, 9, .rw, 0⟩
def f_WICK_CTX_CFG_FAR : Fld := ⟨22, 9, .rw, 0⟩
def f_WICK_CTX_CFG_TMO : Fld := ⟨0, 16, .rw, 0⟩
/-! WICK_CTX_STAT[64], WICK_DEV_BASE + 0x1008 (11_wick.md) -/
def f_WICK_CTX_STAT_PENDING : Fld := ⟨63, 1, .ro, 0⟩
def f_WICK_CTX_STAT_BROKEN : Fld := ⟨62, 1, .ro, 0⟩
def f_WICK_CTX_STAT_CFG_BUSY : Fld := ⟨61, 1, .ro, 0⟩
def f_WICK_CTX_STAT_LAST : Fld := ⟨58, 3, .ro, 0⟩
def f_WICK_CTX_STAT_FIRST_MISSING : Fld := ⟨49, 9, .ro, 0⟩
def f_WICK_CTX_STAT_MISSING_CNT : Fld := ⟨39, 10, .ro, 0⟩
def f_WICK_CTX_STAT_GEN : Fld := ⟨0, 32, .ro, 0⟩
/-! WICK_TOKEN_TX_CNT, WICK_DEV_BASE + 0x2000 (11_wick.md) -/
def f_WICK_TOKEN_TX_CNT_COUNT : Fld := ⟨0, 48, .rw, 0⟩
/-! WICK_TOKEN_RX_CNT, WICK_DEV_BASE + 0x2008 (11_wick.md) -/
def f_WICK_TOKEN_RX_CNT_COUNT : Fld := ⟨0, 48, .rw, 0⟩
/-! WICK_TOKEN_DROP_CNT, WICK_DEV_BASE + 0x2010 (11_wick.md) -/
def f_WICK_TOKEN_DROP_CNT_COUNT : Fld := ⟨0, 48, .rw, 0⟩
/-! WICK_BREAK_CNT, WICK_DEV_BASE + 0x2018 (11_wick.md) -/
def f_WICK_BREAK_CNT_COUNT : Fld := ⟨0, 48, .rw, 0⟩
/-! BCN_DEV_HELD, BCN_DEV_BASE + 0x0000 (09_beacon_taper.md) -/
def f_BCN_DEV_HELD_SPINE : Fld := ⟨48, 1, .ro, 0⟩
def f_BCN_DEV_HELD_COLS : Fld := ⟨16, 32, .ro, 0⟩
def f_BCN_DEV_HELD_ROWS : Fld := ⟨0, 16, .ro, 0⟩
/-! ARB_DEV_SEL, ARB_DEV_BASE + 0x0000 (12_arbitration.md, R393) -/
def f_ARB_DEV_SEL_POINT : Fld := ⟨0, 7, .rw, 0⟩
/-! ARB_DEV_CFG_SHADOW, ARB_DEV_BASE + 0x0008 (12_arbitration.md, R392) -/
def f_ARB_DEV_CFG_SHADOW_TC3 : Fld := ⟨62, 2, .rw, 0⟩
def f_ARB_DEV_CFG_SHADOW_TC2 : Fld := ⟨60, 2, .rw, 0⟩
def f_ARB_DEV_CFG_SHADOW_TC1 : Fld := ⟨58, 2, .rw, 0⟩
def f_ARB_DEV_CFG_SHADOW_TC0 : Fld := ⟨56, 2, .rw, 0⟩
def f_ARB_DEV_CFG_SHADOW_Q3 : Fld := ⟨48, 8, .rw, 0⟩
def f_ARB_DEV_CFG_SHADOW_Q2 : Fld := ⟨40, 8, .rw, 0⟩
def f_ARB_DEV_CFG_SHADOW_WIN : Fld := ⟨16, 16, .rw, 0⟩
def f_ARB_DEV_CFG_SHADOW_GRANT : Fld := ⟨2, 1, .rw, 0⟩
def f_ARB_DEV_CFG_SHADOW_TIMING : Fld := ⟨1, 1, .rw, 0⟩
def f_ARB_DEV_CFG_SHADOW_MODE : Fld := ⟨0, 1, .rw, 0⟩
/-! ARB_DEV_CFG_ACTIVE, ARB_DEV_BASE + 0x0010 (12_arbitration.md, R392) -/
def f_ARB_DEV_CFG_ACTIVE_TC3 : Fld := ⟨62, 2, .ro, 0⟩
def f_ARB_DEV_CFG_ACTIVE_TC2 : Fld := ⟨60, 2, .ro, 0⟩
def f_ARB_DEV_CFG_ACTIVE_TC1 : Fld := ⟨58, 2, .ro, 0⟩
def f_ARB_DEV_CFG_ACTIVE_TC0 : Fld := ⟨56, 2, .ro, 0⟩
def f_ARB_DEV_CFG_ACTIVE_Q3 : Fld := ⟨48, 8, .ro, 0⟩
def f_ARB_DEV_CFG_ACTIVE_Q2 : Fld := ⟨40, 8, .ro, 0⟩
def f_ARB_DEV_CFG_ACTIVE_WIN : Fld := ⟨16, 16, .ro, 0⟩
def f_ARB_DEV_CFG_ACTIVE_GRANT : Fld := ⟨2, 1, .ro, 0⟩
def f_ARB_DEV_CFG_ACTIVE_TIMING : Fld := ⟨1, 1, .ro, 0⟩
def f_ARB_DEV_CFG_ACTIVE_MODE : Fld := ⟨0, 1, .ro, 0⟩
/-! ARB_DEV_CTRL, ARB_DEV_BASE + 0x0018 (12_arbitration.md, R391) -/
def f_ARB_DEV_CTRL_CNT_CLR : Fld := ⟨0, 1, .wo, 0⟩
/-! ARB_DEV_STAT, ARB_DEV_BASE + 0x0020 (12_arbitration.md) -/
def f_ARB_DEV_STAT_OWNED : Fld := ⟨63, 1, .ro, 0⟩
def f_ARB_DEV_STAT_PARKED : Fld := ⟨62, 1, .ro, 0⟩
def f_ARB_DEV_STAT_HOLDING : Fld := ⟨61, 1, .ro, 0⟩
def f_ARB_DEV_STAT_MASK3 : Fld := ⟨60, 1, .ro, 0⟩
def f_ARB_DEV_STAT_MASK2 : Fld := ⟨59, 1, .ro, 0⟩
def f_ARB_DEV_STAT_BANK : Fld := ⟨58, 1, .ro, 0⟩
def f_ARB_DEV_STAT_OWNER : Fld := ⟨32, 9, .ro, 0⟩
def f_ARB_DEV_STAT_WIN_POS : Fld := ⟨0, 16, .ro, 0⟩
/-! ARB_DEV_REQ_SHADOW[512], ARB_DEV_BASE + 0x1000 (12_arbitration.md, R392) -/
def f_ARB_DEV_REQ_SHADOW_CLASS : Fld := ⟨16, 2, .rw, 0⟩
def f_ARB_DEV_REQ_SHADOW_WEIGHT : Fld := ⟨0, 16, .rw, 0⟩
/-! ARB_DEV_REQ_ACTIVE[512], ARB_DEV_BASE + 0x2000 (12_arbitration.md, R392) -/
def f_ARB_DEV_REQ_ACTIVE_CLASS : Fld := ⟨16, 2, .ro, 0⟩
def f_ARB_DEV_REQ_ACTIVE_WEIGHT : Fld := ⟨0, 16, .ro, 0⟩
/-! ARB_DEV_CNT_GRANTS[512], ARB_DEV_BASE + 0x4000 (12_arbitration.md, R391) -/
def f_ARB_DEV_CNT_GRANTS_COUNT : Fld := ⟨0, 48, .rw, 0⟩
/-! ARB_DEV_CNT_WAIT[512], ARB_DEV_BASE + 0x4008 (12_arbitration.md, R391) -/
def f_ARB_DEV_CNT_WAIT_COUNT : Fld := ⟨0, 48, .rw, 0⟩
/-! ARB_DEV_CNT_LONGEST[512], ARB_DEV_BASE + 0x4010 (12_arbitration.md, R391) -/
def f_ARB_DEV_CNT_LONGEST_LONGEST : Fld := ⟨0, 32, .rw, 0⟩
/-! SNF_DEV_CFG[97], SNF_DEV_BASE + 0x0000 (12_arbitration.md) -/
def f_SNF_DEV_CFG_EN : Fld := ⟨63, 1, .rw, 1⟩
def f_SNF_DEV_CFG_ACTION : Fld := ⟨62, 1, .rw, 1⟩
def f_SNF_DEV_CFG_LIMIT_LOG2 : Fld := ⟨0, 5, .rw, 20⟩
/-! SNF_DEV_STAT, SNF_DEV_BASE + 0x0800 (12_arbitration.md) -/
def f_SNF_DEV_STAT_VALID : Fld := ⟨63, 1, .ro, 0⟩
def f_SNF_DEV_STAT_FIRST_REQ : Fld := ⟨48, 9, .ro, 0⟩
def f_SNF_DEV_STAT_FIRST_POINT : Fld := ⟨40, 7, .ro, 0⟩
def f_SNF_DEV_STAT_CUT_RSP : Fld := ⟨1, 1, .w1c, 0⟩
def f_SNF_DEV_STAT_BITE : Fld := ⟨0, 1, .w1c, 0⟩
/-! SNF_DEV_BITE_CNT[97], SNF_DEV_BASE + 0x1000 (12_arbitration.md) -/
def f_SNF_DEV_BITE_CNT_COUNT : Fld := ⟨0, 48, .rw, 0⟩
/-! SHP_WLP_SHADOW[64], SHP_DEV_BASE + 0x0000 (13_policy_epochs.md, index 4n + t) -/
def f_SHP_WLP_SHADOW_EN : Fld := ⟨63, 1, .rw, 0⟩
def f_SHP_WLP_SHADOW_BURST : Fld := ⟨32, 20, .rw, 0⟩
def f_SHP_WLP_SHADOW_RATE : Fld := ⟨0, 16, .rw, 0⟩
/-! SHP_WLP_ACTIVE[64], SHP_DEV_BASE + 0x0200 (13_policy_epochs.md) -/
def f_SHP_WLP_ACTIVE_EN : Fld := ⟨63, 1, .ro, 0⟩
def f_SHP_WLP_ACTIVE_BURST : Fld := ⟨32, 20, .ro, 0⟩
def f_SHP_WLP_ACTIVE_RATE : Fld := ⟨0, 16, .ro, 0⟩
/-! SHP_LS_SHADOW[16], SHP_DEV_BASE + 0x0400 (13_policy_epochs.md) -/
def f_SHP_LS_SHADOW_COLL_PRIO : Fld := ⟨63, 1, .rw, 0⟩
def f_SHP_LS_SHADOW_COLL_QUOTA : Fld := ⟨0, 16, .rw, 0⟩
/-! SHP_LS_ACTIVE[16], SHP_DEV_BASE + 0x0480 (13_policy_epochs.md) -/
def f_SHP_LS_ACTIVE_COLL_PRIO : Fld := ⟨63, 1, .ro, 0⟩
def f_SHP_LS_ACTIVE_COLL_QUOTA : Fld := ⟨0, 16, .ro, 0⟩
/-! SHP_DEV_RST, SHP_DEV_BASE + 0x0500 (13_policy_epochs.md) -/
def f_SHP_DEV_RST_RST : Fld := ⟨0, 64, .rw, 0xffffffffffffffff⟩
/-! SHP_DEV_DIRTY, SHP_DEV_BASE + 0x0508 (13_policy_epochs.md) -/
def f_SHP_DEV_DIRTY_DIRTY : Fld := ⟨0, 64, .ro, 0⟩
/-! SHP_WLP_TOKENS[64], SHP_DEV_BASE + 0x0600 (13_policy_epochs.md) -/
def f_SHP_WLP_TOKENS_TOKENS : Fld := ⟨0, 32, .ro, 0⟩
/-! SHP_WLP_HELD_CNT[64], SHP_DEV_BASE + 0x0800 (13_policy_epochs.md) -/
def f_SHP_WLP_HELD_CNT_COUNT : Fld := ⟨0, 48, .rw, 0⟩
/-! COL_DEV_GRP[64], COL_DEV_BASE + 0x0000 (16_collectives.md) -/
def f_COL_DEV_GRP_VALID : Fld := ⟨63, 1, .ro, 0⟩
def f_COL_DEV_GRP_HOME : Fld := ⟨48, 9, .ro, 0⟩
def f_COL_DEV_GRP_SLOT : Fld := ⟨40, 3, .ro, 0⟩
/-! COL_DEV_STAT, COL_DEV_BASE + 0x0200 (16_collectives.md) -/
def f_COL_DEV_STAT_LIMIT : Fld := ⟨8, 1, .w1c, 0⟩
def f_COL_DEV_STAT_ACTIVE : Fld := ⟨0, 7, .ro, 0⟩
/-! SYS_CHIP, SYS_BASE + 0x0000 (15_system_network.md, = FLASH) -/
def f_SYS_CHIP_CHIP_ID : Fld := ⟨0, 17, .rw, 0⟩
/-! SYS_SHAPE0, SYS_BASE + 0x0008 (15_system_network.md) -/
def f_SYS_SHAPE0_K2M1 : Fld := ⟨34, 17, .rw, 0⟩
def f_SYS_SHAPE0_K1M1 : Fld := ⟨17, 17, .rw, 0⟩
def f_SYS_SHAPE0_K0M1 : Fld := ⟨0, 17, .rw, 0⟩
/-! SYS_SHAPE1, SYS_BASE + 0x0010 (15_system_network.md) -/
def f_SYS_SHAPE1_TORUS : Fld := ⟨51, 6, .rw, 0⟩
def f_SYS_SHAPE1_K5M1 : Fld := ⟨34, 17, .rw, 0⟩
def f_SYS_SHAPE1_K4M1 : Fld := ⟨17, 17, .rw, 0⟩
def f_SYS_SHAPE1_K3M1 : Fld := ⟨0, 17, .rw, 0⟩
/-! SYS_PORT_MAP[2], SYS_BASE + 0x0018 (15_system_network.md, byte n) -/
def f_SYS_PORT_MAP_USE7 : Fld := ⟨63, 1, .rw, 0⟩
def f_SYS_PORT_MAP_DIR7 : Fld := ⟨62, 1, .rw, 0⟩
def f_SYS_PORT_MAP_DIM7 : Fld := ⟨56, 3, .rw, 0⟩
def f_SYS_PORT_MAP_USE6 : Fld := ⟨55, 1, .rw, 0⟩
def f_SYS_PORT_MAP_DIR6 : Fld := ⟨54, 1, .rw, 0⟩
def f_SYS_PORT_MAP_DIM6 : Fld := ⟨48, 3, .rw, 0⟩
def f_SYS_PORT_MAP_USE5 : Fld := ⟨47, 1, .rw, 0⟩
def f_SYS_PORT_MAP_DIR5 : Fld := ⟨46, 1, .rw, 0⟩
def f_SYS_PORT_MAP_DIM5 : Fld := ⟨40, 3, .rw, 0⟩
def f_SYS_PORT_MAP_USE4 : Fld := ⟨39, 1, .rw, 0⟩
def f_SYS_PORT_MAP_DIR4 : Fld := ⟨38, 1, .rw, 0⟩
def f_SYS_PORT_MAP_DIM4 : Fld := ⟨32, 3, .rw, 0⟩
def f_SYS_PORT_MAP_USE3 : Fld := ⟨31, 1, .rw, 0⟩
def f_SYS_PORT_MAP_DIR3 : Fld := ⟨30, 1, .rw, 0⟩
def f_SYS_PORT_MAP_DIM3 : Fld := ⟨24, 3, .rw, 0⟩
def f_SYS_PORT_MAP_USE2 : Fld := ⟨23, 1, .rw, 0⟩
def f_SYS_PORT_MAP_DIR2 : Fld := ⟨22, 1, .rw, 0⟩
def f_SYS_PORT_MAP_DIM2 : Fld := ⟨16, 3, .rw, 0⟩
def f_SYS_PORT_MAP_USE1 : Fld := ⟨15, 1, .rw, 0⟩
def f_SYS_PORT_MAP_DIR1 : Fld := ⟨14, 1, .rw, 0⟩
def f_SYS_PORT_MAP_DIM1 : Fld := ⟨8, 3, .rw, 0⟩
def f_SYS_PORT_MAP_USE0 : Fld := ⟨7, 1, .rw, 0⟩
def f_SYS_PORT_MAP_DIR0 : Fld := ⟨6, 1, .rw, 0⟩
def f_SYS_PORT_MAP_DIM0 : Fld := ⟨0, 3, .rw, 0⟩
/-! SYS_CFG, SYS_BASE + 0x0028 (15_system_network.md, R479) -/
def f_SYS_CFG_ADAPT_EN : Fld := ⟨0, 1, .rw, 1⟩
/-! SYS_STAT, SYS_BASE + 0x0030 (15_system_network.md) -/
def f_SYS_STAT_TOPO_ERR : Fld := ⟨4, 1, .ro, 0⟩
def f_SYS_STAT_PIN_OVR : Fld := ⟨3, 1, .w1c, 0⟩
def f_SYS_STAT_BAD_FRAME : Fld := ⟨2, 1, .w1c, 0⟩
def f_SYS_STAT_FAIL : Fld := ⟨1, 1, .w1c, 0⟩
def f_SYS_STAT_NOROUTE : Fld := ⟨0, 1, .w1c, 0⟩
/-! SYS_FAIL_INFO, SYS_BASE + 0x0038 (15_system_network.md) -/
def f_SYS_FAIL_INFO_VALID : Fld := ⟨63, 1, .ro, 0⟩
def f_SYS_FAIL_INFO_CAUSE : Fld := ⟨60, 3, .ro, 0⟩
def f_SYS_FAIL_INFO_PORT : Fld := ⟨56, 4, .ro, 0⟩
def f_SYS_FAIL_INFO_DCHIP : Fld := ⟨0, 17, .ro, 0⟩
/-! SYS_NOROUTE_CNT, SYS_BASE + 0x0100 (15_system_network.md) -/
def f_SYS_NOROUTE_CNT_COUNT : Fld := ⟨0, 48, .rw, 0⟩
/-! SYS_FAIL_CNT, SYS_BASE + 0x0108 (15_system_network.md) -/
def f_SYS_FAIL_CNT_COUNT : Fld := ⟨0, 48, .rw, 0⟩
/-! SYS_BAD_FRAME_CNT, SYS_BASE + 0x0110 (15_system_network.md) -/
def f_SYS_BAD_FRAME_CNT_COUNT : Fld := ⟨0, 48, .rw, 0⟩
/-! SYS_PIN_OVR_CNT, SYS_BASE + 0x0118 (15_system_network.md) -/
def f_SYS_PIN_OVR_CNT_COUNT : Fld := ⟨0, 48, .rw, 0⟩
/-! SYS_DISCARD_CNT, SYS_BASE + 0x0120 (15_system_network.md) -/
def f_SYS_DISCARD_CNT_COUNT : Fld := ⟨0, 48, .rw, 0⟩
/-! SYS_ORDER_SHADOW[2], SYS_BASE + 0x0200 (15_system_network.md, R496) -/
def f_SYS_ORDER_SHADOW_ORDER : Fld := ⟨0, 18, .rw, 0x2c688⟩
/-! SYS_ORDER_ACTIVE[2], SYS_BASE + 0x0210 (15_system_network.md, R496) -/
def f_SYS_ORDER_ACTIVE_ORDER : Fld := ⟨0, 18, .ro, 0x2c688⟩
/-! SYS_PIN_SHADOW[96], SYS_BASE + 0x0400 (15_system_network.md, index 48s + 8d + w) -/
def f_SYS_PIN_SHADOW_ENTRIES : Fld := ⟨0, 64, .rw, 0⟩
/-! SYS_PIN_ACTIVE[96], SYS_BASE + 0x0800 (15_system_network.md) -/
def f_SYS_PIN_ACTIVE_ENTRIES : Fld := ⟨0, 64, .ro, 0⟩
/-! PRG_STAT, PRG_BASE + 0x0000 (15_system_network.md, R502) -/
def f_PRG_STAT_HDR_UE : Fld := ⟨2, 1, .w1c, 0⟩
def f_PRG_STAT_UE : Fld := ⟨1, 1, .w1c, 0⟩
def f_PRG_STAT_CE : Fld := ⟨0, 1, .w1c, 0⟩
/-! PRG_CE_CNT, PRG_BASE + 0x0008 (15_system_network.md) -/
def f_PRG_CE_CNT_COUNT : Fld := ⟨0, 48, .rw, 0⟩
/-! PRG_UE_CNT, PRG_BASE + 0x0010 (15_system_network.md) -/
def f_PRG_UE_CNT_COUNT : Fld := ⟨0, 48, .rw, 0⟩
/-! PRG_IN_CNT[16], PRG_BASE + 0x0100 (15_system_network.md) -/
def f_PRG_IN_CNT_COUNT : Fld := ⟨0, 48, .rw, 0⟩
/-! PRG_OUT_CNT[16], PRG_BASE + 0x0180 (15_system_network.md) -/
def f_PRG_OUT_CNT_COUNT : Fld := ⟨0, 48, .rw, 0⟩
/-! PRG_EQ_FREE[128], PRG_BASE + 0x0300 (15_system_network.md, index 8n + q) -/
def f_PRG_EQ_FREE_BYTES : Fld := ⟨0, 14, .ro, 0x2000⟩
/-! WLP_CFG[16], WLP_BASE + 0x0000 (14_wylet_ports.md) -/
def f_WLP_CFG_REJOIN_MS : Fld := ⟨48, 16, .rw, 50⟩
def f_WLP_CFG_ACK_TMO : Fld := ⟨38, 10, .rw, 150⟩
def f_WLP_CFG_RETRY_LIM : Fld := ⟨34, 4, .rw, 8⟩
def f_WLP_CFG_EN : Fld := ⟨0, 1, .rw, 0⟩
/-! WLP_CTRL[16], WLP_BASE + 0x0008 (14_wylet_ports.md) -/
def f_WLP_CTRL_PORT_RST : Fld := ⟨1, 1, .wo, 0⟩
def f_WLP_CTRL_RETRAIN : Fld := ⟨0, 1, .wo, 0⟩
/-! WLP_STAT[16], WLP_BASE + 0x0010 (14_wylet_ports.md) -/
def f_WLP_STAT_LANE_LOCK : Fld := ⟨48, 16, .ro, 0⟩
def f_WLP_STAT_HOLD_RX : Fld := ⟨15, 1, .ro, 0⟩
def f_WLP_STAT_HOLD_TX : Fld := ⟨14, 1, .ro, 0⟩
def f_WLP_STAT_STEP : Fld := ⟨4, 4, .ro, 0⟩
def f_WLP_STAT_STATE : Fld := ⟨0, 4, .ro, 0⟩
/-! WLP_EVENT[16], WLP_BASE + 0x0018 (14_wylet_ports.md) -/
def f_WLP_EVENT_EV : Fld := ⟨0, 15, .w1c, 0⟩
/-! WLP_NONCE[16], WLP_BASE + 0x0020 (14_wylet_ports.md, R443) -/
def f_WLP_NONCE_NONCE : Fld := ⟨0, 64, .ro, 0⟩
/-! WLP_INCARN[16], WLP_BASE + 0x0028 (14_wylet_ports.md, R443) -/
def f_WLP_INCARN_INCARN : Fld := ⟨0, 16, .ro, 0⟩
/-! WLP_PARTNER_NONCE[16], WLP_BASE + 0x0030 (14_wylet_ports.md) -/
def f_WLP_PARTNER_NONCE_NONCE : Fld := ⟨0, 64, .ro, 0⟩
/-! WLP_PARTNER_ID[16], WLP_BASE + 0x0038 (14_wylet_ports.md) -/
def f_WLP_PARTNER_ID_VALID : Fld := ⟨63, 1, .ro, 0⟩
def f_WLP_PARTNER_ID_INCARN : Fld := ⟨32, 16, .ro, 0⟩
def f_WLP_PARTNER_ID_CHIP_ID : Fld := ⟨8, 17, .ro, 0⟩
def f_WLP_PARTNER_ID_OPTION : Fld := ⟨4, 4, .ro, 0⟩
def f_WLP_PARTNER_ID_PORT : Fld := ⟨0, 4, .ro, 0⟩
/-! WLP_EXPECT[16], WLP_BASE + 0x0040 (14_wylet_ports.md) -/
def f_WLP_EXPECT_EN : Fld := ⟨63, 1, .rw, 0⟩
def f_WLP_EXPECT_CHIP_ID : Fld := ⟨8, 17, .rw, 0⟩
def f_WLP_EXPECT_PORT : Fld := ⟨0, 4, .rw, 0⟩
/-! WLP_LOSS_INFO[16], WLP_BASE + 0x0048 (14_wylet_ports.md) -/
def f_WLP_LOSS_INFO_VALID : Fld := ⟨63, 1, .ro, 0⟩
def f_WLP_LOSS_INFO_CAUSE : Fld := ⟨60, 3, .ro, 0⟩
def f_WLP_LOSS_INFO_FRAMES : Fld := ⟨16, 16, .ro, 0⟩
def f_WLP_LOSS_INFO_TOKENS : Fld := ⟨8, 8, .ro, 0⟩
def f_WLP_LOSS_INFO_MGMT : Fld := ⟨0, 8, .ro, 0⟩
/-! WLP_SEQ[16], WLP_BASE + 0x0050 (14_wylet_ports.md) -/
def f_WLP_SEQ_TX_NEXT : Fld := ⟨48, 16, .ro, 0⟩
def f_WLP_SEQ_TX_OLDEST : Fld := ⟨32, 16, .ro, 0⟩
def f_WLP_SEQ_RX_NEXT : Fld := ⟨16, 16, .ro, 0⟩
def f_WLP_SEQ_REPLAYS : Fld := ⟨0, 4, .ro, 0⟩
/-! WLP_REPLAY_FILL[16], WLP_BASE + 0x0058 (14_wylet_ports.md) -/
def f_WLP_REPLAY_FILL_BYTES : Fld := ⟨0, 19, .ro, 0⟩
/-! WLP_MGMT_TX[16], WLP_BASE + 0x0060 (14_wylet_ports.md, R452) -/
def f_WLP_MGMT_TX_WORD : Fld := ⟨0, 64, .wo, 0⟩
/-! WLP_MGMT_RX[16], WLP_BASE + 0x0068 (14_wylet_ports.md, R753) -/
def f_WLP_MGMT_RX_WORD : Fld := ⟨0, 64, .rc, 0⟩
/-! WLP_MGMT_STAT[16], WLP_BASE + 0x0070 (14_wylet_ports.md) -/
def f_WLP_MGMT_STAT_TX_FREE : Fld := ⟨8, 5, .ro, 16⟩
def f_WLP_MGMT_STAT_RX_CNT : Fld := ⟨0, 5, .ro, 0⟩
/-! WLP_LANE_CFG[256], WLP_BASE + 0x0100 (14_wylet_ports.md, index 16n + l) -/
def f_WLP_LANE_CFG_PRECODE : Fld := ⟨24, 1, .rw, 0⟩
def f_WLP_LANE_CFG_PRE : Fld := ⟨16, 8, .rw, 4⟩
def f_WLP_LANE_CFG_MAIN : Fld := ⟨8, 8, .rw, 48⟩
def f_WLP_LANE_CFG_POST : Fld := ⟨0, 8, .rw, 0⟩
/-! WLP_LANE_STAT[256], WLP_BASE + 0x0180 (14_wylet_ports.md) -/
def f_WLP_LANE_STAT_LOCK : Fld := ⟨63, 1, .ro, 0⟩
def f_WLP_LANE_STAT_INVERT : Fld := ⟨62, 1, .ro, 0⟩
def f_WLP_LANE_STAT_LOGICAL : Fld := ⟨56, 4, .ro, 0⟩
/-! WLP_SYM_CNT[256], WLP_BASE + 0x0200 (14_wylet_ports.md) -/
def f_WLP_SYM_CNT_COUNT : Fld := ⟨0, 48, .rw, 0⟩
/-! WLP_CNT[288], WLP_BASE + 0x0300 (14_wylet_ports.md, index 18n + k) -/
def f_WLP_CNT_COUNT : Fld := ⟨0, 48, .rw, 0⟩
/-! HIF_CFG, HIF_BASE + 0x0000 (18_host_pcie.md) -/
def f_HIF_CFG_CPL_WD : Fld := ⟨48, 16, .rw, 0x1f40⟩
def f_HIF_CFG_BAR2_TC : Fld := ⟨8, 2, .rw, 3⟩
def f_HIF_CFG_FLR_WARM : Fld := ⟨0, 1, .rw, 0⟩
/-! HIF_STAT, HIF_BASE + 0x0008 (18_host_pcie.md) -/
def f_HIF_STAT_LINK_UP : Fld := ⟨63, 1, .ro, 0⟩
def f_HIF_STAT_FLIT : Fld := ⟨62, 1, .ro, 0⟩
def f_HIF_STAT_SPEED : Fld := ⟨59, 3, .ro, 0⟩
def f_HIF_STAT_WIDTH : Fld := ⟨54, 5, .ro, 0⟩
def f_HIF_STAT_D3HOT : Fld := ⟨53, 1, .ro, 0⟩
def f_HIF_STAT_BME : Fld := ⟨52, 1, .ro, 0⟩
def f_HIF_STAT_CPL_WD : Fld := ⟨3, 1, .w1c, 0⟩
def f_HIF_STAT_DB_ERR : Fld := ⟨2, 1, .w1c, 0⟩
def f_HIF_STAT_BAR_ERR : Fld := ⟨1, 1, .w1c, 0⟩
def f_HIF_STAT_HWIN_ERR : Fld := ⟨0, 1, .w1c, 0⟩
/-! HIF_BAR2_VBASE, HIF_BASE + 0x0010 (18_host_pcie.md) -/
def f_HIF_BAR2_VBASE_VBASE : Fld := ⟨30, 17, .rw, 0⟩
/-! HIF_ERR_INFO, HIF_BASE + 0x0018 (18_host_pcie.md) -/
def f_HIF_ERR_INFO_VALID : Fld := ⟨63, 1, .ro, 0⟩
def f_HIF_ERR_INFO_CAUSE : Fld := ⟨59, 4, .ro, 0⟩
def f_HIF_ERR_INFO_BAR : Fld := ⟨48, 2, .ro, 0⟩
def f_HIF_ERR_INFO_ADDR : Fld := ⟨0, 47, .ro, 0⟩
/-! HIF_MSIX_TRIG, HIF_BASE + 0x0020 (18_host_pcie.md, R569) -/
def f_HIF_MSIX_TRIG_VECTOR : Fld := ⟨0, 8, .wo, 0⟩
/-! HIF_HWIN_DOWN_CNT, HIF_BASE + 0x0100 (18_host_pcie.md) -/
def f_HIF_HWIN_DOWN_CNT_COUNT : Fld := ⟨0, 48, .rw, 0⟩
/-! HIF_HWIN_INV_CNT, HIF_BASE + 0x0108 (18_host_pcie.md) -/
def f_HIF_HWIN_INV_CNT_COUNT : Fld := ⟨0, 48, .rw, 0⟩
/-! HIF_HWIN_ERR_CNT, HIF_BASE + 0x0110 (18_host_pcie.md) -/
def f_HIF_HWIN_ERR_CNT_COUNT : Fld := ⟨0, 48, .rw, 0⟩
/-! HIF_HWIN_TMO_CNT, HIF_BASE + 0x0118 (18_host_pcie.md) -/
def f_HIF_HWIN_TMO_CNT_COUNT : Fld := ⟨0, 48, .rw, 0⟩
/-! HIF_HWIN_PSN_CNT, HIF_BASE + 0x0120 (18_host_pcie.md) -/
def f_HIF_HWIN_PSN_CNT_COUNT : Fld := ⟨0, 48, .rw, 0⟩
/-! HIF_BAR_ERR_CNT, HIF_BASE + 0x0128 (18_host_pcie.md) -/
def f_HIF_BAR_ERR_CNT_COUNT : Fld := ⟨0, 48, .rw, 0⟩
/-! HIF_DB_CNT, HIF_BASE + 0x0130 (18_host_pcie.md) -/
def f_HIF_DB_CNT_COUNT : Fld := ⟨0, 48, .rw, 0⟩
/-! HIF_DB_ERR_CNT, HIF_BASE + 0x0138 (18_host_pcie.md) -/
def f_HIF_DB_ERR_CNT_COUNT : Fld := ⟨0, 48, .rw, 0⟩
/-! HIF_CPL_WD_CNT, HIF_BASE + 0x0140 (18_host_pcie.md) -/
def f_HIF_CPL_WD_CNT_COUNT : Fld := ⟨0, 48, .rw, 0⟩
/-! HIF_MSIX_CNT, HIF_BASE + 0x0148 (18_host_pcie.md) -/
def f_HIF_MSIX_CNT_COUNT : Fld := ⟨0, 48, .rw, 0⟩
/-! HIF_DB_MAP[256], HIF_BASE + 0x1000 (18_host_pcie.md) -/
def f_HIF_DB_MAP_EN : Fld := ⟨63, 1, .rw, 0⟩
def f_HIF_DB_MAP_DEV : Fld := ⟨62, 1, .rw, 0⟩
def f_HIF_DB_MAP_W32 : Fld := ⟨61, 1, .rw, 0⟩
def f_HIF_DB_MAP_TILE : Fld := ⟨25, 9, .rw, 0⟩
def f_HIF_DB_MAP_OFFSET : Fld := ⟨0, 25, .rw, 0⟩
/-! HIF_EVT_VEC[64], HIF_BASE + 0x2000 (18_host_pcie.md, reset VEC = 4k + j) -/
def f_HIF_EVT_VEC_EN3 : Fld := ⟨63, 1, .rw, 1⟩
def f_HIF_EVT_VEC_VEC3 : Fld := ⟨48, 8, .rw, 0⟩
def f_HIF_EVT_VEC_EN2 : Fld := ⟨47, 1, .rw, 1⟩
def f_HIF_EVT_VEC_VEC2 : Fld := ⟨32, 8, .rw, 0⟩
def f_HIF_EVT_VEC_EN1 : Fld := ⟨31, 1, .rw, 1⟩
def f_HIF_EVT_VEC_VEC1 : Fld := ⟨16, 8, .rw, 0⟩
def f_HIF_EVT_VEC_EN0 : Fld := ⟨15, 1, .rw, 1⟩
def f_HIF_EVT_VEC_VEC0 : Fld := ⟨0, 8, .rw, 0⟩
/-! HIF_HWIN[1024], HIF_BASE + 0x4000 (18_host_pcie.md) -/
def f_HIF_HWIN_HADDR : Fld := ⟨30, 34, .rw, 0⟩
def f_HIF_HWIN_NS : Fld := ⟨2, 1, .rw, 0⟩
def f_HIF_HWIN_RO : Fld := ⟨1, 1, .rw, 0⟩
def f_HIF_HWIN_VALID : Fld := ⟨0, 1, .rw, 0⟩
/-! GLV_STAT, GLV_BASE + 0x0000 (19_glovos_plane.md) -/
def f_GLV_STAT_RESTARTING : Fld := ⟨63, 1, .ro, 0⟩
def f_GLV_STAT_HALTED : Fld := ⟨62, 1, .ro, 0⟩
def f_GLV_STAT_STATE : Fld := ⟨59, 3, .ro, 0⟩
def f_GLV_STAT_LAST_CAUSE : Fld := ⟨55, 4, .ro, 0⟩
def f_GLV_STAT_RESTARTS : Fld := ⟨32, 16, .ro, 0⟩
def f_GLV_STAT_SRAM_CE : Fld := ⟨0, 1, .w1c, 0⟩
/-! GLV_PILOT, GLV_BASE + 0x0008 (19_glovos_plane.md, R579) -/
def f_GLV_PILOT_TICKS : Fld := ⟨0, 64, .ro, 0⟩
/-! GLV_CTRL, GLV_BASE + 0x0010 (19_glovos_plane.md) -/
def f_GLV_CTRL_RESTART : Fld := ⟨1, 1, .wo, 0⟩
def f_GLV_CTRL_WAKE : Fld := ⟨0, 1, .wo, 0⟩
/-! GLV_CFG, GLV_BASE + 0x0018 (19_glovos_plane.md) -/
def f_GLV_CFG_WDOG_MS : Fld := ⟨48, 16, .rw, 1000⟩
def f_GLV_CFG_IDLE_US : Fld := ⟨32, 16, .rw, 100⟩
def f_GLV_CFG_HELLO_S : Fld := ⟨8, 8, .rw, 0⟩
def f_GLV_CFG_SLEEP_EN : Fld := ⟨0, 1, .rw, 1⟩
/-! GLV_FAST, GLV_BASE + 0x0020 (19_glovos_plane.md, R603) -/
def f_GLV_FAST_PWRBRAKE : Fld := ⟨3, 1, .ro, 0⟩
def f_GLV_FAST_ALERT : Fld := ⟨2, 1, .ro, 0⟩
def f_GLV_FAST_THERM : Fld := ⟨1, 1, .ro, 0⟩
def f_GLV_FAST_PRSNT : Fld := ⟨0, 1, .ro, 1⟩
/-! GLV_ALERT_SRC, GLV_BASE + 0x0028 (19_glovos_plane.md, R604) -/
def f_GLV_ALERT_SRC_SRC : Fld := ⟨0, 9, .w1c, 0⟩
/-! GLV_ALERT_EN, GLV_BASE + 0x0030 (19_glovos_plane.md, R604) -/
def f_GLV_ALERT_EN_EN : Fld := ⟨0, 9, .rw, 191⟩
/-! GLV_ALERT_SET, GLV_BASE + 0x0038 (19_glovos_plane.md) -/
def f_GLV_ALERT_SET_FW : Fld := ⟨8, 1, .wo, 0⟩
/-! GLV_GAP_LAST, GLV_BASE + 0x0040 (19_glovos_plane.md, R588) -/
def f_GLV_GAP_LAST_TICKS : Fld := ⟨0, 32, .ro, 0⟩
/-! GLV_WDOG_KICK, GLV_BASE + 0x0048 (19_glovos_plane.md) -/
def f_GLV_WDOG_KICK_KICK : Fld := ⟨0, 1, .wo, 0⟩
/-! GLV_SRAM_CE_CNT, GLV_BASE + 0x0100 (19_glovos_plane.md) -/
def f_GLV_SRAM_CE_CNT_COUNT : Fld := ⟨0, 48, .rw, 0⟩
/-! GLV_CAN_RX_CNT, GLV_BASE + 0x0108 (19_glovos_plane.md) -/
def f_GLV_CAN_RX_CNT_COUNT : Fld := ⟨0, 48, .rw, 0⟩
/-! GLV_CAN_TX_CNT, GLV_BASE + 0x0110 (19_glovos_plane.md) -/
def f_GLV_CAN_TX_CNT_COUNT : Fld := ⟨0, 48, .rw, 0⟩
/-! GLV_CAN_DROP_CNT, GLV_BASE + 0x0118 (19_glovos_plane.md) -/
def f_GLV_CAN_DROP_CNT_COUNT : Fld := ⟨0, 48, .rw, 0⟩
/-! GLV_CAN_CLASSIC_CNT, GLV_BASE + 0x0120 (19_glovos_plane.md) -/
def f_GLV_CAN_CLASSIC_CNT_COUNT : Fld := ⟨0, 48, .rw, 0⟩
/-! GLV_CAN_REASM_ERR_CNT, GLV_BASE + 0x0128 (19_glovos_plane.md) -/
def f_GLV_CAN_REASM_ERR_CNT_COUNT : Fld := ⟨0, 48, .rw, 0⟩
/-! GLV_WAKE_CNT, GLV_BASE + 0x0130 (19_glovos_plane.md) -/
def f_GLV_WAKE_CNT_COUNT : Fld := ⟨0, 48, .rw, 0⟩
/-! GLV_MGMT_BAD_CNT, GLV_BASE + 0x0138 (19_glovos_plane.md) -/
def f_GLV_MGMT_BAD_CNT_COUNT : Fld := ⟨0, 48, .rw, 0⟩
/-! GLV_CAN_CFG, GLV_BASE + 0x0200 (19_glovos_plane.md, = FLASH) -/
def f_GLV_CAN_CFG_NODE : Fld := ⟨0, 7, .rw, 0⟩
/-! GLV_CAN_BT, GLV_BASE + 0x0208 (19_glovos_plane.md) -/
def f_GLV_CAN_BT_ABRP : Fld := ⟨56, 8, .rw, 2⟩
def f_GLV_CAN_BT_ATSEG1 : Fld := ⟨48, 8, .rw, 39⟩
def f_GLV_CAN_BT_ATSEG2 : Fld := ⟨40, 8, .rw, 10⟩
def f_GLV_CAN_BT_ASJW : Fld := ⟨32, 8, .rw, 10⟩
def f_GLV_CAN_BT_DBRP : Fld := ⟨28, 4, .rw, 1⟩
def f_GLV_CAN_BT_DTSEG1 : Fld := ⟨22, 6, .rw, 14⟩
def f_GLV_CAN_BT_DTSEG2 : Fld := ⟨17, 5, .rw, 5⟩
def f_GLV_CAN_BT_DSJW : Fld := ⟨12, 5, .rw, 5⟩
def f_GLV_CAN_BT_TDCO : Fld := ⟨6, 6, .rw, 15⟩
/-! GLV_CAN_STAT, GLV_BASE + 0x0210 (19_glovos_plane.md) -/
def f_GLV_CAN_STAT_REC : Fld := ⟨24, 8, .ro, 0⟩
def f_GLV_CAN_STAT_TEC : Fld := ⟨16, 8, .ro, 0⟩
def f_GLV_CAN_STAT_ERRSTATE : Fld := ⟨0, 2, .ro, 0⟩
/-! GLV_MBX_CTRL, GLV_BASE + 0x8000 (19_glovos_plane.md, R635) -/
def f_GLV_MBX_CTRL_GO : Fld := ⟨63, 1, .wo, 0⟩
def f_GLV_MBX_CTRL_LEN : Fld := ⟨0, 11, .rw, 0⟩
/-! GLV_MBX_STAT, GLV_BASE + 0x8008 (19_glovos_plane.md) -/
def f_GLV_MBX_STAT_BUSY : Fld := ⟨63, 1, .ro, 0⟩
def f_GLV_MBX_STAT_RSP_LEN : Fld := ⟨16, 11, .ro, 0⟩
def f_GLV_MBX_STAT_LOST : Fld := ⟨3, 1, .w1c, 0⟩
def f_GLV_MBX_STAT_DROP : Fld := ⟨2, 1, .w1c, 0⟩
def f_GLV_MBX_STAT_DONE : Fld := ⟨1, 1, .w1c, 0⟩
/-! GLV_MBX_REQ[256], GLV_BASE + 0x9000 (19_glovos_plane.md) -/
def f_GLV_MBX_REQ_WORD : Fld := ⟨0, 64, .rw, 0⟩
/-! GLV_MBX_RSP[256], GLV_BASE + 0xA000 (19_glovos_plane.md) -/
def f_GLV_MBX_RSP_WORD : Fld := ⟨0, 64, .ro, 0⟩
/-! SPT_STAT, SPT_BASE + 0x0000 (19_glovos_plane.md) -/
def f_SPT_STAT_MODE : Fld := ⟨8, 1, .ro, 0⟩
def f_SPT_STAT_EARLY : Fld := ⟨4, 1, .w1c, 0⟩
def f_SPT_STAT_MBX_DROP : Fld := ⟨3, 1, .w1c, 0⟩
def f_SPT_STAT_CMD_ERR : Fld := ⟨2, 1, .w1c, 0⟩
def f_SPT_STAT_XTRA : Fld := ⟨1, 1, .w1c, 0⟩
def f_SPT_STAT_ABORT : Fld := ⟨0, 1, .w1c, 0⟩
/-! SPT_XTRA, SPT_BASE + 0x0008 (19_glovos_plane.md) -/
def f_SPT_XTRA_CLOCKS : Fld := ⟨0, 48, .rw, 0⟩
/-! SPT_TXN_CNT, SPT_BASE + 0x0010 (19_glovos_plane.md) -/
def f_SPT_TXN_CNT_COUNT : Fld := ⟨0, 48, .rw, 0⟩
/-! SPT_ABORT_CNT, SPT_BASE + 0x0018 (19_glovos_plane.md) -/
def f_SPT_ABORT_CNT_COUNT : Fld := ⟨0, 48, .rw, 0⟩
/-! SPT_CMDERR_CNT, SPT_BASE + 0x0020 (19_glovos_plane.md) -/
def f_SPT_CMDERR_CNT_COUNT : Fld := ⟨0, 48, .rw, 0⟩
/-! SPT_LAST_CMD, SPT_BASE + 0x0028 (19_glovos_plane.md) -/
def f_SPT_LAST_CMD_VALID : Fld := ⟨63, 1, .ro, 0⟩
def f_SPT_LAST_CMD_CMD : Fld := ⟨0, 32, .ro, 0⟩
/-! PWR_STAT, PWR_BASE + 0x0000 (21_power_thermal.md) -/
def f_PWR_STAT_LIMITER : Fld := ⟨61, 3, .ro, 0⟩
def f_PWR_STAT_SENSOR_FAIL : Fld := ⟨12, 1, .w1c, 0⟩
def f_PWR_STAT_CFG_ERR : Fld := ⟨11, 1, .w1c, 0⟩
def f_PWR_STAT_VIN_OV : Fld := ⟨10, 1, .ro, 0⟩
def f_PWR_STAT_VIN_UV : Fld := ⟨9, 1, .ro, 0⟩
def f_PWR_STAT_EXC_SEEN : Fld := ⟨8, 1, .w1c, 0⟩
def f_PWR_STAT_FSTRETCH : Fld := ⟨7, 1, .ro, 0⟩
def f_PWR_STAT_CAP_SHORT : Fld := ⟨6, 1, .ro, 0⟩
def f_PWR_STAT_CAP_ACTIVE : Fld := ⟨5, 1, .ro, 0⟩
def f_PWR_STAT_BRAKE : Fld := ⟨4, 1, .ro, 0⟩
def f_PWR_STAT_WARN : Fld := ⟨3, 1, .ro, 0⟩
def f_PWR_STAT_TRIP : Fld := ⟨2, 1, .ro, 0⟩
def f_PWR_STAT_DEGRADED : Fld := ⟨1, 1, .ro, 0⟩
/-! PWR_CAP_LATCH, PWR_BASE + 0x0008 (21_power_thermal.md) -/
def f_PWR_CAP_LATCH_BRAKE_LEVEL : Fld := ⟨48, 16, .rw, 400⟩
def f_PWR_CAP_LATCH_SOURCE : Fld := ⟨32, 3, .ro, 1⟩
def f_PWR_CAP_LATCH_IN_FORCE : Fld := ⟨16, 16, .ro, 400⟩
def f_PWR_CAP_LATCH_DICT_CAP : Fld := ⟨0, 16, .rw, 400⟩
/-! PWR_HOST_CAP, PWR_BASE + 0x0010 (21_power_thermal.md) -/
def f_PWR_HOST_CAP_CAP : Fld := ⟨0, 16, .rw, 0⟩
/-! PWR_CLK_CFG, PWR_BASE + 0x0018 (21_power_thermal.md) -/
def f_PWR_CLK_CFG_FCLK_MAX : Fld := ⟨48, 8, .rw, 80⟩
def f_PWR_CLK_CFG_FCLK_NOM : Fld := ⟨40, 8, .rw, 80⟩
def f_PWR_CLK_CFG_FCLK_MIN : Fld := ⟨32, 8, .rw, 40⟩
def f_PWR_CLK_CFG_BOOST_EN : Fld := ⟨24, 1, .rw, 1⟩
def f_PWR_CLK_CFG_CCLK_MAX : Fld := ⟨16, 8, .rw, 104⟩
def f_PWR_CLK_CFG_CCLK_NOM : Fld := ⟨8, 8, .rw, 96⟩
def f_PWR_CLK_CFG_CCLK_MIN : Fld := ⟨0, 8, .rw, 20⟩
/-! PWR_VMAX, PWR_BASE + 0x0020 (21_power_thermal.md) -/
def f_PWR_VMAX_VMAX_F : Fld := ⟨16, 10, .rw, 900⟩
def f_PWR_VMAX_VMAX_T : Fld := ⟨0, 10, .rw, 900⟩
/-! PWR_BRAKE_CFG, PWR_BASE + 0x0028 (21_power_thermal.md) -/
def f_PWR_BRAKE_CFG_BRAKE_DUTY : Fld := ⟨16, 5, .rw, 8⟩
def f_PWR_BRAKE_CFG_BRAKE_FCLK : Fld := ⟨8, 8, .rw, 40⟩
def f_PWR_BRAKE_CFG_BRAKE_CCLK : Fld := ⟨0, 8, .rw, 40⟩
/-! PWR_CLK_STAT, PWR_BASE + 0x0030 (21_power_thermal.md) -/
def f_PWR_CLK_STAT_DUTY : Fld := ⟨16, 5, .ro, 16⟩
def f_PWR_CLK_STAT_FCLK : Fld := ⟨8, 8, .ro, 80⟩
def f_PWR_CLK_STAT_CCLK : Fld := ⟨0, 8, .ro, 20⟩
/-! PWR_MEAS, PWR_BASE + 0x0038 (21_power_thermal.md) -/
def f_PWR_MEAS_AVG_10S : Fld := ⟨48, 16, .ro, 0⟩
def f_PWR_MEAS_AVG_1S : Fld := ⟨32, 16, .ro, 0⟩
def f_PWR_MEAS_PEAK_1MS : Fld := ⟨16, 16, .ro, 0⟩
def f_PWR_MEAS_P_NOW : Fld := ⟨0, 16, .ro, 0⟩
/-! PWR_VIN, PWR_BASE + 0x0040 (21_power_thermal.md) -/
def f_PWR_VIN_V5 : Fld := ⟨32, 16, .ro, 0⟩
def f_PWR_VIN_IIN : Fld := ⟨16, 16, .ro, 0⟩
def f_PWR_VIN_VIN : Fld := ⟨0, 16, .ro, 0⟩
/-! PWR_ERR_INFO, PWR_BASE + 0x0048 (21_power_thermal.md) -/
def f_PWR_ERR_INFO_VALID : Fld := ⟨63, 1, .ro, 0⟩
def f_PWR_ERR_INFO_CODE : Fld := ⟨56, 7, .ro, 0⟩
def f_PWR_ERR_INFO_OFFSET : Fld := ⟨0, 25, .ro, 0⟩
/-! PWR_THERM_CFG, PWR_BASE + 0x0080 (21_power_thermal.md) -/
def f_PWR_THERM_CFG_TRIP_T : Fld := ⟨16, 16, .rw, 1760⟩
def f_PWR_THERM_CFG_WARN_T : Fld := ⟨0, 16, .rw, 1520⟩
/-! PWR_TEMP[16], PWR_BASE + 0x0100 (21_power_thermal.md) -/
def f_PWR_TEMP_VALID : Fld := ⟨63, 1, .ro, 0⟩
def f_PWR_TEMP_MAX : Fld := ⟨32, 16, .rw, 0x8000⟩
def f_PWR_TEMP_TEMP : Fld := ⟨0, 16, .ro, 0x8000⟩
/-! PWR_BRAKE_CNT, PWR_BASE + 0x0200 (21_power_thermal.md) -/
def f_PWR_BRAKE_CNT_COUNT : Fld := ⟨0, 48, .rw, 0⟩
/-! PWR_EXC_CNT, PWR_BASE + 0x0208 (21_power_thermal.md) -/
def f_PWR_EXC_CNT_COUNT : Fld := ⟨0, 48, .rw, 0⟩
/-! PWR_TRIP_CNT, PWR_BASE + 0x0210 (21_power_thermal.md) -/
def f_PWR_TRIP_CNT_COUNT : Fld := ⟨0, 48, .rw, 0⟩
/-! PWR_WARN_US, PWR_BASE + 0x0218 (21_power_thermal.md) -/
def f_PWR_WARN_US_COUNT : Fld := ⟨0, 48, .rw, 0⟩
/-! PWR_CAP_US, PWR_BASE + 0x0220 (21_power_thermal.md) -/
def f_PWR_CAP_US_COUNT : Fld := ⟨0, 48, .rw, 0⟩
/-! PWR_FSTRETCH_US, PWR_BASE + 0x0228 (21_power_thermal.md) -/
def f_PWR_FSTRETCH_US_COUNT : Fld := ⟨0, 48, .rw, 0⟩
/-! IVR_STAT[75], IVR_BASE + 0x0000 (21_power_thermal.md) -/
def f_IVR_STAT_STATE : Fld := ⟨61, 3, .ro, 0⟩
def f_IVR_STAT_ATTEMPTS : Fld := ⟨56, 3, .ro, 0⟩
def f_IVR_STAT_FAULT : Fld := ⟨52, 4, .ro, 0⟩
def f_IVR_STAT_RECOVERED : Fld := ⟨49, 1, .w1c, 0⟩
def f_IVR_STAT_STRETCH : Fld := ⟨48, 1, .w1c, 0⟩
def f_IVR_STAT_IOUT : Fld := ⟨32, 16, .ro, 0⟩
def f_IVR_STAT_VOUT : Fld := ⟨16, 10, .ro, 0⟩
def f_IVR_STAT_VTARGET : Fld := ⟨0, 10, .ro, 0⟩
/-! IVR_STRETCH_CNT[75], IVR_BASE + 0x0400 (21_power_thermal.md) -/
def f_IVR_STRETCH_CNT_COUNT : Fld := ⟨0, 48, .rw, 0⟩
/-! IVR_FAIL0, IVR_BASE + 0x0800 (21_power_thermal.md) -/
def f_IVR_FAIL0_FAILED : Fld := ⟨0, 64, .ro, 0⟩
/-! IVR_FAIL1, IVR_BASE + 0x0808 (21_power_thermal.md) -/
def f_IVR_FAIL1_FAILED : Fld := ⟨0, 11, .ro, 0⟩
/-! CN_DEV_STAT, CN_DEV_BASE + 0x0000 (10_control_messages.md) -/
def f_CN_DEV_STAT_VALID : Fld := ⟨63, 1, .ro, 0⟩
def f_CN_DEV_STAT_FIRST_TILE : Fld := ⟨0, 9, .ro, 0⟩
/-! CN_HUB_RX_CNT, CN_DEV_BASE + 0x0008 (10_control_messages.md) -/
def f_CN_HUB_RX_CNT_COUNT : Fld := ⟨0, 48, .rw, 0⟩
/-! CN_HUB_TX_CNT, CN_DEV_BASE + 0x0010 (10_control_messages.md) -/
def f_CN_HUB_TX_CNT_COUNT : Fld := ⟨0, 48, .rw, 0⟩

/-- The fields of each register; bits outside them are RSVD (R7, R8). -/
def tregFields (r : TReg) : List Fld :=
  match r with
  | .TILE_ID => [f_TILE_ID_CHIP_ID, f_TILE_ID_PY, f_TILE_ID_PX, f_TILE_ID_LID]
  | .TILE_ERR_SUM => [f_TILE_ERR_SUM_BLOCK]
  | .TILE_FPFLAGS => [f_TILE_FPFLAGS_CDX, f_TILE_FPFLAGS_RCX, f_TILE_FPFLAGS_VXE, f_TILE_FPFLAGS_MXE]
  | .TILE_IRQ_PEND => [f_TILE_IRQ_PEND_PEND]
  | .TILE_IRQ_ROUTE => [f_TILE_IRQ_ROUTE_EN7, f_TILE_IRQ_ROUTE_CORE7, f_TILE_IRQ_ROUTE_EN6, f_TILE_IRQ_ROUTE_CORE6, f_TILE_IRQ_ROUTE_EN5, f_TILE_IRQ_ROUTE_CORE5, f_TILE_IRQ_ROUTE_EN4, f_TILE_IRQ_ROUTE_CORE4, f_TILE_IRQ_ROUTE_EN3, f_TILE_IRQ_ROUTE_CORE3, f_TILE_IRQ_ROUTE_EN2, f_TILE_IRQ_ROUTE_CORE2, f_TILE_IRQ_ROUTE_EN1, f_TILE_IRQ_ROUTE_CORE1, f_TILE_IRQ_ROUTE_EN0, f_TILE_IRQ_ROUTE_CORE0]
  | .TILE_CORE_CTRL => [f_TILE_CORE_CTRL_COMM_RSV]
  | .TILE_CORE_RUN => [f_TILE_CORE_RUN_RUN]
  | .TILE_CORE_STAT => [f_TILE_CORE_STAT_RSV_REFUSED, f_TILE_CORE_STAT_WFI, f_TILE_CORE_STAT_STOPPED]
  | .TILE_MSIP => [f_TILE_MSIP_MSIP]
  | .TILE_BOOT_PC => [f_TILE_BOOT_PC_PC]
  | .TILE_MTIMECMP => [f_TILE_MTIMECMP_CMP]
  | .TILE_VLT_STAT => [f_TILE_VLT_STAT_CE_SEEN, f_TILE_VLT_STAT_UE_SEEN, f_TILE_VLT_STAT_NWR_SEEN, f_TILE_VLT_STAT_SELF_REFRESH, f_TILE_VLT_STAT_SCRUB_DONE]
  | .TILE_VLT_CE_CNT => [f_TILE_VLT_CE_CNT_COUNT]
  | .TILE_VLT_UE_CNT => [f_TILE_VLT_UE_CNT_COUNT]
  | .TILE_VLT_NWR_CNT => [f_TILE_VLT_NWR_CNT_COUNT]
  | .TILE_VLT_NWR_ADDR => [f_TILE_VLT_NWR_ADDR_VALID, f_TILE_VLT_NWR_ADDR_LINE]
  | .TILE_VLT_UE_ADDR => [f_TILE_VLT_UE_ADDR_VALID, f_TILE_VLT_UE_ADDR_LINE]
  | .TILE_VLT_PATROL => [f_TILE_VLT_PATROL_PASSES, f_TILE_VLT_PATROL_NEXT_LINE]
  | .TILE_PWR_CTRL => [f_TILE_PWR_CTRL_DOZE_IDLE, f_TILE_PWR_CTRL_WAKE, f_TILE_PWR_CTRL_SLEEP, f_TILE_PWR_CTRL_DOZE_EN]
  | .TILE_PWR_STAT => [f_TILE_PWR_STAT_WAKES, f_TILE_PWR_STAT_SLEEP_REFUSED, f_TILE_PWR_STAT_STATE]
  | .Q_DESC => [f_Q_DESC_LOG2_SIZE, f_Q_DESC_BASE, f_Q_DESC_ENABLE]
  | .Q_CPL => [f_Q_CPL_BASE]
  | .Q_PI => [f_Q_PI_PI]
  | .Q_CI => [f_Q_CI_CI]
  | .Q_CQ_PI => [f_Q_CQ_PI_CQ_PI]
  | .Q_CQ_CI => [f_Q_CQ_CI_CQ_CI]
  | .Q_CTRL => [f_Q_CTRL_ERR_IRQ, f_Q_CTRL_ABORT]
  | .Q_STAT => [f_Q_STAT_ABORTING, f_Q_STAT_CFG_ERR, f_Q_STAT_QERR, f_Q_STAT_BUSY]
  | .Q_DONE_CNT => [f_Q_DONE_CNT_COUNT]
  | .Q_ERR_CNT => [f_Q_ERR_CNT_COUNT]
  | .TILE_MXE_GATE_WAIT => [f_TILE_MXE_GATE_WAIT_COUNT]
  | .TILE_MXE_RA_READ => [f_TILE_MXE_RA_READ_COUNT]
  | .TILE_MXE_RA_CANCEL => [f_TILE_MXE_RA_CANCEL_COUNT]
  | .CM_STAT => [f_CM_STAT_UE_SEEN, f_CM_STAT_CE_SEEN, f_CM_STAT_SCRUB_DONE]
  | .CM_CE_CNT => [f_CM_CE_CNT_COUNT]
  | .CM_UE_CNT => [f_CM_UE_CNT_COUNT]
  | .CM_UE_ADDR => [f_CM_UE_ADDR_VALID, f_CM_UE_ADDR_LINE]
  | .NIU_CFG => [f_NIU_CFG_DMV3_RMODE, f_NIU_CFG_DMV2_RMODE, f_NIU_CFG_DMV1_RMODE, f_NIU_CFG_DMV0_RMODE, f_NIU_CFG_DMV3_TC, f_NIU_CFG_DMV2_TC, f_NIU_CFG_DMV1_TC, f_NIU_CFG_DMV0_TC, f_NIU_CFG_CORE_RMODE, f_NIU_CFG_CORE_TC]
  | .NIU_STAT => [f_NIU_STAT_POISON_RX, f_NIU_STAT_BAD_OP]
  | .NIU_IRQ_STAT => [f_NIU_IRQ_STAT_NQ]
  | .NIU_OUTST => [f_NIU_OUTST_TAGS]
  | .NIU_TX_A_BYTES => [f_NIU_TX_A_BYTES_COUNT]
  | .NIU_TX_B_BYTES => [f_NIU_TX_B_BYTES_COUNT]
  | .NIU_RX_A_BYTES => [f_NIU_RX_A_BYTES_COUNT]
  | .NIU_RX_B_BYTES => [f_NIU_RX_B_BYTES_COUNT]
  | .NIU_BAD_OP_CNT => [f_NIU_BAD_OP_CNT_COUNT]
  | .BN_TILE_STAT => [f_BN_TILE_STAT_HDR_UE, f_BN_TILE_STAT_LINK_UE, f_BN_TILE_STAT_LINK_CE]
  | .BN_LINK_CE_CNT => [f_BN_LINK_CE_CNT_COUNT]
  | .BN_LINK_UE_CNT => [f_BN_LINK_UE_CNT_COUNT]
  | .BN_PIN_OVR_A => [f_BN_PIN_OVR_A_COUNT]
  | .BN_PIN_OVR_B => [f_BN_PIN_OVR_B_COUNT]
  | .BN_FLIT_CNT => [f_BN_FLIT_CNT_COUNT]
  | .BN_PIN_SHADOW => [f_BN_PIN_SHADOW_ENTRIES]
  | .BN_PIN_ACTIVE => [f_BN_PIN_ACTIVE_ENTRIES]
  | .RED_CFG => [f_RED_CFG_DONE_CLR, f_RED_CFG_ORD_TMO, f_RED_CFG_SEEN_IRQ, f_RED_CFG_COMBINE_EN]
  | .RED_STATUS => [f_RED_STATUS_CTX_ARMED, f_RED_STATUS_SLOTS_HELD, f_RED_STATUS_SLOTS_SPEC, f_RED_STATUS_NIU_SPEC, f_RED_STATUS_NAK_SEEN, f_RED_STATUS_ORD_BROKEN, f_RED_STATUS_RES_ERR, f_RED_STATUS_OVER_SEEN, f_RED_STATUS_MISMATCH_SEEN, f_RED_STATUS_NOARM_SEEN, f_RED_STATUS_LATE_SEEN]
  | .RED_BAD_INFO => [f_RED_BAD_INFO_VALID, f_RED_BAD_INFO_REASON, f_RED_BAD_INFO_STATUS, f_RED_BAD_INFO_RID, f_RED_BAD_INFO_GEN, f_RED_BAD_INFO_SEG, f_RED_BAD_INFO_NCONTRIB, f_RED_BAD_INFO_TILE]
  | .RED_NAK_INFO => [f_RED_NAK_INFO_VALID, f_RED_NAK_INFO_REASON, f_RED_NAK_INFO_STATUS, f_RED_NAK_INFO_RID, f_RED_NAK_INFO_GEN, f_RED_NAK_INFO_SEG, f_RED_NAK_INFO_NCONTRIB, f_RED_NAK_INFO_TILE]
  | .RED_CTX => [f_RED_CTX_VALID, f_RED_CTX_ORD, f_RED_CTX_GEN, f_RED_CTX_KIND, f_RED_CTX_RID, f_RED_CTX_SEGS_DONE, f_RED_CTX_TAG]
  | .RED_COMBINE_CNT => [f_RED_COMBINE_CNT_COUNT]
  | .RED_HOLD_EXP_CNT => [f_RED_HOLD_EXP_CNT_COUNT]
  | .RED_SLOT_FULL_CNT => [f_RED_SLOT_FULL_CNT_COUNT]
  | .RED_SLOT_RSV_CNT => [f_RED_SLOT_RSV_CNT_COUNT]
  | .RED_SLOT_CANCEL_CNT => [f_RED_SLOT_CANCEL_CNT_COUNT]
  | .RED_NIU_SPEC_CNT => [f_RED_NIU_SPEC_CNT_COUNT]
  | .RED_NIU_CANCEL_CNT => [f_RED_NIU_CANCEL_CNT_COUNT]
  | .RED_LATE_CNT => [f_RED_LATE_CNT_COUNT]
  | .RED_NOARM_CNT => [f_RED_NOARM_CNT_COUNT]
  | .RED_MISMATCH_CNT => [f_RED_MISMATCH_CNT_COUNT]
  | .RED_OVER_CNT => [f_RED_OVER_CNT_COUNT]
  | .RED_RES_RETRY_CNT => [f_RED_RES_RETRY_CNT_COUNT]
  | .RED_RES_ERR_CNT => [f_RED_RES_ERR_CNT_COUNT]
  | .RED_ORD_BRK_CNT => [f_RED_ORD_BRK_CNT_COUNT]
  | .RED_NAK_CNT => [f_RED_NAK_CNT_COUNT]
  | .RED_OTREE_SHADOW => [f_RED_OTREE_SHADOW_MASK7, f_RED_OTREE_SHADOW_MASK6, f_RED_OTREE_SHADOW_MASK5, f_RED_OTREE_SHADOW_MASK4, f_RED_OTREE_SHADOW_MASK3, f_RED_OTREE_SHADOW_MASK2, f_RED_OTREE_SHADOW_MASK1, f_RED_OTREE_SHADOW_MASK0]
  | .RED_OTREE_ACTIVE => [f_RED_OTREE_ACTIVE_MASK7, f_RED_OTREE_ACTIVE_MASK6, f_RED_OTREE_ACTIVE_MASK5, f_RED_OTREE_ACTIVE_MASK4, f_RED_OTREE_ACTIVE_MASK3, f_RED_OTREE_ACTIVE_MASK2, f_RED_OTREE_ACTIVE_MASK1, f_RED_OTREE_ACTIVE_MASK0]
  | .RED_DONE => [f_RED_DONE_BITS]
  | .CDX_STAT => [f_CDX_STAT_SLOT_VALID, f_CDX_STAT_CRC_SEEN, f_CDX_STAT_DEC_SEEN, f_CDX_STAT_TBL_SEEN, f_CDX_STAT_HDR_SEEN]
  | .CDX_BAD_INFO => [f_CDX_BAD_INFO_VALID, f_CDX_BAD_INFO_REASON, f_CDX_BAD_INFO_SCHIP, f_CDX_BAD_INFO_STILE, f_CDX_BAD_INFO_TABLE_ID]
  | .CDX_SLOT => [f_CDX_SLOT_VALID, f_CDX_SLOT_UNIT, f_CDX_SLOT_NPLANES, f_CDX_SLOT_TABLE_ID, f_CDX_SLOT_CHECKSUM]
  | .CDX_ENC_IN_BYTES => [f_CDX_ENC_IN_BYTES_COUNT]
  | .CDX_ENC_OUT_BYTES => [f_CDX_ENC_OUT_BYTES_COUNT]
  | .CDX_DEC_IN_BYTES => [f_CDX_DEC_IN_BYTES_COUNT]
  | .CDX_DEC_OUT_BYTES => [f_CDX_DEC_OUT_BYTES_COUNT]
  | .CDX_PLAIN_CNT => [f_CDX_PLAIN_CNT_COUNT]
  | .CDX_RAW_PLANE_CNT => [f_CDX_RAW_PLANE_CNT_COUNT]
  | .CDX_HDR_ERR_CNT => [f_CDX_HDR_ERR_CNT_COUNT]
  | .CDX_TBL_ERR_CNT => [f_CDX_TBL_ERR_CNT_COUNT]
  | .CDX_DEC_ERR_CNT => [f_CDX_DEC_ERR_CNT_COUNT]
  | .CDX_CRC_ERR_CNT => [f_CDX_CRC_ERR_CNT_COUNT]
  | .BCN_TAP_ENT => [f_BCN_TAP_ENT_EN, f_BCN_TAP_ENT_BUS, f_BCN_TAP_ENT_CHANNEL, f_BCN_TAP_ENT_FLAG_EN, f_BCN_TAP_ENT_WIN_LOG2]
  | .BCN_TAP_LAND => [f_BCN_TAP_LAND_FLAG_OFF, f_BCN_TAP_LAND_WIN_BASE]
  | .BCN_STAT => [f_BCN_STAT_SB_ERR, f_BCN_STAT_UE, f_BCN_STAT_CE, f_BCN_STAT_CFG_ERR]
  | .BCN_RX_BYTES => [f_BCN_RX_BYTES_COUNT]
  | .BCN_XFER_CNT => [f_BCN_XFER_CNT_COUNT]
  | .BCN_STOP_CNT => [f_BCN_STOP_CNT_COUNT]
  | .BCN_CE_CNT => [f_BCN_CE_CNT_COUNT]
  | .BCN_UE_CNT => [f_BCN_UE_CNT_COUNT]
  | .TPR_CFG => [f_TPR_CFG_EN, f_TPR_CFG_LAND, f_TPR_CFG_HEAD_CH, f_TPR_CFG_IN, f_TPR_CFG_OUT, f_TPR_CFG_LEN, f_TPR_CFG_POS]
  | .TPR_RING => [f_TPR_RING_BASE, f_TPR_RING_LOG2]
  | .TPR_WP => [f_TPR_WP_WP]
  | .TPR_RP => [f_TPR_RP_RP]
  | .TPR_FLAG_CFG => [f_TPR_FLAG_CFG_FLAG_OFF, f_TPR_FLAG_CFG_PIECE_LOG2, f_TPR_FLAG_CFG_NFLAGM1]
  | .TPR_FLAG_BASE => [f_TPR_FLAG_BASE_FBASE]
  | .TPR_STAT => [f_TPR_STAT_BROKEN, f_TPR_STAT_READY, f_TPR_STAT_SKIPPED, f_TPR_STAT_RP_ERR, f_TPR_STAT_CHAIN_ERR, f_TPR_STAT_CFG_ERR]
  | .TPR_IN_BYTES => [f_TPR_IN_BYTES_COUNT]
  | .TPR_STALL_CNT => [f_TPR_STALL_CNT_COUNT]
  | .TPR_SKIP_CNT => [f_TPR_SKIP_CNT_COUNT]
  | .CN_TILE_STAT => [f_CN_TILE_STAT_BAD_OP, f_CN_TILE_STAT_HDR_UE, f_CN_TILE_STAT_LINK_UE, f_CN_TILE_STAT_LINK_CE]
  | .CN_LINK_CE_CNT => [f_CN_LINK_CE_CNT_COUNT]
  | .CN_LINK_UE_CNT => [f_CN_LINK_UE_CNT_COUNT]
  | .CN_BAD_OP_CNT => [f_CN_BAD_OP_CNT_COUNT]
  | .CN_FLIT_CNT => [f_CN_FLIT_CNT_COUNT]
  | .AMQ_CFG => [f_AMQ_CFG_SWORD_BASE, f_AMQ_CFG_SWORD_EN]
  | .AMQ_STAT => [f_AMQ_STAT_NAK_SEEN, f_AMQ_STAT_DISCARD_SEEN, f_AMQ_STAT_OVERRUN, f_AMQ_STAT_CTL_ERR, f_AMQ_STAT_CFG_ERR]
  | .AMQ_CTL_CMD => [f_AMQ_CTL_CMD_PEER_CHAN, f_AMQ_CTL_CMD_CMD, f_AMQ_CTL_CMD_INDEX]
  | .AMQ_BAD_INFO => [f_AMQ_BAD_INFO_VALID, f_AMQ_BAD_INFO_REASON, f_AMQ_BAD_INFO_STILE, f_AMQ_BAD_INFO_CHAN, f_AMQ_BAD_INFO_HANDLER, f_AMQ_BAD_INFO_LOFF]
  | .AMQ_TX_CNT => [f_AMQ_TX_CNT_COUNT]
  | .AMQ_RX_CNT => [f_AMQ_RX_CNT_COUNT]
  | .AMQ_DISCARD_CNT => [f_AMQ_DISCARD_CNT_COUNT]
  | .AMQ_NAK_CNT => [f_AMQ_NAK_CNT_COUNT]
  | .AMQ_COMB_CNT => [f_AMQ_COMB_CNT_COUNT]
  | .AMQ_COMB_NOARM_CNT => [f_AMQ_COMB_NOARM_CNT_COUNT]
  | .AMQ_COMB_LATE_CNT => [f_AMQ_COMB_LATE_CNT_COUNT]
  | .AQ_CFG => [f_AQ_CFG_LEVEL, f_AQ_CFG_LOG2_SIZE, f_AQ_CFG_BASE, f_AQ_CFG_IRQ_EN, f_AQ_CFG_ENABLE]
  | .AQ_SWORD => [f_AQ_SWORD_OFF]
  | .AQ_PI => [f_AQ_PI_PI]
  | .AQ_CI => [f_AQ_CI_CI]
  | .AMQ_HANDLER => [f_AMQ_HANDLER_EN7, f_AMQ_HANDLER_MODE7, f_AMQ_HANDLER_OP7, f_AMQ_HANDLER_FMT7, f_AMQ_HANDLER_EN6, f_AMQ_HANDLER_MODE6, f_AMQ_HANDLER_OP6, f_AMQ_HANDLER_FMT6, f_AMQ_HANDLER_EN5, f_AMQ_HANDLER_MODE5, f_AMQ_HANDLER_OP5, f_AMQ_HANDLER_FMT5, f_AMQ_HANDLER_EN4, f_AMQ_HANDLER_MODE4, f_AMQ_HANDLER_OP4, f_AMQ_HANDLER_FMT4, f_AMQ_HANDLER_EN3, f_AMQ_HANDLER_MODE3, f_AMQ_HANDLER_OP3, f_AMQ_HANDLER_FMT3, f_AMQ_HANDLER_EN2, f_AMQ_HANDLER_MODE2, f_AMQ_HANDLER_OP2, f_AMQ_HANDLER_FMT2, f_AMQ_HANDLER_EN1, f_AMQ_HANDLER_MODE1, f_AMQ_HANDLER_OP1, f_AMQ_HANDLER_FMT1, f_AMQ_HANDLER_EN0, f_AMQ_HANDLER_MODE0, f_AMQ_HANDLER_OP0, f_AMQ_HANDLER_FMT0]
  | .AMQ_CHAN_CFG => [f_AMQ_CHAN_CFG_ROLE, f_AMQ_CHAN_CFG_TC, f_AMQ_CHAN_CFG_AQ, f_AMQ_CHAN_CFG_SLVL, f_AMQ_CHAN_CFG_ANY, f_AMQ_CHAN_CFG_PEER, f_AMQ_CHAN_CFG_CREDITS, f_AMQ_CHAN_CFG_WIN, f_AMQ_CHAN_CFG_WIN_BASE]
  | .AMQ_CHAN_STAT => [f_AMQ_CHAN_STAT_STATE, f_AMQ_CHAN_STAT_DLVL, f_AMQ_CHAN_STAT_WIN, f_AMQ_CHAN_STAT_CREDITS, f_AMQ_CHAN_STAT_PEER_CHAN, f_AMQ_CHAN_STAT_PEER_TILE, f_AMQ_CHAN_STAT_RESULT, f_AMQ_CHAN_STAT_MSGS]
  | .AMQ_SEND_BUF => [f_AMQ_SEND_BUF_DATA]
  | .AMQ_SEND_GO => [f_AMQ_SEND_GO_GO]
  | .AMQ_SEND_STAT => [f_AMQ_SEND_STAT_BUSY, f_AMQ_SEND_STAT_SENT, f_AMQ_SEND_STAT_LAST]
  | .WICK_ARRIVE => [f_WICK_ARRIVE_CTX]
  | .WICK_ARRIVED => [f_WICK_ARRIVED_ARR]
  | .WICK_REL_PEND => [f_WICK_REL_PEND_REL]
  | .WICK_STAT => [f_WICK_STAT_DUP, f_WICK_STAT_NONMEMBER, f_WICK_STAT_BROKEN_SEEN, f_WICK_STAT_CFG_ERR]
  | .WICK_FLAG_OP => [f_WICK_FLAG_OP_OP, f_WICK_FLAG_OP_FLAG]
  | .WICK_LAND => [f_WICK_LAND_EN, f_WICK_LAND_IRQ_EN, f_WICK_LAND_CTX, f_WICK_LAND_OFF]
  | .WICK_WATCH => [f_WICK_WATCH_EN, f_WICK_WATCH_IRQ_EN, f_WICK_WATCH_VALUE, f_WICK_WATCH_FLAG, f_WICK_WATCH_OFF]
  | .WICK_FLAG_MIRROR => [f_WICK_FLAG_MIRROR_FLAGS]
  | .WICK_ARRIVE_CNT => [f_WICK_ARRIVE_CNT_COUNT]
  | .WICK_REL_CNT => [f_WICK_REL_CNT_COUNT]
  | .WICK_DUP_CNT => [f_WICK_DUP_CNT_COUNT]
  | .WICK_NONMEM_CNT => [f_WICK_NONMEM_CNT_COUNT]
  | .ARB_SEL => [f_ARB_SEL_POINT]
  | .ARB_CFG_SHADOW => [f_ARB_CFG_SHADOW_TC3, f_ARB_CFG_SHADOW_TC2, f_ARB_CFG_SHADOW_TC1, f_ARB_CFG_SHADOW_TC0, f_ARB_CFG_SHADOW_Q3, f_ARB_CFG_SHADOW_Q2, f_ARB_CFG_SHADOW_WIN, f_ARB_CFG_SHADOW_GRANT, f_ARB_CFG_SHADOW_TIMING, f_ARB_CFG_SHADOW_MODE]
  | .ARB_CFG_ACTIVE => [f_ARB_CFG_ACTIVE_TC3, f_ARB_CFG_ACTIVE_TC2, f_ARB_CFG_ACTIVE_TC1, f_ARB_CFG_ACTIVE_TC0, f_ARB_CFG_ACTIVE_Q3, f_ARB_CFG_ACTIVE_Q2, f_ARB_CFG_ACTIVE_WIN, f_ARB_CFG_ACTIVE_GRANT, f_ARB_CFG_ACTIVE_TIMING, f_ARB_CFG_ACTIVE_MODE]
  | .ARB_CTRL => [f_ARB_CTRL_CNT_CLR]
  | .ARB_STAT => [f_ARB_STAT_OWNED, f_ARB_STAT_PARKED, f_ARB_STAT_HOLDING, f_ARB_STAT_MASK3, f_ARB_STAT_MASK2, f_ARB_STAT_BANK, f_ARB_STAT_OWNER, f_ARB_STAT_WIN_POS]
  | .ARB_REQ_SHADOW => [f_ARB_REQ_SHADOW_CLASS, f_ARB_REQ_SHADOW_WEIGHT]
  | .ARB_REQ_ACTIVE => [f_ARB_REQ_ACTIVE_CLASS, f_ARB_REQ_ACTIVE_WEIGHT]
  | .ARB_CNT_GRANTS => [f_ARB_CNT_GRANTS_COUNT]
  | .ARB_CNT_WAIT => [f_ARB_CNT_WAIT_COUNT]
  | .ARB_CNT_LONGEST => [f_ARB_CNT_LONGEST_LONGEST]
  | .SNF_CFG => [f_SNF_CFG_EN, f_SNF_CFG_ACTION, f_SNF_CFG_LIMIT_LOG2]
  | .SNF_STAT => [f_SNF_STAT_VALID, f_SNF_STAT_FIRST_REQ, f_SNF_STAT_FIRST_POINT, f_SNF_STAT_CUT_RSP, f_SNF_STAT_BITE]
  | .SNF_BITE_CNT => [f_SNF_BITE_CNT_COUNT]
  | .SHP_NIU_SHADOW => [f_SHP_NIU_SHADOW_EN, f_SHP_NIU_SHADOW_BURST, f_SHP_NIU_SHADOW_RATE]
  | .SHP_NIU_ACTIVE => [f_SHP_NIU_ACTIVE_EN, f_SHP_NIU_ACTIVE_BURST, f_SHP_NIU_ACTIVE_RATE]
  | .SHP_RST => [f_SHP_RST_RST]
  | .SHP_DIRTY => [f_SHP_DIRTY_DIRTY]
  | .SHP_TOKENS => [f_SHP_TOKENS_TOKENS]
  | .SHP_HELD_CNT => [f_SHP_HELD_CNT_COUNT]
  | .SHP_BYTES => [f_SHP_BYTES_COUNT]
  | .COL_RT_STAT => [f_COL_RT_STAT_BEAT, f_COL_RT_STAT_RUNNING, f_COL_RT_STAT_VERSION]
  | .COL_TX_BYTES => [f_COL_TX_BYTES_COUNT]
  | .COL_RX_BYTES => [f_COL_RX_BYTES_COUNT]
  | .COL_OVF_CNT => [f_COL_OVF_CNT_COUNT]
  | .COL_OVF_BYTES => [f_COL_OVF_BYTES_COUNT]
  | .COL_STALE_CNT => [f_COL_STALE_CNT_COUNT]
  | .COL_TMO_CNT => [f_COL_TMO_CNT_COUNT]
  | .COL_GCFG0 => [f_COL_GCFG0_HI_CHIP, f_COL_GCFG0_LO_CHIP]
  | .COL_GCFG1 => [f_COL_GCFG1_ONCHIP_EN, f_COL_GCFG1_ORD, f_COL_GCFG1_RID, f_COL_GCFG1_TMO, f_COL_GCFG1_FAR, f_COL_GCFG1_NEAR]
  | .COL_GCFG2 => [f_COL_GCFG2_STG_OFF, f_COL_GCFG2_NSLOT_LOG2, f_COL_GCFG2_CHUNK_LOG2]
  | .COL_GCFG3 => [f_COL_GCFG3_ARMFLAG_OFF, f_COL_GCFG3_ACC_OFF]
  | .COL_GCTRL => [f_COL_GCTRL_REFORM, f_COL_GCTRL_CLOSE, f_COL_GCTRL_OPEN]
  | .COL_GSTAT => [f_COL_GSTAT_STATE, f_COL_GSTAT_CAUSE, f_COL_GSTAT_GID, f_COL_GSTAT_FORM, f_COL_GSTAT_NAX, f_COL_GSTAT_BUSY, f_COL_GSTAT_ENTRY]
  | .COL_GFAIL => [f_COL_GFAIL_VALID, f_COL_GFAIL_TILE, f_COL_GFAIL_CHIP]
  | .COL_EXCL => [f_COL_EXCL_VALID, f_COL_EXCL_CHIP]

/-- Part 0 of `tileRows`. -/
def tileRows0 : List (TReg × Nat × List (Nat × Nat)) :=
  [(.TILE_ID, 0x0, []),
   (.TILE_ERR_SUM, 0x8, []),
   (.TILE_FPFLAGS, 0x10, []),
   (.TILE_IRQ_PEND, 0x18, []),
   (.TILE_IRQ_ROUTE, 0x20, [(3, 0x8)]),
   (.TILE_CORE_CTRL, 0x100, []),
   (.TILE_CORE_RUN, 0x108, []),
   (.TILE_CORE_STAT, 0x110, []),
   (.TILE_MSIP, 0x118, []),
   (.TILE_BOOT_PC, 0x200, [(24, 0x8)]),
   (.TILE_MTIMECMP, 0x300, [(24, 0x8)]),
   (.TILE_VLT_STAT, 0x400, []),
   (.TILE_VLT_CE_CNT, 0x408, []),
   (.TILE_VLT_UE_CNT, 0x410, []),
   (.TILE_VLT_NWR_CNT, 0x418, []),
   (.TILE_VLT_NWR_ADDR, 0x420, []),
   (.TILE_VLT_UE_ADDR, 0x428, []),
   (.TILE_VLT_PATROL, 0x430, []),
   (.TILE_PWR_CTRL, 0x600, []),
   (.TILE_PWR_STAT, 0x608, []),
   (.TILE_MXE_GATE_WAIT, 0xD00, []),
   (.TILE_MXE_RA_READ, 0xD08, []),
   (.TILE_MXE_RA_CANCEL, 0xD10, []),
   (.CM_STAT, 0x2000, []),
   (.CM_CE_CNT, 0x2008, []),
   (.CM_UE_CNT, 0x2010, []),
   (.CM_UE_ADDR, 0x2018, []),
   (.NIU_CFG, 0x3000, []),
   (.NIU_STAT, 0x3008, []),
   (.NIU_IRQ_STAT, 0x3010, []),
   (.NIU_OUTST, 0x3018, []),
   (.NIU_TX_A_BYTES, 0x3400, []),
   (.NIU_TX_B_BYTES, 0x3408, []),
   (.NIU_RX_A_BYTES, 0x3410, []),
   (.NIU_RX_B_BYTES, 0x3418, []),
   (.NIU_BAD_OP_CNT, 0x3420, []),
   (.BN_TILE_STAT, 0x4000, []),
   (.BN_LINK_CE_CNT, 0x4008, []),
   (.BN_LINK_UE_CNT, 0x4010, []),
   (.BN_PIN_OVR_A, 0x4018, [])]

/-- Part 1 of `tileRows`. -/
def tileRows1 : List (TReg × Nat × List (Nat × Nat)) :=
  [(.BN_PIN_OVR_B, 0x4020, []),
   (.BN_FLIT_CNT, 0x4100, [(10, 0x8)]),
   (.BN_PIN_SHADOW, 0x4800, [(128, 0x8)]),
   (.BN_PIN_ACTIVE, 0x4C00, [(128, 0x8)]),
   (.RED_CFG, 0x5000, []),
   (.RED_STATUS, 0x5008, []),
   (.RED_BAD_INFO, 0x5010, []),
   (.RED_NAK_INFO, 0x5018, []),
   (.RED_CTX, 0x5200, [(16, 0x8)]),
   (.RED_COMBINE_CNT, 0x5300, []),
   (.RED_HOLD_EXP_CNT, 0x5308, []),
   (.RED_SLOT_FULL_CNT, 0x5310, []),
   (.RED_SLOT_RSV_CNT, 0x5318, []),
   (.RED_SLOT_CANCEL_CNT, 0x5320, []),
   (.RED_NIU_SPEC_CNT, 0x5328, []),
   (.RED_NIU_CANCEL_CNT, 0x5330, []),
   (.RED_LATE_CNT, 0x5338, []),
   (.RED_NOARM_CNT, 0x5340, []),
   (.RED_MISMATCH_CNT, 0x5348, []),
   (.RED_OVER_CNT, 0x5350, []),
   (.RED_RES_RETRY_CNT, 0x5358, []),
   (.RED_RES_ERR_CNT, 0x5360, []),
   (.RED_ORD_BRK_CNT, 0x5368, []),
   (.RED_NAK_CNT, 0x5370, []),
   (.RED_OTREE_SHADOW, 0x5400, [(2, 0x8)]),
   (.RED_OTREE_ACTIVE, 0x5440, [(2, 0x8)]),
   (.RED_DONE, 0x5800, [(128, 0x8)]),
   (.CDX_STAT, 0x6000, []),
   (.CDX_BAD_INFO, 0x6008, []),
   (.CDX_SLOT, 0x6100, [(16, 0x8)]),
   (.CDX_ENC_IN_BYTES, 0x6200, []),
   (.CDX_ENC_OUT_BYTES, 0x6208, []),
   (.CDX_DEC_IN_BYTES, 0x6210, []),
   (.CDX_DEC_OUT_BYTES, 0x6218, []),
   (.CDX_PLAIN_CNT, 0x6220, []),
   (.CDX_RAW_PLANE_CNT, 0x6228, []),
   (.CDX_HDR_ERR_CNT, 0x6230, []),
   (.CDX_TBL_ERR_CNT, 0x6238, []),
   (.CDX_DEC_ERR_CNT, 0x6240, []),
   (.CDX_CRC_ERR_CNT, 0x6248, [])]

/-- Part 2 of `tileRows`. -/
def tileRows2 : List (TReg × Nat × List (Nat × Nat)) :=
  [(.BCN_TAP_ENT, 0x7000, [(4, 0x10)]),
   (.BCN_TAP_LAND, 0x7008, [(4, 0x10)]),
   (.BCN_STAT, 0x7040, []),
   (.BCN_RX_BYTES, 0x7100, []),
   (.BCN_XFER_CNT, 0x7108, []),
   (.BCN_STOP_CNT, 0x7110, []),
   (.BCN_CE_CNT, 0x7118, []),
   (.BCN_UE_CNT, 0x7120, []),
   (.TPR_CFG, 0xF000, []),
   (.TPR_RING, 0xF008, []),
   (.TPR_WP, 0xF010, []),
   (.TPR_RP, 0xF018, []),
   (.TPR_FLAG_CFG, 0xF020, []),
   (.TPR_FLAG_BASE, 0xF028, []),
   (.TPR_STAT, 0xF030, []),
   (.TPR_IN_BYTES, 0xF100, []),
   (.TPR_STALL_CNT, 0xF108, []),
   (.TPR_SKIP_CNT, 0xF110, []),
   (.CN_TILE_STAT, 0x8000, []),
   (.CN_LINK_CE_CNT, 0x8008, []),
   (.CN_LINK_UE_CNT, 0x8010, []),
   (.CN_BAD_OP_CNT, 0x8018, []),
   (.CN_FLIT_CNT, 0x8100, [(5, 0x8)]),
   (.AMQ_CFG, 0x9000, []),
   (.AMQ_STAT, 0x9008, []),
   (.AMQ_CTL_CMD, 0x9010, []),
   (.AMQ_BAD_INFO, 0x9018, []),
   (.AMQ_TX_CNT, 0x9040, []),
   (.AMQ_RX_CNT, 0x9048, []),
   (.AMQ_DISCARD_CNT, 0x9050, []),
   (.AMQ_NAK_CNT, 0x9058, []),
   (.AMQ_COMB_CNT, 0x9060, []),
   (.AMQ_COMB_NOARM_CNT, 0x9068, []),
   (.AMQ_COMB_LATE_CNT, 0x9070, []),
   (.AQ_CFG, 0x9100, [(8, 0x20)]),
   (.AQ_SWORD, 0x9108, [(8, 0x20)]),
   (.AQ_PI, 0x9110, [(8, 0x20)]),
   (.AQ_CI, 0x9118, [(8, 0x20)]),
   (.AMQ_HANDLER, 0x9200, [(32, 0x8)]),
   (.AMQ_CHAN_CFG, 0x9300, [(64, 0x10)])]

/-- Part 3 of `tileRows`. -/
def tileRows3 : List (TReg × Nat × List (Nat × Nat)) :=
  [(.AMQ_CHAN_STAT, 0x9308, [(64, 0x10)]),
   (.AMQ_SEND_BUF, 0x9800, [(24, 0x40), (8, 0x8)]),
   (.AMQ_SEND_GO, 0x9E00, [(24, 0x10)]),
   (.AMQ_SEND_STAT, 0x9E08, [(24, 0x10)]),
   (.WICK_ARRIVE, 0xA000, []),
   (.WICK_ARRIVED, 0xA008, []),
   (.WICK_REL_PEND, 0xA010, []),
   (.WICK_STAT, 0xA018, []),
   (.WICK_FLAG_OP, 0xA020, []),
   (.WICK_LAND, 0xA040, [(8, 0x8)]),
   (.WICK_WATCH, 0xA080, [(4, 0x8)]),
   (.WICK_FLAG_MIRROR, 0xA100, [(4, 0x8)]),
   (.WICK_ARRIVE_CNT, 0xA200, []),
   (.WICK_REL_CNT, 0xA208, []),
   (.WICK_DUP_CNT, 0xA210, []),
   (.WICK_NONMEM_CNT, 0xA218, []),
   (.ARB_SEL, 0xB000, []),
   (.ARB_CFG_SHADOW, 0xB008, []),
   (.ARB_CFG_ACTIVE, 0xB010, []),
   (.ARB_CTRL, 0xB018, []),
   (.ARB_STAT, 0xB020, []),
   (.ARB_REQ_SHADOW, 0xB100, [(39, 0x8)]),
   (.ARB_REQ_ACTIVE, 0xB300, [(39, 0x8)]),
   (.ARB_CNT_GRANTS, 0xB800, [(39, 0x20)]),
   (.ARB_CNT_WAIT, 0xB808, [(39, 0x20)]),
   (.ARB_CNT_LONGEST, 0xB810, [(39, 0x20)]),
   (.SNF_CFG, 0xC000, [(63, 0x8)]),
   (.SNF_STAT, 0xC200, []),
   (.SNF_BITE_CNT, 0xC400, [(63, 0x8)]),
   (.SHP_NIU_SHADOW, 0xD000, [(4, 0x8)]),
   (.SHP_NIU_ACTIVE, 0xD040, [(4, 0x8)]),
   (.SHP_RST, 0xD080, []),
   (.SHP_DIRTY, 0xD088, []),
   (.SHP_TOKENS, 0xD090, [(4, 0x8)]),
   (.SHP_HELD_CNT, 0xD100, [(4, 0x8)]),
   (.SHP_BYTES, 0xD140, [(4, 0x8)]),
   (.COL_RT_STAT, 0xE000, []),
   (.COL_TX_BYTES, 0xE150, [(8, 0x100)]),
   (.COL_RX_BYTES, 0xE158, [(8, 0x100)]),
   (.COL_OVF_CNT, 0xE160, [(8, 0x100)])]

/-- Part 4 of `tileRows`. -/
def tileRows4 : List (TReg × Nat × List (Nat × Nat)) :=
  [(.COL_OVF_BYTES, 0xE168, [(8, 0x100)]),
   (.COL_STALE_CNT, 0xE170, [(8, 0x100)]),
   (.COL_TMO_CNT, 0xE178, [(8, 0x100)]),
   (.COL_GCFG0, 0xE180, [(8, 0x100)]),
   (.COL_GCFG1, 0xE188, [(8, 0x100)]),
   (.COL_GCFG2, 0xE190, [(8, 0x100)]),
   (.COL_GCFG3, 0xE198, [(8, 0x100)]),
   (.COL_GCTRL, 0xE1A0, [(8, 0x100)]),
   (.COL_GSTAT, 0xE1A8, [(8, 0x100)]),
   (.COL_GFAIL, 0xE1B0, [(8, 0x100)]),
   (.COL_EXCL, 0xE1C0, [(8, 0x100), (8, 0x8)])]

/-- Each register's offset and its array dimensions as (count, stride), outermost first. -/
def tileRows : List (TReg × Nat × List (Nat × Nat)) := tileRows0 ++ tileRows1 ++ tileRows2 ++ tileRows3 ++ tileRows4

/-- The fields of each register; bits outside them are RSVD (R7, R8). -/
def dregFields (r : DReg) : List Fld :=
  match r with
  | .TILE_GRID => [f_TILE_GRID_OPTION, f_TILE_GRID_MARKED, f_TILE_GRID_GRADE, f_TILE_GRID_WIDTH, f_TILE_GRID_HEIGHT, f_TILE_GRID_DARK_PER_ROW]
  | .TILE_MAP_STAT => [f_TILE_MAP_STAT_MAP_SEQ, f_TILE_MAP_STAT_FUSE_B_USED, f_TILE_MAP_STAT_NO_GRADE, f_TILE_MAP_STAT_PENDING, f_TILE_MAP_STAT_APPLYING]
  | .TILE_MAP_CTRL => [f_TILE_MAP_CTRL_APPLY]
  | .TILE_ROW_DARK => [f_TILE_ROW_DARK_DARK]
  | .TILE_ROW_FAIL => [f_TILE_ROW_FAIL_FAIL]
  | .TILE_DOM_FAIL0 => [f_TILE_DOM_FAIL0_FAILED]
  | .TILE_DOM_FAIL1 => [f_TILE_DOM_FAIL1_FAILED]
  | .TILE_DOM_ACCEPT0 => [f_TILE_DOM_ACCEPT0_ACCEPTED]
  | .TILE_DOM_ACCEPT1 => [f_TILE_DOM_ACCEPT1_ACCEPTED]
  | .TILE_DOWN_MAP => [f_TILE_DOWN_MAP_DOWN]
  | .TILE_L2P => [f_TILE_L2P_PX]
  | .TILE_MEM_CFG => [f_TILE_MEM_CFG_SCRUB_HOURS, f_TILE_MEM_CFG_CM_HASH, f_TILE_MEM_CFG_KEEP_ON_WARM, f_TILE_MEM_CFG_NWR_MODE, f_TILE_MEM_CFG_STRIPE, f_TILE_MEM_CFG_VAULT_MODE]
  | .TILE_MEM_STAT => [f_TILE_MEM_STAT_SCRUB_TILES, f_TILE_MEM_STAT_CFG_ERR, f_TILE_MEM_STAT_MODE_LOCKED, f_TILE_MEM_STAT_SCRUB_DONE]
  | .BOOT_STAT => [f_BOOT_STAT_READY, f_BOOT_STAT_FALLBACK, f_BOOT_STAT_STAGE, f_BOOT_STAT_RUNNING, f_BOOT_STAT_FAIL_B, f_BOOT_STAT_FAIL_A, f_BOOT_STAT_FAIL_G]
  | .BOOT_CFG => [f_BOOT_CFG_RT_EN]
  | .BOOT_RST_CTRL => [f_BOOT_RST_CTRL_TILE_ID, f_BOOT_RST_CTRL_RELOAD, f_BOOT_RST_CTRL_TILE, f_BOOT_RST_CTRL_FABRIC, f_BOOT_RST_CTRL_WARM, f_BOOT_RST_CTRL_COLD]
  | .BOOT_RST_STAT => [f_BOOT_RST_STAT_LAST, f_BOOT_RST_STAT_SOURCE, f_BOOT_RST_STAT_TILE_BUSY, f_BOOT_RST_STAT_CFG_ERR]
  | .BOOT_SVC_CTRL => [f_BOOT_SVC_CTRL_PREPARE]
  | .BOOT_SVC_STAT => [f_BOOT_SVC_STAT_STATE, f_BOOT_SVC_STAT_SVC_REFUSED]
  | .BOOT_RFL_STAT => [f_BOOT_RFL_STAT_ROLE, f_BOOT_RFL_STAT_STATE, f_BOOT_RFL_STAT_SLOTS, f_BOOT_RFL_STAT_FRAME]
  | .BOOT_WARM_CNT => [f_BOOT_WARM_CNT_COUNT]
  | .BOOT_FALLBACK_CNT => [f_BOOT_FALLBACK_CNT_COUNT]
  | .BOOT_RFL_CNT => [f_BOOT_RFL_CNT_COUNT]
  | .BOOT_TILE_RST_CNT => [f_BOOT_TILE_RST_CNT_COUNT]
  | .BOOT_ADM_ADDR => [f_BOOT_ADM_ADDR_ADDR]
  | .BOOT_ADM_CTRL => [f_BOOT_ADM_CTRL_RELEASE, f_BOOT_ADM_CTRL_ADM]
  | .BOOT_ADM_STAT => [f_BOOT_ADM_STAT_ADMITTED, f_BOOT_ADM_STAT_BUSY, f_BOOT_ADM_STAT_WITHDRAWN, f_BOOT_ADM_STAT_REFUSED, f_BOOT_ADM_STAT_TILE, f_BOOT_ADM_STAT_CODE]
  | .BOOT_ADM_MODEL => [f_BOOT_ADM_MODEL_MODEL_ID]
  | .BOOT_ADM_REFUSE_CNT => [f_BOOT_ADM_REFUSE_CNT_COUNT]
  | .ERR_STAT => [f_ERR_STAT_CLASS]
  | .ERR_CFG => [f_ERR_CFG_RSP_TMO, f_ERR_CFG_EVT_EN]
  | .ERR_DEV_SUM => [f_ERR_DEV_SUM_WLP, f_ERR_DEV_SUM_BLK]
  | .ERR_CNT => [f_ERR_CNT_COUNT]
  | .ERR_FIRST => [f_ERR_FIRST_VALID, f_ERR_FIRST_KIND, f_ERR_FIRST_LOC, f_ERR_FIRST_SUB]
  | .ERR_RSP_TMO_CNT => [f_ERR_RSP_TMO_CNT_COUNT]
  | .ERR_LATE_RSP_CNT => [f_ERR_LATE_RSP_CNT_COUNT]
  | .ERR_TILE_SUM => [f_ERR_TILE_SUM_TILES]
  | .ERR_CORE_BUS => [f_ERR_CORE_BUS_POISON, f_ERR_CORE_BUS_STORE]
  | .EMB_STAT => [f_EMB_STAT_FROZEN, f_EMB_STAT_COPIED, f_EMB_STAT_COPY_BUSY, f_EMB_STAT_COUNT, f_EMB_STAT_NEXT]
  | .EMB_CTRL => [f_EMB_CTRL_UNFREEZE, f_EMB_CTRL_COPY_NOW]
  | .EMB_CFG => [f_EMB_CFG_MERGE_EN]
  | .EMB_COPY => [f_EMB_COPY_NEXT_COPY]
  | .EMB_SW => [f_EMB_SW_VALUE]
  | .EMB_LOST => [f_EMB_LOST_COUNT]
  | .EMB_OVWR => [f_EMB_OVWR_COUNT]
  | .EMB_MERGE_CNT => [f_EMB_MERGE_CNT_COUNT]
  | .EMB_RAM => [f_EMB_RAM_WORD]
  | .EPC_COMMIT => [f_EPC_COMMIT_ID]
  | .EPC_CFG => [f_EPC_CFG_DRAIN_TMO, f_EPC_CFG_COPY_ON_DRAIN]
  | .EPC_STAT => [f_EPC_STAT_LAST_ID, f_EPC_STAT_COMMIT_RESET, f_EPC_STAT_QSLOW, f_EPC_STAT_DRAIN_SLOW, f_EPC_STAT_BUSY_REFUSED, f_EPC_STAT_LATE_WRITE, f_EPC_STAT_NEEDS_QUIESCE, f_EPC_STAT_QUIESCED, f_EPC_STAT_QUIESCING, f_EPC_STAT_EPOCH, f_EPC_STAT_PHASE]
  | .EPC_QUIESCE => [f_EPC_QUIESCE_REQ]
  | .EPC_LATE_INFO => [f_EPC_LATE_INFO_VALID, f_EPC_LATE_INFO_DEV, f_EPC_LATE_INFO_TILE, f_EPC_LATE_INFO_OFFSET]
  | .EPC_NQ_INFO => [f_EPC_NQ_INFO_VALID, f_EPC_NQ_INFO_DEV, f_EPC_NQ_INFO_TILE, f_EPC_NQ_INFO_OFFSET]
  | .EPC_COMMIT_CNT => [f_EPC_COMMIT_CNT_COUNT]
  | .EPC_LATE_CNT => [f_EPC_LATE_CNT_COUNT]
  | .EPC_NQ_CNT => [f_EPC_NQ_CNT_COUNT]
  | .EPC_DRAIN_LAST => [f_EPC_DRAIN_LAST_FCLKS]
  | .BN_PLANE_CFG => [f_BN_PLANE_CFG_B_ADAPT_EN, f_BN_PLANE_CFG_A_ADAPT_EN, f_BN_PLANE_CFG_B_ORDER, f_BN_PLANE_CFG_A_ORDER]
  | .BN_DEV_STAT => [f_BN_DEV_STAT_VALID, f_BN_DEV_STAT_FIRST_TILE]
  | .RED_DEV_STAT => [f_RED_DEV_STAT_VALID, f_RED_DEV_STAT_FIRST_TILE]
  | .WICK_DEV_STAT => [f_WICK_DEV_STAT_TOKEN_ERR, f_WICK_DEV_STAT_CFG_ERR]
  | .WICK_DEV_FLAG_OP => [f_WICK_DEV_FLAG_OP_OP, f_WICK_DEV_FLAG_OP_FLAG]
  | .WICK_FLAG_SEQ => [f_WICK_FLAG_SEQ_SEQ]
  | .WICK_FLAG_STATE => [f_WICK_FLAG_STATE_FLAGS]
  | .WICK_CTX_CFG => [f_WICK_CTX_CFG_EN, f_WICK_CTX_CFG_ABSENT, f_WICK_CTX_CFG_XCHIP, f_WICK_CTX_CFG_UPV, f_WICK_CTX_CFG_UP_PORT, f_WICK_CTX_CFG_DOWN_MASK, f_WICK_CTX_CFG_NEAR, f_WICK_CTX_CFG_FAR, f_WICK_CTX_CFG_TMO]
  | .WICK_CTX_STAT => [f_WICK_CTX_STAT_PENDING, f_WICK_CTX_STAT_BROKEN, f_WICK_CTX_STAT_CFG_BUSY, f_WICK_CTX_STAT_LAST, f_WICK_CTX_STAT_FIRST_MISSING, f_WICK_CTX_STAT_MISSING_CNT, f_WICK_CTX_STAT_GEN]
  | .WICK_TOKEN_TX_CNT => [f_WICK_TOKEN_TX_CNT_COUNT]
  | .WICK_TOKEN_RX_CNT => [f_WICK_TOKEN_RX_CNT_COUNT]
  | .WICK_TOKEN_DROP_CNT => [f_WICK_TOKEN_DROP_CNT_COUNT]
  | .WICK_BREAK_CNT => [f_WICK_BREAK_CNT_COUNT]
  | .BCN_DEV_HELD => [f_BCN_DEV_HELD_SPINE, f_BCN_DEV_HELD_COLS, f_BCN_DEV_HELD_ROWS]
  | .ARB_DEV_SEL => [f_ARB_DEV_SEL_POINT]
  | .ARB_DEV_CFG_SHADOW => [f_ARB_DEV_CFG_SHADOW_TC3, f_ARB_DEV_CFG_SHADOW_TC2, f_ARB_DEV_CFG_SHADOW_TC1, f_ARB_DEV_CFG_SHADOW_TC0, f_ARB_DEV_CFG_SHADOW_Q3, f_ARB_DEV_CFG_SHADOW_Q2, f_ARB_DEV_CFG_SHADOW_WIN, f_ARB_DEV_CFG_SHADOW_GRANT, f_ARB_DEV_CFG_SHADOW_TIMING, f_ARB_DEV_CFG_SHADOW_MODE]
  | .ARB_DEV_CFG_ACTIVE => [f_ARB_DEV_CFG_ACTIVE_TC3, f_ARB_DEV_CFG_ACTIVE_TC2, f_ARB_DEV_CFG_ACTIVE_TC1, f_ARB_DEV_CFG_ACTIVE_TC0, f_ARB_DEV_CFG_ACTIVE_Q3, f_ARB_DEV_CFG_ACTIVE_Q2, f_ARB_DEV_CFG_ACTIVE_WIN, f_ARB_DEV_CFG_ACTIVE_GRANT, f_ARB_DEV_CFG_ACTIVE_TIMING, f_ARB_DEV_CFG_ACTIVE_MODE]
  | .ARB_DEV_CTRL => [f_ARB_DEV_CTRL_CNT_CLR]
  | .ARB_DEV_STAT => [f_ARB_DEV_STAT_OWNED, f_ARB_DEV_STAT_PARKED, f_ARB_DEV_STAT_HOLDING, f_ARB_DEV_STAT_MASK3, f_ARB_DEV_STAT_MASK2, f_ARB_DEV_STAT_BANK, f_ARB_DEV_STAT_OWNER, f_ARB_DEV_STAT_WIN_POS]
  | .ARB_DEV_REQ_SHADOW => [f_ARB_DEV_REQ_SHADOW_CLASS, f_ARB_DEV_REQ_SHADOW_WEIGHT]
  | .ARB_DEV_REQ_ACTIVE => [f_ARB_DEV_REQ_ACTIVE_CLASS, f_ARB_DEV_REQ_ACTIVE_WEIGHT]
  | .ARB_DEV_CNT_GRANTS => [f_ARB_DEV_CNT_GRANTS_COUNT]
  | .ARB_DEV_CNT_WAIT => [f_ARB_DEV_CNT_WAIT_COUNT]
  | .ARB_DEV_CNT_LONGEST => [f_ARB_DEV_CNT_LONGEST_LONGEST]
  | .SNF_DEV_CFG => [f_SNF_DEV_CFG_EN, f_SNF_DEV_CFG_ACTION, f_SNF_DEV_CFG_LIMIT_LOG2]
  | .SNF_DEV_STAT => [f_SNF_DEV_STAT_VALID, f_SNF_DEV_STAT_FIRST_REQ, f_SNF_DEV_STAT_FIRST_POINT, f_SNF_DEV_STAT_CUT_RSP, f_SNF_DEV_STAT_BITE]
  | .SNF_DEV_BITE_CNT => [f_SNF_DEV_BITE_CNT_COUNT]
  | .SHP_WLP_SHADOW => [f_SHP_WLP_SHADOW_EN, f_SHP_WLP_SHADOW_BURST, f_SHP_WLP_SHADOW_RATE]
  | .SHP_WLP_ACTIVE => [f_SHP_WLP_ACTIVE_EN, f_SHP_WLP_ACTIVE_BURST, f_SHP_WLP_ACTIVE_RATE]
  | .SHP_LS_SHADOW => [f_SHP_LS_SHADOW_COLL_PRIO, f_SHP_LS_SHADOW_COLL_QUOTA]
  | .SHP_LS_ACTIVE => [f_SHP_LS_ACTIVE_COLL_PRIO, f_SHP_LS_ACTIVE_COLL_QUOTA]
  | .SHP_DEV_RST => [f_SHP_DEV_RST_RST]
  | .SHP_DEV_DIRTY => [f_SHP_DEV_DIRTY_DIRTY]
  | .SHP_WLP_TOKENS => [f_SHP_WLP_TOKENS_TOKENS]
  | .SHP_WLP_HELD_CNT => [f_SHP_WLP_HELD_CNT_COUNT]
  | .COL_DEV_GRP => [f_COL_DEV_GRP_VALID, f_COL_DEV_GRP_HOME, f_COL_DEV_GRP_SLOT]
  | .COL_DEV_STAT => [f_COL_DEV_STAT_LIMIT, f_COL_DEV_STAT_ACTIVE]
  | .SYS_CHIP => [f_SYS_CHIP_CHIP_ID]
  | .SYS_SHAPE0 => [f_SYS_SHAPE0_K2M1, f_SYS_SHAPE0_K1M1, f_SYS_SHAPE0_K0M1]
  | .SYS_SHAPE1 => [f_SYS_SHAPE1_TORUS, f_SYS_SHAPE1_K5M1, f_SYS_SHAPE1_K4M1, f_SYS_SHAPE1_K3M1]
  | .SYS_PORT_MAP => [f_SYS_PORT_MAP_USE7, f_SYS_PORT_MAP_DIR7, f_SYS_PORT_MAP_DIM7, f_SYS_PORT_MAP_USE6, f_SYS_PORT_MAP_DIR6, f_SYS_PORT_MAP_DIM6, f_SYS_PORT_MAP_USE5, f_SYS_PORT_MAP_DIR5, f_SYS_PORT_MAP_DIM5, f_SYS_PORT_MAP_USE4, f_SYS_PORT_MAP_DIR4, f_SYS_PORT_MAP_DIM4, f_SYS_PORT_MAP_USE3, f_SYS_PORT_MAP_DIR3, f_SYS_PORT_MAP_DIM3, f_SYS_PORT_MAP_USE2, f_SYS_PORT_MAP_DIR2, f_SYS_PORT_MAP_DIM2, f_SYS_PORT_MAP_USE1, f_SYS_PORT_MAP_DIR1, f_SYS_PORT_MAP_DIM1, f_SYS_PORT_MAP_USE0, f_SYS_PORT_MAP_DIR0, f_SYS_PORT_MAP_DIM0]
  | .SYS_CFG => [f_SYS_CFG_ADAPT_EN]
  | .SYS_STAT => [f_SYS_STAT_TOPO_ERR, f_SYS_STAT_PIN_OVR, f_SYS_STAT_BAD_FRAME, f_SYS_STAT_FAIL, f_SYS_STAT_NOROUTE]
  | .SYS_FAIL_INFO => [f_SYS_FAIL_INFO_VALID, f_SYS_FAIL_INFO_CAUSE, f_SYS_FAIL_INFO_PORT, f_SYS_FAIL_INFO_DCHIP]
  | .SYS_NOROUTE_CNT => [f_SYS_NOROUTE_CNT_COUNT]
  | .SYS_FAIL_CNT => [f_SYS_FAIL_CNT_COUNT]
  | .SYS_BAD_FRAME_CNT => [f_SYS_BAD_FRAME_CNT_COUNT]
  | .SYS_PIN_OVR_CNT => [f_SYS_PIN_OVR_CNT_COUNT]
  | .SYS_DISCARD_CNT => [f_SYS_DISCARD_CNT_COUNT]
  | .SYS_ORDER_SHADOW => [f_SYS_ORDER_SHADOW_ORDER]
  | .SYS_ORDER_ACTIVE => [f_SYS_ORDER_ACTIVE_ORDER]
  | .SYS_PIN_SHADOW => [f_SYS_PIN_SHADOW_ENTRIES]
  | .SYS_PIN_ACTIVE => [f_SYS_PIN_ACTIVE_ENTRIES]
  | .PRG_STAT => [f_PRG_STAT_HDR_UE, f_PRG_STAT_UE, f_PRG_STAT_CE]
  | .PRG_CE_CNT => [f_PRG_CE_CNT_COUNT]
  | .PRG_UE_CNT => [f_PRG_UE_CNT_COUNT]
  | .PRG_IN_CNT => [f_PRG_IN_CNT_COUNT]
  | .PRG_OUT_CNT => [f_PRG_OUT_CNT_COUNT]
  | .PRG_EQ_FREE => [f_PRG_EQ_FREE_BYTES]
  | .WLP_CFG => [f_WLP_CFG_REJOIN_MS, f_WLP_CFG_ACK_TMO, f_WLP_CFG_RETRY_LIM, f_WLP_CFG_EN]
  | .WLP_CTRL => [f_WLP_CTRL_PORT_RST, f_WLP_CTRL_RETRAIN]
  | .WLP_STAT => [f_WLP_STAT_LANE_LOCK, f_WLP_STAT_HOLD_RX, f_WLP_STAT_HOLD_TX, f_WLP_STAT_STEP, f_WLP_STAT_STATE]
  | .WLP_EVENT => [f_WLP_EVENT_EV]
  | .WLP_NONCE => [f_WLP_NONCE_NONCE]
  | .WLP_INCARN => [f_WLP_INCARN_INCARN]
  | .WLP_PARTNER_NONCE => [f_WLP_PARTNER_NONCE_NONCE]
  | .WLP_PARTNER_ID => [f_WLP_PARTNER_ID_VALID, f_WLP_PARTNER_ID_INCARN, f_WLP_PARTNER_ID_CHIP_ID, f_WLP_PARTNER_ID_OPTION, f_WLP_PARTNER_ID_PORT]
  | .WLP_EXPECT => [f_WLP_EXPECT_EN, f_WLP_EXPECT_CHIP_ID, f_WLP_EXPECT_PORT]
  | .WLP_LOSS_INFO => [f_WLP_LOSS_INFO_VALID, f_WLP_LOSS_INFO_CAUSE, f_WLP_LOSS_INFO_FRAMES, f_WLP_LOSS_INFO_TOKENS, f_WLP_LOSS_INFO_MGMT]
  | .WLP_SEQ => [f_WLP_SEQ_TX_NEXT, f_WLP_SEQ_TX_OLDEST, f_WLP_SEQ_RX_NEXT, f_WLP_SEQ_REPLAYS]
  | .WLP_REPLAY_FILL => [f_WLP_REPLAY_FILL_BYTES]
  | .WLP_MGMT_TX => [f_WLP_MGMT_TX_WORD]
  | .WLP_MGMT_RX => [f_WLP_MGMT_RX_WORD]
  | .WLP_MGMT_STAT => [f_WLP_MGMT_STAT_TX_FREE, f_WLP_MGMT_STAT_RX_CNT]
  | .WLP_LANE_CFG => [f_WLP_LANE_CFG_PRECODE, f_WLP_LANE_CFG_PRE, f_WLP_LANE_CFG_MAIN, f_WLP_LANE_CFG_POST]
  | .WLP_LANE_STAT => [f_WLP_LANE_STAT_LOCK, f_WLP_LANE_STAT_INVERT, f_WLP_LANE_STAT_LOGICAL]
  | .WLP_SYM_CNT => [f_WLP_SYM_CNT_COUNT]
  | .WLP_CNT => [f_WLP_CNT_COUNT]
  | .HIF_CFG => [f_HIF_CFG_CPL_WD, f_HIF_CFG_BAR2_TC, f_HIF_CFG_FLR_WARM]
  | .HIF_STAT => [f_HIF_STAT_LINK_UP, f_HIF_STAT_FLIT, f_HIF_STAT_SPEED, f_HIF_STAT_WIDTH, f_HIF_STAT_D3HOT, f_HIF_STAT_BME, f_HIF_STAT_CPL_WD, f_HIF_STAT_DB_ERR, f_HIF_STAT_BAR_ERR, f_HIF_STAT_HWIN_ERR]
  | .HIF_BAR2_VBASE => [f_HIF_BAR2_VBASE_VBASE]
  | .HIF_ERR_INFO => [f_HIF_ERR_INFO_VALID, f_HIF_ERR_INFO_CAUSE, f_HIF_ERR_INFO_BAR, f_HIF_ERR_INFO_ADDR]
  | .HIF_MSIX_TRIG => [f_HIF_MSIX_TRIG_VECTOR]
  | .HIF_HWIN_DOWN_CNT => [f_HIF_HWIN_DOWN_CNT_COUNT]
  | .HIF_HWIN_INV_CNT => [f_HIF_HWIN_INV_CNT_COUNT]
  | .HIF_HWIN_ERR_CNT => [f_HIF_HWIN_ERR_CNT_COUNT]
  | .HIF_HWIN_TMO_CNT => [f_HIF_HWIN_TMO_CNT_COUNT]
  | .HIF_HWIN_PSN_CNT => [f_HIF_HWIN_PSN_CNT_COUNT]
  | .HIF_BAR_ERR_CNT => [f_HIF_BAR_ERR_CNT_COUNT]
  | .HIF_DB_CNT => [f_HIF_DB_CNT_COUNT]
  | .HIF_DB_ERR_CNT => [f_HIF_DB_ERR_CNT_COUNT]
  | .HIF_CPL_WD_CNT => [f_HIF_CPL_WD_CNT_COUNT]
  | .HIF_MSIX_CNT => [f_HIF_MSIX_CNT_COUNT]
  | .HIF_DB_MAP => [f_HIF_DB_MAP_EN, f_HIF_DB_MAP_DEV, f_HIF_DB_MAP_W32, f_HIF_DB_MAP_TILE, f_HIF_DB_MAP_OFFSET]
  | .HIF_EVT_VEC => [f_HIF_EVT_VEC_EN3, f_HIF_EVT_VEC_VEC3, f_HIF_EVT_VEC_EN2, f_HIF_EVT_VEC_VEC2, f_HIF_EVT_VEC_EN1, f_HIF_EVT_VEC_VEC1, f_HIF_EVT_VEC_EN0, f_HIF_EVT_VEC_VEC0]
  | .HIF_HWIN => [f_HIF_HWIN_HADDR, f_HIF_HWIN_NS, f_HIF_HWIN_RO, f_HIF_HWIN_VALID]
  | .GLV_STAT => [f_GLV_STAT_RESTARTING, f_GLV_STAT_HALTED, f_GLV_STAT_STATE, f_GLV_STAT_LAST_CAUSE, f_GLV_STAT_RESTARTS, f_GLV_STAT_SRAM_CE]
  | .GLV_PILOT => [f_GLV_PILOT_TICKS]
  | .GLV_CTRL => [f_GLV_CTRL_RESTART, f_GLV_CTRL_WAKE]
  | .GLV_CFG => [f_GLV_CFG_WDOG_MS, f_GLV_CFG_IDLE_US, f_GLV_CFG_HELLO_S, f_GLV_CFG_SLEEP_EN]
  | .GLV_FAST => [f_GLV_FAST_PWRBRAKE, f_GLV_FAST_ALERT, f_GLV_FAST_THERM, f_GLV_FAST_PRSNT]
  | .GLV_ALERT_SRC => [f_GLV_ALERT_SRC_SRC]
  | .GLV_ALERT_EN => [f_GLV_ALERT_EN_EN]
  | .GLV_ALERT_SET => [f_GLV_ALERT_SET_FW]
  | .GLV_GAP_LAST => [f_GLV_GAP_LAST_TICKS]
  | .GLV_WDOG_KICK => [f_GLV_WDOG_KICK_KICK]
  | .GLV_SRAM_CE_CNT => [f_GLV_SRAM_CE_CNT_COUNT]
  | .GLV_CAN_RX_CNT => [f_GLV_CAN_RX_CNT_COUNT]
  | .GLV_CAN_TX_CNT => [f_GLV_CAN_TX_CNT_COUNT]
  | .GLV_CAN_DROP_CNT => [f_GLV_CAN_DROP_CNT_COUNT]
  | .GLV_CAN_CLASSIC_CNT => [f_GLV_CAN_CLASSIC_CNT_COUNT]
  | .GLV_CAN_REASM_ERR_CNT => [f_GLV_CAN_REASM_ERR_CNT_COUNT]
  | .GLV_WAKE_CNT => [f_GLV_WAKE_CNT_COUNT]
  | .GLV_MGMT_BAD_CNT => [f_GLV_MGMT_BAD_CNT_COUNT]
  | .GLV_CAN_CFG => [f_GLV_CAN_CFG_NODE]
  | .GLV_CAN_BT => [f_GLV_CAN_BT_ABRP, f_GLV_CAN_BT_ATSEG1, f_GLV_CAN_BT_ATSEG2, f_GLV_CAN_BT_ASJW, f_GLV_CAN_BT_DBRP, f_GLV_CAN_BT_DTSEG1, f_GLV_CAN_BT_DTSEG2, f_GLV_CAN_BT_DSJW, f_GLV_CAN_BT_TDCO]
  | .GLV_CAN_STAT => [f_GLV_CAN_STAT_REC, f_GLV_CAN_STAT_TEC, f_GLV_CAN_STAT_ERRSTATE]
  | .GLV_MBX_CTRL => [f_GLV_MBX_CTRL_GO, f_GLV_MBX_CTRL_LEN]
  | .GLV_MBX_STAT => [f_GLV_MBX_STAT_BUSY, f_GLV_MBX_STAT_RSP_LEN, f_GLV_MBX_STAT_LOST, f_GLV_MBX_STAT_DROP, f_GLV_MBX_STAT_DONE]
  | .GLV_MBX_REQ => [f_GLV_MBX_REQ_WORD]
  | .GLV_MBX_RSP => [f_GLV_MBX_RSP_WORD]
  | .SPT_STAT => [f_SPT_STAT_MODE, f_SPT_STAT_EARLY, f_SPT_STAT_MBX_DROP, f_SPT_STAT_CMD_ERR, f_SPT_STAT_XTRA, f_SPT_STAT_ABORT]
  | .SPT_XTRA => [f_SPT_XTRA_CLOCKS]
  | .SPT_TXN_CNT => [f_SPT_TXN_CNT_COUNT]
  | .SPT_ABORT_CNT => [f_SPT_ABORT_CNT_COUNT]
  | .SPT_CMDERR_CNT => [f_SPT_CMDERR_CNT_COUNT]
  | .SPT_LAST_CMD => [f_SPT_LAST_CMD_VALID, f_SPT_LAST_CMD_CMD]
  | .PWR_STAT => [f_PWR_STAT_LIMITER, f_PWR_STAT_SENSOR_FAIL, f_PWR_STAT_CFG_ERR, f_PWR_STAT_VIN_OV, f_PWR_STAT_VIN_UV, f_PWR_STAT_EXC_SEEN, f_PWR_STAT_FSTRETCH, f_PWR_STAT_CAP_SHORT, f_PWR_STAT_CAP_ACTIVE, f_PWR_STAT_BRAKE, f_PWR_STAT_WARN, f_PWR_STAT_TRIP, f_PWR_STAT_DEGRADED]
  | .PWR_CAP_LATCH => [f_PWR_CAP_LATCH_BRAKE_LEVEL, f_PWR_CAP_LATCH_SOURCE, f_PWR_CAP_LATCH_IN_FORCE, f_PWR_CAP_LATCH_DICT_CAP]
  | .PWR_HOST_CAP => [f_PWR_HOST_CAP_CAP]
  | .PWR_CLK_CFG => [f_PWR_CLK_CFG_FCLK_MAX, f_PWR_CLK_CFG_FCLK_NOM, f_PWR_CLK_CFG_FCLK_MIN, f_PWR_CLK_CFG_BOOST_EN, f_PWR_CLK_CFG_CCLK_MAX, f_PWR_CLK_CFG_CCLK_NOM, f_PWR_CLK_CFG_CCLK_MIN]
  | .PWR_VMAX => [f_PWR_VMAX_VMAX_F, f_PWR_VMAX_VMAX_T]
  | .PWR_BRAKE_CFG => [f_PWR_BRAKE_CFG_BRAKE_DUTY, f_PWR_BRAKE_CFG_BRAKE_FCLK, f_PWR_BRAKE_CFG_BRAKE_CCLK]
  | .PWR_CLK_STAT => [f_PWR_CLK_STAT_DUTY, f_PWR_CLK_STAT_FCLK, f_PWR_CLK_STAT_CCLK]
  | .PWR_MEAS => [f_PWR_MEAS_AVG_10S, f_PWR_MEAS_AVG_1S, f_PWR_MEAS_PEAK_1MS, f_PWR_MEAS_P_NOW]
  | .PWR_VIN => [f_PWR_VIN_V5, f_PWR_VIN_IIN, f_PWR_VIN_VIN]
  | .PWR_ERR_INFO => [f_PWR_ERR_INFO_VALID, f_PWR_ERR_INFO_CODE, f_PWR_ERR_INFO_OFFSET]
  | .PWR_THERM_CFG => [f_PWR_THERM_CFG_TRIP_T, f_PWR_THERM_CFG_WARN_T]
  | .PWR_TEMP => [f_PWR_TEMP_VALID, f_PWR_TEMP_MAX, f_PWR_TEMP_TEMP]
  | .PWR_BRAKE_CNT => [f_PWR_BRAKE_CNT_COUNT]
  | .PWR_EXC_CNT => [f_PWR_EXC_CNT_COUNT]
  | .PWR_TRIP_CNT => [f_PWR_TRIP_CNT_COUNT]
  | .PWR_WARN_US => [f_PWR_WARN_US_COUNT]
  | .PWR_CAP_US => [f_PWR_CAP_US_COUNT]
  | .PWR_FSTRETCH_US => [f_PWR_FSTRETCH_US_COUNT]
  | .IVR_STAT => [f_IVR_STAT_STATE, f_IVR_STAT_ATTEMPTS, f_IVR_STAT_FAULT, f_IVR_STAT_RECOVERED, f_IVR_STAT_STRETCH, f_IVR_STAT_IOUT, f_IVR_STAT_VOUT, f_IVR_STAT_VTARGET]
  | .IVR_STRETCH_CNT => [f_IVR_STRETCH_CNT_COUNT]
  | .IVR_FAIL0 => [f_IVR_FAIL0_FAILED]
  | .IVR_FAIL1 => [f_IVR_FAIL1_FAILED]
  | .CN_DEV_STAT => [f_CN_DEV_STAT_VALID, f_CN_DEV_STAT_FIRST_TILE]
  | .CN_HUB_RX_CNT => [f_CN_HUB_RX_CNT_COUNT]
  | .CN_HUB_TX_CNT => [f_CN_HUB_TX_CNT_COUNT]

/-- Part 0 of `devRows`. -/
def devRows0 : List (DReg × Nat × List (Nat × Nat)) :=
  [(.TILE_GRID, 0x0, []),
   (.TILE_MAP_STAT, 0x8, []),
   (.TILE_MAP_CTRL, 0x10, []),
   (.TILE_ROW_DARK, 0x100, [(16, 0x8)]),
   (.TILE_ROW_FAIL, 0x180, [(16, 0x8)]),
   (.TILE_DOM_FAIL0, 0x200, []),
   (.TILE_DOM_FAIL1, 0x208, []),
   (.TILE_DOM_ACCEPT0, 0x210, []),
   (.TILE_DOM_ACCEPT1, 0x218, []),
   (.TILE_DOWN_MAP, 0x300, [(8, 0x8)]),
   (.TILE_L2P, 0x400, [(64, 0x8)]),
   (.TILE_MEM_CFG, 0x10000, []),
   (.TILE_MEM_STAT, 0x10008, []),
   (.BOOT_STAT, 0x30000, []),
   (.BOOT_CFG, 0x30008, []),
   (.BOOT_RST_CTRL, 0x30010, []),
   (.BOOT_RST_STAT, 0x30018, []),
   (.BOOT_SVC_CTRL, 0x30020, []),
   (.BOOT_SVC_STAT, 0x30028, []),
   (.BOOT_RFL_STAT, 0x30030, []),
   (.BOOT_WARM_CNT, 0x30100, []),
   (.BOOT_FALLBACK_CNT, 0x30108, []),
   (.BOOT_RFL_CNT, 0x30110, []),
   (.BOOT_TILE_RST_CNT, 0x30118, []),
   (.BOOT_ADM_ADDR, 0x38000, []),
   (.BOOT_ADM_CTRL, 0x38008, []),
   (.BOOT_ADM_STAT, 0x38010, []),
   (.BOOT_ADM_MODEL, 0x38018, []),
   (.BOOT_ADM_REFUSE_CNT, 0x38020, []),
   (.ERR_STAT, 0x40000, []),
   (.ERR_CFG, 0x40008, []),
   (.ERR_DEV_SUM, 0x40010, []),
   (.ERR_CNT, 0x40020, [(4, 0x8)]),
   (.ERR_FIRST, 0x40040, [(4, 0x8)]),
   (.ERR_RSP_TMO_CNT, 0x40060, []),
   (.ERR_LATE_RSP_CNT, 0x40068, []),
   (.ERR_TILE_SUM, 0x40100, [(8, 0x8)]),
   (.ERR_CORE_BUS, 0x41000, [(512, 0x8)]),
   (.EMB_STAT, 0x100000, []),
   (.EMB_CTRL, 0x100008, [])]

/-- Part 1 of `devRows`. -/
def devRows1 : List (DReg × Nat × List (Nat × Nat)) :=
  [(.EMB_CFG, 0x100010, []),
   (.EMB_COPY, 0x100018, []),
   (.EMB_SW, 0x100020, []),
   (.EMB_LOST, 0x100100, []),
   (.EMB_OVWR, 0x100108, []),
   (.EMB_MERGE_CNT, 0x100110, []),
   (.EMB_RAM, 0x180000, [(16384, 0x8)]),
   (.EPC_COMMIT, 0x200000, []),
   (.EPC_CFG, 0x200008, []),
   (.EPC_STAT, 0x200010, []),
   (.EPC_QUIESCE, 0x200018, []),
   (.EPC_LATE_INFO, 0x200020, []),
   (.EPC_NQ_INFO, 0x200028, []),
   (.EPC_COMMIT_CNT, 0x200100, []),
   (.EPC_LATE_CNT, 0x200108, []),
   (.EPC_NQ_CNT, 0x200110, []),
   (.EPC_DRAIN_LAST, 0x200118, []),
   (.BN_PLANE_CFG, 0x300000, []),
   (.BN_DEV_STAT, 0x300008, []),
   (.RED_DEV_STAT, 0x400000, []),
   (.WICK_DEV_STAT, 0x500000, []),
   (.WICK_DEV_FLAG_OP, 0x500008, []),
   (.WICK_FLAG_SEQ, 0x500010, []),
   (.WICK_FLAG_STATE, 0x500100, [(4, 0x8)]),
   (.WICK_CTX_CFG, 0x501000, [(64, 0x10)]),
   (.WICK_CTX_STAT, 0x501008, [(64, 0x10)]),
   (.WICK_TOKEN_TX_CNT, 0x502000, []),
   (.WICK_TOKEN_RX_CNT, 0x502008, []),
   (.WICK_TOKEN_DROP_CNT, 0x502010, []),
   (.WICK_BREAK_CNT, 0x502018, []),
   (.BCN_DEV_HELD, 0x600000, []),
   (.ARB_DEV_SEL, 0x800000, []),
   (.ARB_DEV_CFG_SHADOW, 0x800008, []),
   (.ARB_DEV_CFG_ACTIVE, 0x800010, []),
   (.ARB_DEV_CTRL, 0x800018, []),
   (.ARB_DEV_STAT, 0x800020, []),
   (.ARB_DEV_REQ_SHADOW, 0x801000, [(512, 0x8)]),
   (.ARB_DEV_REQ_ACTIVE, 0x802000, [(512, 0x8)]),
   (.ARB_DEV_CNT_GRANTS, 0x804000, [(512, 0x20)]),
   (.ARB_DEV_CNT_WAIT, 0x804008, [(512, 0x20)])]

/-- Part 2 of `devRows`. -/
def devRows2 : List (DReg × Nat × List (Nat × Nat)) :=
  [(.ARB_DEV_CNT_LONGEST, 0x804010, [(512, 0x20)]),
   (.SNF_DEV_CFG, 0x900000, [(97, 0x8)]),
   (.SNF_DEV_STAT, 0x900800, []),
   (.SNF_DEV_BITE_CNT, 0x901000, [(97, 0x8)]),
   (.SHP_WLP_SHADOW, 0xA00000, [(64, 0x8)]),
   (.SHP_WLP_ACTIVE, 0xA00200, [(64, 0x8)]),
   (.SHP_LS_SHADOW, 0xA00400, [(16, 0x8)]),
   (.SHP_LS_ACTIVE, 0xA00480, [(16, 0x8)]),
   (.SHP_DEV_RST, 0xA00500, []),
   (.SHP_DEV_DIRTY, 0xA00508, []),
   (.SHP_WLP_TOKENS, 0xA00600, [(64, 0x8)]),
   (.SHP_WLP_HELD_CNT, 0xA00800, [(64, 0x8)]),
   (.COL_DEV_GRP, 0xB00000, [(64, 0x8)]),
   (.COL_DEV_STAT, 0xB00200, []),
   (.SYS_CHIP, 0xC00000, []),
   (.SYS_SHAPE0, 0xC00008, []),
   (.SYS_SHAPE1, 0xC00010, []),
   (.SYS_PORT_MAP, 0xC00018, [(2, 0x8)]),
   (.SYS_CFG, 0xC00028, []),
   (.SYS_STAT, 0xC00030, []),
   (.SYS_FAIL_INFO, 0xC00038, []),
   (.SYS_NOROUTE_CNT, 0xC00100, []),
   (.SYS_FAIL_CNT, 0xC00108, []),
   (.SYS_BAD_FRAME_CNT, 0xC00110, []),
   (.SYS_PIN_OVR_CNT, 0xC00118, []),
   (.SYS_DISCARD_CNT, 0xC00120, []),
   (.SYS_ORDER_SHADOW, 0xC00200, [(2, 0x8)]),
   (.SYS_ORDER_ACTIVE, 0xC00210, [(2, 0x8)]),
   (.SYS_PIN_SHADOW, 0xC00400, [(2, 0x180), (6, 0x40), (8, 0x8)]),
   (.SYS_PIN_ACTIVE, 0xC00800, [(2, 0x180), (6, 0x40), (8, 0x8)]),
   (.PRG_STAT, 0xD00000, []),
   (.PRG_CE_CNT, 0xD00008, []),
   (.PRG_UE_CNT, 0xD00010, []),
   (.PRG_IN_CNT, 0xD00100, [(16, 0x8)]),
   (.PRG_OUT_CNT, 0xD00180, [(16, 0x8)]),
   (.PRG_EQ_FREE, 0xD00300, [(16, 0x40), (8, 0x8)]),
   (.WLP_CFG, 0xE00000, [(16, 0x10000)]),
   (.WLP_CTRL, 0xE00008, [(16, 0x10000)]),
   (.WLP_STAT, 0xE00010, [(16, 0x10000)]),
   (.WLP_EVENT, 0xE00018, [(16, 0x10000)])]

/-- Part 3 of `devRows`. -/
def devRows3 : List (DReg × Nat × List (Nat × Nat)) :=
  [(.WLP_NONCE, 0xE00020, [(16, 0x10000)]),
   (.WLP_INCARN, 0xE00028, [(16, 0x10000)]),
   (.WLP_PARTNER_NONCE, 0xE00030, [(16, 0x10000)]),
   (.WLP_PARTNER_ID, 0xE00038, [(16, 0x10000)]),
   (.WLP_EXPECT, 0xE00040, [(16, 0x10000)]),
   (.WLP_LOSS_INFO, 0xE00048, [(16, 0x10000)]),
   (.WLP_SEQ, 0xE00050, [(16, 0x10000)]),
   (.WLP_REPLAY_FILL, 0xE00058, [(16, 0x10000)]),
   (.WLP_MGMT_TX, 0xE00060, [(16, 0x10000)]),
   (.WLP_MGMT_RX, 0xE00068, [(16, 0x10000)]),
   (.WLP_MGMT_STAT, 0xE00070, [(16, 0x10000)]),
   (.WLP_LANE_CFG, 0xE00100, [(16, 0x10000), (16, 0x8)]),
   (.WLP_LANE_STAT, 0xE00180, [(16, 0x10000), (16, 0x8)]),
   (.WLP_SYM_CNT, 0xE00200, [(16, 0x10000), (16, 0x8)]),
   (.WLP_CNT, 0xE00300, [(16, 0x10000), (18, 0x8)]),
   (.HIF_CFG, 0xF00000, []),
   (.HIF_STAT, 0xF00008, []),
   (.HIF_BAR2_VBASE, 0xF00010, []),
   (.HIF_ERR_INFO, 0xF00018, []),
   (.HIF_MSIX_TRIG, 0xF00020, []),
   (.HIF_HWIN_DOWN_CNT, 0xF00100, []),
   (.HIF_HWIN_INV_CNT, 0xF00108, []),
   (.HIF_HWIN_ERR_CNT, 0xF00110, []),
   (.HIF_HWIN_TMO_CNT, 0xF00118, []),
   (.HIF_HWIN_PSN_CNT, 0xF00120, []),
   (.HIF_BAR_ERR_CNT, 0xF00128, []),
   (.HIF_DB_CNT, 0xF00130, []),
   (.HIF_DB_ERR_CNT, 0xF00138, []),
   (.HIF_CPL_WD_CNT, 0xF00140, []),
   (.HIF_MSIX_CNT, 0xF00148, []),
   (.HIF_DB_MAP, 0xF01000, [(256, 0x8)]),
   (.HIF_EVT_VEC, 0xF02000, [(64, 0x8)]),
   (.HIF_HWIN, 0xF04000, [(1024, 0x8)]),
   (.GLV_STAT, 0x1000000, []),
   (.GLV_PILOT, 0x1000008, []),
   (.GLV_CTRL, 0x1000010, []),
   (.GLV_CFG, 0x1000018, []),
   (.GLV_FAST, 0x1000020, []),
   (.GLV_ALERT_SRC, 0x1000028, []),
   (.GLV_ALERT_EN, 0x1000030, [])]

/-- Part 4 of `devRows`. -/
def devRows4 : List (DReg × Nat × List (Nat × Nat)) :=
  [(.GLV_ALERT_SET, 0x1000038, []),
   (.GLV_GAP_LAST, 0x1000040, []),
   (.GLV_WDOG_KICK, 0x1000048, []),
   (.GLV_SRAM_CE_CNT, 0x1000100, []),
   (.GLV_CAN_RX_CNT, 0x1000108, []),
   (.GLV_CAN_TX_CNT, 0x1000110, []),
   (.GLV_CAN_DROP_CNT, 0x1000118, []),
   (.GLV_CAN_CLASSIC_CNT, 0x1000120, []),
   (.GLV_CAN_REASM_ERR_CNT, 0x1000128, []),
   (.GLV_WAKE_CNT, 0x1000130, []),
   (.GLV_MGMT_BAD_CNT, 0x1000138, []),
   (.GLV_CAN_CFG, 0x1000200, []),
   (.GLV_CAN_BT, 0x1000208, []),
   (.GLV_CAN_STAT, 0x1000210, []),
   (.GLV_MBX_CTRL, 0x1008000, []),
   (.GLV_MBX_STAT, 0x1008008, []),
   (.GLV_MBX_REQ, 0x1009000, [(256, 0x8)]),
   (.GLV_MBX_RSP, 0x100A000, [(256, 0x8)]),
   (.SPT_STAT, 0x1100000, []),
   (.SPT_XTRA, 0x1100008, []),
   (.SPT_TXN_CNT, 0x1100010, []),
   (.SPT_ABORT_CNT, 0x1100018, []),
   (.SPT_CMDERR_CNT, 0x1100020, []),
   (.SPT_LAST_CMD, 0x1100028, []),
   (.PWR_STAT, 0x1200000, []),
   (.PWR_CAP_LATCH, 0x1200008, []),
   (.PWR_HOST_CAP, 0x1200010, []),
   (.PWR_CLK_CFG, 0x1200018, []),
   (.PWR_VMAX, 0x1200020, []),
   (.PWR_BRAKE_CFG, 0x1200028, []),
   (.PWR_CLK_STAT, 0x1200030, []),
   (.PWR_MEAS, 0x1200038, []),
   (.PWR_VIN, 0x1200040, []),
   (.PWR_ERR_INFO, 0x1200048, []),
   (.PWR_THERM_CFG, 0x1200080, []),
   (.PWR_TEMP, 0x1200100, [(16, 0x8)]),
   (.PWR_BRAKE_CNT, 0x1200200, []),
   (.PWR_EXC_CNT, 0x1200208, []),
   (.PWR_TRIP_CNT, 0x1200210, []),
   (.PWR_WARN_US, 0x1200218, [])]

/-- Part 5 of `devRows`. -/
def devRows5 : List (DReg × Nat × List (Nat × Nat)) :=
  [(.PWR_CAP_US, 0x1200220, []),
   (.PWR_FSTRETCH_US, 0x1200228, []),
   (.IVR_STAT, 0x1300000, [(75, 0x8)]),
   (.IVR_STRETCH_CNT, 0x1300400, [(75, 0x8)]),
   (.IVR_FAIL0, 0x1300800, []),
   (.IVR_FAIL1, 0x1300808, []),
   (.CN_DEV_STAT, 0x1400000, []),
   (.CN_HUB_RX_CNT, 0x1400008, []),
   (.CN_HUB_TX_CNT, 0x1400010, [])]

/-- Each register's offset and its array dimensions as (count, stride), outermost first. -/
def devRows : List (DReg × Nat × List (Nat × Nat)) := devRows0 ++ devRows1 ++ devRows2 ++ devRows3 ++ devRows4 ++ devRows5

/-- The queue blocks of a tile window, at their offsets: MXE, VXE, RCX, CDX0, DMV0 to DMV3, CDX1 (0 to 8), NQ0 to NQ3
(9 to 12), RED (13) and the COL group slots (14 to 21). -/
def queueBases : List Nat :=
  [0x800, 0x880, 0x900, 0x980, 0xa00, 0xa80, 0xb00, 0xb80, 0xc00, 0x3100, 0x3180, 0x3200, 0x3280, 0x5100, 0xe100, 0xe200, 0xe300, 0xe400, 0xe500, 0xe600, 0xe700, 0xe800]

/-- The registers of a queue block with their offsets in it. -/
def queueRegs : List (TReg × Nat) :=
  [(.Q_DESC, 0x0), (.Q_CPL, 0x8), (.Q_PI, 0x10), (.Q_CI, 0x18), (.Q_CQ_PI, 0x20), (.Q_CQ_CI, 0x28), (.Q_CTRL, 0x30), (.Q_STAT, 0x38), (.Q_DONE_CNT, 0x40), (.Q_ERR_CNT, 0x48)]

/-- The index in an array of registers that a byte distance from its start names. -/
def dimIndex : List (Nat × Nat) → Nat → Option Nat
  | [], d => if d = 0 then some 0 else none
  | (n, st) :: ds, d =>
    if d / st < n then (dimIndex ds (d % st)).map (fun j => d / st * (ds.foldl (fun a p => a * p.1) 1) + j) else none

/-- The byte distance from an array's start of the register with this index. -/
def dimOffset : List (Nat × Nat) → Nat → Nat
  | [], _ => 0
  | (_, st) :: ds, i =>
    let m := ds.foldl (fun a p => a * p.1) 1
    i / m * st + dimOffset ds (i % m)

/-- The first row that an offset falls on. -/
def findRow {α : Type} : List (α × Nat × List (Nat × Nat)) → Nat → Option (α × Nat)
  | [], _ => none
  | (r, base, ds) :: rows, off =>
    if base ≤ off then
      match dimIndex ds (off - base) with
      | some i => some (r, i)
      | none => findRow rows off
    else findRow rows off

/-- The queue block and register of it that an offset of a tile window falls on. -/
def findQueue (off : Nat) : Option (TReg × Nat) :=
  let q := queueBases.findIdx (fun b => b ≤ off && off < b + 0x50)
  match queueBases[q]? with
  | some b => (queueRegs.find? (fun p => p.2 == off - b)).map (fun p => (p.1, q))
  | none => none

/-- The register at an 8 B aligned offset of a tile window; none where the offset is reserved (R67). -/
def tileRegAt (off : Nat) : Option (TReg × Nat) :=
  match findQueue off with
  | some r => some r
  | none => findRow tileRows off

/-- The register at an 8 B aligned offset of the device global registers; none where it is reserved (R67). -/
def devRegAt (off : Nat) : Option (DReg × Nat) := findRow devRows off

end Sys2Proof.Machine
end

