-- ==== Sys2Proof/Machine/Regs.lean ====
section
/-!
DEFINITION. Sys2Proof/Machine/Regs.lean: register keys, the fields of a register, its reset value (R7, R12, R392) and what a
write of software does to it under the access codes of R7 and R73.
-/
namespace Sys2Proof.Machine

/-- An index of a register array. -/
def ix (n : Nat) : Fin 65536 := Fin.ofNat 65536 n

/-- The number under which the register store keeps a register. -/
def RKey.code : RKey → Nat
  | .dev r i => (r.ctorIdx) * 65536 + i.val
  | .tile t r i => ((t.val + 1) * 1024 + r.ctorIdx) * 65536 + i.val

/-- The fields of a register; ROUTE2 holds source 16 alone. -/
def regFields : RKey → List Fld
  | .tile _ .TILE_IRQ_ROUTE i =>
    if i = ix 2 then [f_TILE_IRQ_ROUTE_EN0, f_TILE_IRQ_ROUTE_CORE0] else tregFields .TILE_IRQ_ROUTE
  | .tile _ r _ => tregFields r
  | .dev r _ => dregFields r

/-- The bits of a register that are not RSVD. -/
def regMask (k : RKey) : W64 := fieldsMask (regFields k)

/-- R392: the arbitration points' default configuration words (TCMAP 0xD8, MODE CRR or WS, and so on). -/
def arbDefault (mode timing win q2 q3 tcmap : Nat) : W64 :=
  BitVec.ofNat 64 (tcmap * 2 ^ 56 + q3 * 2 ^ 48 + q2 * 2 ^ 40 + win * 2 ^ 16 + timing * 2 + mode)

/-- R392: the default configuration of a tile point: CM banks 0 to 31, vault port 32, BN outputs 33 to 52, CN outputs 53 to 62. -/
def arbTileCfg (p : Nat) : W64 :=
  if p < 33 then arbDefault 1 0 256 0 0 0 else arbDefault 1 0 256 64 0 0xD8

/-- R392: the default WEIGHT and CLASS word of a requester of a tile point. -/
def arbTileReq (p r : Nat) : W64 :=
  if p < 32 then BitVec.ofNat 64 (1 * 2 ^ 16 + 8)
  else if p = 32 then BitVec.ofNat 64 ((if r = 37 then 0 else 1) * 2 ^ 16 + 8)
  else BitVec.ofNat 64 64

/-- R392: the default configuration of a device point: egress 0 to 15, ring injection 16 to 47, Beacon sources 48 to 96. -/
def arbDevCfg (p : Nat) : W64 :=
  if p < 16 then arbDefault 0 1 1024 0 0 0
  else if p < 48 then arbDefault 0 0 256 0 0 0
  else arbDefault 1 1 1024 0 0 0

/-- R392: the default WEIGHT and CLASS word of a requester of a device point. -/
def arbDevReq (p r : Nat) : W64 :=
  if p < 16 then BitVec.ofNat 64 (2 ^ 16 + 192)
  else if p < 48 then BitVec.ofNat 64 (2 ^ 16 + (if r = 0 then 192 else 64))
  else BitVec.ofNat 64 (2 ^ 16 + 8)

/-- The reset value of a register: that of its fields (R7), with the tables of R392 and HIF_EVT_VEC's VECTOR = 4k + j. -/
def regReset (k : RKey) : W64 :=
  match k with
  | .tile _ .ARB_CFG_SHADOW i => arbTileCfg i.val
  | .tile _ .ARB_CFG_ACTIVE i => arbTileCfg i.val
  | .tile _ .ARB_REQ_SHADOW i => arbTileReq (i.val / 512) (i.val % 512)
  | .tile _ .ARB_REQ_ACTIVE i => arbTileReq (i.val / 512) (i.val % 512)
  | .dev .ARB_DEV_CFG_SHADOW i => arbDevCfg i.val
  | .dev .ARB_DEV_CFG_ACTIVE i => arbDevCfg i.val
  | .dev .ARB_DEV_REQ_SHADOW i => arbDevReq (i.val / 512) (i.val % 512)
  | .dev .ARB_DEV_REQ_ACTIVE i => arbDevReq (i.val / 512) (i.val % 512)
  | .dev .HIF_EVT_VEC i =>
    BitVec.ofNat 64 (0x8000800080008000 + (4 * i.val % 256) + (4 * i.val + 1) % 256 * 2 ^ 16
      + (4 * i.val + 2) % 256 * 2 ^ 32 + (4 * i.val + 3) % 256 * 2 ^ 48)
  | .tile _ r _ => fieldsReset (tregFields r)
  | .dev r _ => fieldsReset (dregFields r)

/-- R7: what a write of software does to one field of a word, on the bits that `en` enables (R73: all, or one half). -/
def accField (old new en : W64) (f : Fld) : W64 :=
  let m := fmask f &&& en
  match f.acc with
  | .rw => new &&& m
  | .w1c => (old &&& ~~~(new &&& m)) &&& m
  | .w1s => (old ||| (new &&& m)) &&& m
  | .ro | .rc => old &&& m
  | .wo => 0

/-- R7, R73: the word a register holds after software writes `new` to the bits that `en` enables. -/
def accWrite (fs : List Fld) (old new en : W64) : W64 :=
  (old &&& ~~~en) ||| fs.foldl (fun a f => a ||| accField old new en f) 0

end Sys2Proof.Machine
end

