-- ==== Sys2Proof/Machine/Flags.lean ====
section
/-!
DEFINITION. Sys2Proof/Machine/Flags.lean: the element formats (R99, R100), exact values, the one rounding of a conversion with its
outcomes and flags (R108 to R112, R116), MX scaling (R103, R104, R113, R114) and the W40 addition (R115).
-/
namespace Sys2Proof.Machine

/-! ### Flags (R116): NV 8, OF 4, UF 2, NX 1 -/

def flNV : Nat := 8
def flOF : Nat := 4
def flUF : Nat := 2
def flNX : Nat := 1

/-! ### Exact values -/

/-- An exact value: a finite one is (−1)^neg × m × 2^e; a zero keeps its sign. -/
inductive Val where
  | fin (neg : Bool) (m : Nat) (e : Int)
  | inf (neg : Bool)
  | nan
deriving DecidableEq, Repr

/-- The value of an integer. -/
def Val.ofInt (x : Int) : Val := .fin (decide (x < 0)) x.natAbs 0

/-- +0. -/
def Val.zero : Val := .fin false 0 0

/-- The value is a zero. -/
def Val.isZero : Val → Bool
  | .fin _ m _ => m == 0
  | _ => false

/-- The sign of a value; a NaN has none. -/
def Val.sign : Val → Bool
  | .fin n _ _ => n
  | .inf n => n
  | .nan => false

/-- The value times a power of two. -/
def Val.scale (v : Val) (k : Int) : Val :=
  match v with
  | .fin n m e => .fin n m (e + k)
  | w => w

/-- ⌊log2⌋ of the magnitude m × 2^e, m not 0. -/
def magLog (m : Nat) (e : Int) : Int := (Nat.log2 m : Int) + e

/-- The signed integer m × 2^(e − q) where e is at least q. -/
def alignTo (neg : Bool) (m : Nat) (e q : Int) : Int :=
  let x : Int := ((m * 2 ^ (e - q).toNat : Nat) : Int)
  if neg then -x else x

/-- The exact sum of two values; a zero sum is +0 unless both are −0 (R115). -/
def Val.add (a b : Val) : Val :=
  match a, b with
  | .nan, _ => .nan
  | _, .nan => .nan
  | .inf x, .inf y => if x = y then .inf x else .nan
  | .inf x, _ => .inf x
  | _, .inf y => .inf y
  | .fin n m e, .fin n' m' e' =>
    let q := min e e'
    let z := alignTo n m e q + alignTo n' m' e' q
    if z = 0 then .fin (m == 0 && m' == 0 && n && n') 0 0 else .fin (decide (z < 0)) z.natAbs q

/-- The exact negation. -/
def Val.neg : Val → Val
  | .fin n m e => .fin (!n) m e
  | .inf n => .inf (!n)
  | .nan => .nan

/-- The exact product; zero times infinity is a NaN. -/
def Val.mul (a b : Val) : Val :=
  match a, b with
  | .nan, _ => .nan
  | _, .nan => .nan
  | .inf x, .inf y => .inf (x != y)
  | .inf x, .fin n m _ => if m = 0 then .nan else .inf (x != n)
  | .fin n m _, .inf y => if m = 0 then .nan else .inf (n != y)
  | .fin n m e, .fin n' m' e' => .fin (n != n') (m * m') (e + e')

/-- Order of two values that are not NaN: a is below b. -/
def Val.lt (a b : Val) : Bool :=
  match a, b with
  | .nan, _ => false
  | _, .nan => false
  | .inf x, .inf y => x && !y
  | .inf x, _ => x
  | _, .inf y => !y
  | .fin n m e, .fin n' m' e' =>
    let q := min e e'
    decide (alignTo n m e q < alignTo n' m' e' q)

/-! ### Formats (R99) -/

/-- How a float format encodes infinity and NaN. -/
inductive FKind where
  | ieee | e4m3 | finite
deriving DecidableEq, Repr

/-- A float format: exponent and fraction bits, bias, and its special encodings. -/
structure FFmt where
  eb   : Nat
  mb   : Nat
  bias : Nat
  kind : FKind
deriving DecidableEq, Repr

/-- The float format of a code; none for an integer code. -/
def floatFmt (code : Nat) : Option FFmt :=
  match code with
  | 0x0 => some ⟨11, 52, 1023, .ieee⟩
  | 0x1 => some ⟨8, 23, 127, .ieee⟩
  | 0x2 => some ⟨5, 10, 15, .ieee⟩
  | 0x3 => some ⟨8, 7, 127, .ieee⟩
  | 0x4 => some ⟨4, 3, 7, .e4m3⟩
  | 0x5 => some ⟨5, 2, 15, .ieee⟩
  | 0x6 => some ⟨3, 2, 3, .finite⟩
  | 0x7 => some ⟨2, 3, 1, .finite⟩
  | 0x8 => some ⟨2, 1, 1, .finite⟩
  | 0xF => some ⟨9, 30, 255, .ieee⟩
  | _ => none

/-- The W40 format. -/
def w40 : FFmt := ⟨9, 30, 255, .ieee⟩

/-- FP32 and FP64. -/
def fp32 : FFmt := ⟨8, 23, 127, .ieee⟩
def fp64 : FFmt := ⟨11, 52, 1023, .ieee⟩

/-- An integer code: its width, and whether it is signed. -/
def intFmt (code : Nat) : Nat × Bool :=
  match code with
  | 0x9 => (32, true)
  | 0xA => (16, true)
  | 0xB => (8, true)
  | 0xC => (8, false)
  | 0xD => (4, true)
  | _ => (64, true)

/-- The bits of an element of a code. -/
def elemBits (code : Nat) : Nat :=
  match floatFmt code with
  | some f => 1 + f.eb + f.mb
  | none => (intFmt code).1

/-- R100: the canonical NaN of a format with NaNs: an all-ones exponent and the top fraction bit; 0x7F in E4M3. -/
def canonNan (f : FFmt) : Nat :=
  match f.kind with
  | .e4m3 => 0x7F
  | .ieee => (2 ^ f.eb - 1) * 2 ^ f.mb + 2 ^ (f.mb - 1)
  | .finite => 0

/-- Exponent and fraction bits of the largest finite magnitude. -/
def maxFinite (f : FFmt) : Nat :=
  match f.kind with
  | .ieee => (2 ^ f.eb - 1) * 2 ^ f.mb - 1
  | .e4m3 => 0x7E
  | .finite => 2 ^ (f.eb + f.mb) - 1

/-- The sign bit of a format. -/
def signBit (f : FFmt) (neg : Bool) : Nat := if neg then 2 ^ (f.eb + f.mb) else 0

/-- The infinity of a format that has one. -/
def infBits (f : FFmt) (neg : Bool) : Nat := signBit f neg + (2 ^ f.eb - 1) * 2 ^ f.mb

/-- R99: the value of a float element. -/
def decodeFloat (f : FFmt) (bits : Nat) : Val :=
  let neg := bitOf bits (f.eb + f.mb)
  let ex := bitsOf bits f.mb f.eb
  let fr := bitsOf bits 0 f.mb
  let top := ex = 2 ^ f.eb - 1
  match f.kind with
  | .ieee =>
    if top then (if fr = 0 then .inf neg else .nan) else finite neg ex fr
  | .e4m3 => if top ∧ fr = 7 then .nan else finite neg ex fr
  | .finite => finite neg ex fr
where
  /-- A finite element. -/
  finite (neg : Bool) (ex fr : Nat) : Val :=
    let emin : Int := 1 - (f.bias : Int)
    if ex = 0 then .fin neg fr (emin - f.mb)
    else .fin neg (2 ^ f.mb + fr) ((ex : Int) - f.bias - f.mb)

/-- The value of an element of a code. -/
def decodeElem (code bits : Nat) : Val :=
  match floatFmt code with
  | some f => decodeFloat f bits
  | none =>
    let w := intFmt code
    if w.2 then Val.ofInt (toSigned w.1 bits) else Val.ofInt ((bits % 2 ^ w.1 : Nat) : Int)

/-! ### The rounding rule (R108) -/

/-- m × 2^e rounded to a multiple of 2^q: the multiple, and whether it is exact. `rtz` selects round toward zero. -/
def roundAt (rtz : Bool) (m : Nat) (e q : Int) : Nat × Bool :=
  if q ≤ e then (m * 2 ^ (e - q).toNat, true)
  else
    let k := (q - e).toNat
    let n := m / 2 ^ k
    let r := m % 2 ^ k
    let up := !rtz && (decide (2 ^ k < 2 * r) || (2 * r == 2 ^ k && n % 2 == 1))
    (n + b2n up, r == 0)

/-- A non-zero magnitude rounded to a float format with no upper bound on its exponent: the exponent and fraction bits it would
have, whether it is exact, and whether the result rounded with an unbounded exponent range lies below the smallest normal. -/
structure Rounded where
  code  : Nat
  exact : Bool
  tiny  : Bool
deriving DecidableEq, Repr

/-- R108, R109: round m × 2^e, m not 0, to a format. -/
def roundMag (f : FFmt) (rtz : Bool) (m : Nat) (e : Int) : Rounded :=
  let emin : Int := 1 - (f.bias : Int)
  let lg := magLog m e
  let ex := max lg emin
  let r := roundAt rtz m e (ex - f.mb)
  let u := roundAt rtz m e (lg - f.mb)
  { code := (ex + f.bias - 1).toNat * 2 ^ f.mb + r.1,
    exact := r.2,
    tiny := decide (lg < emin) && !(decide (lg = emin - 1) && u.1 == 2 ^ (f.mb + 1)) }

/-! ### Conversions (R109 to R112, R116) -/

/-- A conversion to a float format: the bits written and the flags. -/
def toFloat (f : FFmt) (rtz ovfInf : Bool) (v : Val) : Nat × Nat :=
  match v with
  | .nan => if f.kind = .finite then (0, flNV) else (canonNan f, 0)
  | .inf n =>
    match f.kind with
    | .ieee => (infBits f n, 0)
    | .e4m3 => if ovfInf then (canonNan f, flNV) else (signBit f n + maxFinite f, flOF + flNX)
    | .finite => (signBit f n + maxFinite f, flOF + flNX)
  | .fin n m e =>
    if m = 0 then (signBit f n, 0)
    else
      let r := roundMag f rtz m e
      if maxFinite f < r.code then
        match f.kind with
        | .ieee => (if ovfInf ∧ ¬ rtz then infBits f n else signBit f n + maxFinite f, flOF + flNX)
        | .e4m3 => if ovfInf then (canonNan f, flNV + flOF + flNX) else (signBit f n + maxFinite f, flOF + flNX)
        | .finite => (signBit f n + maxFinite f, flOF + flNX)
      else (signBit f n + r.code, if r.exact then 0 else flNX + (if r.tiny then flUF else 0))

/-- R111: a conversion to an integer format: the code written and the flags. -/
def toInt (width : Nat) (signed rtz : Bool) (v : Val) : Nat × Nat :=
  let lo : Int := if signed then -((2 ^ (width - 1) : Nat) : Int) else 0
  let hi : Int := if signed then ((2 ^ (width - 1) : Nat) : Int) - 1 else ((2 ^ width : Nat) : Int) - 1
  match v with
  | .nan => (0, flNV)
  | .inf n => (ofSigned width (if n then lo else hi), flNV)
  | .fin n m e =>
    let r := roundAt rtz m e 0
    let x : Int := if n then -(r.1 : Int) else r.1
    if hi < x then (ofSigned width hi, flNV)
    else if x < lo then (ofSigned width lo, flNV)
    else (ofSigned width x, if r.2 then 0 else flNX)

/-- A conversion of an exact value to a code, under the mode nibble of R105. -/
def convVal (code mode : Nat) (v : Val) : Nat × Nat :=
  match floatFmt code with
  | some f => toFloat f (bitOf mode 0) (bitOf mode 1) v
  | none =>
    let w := intFmt code
    toInt w.1 w.2 (bitOf mode 0) v

/-- R107: an operand that enters a W40 reduction: RNE, overflow to infinity, no flag (R121). -/
def toW40 (v : Val) : Nat := (toFloat w40 false true v).1

/-- R115: the W40 addition. -/
def addW40 (a b : Nat) : Nat := toW40 ((decodeFloat w40 a).add (decodeFloat w40 b))

/-! ### MX (R103, R104, R113, R114, R118) -/

/-- R103: the codes that take the MX modifier. -/
def mxCode (c : Nat) : Bool := c == 4 || c == 5 || c == 6 || c == 7 || c == 8 || c == 0xB

/-- R104: the value of an MX element under its scale byte. -/
def mxValue (code scale bits : Nat) : Val :=
  if scale = 255 then .nan
  else (decodeElem code bits).scale ((scale : Int) - 127 - (if code = 0xB then 6 else 0))

/-- R113: emax of an element format. -/
def mxEmax (code : Nat) : Int :=
  match code with
  | 4 => 8
  | 5 => 15
  | 6 => 4
  | 7 => 2
  | 8 => 2
  | _ => 0

/-- A value is a NaN or an infinity. -/
def Val.special : Val → Bool
  | .fin _ _ _ => false
  | _ => true

/-- ⌊log2⌋ of the largest magnitude of values, none where all are zero. -/
def amaxLog : List Val → Option Int
  | [] => none
  | .fin _ m e :: vs =>
    if m = 0 then amaxLog vs
    else match amaxLog vs with
      | some l => some (max l (magLog m e))
      | none => some (magLog m e)
  | _ :: vs => amaxLog vs

/-- R113, R114: one element of a block: rounded and clamped; `top` says that e was clamped at 254. -/
def mxElem (code : Nat) (rtz top : Bool) (v : Val) : Nat × Nat :=
  match floatFmt code with
  | some f =>
    match v with
    | .fin n m e =>
      if m = 0 then (signBit f n, 0)
      else
        let r := roundMag f rtz m e
        if maxFinite f < r.code then (signBit f n + maxFinite f, flNX + (if top then flOF else 0))
        else (signBit f n + r.code, if r.exact then 0 else flNX + (if r.tiny then flUF else 0))
    | _ => (0, 0)
  | none =>
    match v.scale 6 with
    | .fin n m e =>
      let r := roundAt rtz m e 0
      let x : Int := if n then -(r.1 : Int) else r.1
      if 127 < x then (127, flNX + (if top then flOF else 0))
      else if x < -128 then (ofSigned 8 (-128), flNX + (if top then flOF else 0))
      else (ofSigned 8 x, if r.2 then 0 else flNX)
    | _ => (0, 0)

/-- R113, R114: a block of at most 32 values in an MX code: the scale byte, the elements, and the flags. -/
def mxBlock (code : Nat) (rtz : Bool) (vs : List Val) : Nat × List Nat × Nat :=
  if vs.any Val.special then
    (0xFF, vs.map (fun _ => 0), if vs.all (· == .nan) then 0 else flNV)
  else
    match amaxLog vs with
    | none => (0x7F, vs.map (fun v => (mxElem code rtz false v).1), 0)
    | some l =>
      let e0 := l - mxEmax code + 127
      let e := max 0 (min 254 e0)
      let rs := vs.map (fun v => mxElem code rtz (decide (254 < e0)) (v.scale (127 - e)))
      (e.toNat, rs.map (·.1), rs.foldl (fun a r => a ||| r.2) 0)

end Sys2Proof.Machine
end

