-- ==== Sys2Proof/Machine/State.lean ====
section
/-!
DEFINITION. Sys2Proof/Machine/State.lean: the state of the device: the register store, the memories, and every buffer, queue,
counter, mode and engine state that the spec names; the reasons a step can stop; the updates (`Eff`) from which every
meaning is built; the state right after reset.
-/
namespace Sys2Proof.Machine

/-- A vault line's metadata (R74): the written bit and the poison bit, each as its majority reads. -/
structure LineSt where
  wr  : Bool
  psn : Bool
deriving DecidableEq, Repr

/-- Where the data of a load goes: an integer or float register, the bytes of a vector register from `first` on for element `elem` (`ff` for a
fault-only-first load), or nowhere. -/
inductive LdDst where
  | x (rd : Nat) (signed : Bool)
  | f (rd : Nat)
  | v (vd first elem : Nat) (ff : Bool)
  | none
deriving DecidableEq, Repr

/-- The kinds of access a core may have outstanding; `late` is a register access that has timed out and whose answer is discarded
(R712). -/
inductive CoreAcc where
  | load | store | amo | regRd | regWr | late
deriving DecidableEq, Repr

/-- One outstanding access of a core (R132, R318): `key` is its number among the core's, or the window it goes to for a CN access. -/
structure CoreOut where
  kind : CoreAcc
  key  : Nat
  addr : Nat
  size : Nat
  dst  : LdDst
  pc   : W64
deriving DecidableEq, Repr

/-- A core's own state: pc, integer, float and vector registers, CSRs, mode, reservation, and its outstanding accesses. -/
structure CoreSt where
  pc    : W64
  x     : List (Nat × W64)
  f     : List (Nat × W64)
  v     : List (Nat × BitVec 512)
  csr   : List (Nat × W64)
  user  : Bool
  resv  : Option Nat
  outst : List CoreOut
deriving DecidableEq, Repr

/-- A core as a start leaves it before its pc is set (R128). -/
def CoreSt.init : CoreSt := ⟨0, [], [], [], [], false, none, []⟩

/-- One element of C that an MXE is forming (R145): its accumulator, the exact sum of the current run of 32 products, and whether a
poisoned operand has reached it (R164). -/
structure MxeAcc where
  acc : Val
  run : Val
  bad : Bool
deriving DecidableEq, Repr

/-- The gated descriptor that an MXE runs (R146): its index and bytes, the next piece, and C so far, row by row. -/
structure MxeSt where
  idx   : Nat
  raw   : List Byte
  piece : Nat
  acc   : List MxeAcc
deriving DecidableEq, Repr

/-- A packet in a combining slot of a router (R218, R225, R235): the output it is bound for and the input it came by. -/
structure RedSlot where
  pkt : BnPkt
  out : Nat
  inp : Nat
deriving DecidableEq, Repr

/-- A segment of an armed reduction (R229 to R232): the contributions counted, whether any packet has been accepted, and whether
it has been rounded. -/
structure RedSegSt where
  count   : Nat
  some_   : Bool
  rounded : Bool
deriving DecidableEq, Repr

/-- A Beacon transfer (R284, R285, R291, R308): whether its START is on the bus, the bus points it holds, the DATA beats placed, whether
it was cut short, and the outcome of each open tap that has answered. -/
structure BcnX where
  started : Bool
  held    : List Nat
  placed  : Nat
  cut     : Bool
  got     : List (Nat × Nat)
deriving DecidableEq, Repr

/-- A tap that has seen the START of a transfer (R287 to R290): its source tile, queue and descriptor, the entry and landing words it
latched where it is open, the next DATA beat, and what it has met. -/
structure TapSt where
  src   : Nat
  q     : Nat
  idx   : Nat
  ent   : Option (Nat × Nat)
  next  : Nat
  bad   : Bool
  psn   : Bool
  ended : Bool
deriving DecidableEq, Repr

/-- Source bytes that a BEACON or TAPER has read: where they lie in the transfer, and the POISON of each 64 B from there. -/
structure SrcChunk where
  off : Nat
  bs  : List Byte
  psn : List Bool
deriving DecidableEq, Repr

/-- A collective entry that runs (R516 to R526): its number, its stage, and the chunks sent and received in the stage on the + ring
and on the − ring. -/
structure ColX where
  num   : Nat
  stage : Nat
  s0    : Nat
  s1    : Nat
  r0    : Nat
  r1    : Nat
deriving DecidableEq, Repr

/-- The formation of a group (R509, R515, R520, R530): the excluded chips, and for each section the chunks sent into it at the
neighbour, those of them that took a slot, the flags taken from the own section, and the slots freed in it; and the next GEN. -/
structure ColGrp where
  excl  : List Nat
  sent  : List Nat
  slots : List Nat
  took  : List Nat
  freed : List Nat
  gen   : Nat
deriving DecidableEq, Repr

/-- A group with nothing sent. -/
def ColGrp.init : ColGrp := ⟨[], List.replicate 12 0, List.replicate 12 0, List.replicate 12 0, List.replicate 12 0, 0⟩

/-- What a queue's descriptor waits for beyond its pieces. A RED_ARM waits on its context c as `redCtx c`, waits for a free one
as `redCtx 16`, and is done with context c as `redCtx (c + 32)` until it retires. -/
inductive DescX where
  | none
  | gate
  | tbl
  | mcast (got : List (Nat × Nat))
  | beacon (b : BcnX)
  | taper (left : Nat)
  | redCtx (c : Nat)
  | col (x : ColX)
deriving DecidableEq, Repr

/-- A descriptor that has been read and not yet retired (R135, R136). `pend` counts its pieces not yet acknowledged;
`refused` is set for one refused at post; `flagSt` is 0 before its flag write, 1 while it travels and 2 after. -/
structure Desc where
  idx      : Nat
  tag      : Nat
  op       : Nat
  flags    : Nat
  flagAddr : Nat
  flagVal  : Nat
  status   : Nat
  count    : Nat
  failAddr : Nat
  poison   : Bool
  fp       : Nat
  pend     : Nat
  refused  : Bool
  flagSt   : Nat
  raw      : List Byte
  ext      : DescX
deriving DecidableEq, Repr

/-- A descriptor queue's engine side: the index of the next descriptor to read, those running, and the PI at an ABORT. -/
structure QueueSt where
  next    : Nat
  run     : List Desc
  abortPi : Option Nat
deriving DecidableEq, Repr

/-- A queue with nothing read. -/
def QueueSt.init : QueueSt := ⟨0, [], none⟩

/-- A table load, or with no image an eviction, that waits to take effect (R269): its queue, descriptor and TABLE_ID, and the
producer indices of the tile's DMV, NQ and CDX queues when it was posted. -/
structure TblReq where
  q    : Nat
  idx  : Nat
  id   : Nat
  img  : List Byte
  seen : List (Nat × Nat)
deriving DecidableEq, Repr

/-- What a PI write of a CDX queue posted: the first index, how many, and the producer indices of the other queues then. -/
structure PostMark where
  first : Nat
  count : Nat
  seen  : List (Nat × Nat)
deriving DecidableEq, Repr

/-- Who waits for the answer of a BN packet, and what its answer does. For a multicast, `wait` lists the targets whose
acknowledgement is still to come, as chip × 512 + tile, `self` says that it is delivered to the source tile too, and `dflag` is its destination flag: an own-tile offset and a
value (R192). -/
inductive Owner where
  | none
  | core (c n : Nat)
  | piece (q idx : Nat) (addr : Nat)
  | readTo (q idx : Nat) (dst : Nat) (addr : Nat)
  | getTo (q idx : Nat) (off : Nat) (addr : Nat)
  | srcTo (q idx : Nat) (off : Nat) (addr : Nat)
  | flag (q idx : Nat)
  | mcast (q idx : Nat) (wait : List Nat) (self : Bool) (dflag : Option (Nat × Nat))
  | xmcast (q idx : Nat) (wait : List Nat) (lo hi : Nat) (self : Bool) (dflag : Option (Nat × Nat))
  | xgate (chip tile tag : Nat) (wait : List Nat) (dflag : Option (Nat × Nat))
  | host (id : Nat) (off : Nat)
  | adm
deriving DecidableEq, Repr

/-- The state of an NIU tag (R188, R712): free, in use by an owner, or quarantined after a timeout. -/
inductive TagSt where
  | free
  | out (o : Owner) (p : BnPkt)
  | quar
deriving DecidableEq, Repr

/-- A packet that waits in an NIU to be started, with its source there (cores 0 to 23, queue q as 24 + q, the host 46, the
NIU itself 47). -/
structure NiuReq where
  pkt   : BnPkt
  src   : Nat
  owner : Owner
deriving DecidableEq, Repr

/-- A BN packet in the fabric: in the input buffer `inp` of the router of tile `at_` (0 N, 1 E, 2 S, 3 W, 4 local), or
ejected to its NIU. `exit` is the port whose gate it is bound for (0 to 15, 16 the host port), `held` the output that a reduction
packet leaves by once its router has decided on it (R225). -/
structure BnFlight where
  pkt  : BnPkt
  at_  : Nat
  inp  : Nat
  ej   : Bool
  exit : Option Nat
  held : Option Nat
deriving DecidableEq, Repr

/-- A CN packet in the fabric: at the router of tile `at` (512 for the hub), on input `inp`, or ejected. -/
structure CnFlight where
  pkt : CnPkt
  at_ : Nat
  inp : Nat
  ej  : Bool
deriving DecidableEq, Repr

/-- An arbitration point's own state (R374 to R385, R405): WS counters, the last winner of each rank, the class 2, class 3 and TC2
grants of the window, whether the point is still on the bank of the epoch before a switch, its owner, and whether it is parked. -/
structure ArbSt where
  ws     : List (Nat × Int)
  last   : List (Nat × Nat)
  g2     : Nat
  g3     : Nat
  tc2    : Nat
  old    : Bool
  owner  : Option Nat
  parked : Bool
deriving DecidableEq, Repr

/-- An arbitration point at the start of its first window. -/
def ArbSt.init : ArbSt := ⟨[], [], 0, 0, 0, false, none, false⟩

/-- A latched high half of a 32-bit register read (R72): the requester, the window, the register's address and the half. -/
structure LatchEnt where
  req  : Nat
  win  : Nat
  addr : Nat
  hi   : Nat
deriving DecidableEq, Repr

/-- An event in the Ember queue (R716). -/
structure EmbEvt where
  pilot : Nat
  kind  : Nat
  cls   : Nat
  info  : Bool
  sub   : Nat
  loc   : Nat
  data  : Nat
deriving DecidableEq, Repr

/-- The root's side of a cross-chip context (R363): the ports whose ARRIVE of this generation has come in, and whether ARRIVE has been
sent on. -/
structure WickSt where
  got  : Nat
  sent : Bool
deriving DecidableEq, Repr

/-- What a TRAIN block says of its sender (R442). -/
structure TrainId where
  nonce  : Nat
  incarn : Nat
  chip   : Nat
  port   : Nat
  option : Nat
  rxNext : Nat
  wNext  : Nat
  mNext  : Nat
deriving DecidableEq, Repr

/-- The link layer of a Wylet port beside its registers (R440 to R454): the sent frames not yet acknowledged, oldest first; the replay in
progress, as the SEQ it began at and the next to resend; whether a NAK has been sent for RX_NEXT; for each EQ the credit in blocks, the
partner's counter as last seen and the own counter of freed blocks; the handshake: the STEP sent, whether READY has come, and the
partner's block; whether a session is kept; and the two sideband streams: contents not yet acknowledged, the sequence number of
the next, the one expected next, and the management FIFOs. -/
structure WlpSt where
  replay : List WlpFrame
  rep    : Option (Nat × Nat)
  nakOut : Bool
  cred   : List Nat
  seen   : List Nat
  freed  : List Nat
  hs     : Nat
  rdy    : Bool
  peer   : Option TrainId
  sess   : Bool
  wUn    : List (List Nat)
  wNext  : Nat
  wRx    : Nat
  mUn    : List W64
  mNext  : Nat
  mRx    : Nat
  mTx    : List W64
  mRxq   : List W64
deriving DecidableEq, Repr

/-- The link layer of a port that has been OFF since reset. -/
def WlpSt.init : WlpSt :=
  ⟨[], none, false, List.replicate 8 256, List.replicate 8 0, List.replicate 8 0, 0, false, none, false, [], 0, 0, [], 0, 0, [], []⟩

/-- The configuration space after a reset of the function (R556). -/
def PciCfg.init : PciCfg := ⟨false, false, false, false, 128, 512, 36⟩

/-- A host request that has not been finished (R559 to R562): its number, its BAR (0, 2 or 4), whether it writes, its offset, length,
data and EP; whether the HIF has taken it; and for one taken: the tiles of its pieces (512 the hub), the pieces still to come, the
status of those that came, and what a read has brought, with the poison of each byte. The answer of a `dead` one is discarded
(R566). -/
structure HostReq where
  id    : Nat
  bar   : Nat
  wr    : Bool
  addr  : Nat
  len   : Nat
  data  : List Byte
  ep    : Bool
  taken : Bool
  dests : List Nat
  left  : Nat
  st    : Nat
  got   : List Byte
  psn   : List Bool
  dead  : Bool
deriving DecidableEq, Repr

/-- A completion that the HIF sent to the host: of which request, its status (0 successful, 1 Unsupported Request, 2 Completer Abort),
EP and the data. -/
structure HostCpl where
  id   : Nat
  st   : Nat
  ep   : Bool
  data : List Byte
deriving DecidableEq, Repr

/-- A request TLP that the HIF handed to the transaction layer (R564, R570): a Memory Write or Read, its host address, length,
data, EP, Relaxed Ordering and No Snoop. -/
structure Tlp where
  wr   : Bool
  addr : Nat
  len  : Nat
  data : List Byte
  ep   : Bool
  ro   : Bool
  ns   : Bool
deriving DecidableEq, Repr

/-- A host-window read in progress at a gate (R564): the packet, the gate tile, the Memory Reads not yet answered as offset and length,
the status so far, the bytes so far and the POISON of each flit. -/
structure HostRd where
  pkt  : BnPkt
  gate : Nat
  left : List (Nat × Nat)
  st   : Nat
  got  : List Byte
  psn  : List Bool
deriving DecidableEq, Repr

/-- A reset that has been asked for (R675): its rank (1 cold, 2 warm, 3 fabric, 4 tile), the tile and RELOAD of a tile
reset, and what asked for it. -/
structure RstReq where
  rank   : Nat
  tile   : Nat
  reload : Bool
  src    : ResetSource
deriving DecidableEq, Repr

/-- A protocol frame being joined from CAN FD segments (R602). -/
structure CanAsm where
  prio : Nat
  src  : Nat
  xid  : Nat
  data : List Byte
deriving DecidableEq, Repr

/-- A Glovos request that waits to be judged (R620): the port it came by (0 CAN FD, 1 SPI, 2 PCIe), and on CAN FD its source, priority
and transaction number. -/
structure DictReq where
  port  : Nat
  src   : Nat
  prio  : Nat
  xid   : Nat
  bytes : List Byte
deriving DecidableEq, Repr

/-- A session (R622 to R624): its number, role, operator key slot, port and CAN FD source, whether it is OPEN, the two nonces, the key
that opened it, its last SEQ, the stored response of that SEQ, and the pilot time of its last valid request. -/
structure Sess where
  sid  : Nat
  role : Nat
  slot : Nat
  port : Nat
  src  : Nat
  open_ : Bool
  nc   : List Byte
  nd   : List Byte
  key  : List Byte
  seq  : Nat
  resp : List Byte
  last : Nat
deriving DecidableEq, Repr

/-- A re-flash in progress (R692, R693). For a keeper: the node it serves, the slots asked for, the frame number the last ACK named,
in `since` whether END has been sent, and the requests that wait, as node and slots, oldest first. For a target: the keeper, the slots
named, STORED_LEN, and the DATA frames since the last ACK. -/
structure Rfl where
  peer  : Nat
  slots : Nat
  acked : Nat
  len   : Nat
  since : Nat
  wait  : List (Nat × Nat)
deriving DecidableEq, Repr

/-- The sums from which the power averages are formed (R646): the samples and their sum in the running millisecond, the milliseconds and
the sum and highest average in the running second, and the last ten completed seconds, newest first. -/
structure PwrAvg where
  n    : Nat
  sum  : Nat
  ms   : Nat
  sec  : Nat
  peak : Nat
  secs : List Nat
deriving DecidableEq, Repr

/-- The answer to a DOE request (R572, R573): the protocol of a DOE Discovery index (0 Discovery, 1 CMA/SPDM) and the next index; the SPDM
version; the capabilities CERT, CHAL, and MEAS with signature; the signing and hashing algorithms; the digests of the slots that hold a
chain; a portion of a chain and what remains; a proof over the chain's digest and the nonce; measurement blocks, by index, with the
signature where one was asked for; or an ERROR. -/
inductive DoeAns where
  | discovery (protocol next : Nat)
  | version (major minor : Nat)
  | capabilities (cert chal measSig : Bool)
  | algorithms (ecdsaP384 sha384 : Bool)
  | digests (slots : List (Nat × List Byte))
  | certificate (portion : List Byte) (remainder : Nat)
  | challengeAuth (chain : List Byte) (nonce : List Byte) (signature : List Byte)
  | measurements (blocks : List (Nat × List Byte)) (signature : Option (List Byte))
  | unsupported
deriving DecidableEq, Repr

/-- The state of the device. A list of pairs of a number and a value is a sparse map: keys rise strictly and an entry
equal to what an unlisted key reads as is left out. -/
structure State where
  /-- The commands that wait, first in, first out. -/
  pending : List Instr
  /-- Every register of the register tables (`RKey.code` gives the key); an unlisted register reads as its reset value. -/
  regs : List (Nat × W64)
  /-- Cluster memory, key tile × 2^23 + offset (R63, R81). The boot scrub leaves 0. -/
  cm : List (Nat × Byte)
  /-- Vault data, key tile × 2^28 + in-tile offset (R62, R78). A line never written holds 0. -/
  vlt : List (Nat × Byte)
  /-- The poison bit of each CM line, key tile × 2^17 + line (R75) -/
  cmPsn : List (Nat × Bool)
  /-- The WR and PSN bits of each vault line, key tile × 2^22 + line (R74) -/
  vltLn : List (Nat × LineSt)
  /-- The state of each core, key tile × 24 + core (R124, R125) -/
  cores : List (Nat × CoreSt)
  /-- The engine side of each queue, key tile × 22 + queue (R133) -/
  queues : List (Nat × QueueSt)
  /-- The NIU tags, key tile × 1024 + tag (R188) -/
  tags : List (Nat × TagSt)
  /-- The packets that wait in each NIU, oldest first, key tile (R186) -/
  niuq : List (Nat × List NiuReq)
  /-- The source an NIU served last in each class, key tile × 4 + class (R186) -/
  niuRr : List (Nat × Nat)
  /-- The BN packets in the fabric -/
  bn : List BnFlight
  /-- The CN packets in the fabric -/
  cn : List CnFlight
  /-- The CN packets that wait in each NIU, oldest first, key tile, 512 for the hub (R313) -/
  cnq : List (Nat × List CnPkt)
  /-- The latched halves of 32-bit register reads (R72) -/
  latches : List LatchEnt
  /-- The arbitration points, key tile × 128 + point, 512 × 128 + point for the device's (R371) -/
  arb : List (Nat × ArbSt)
  /-- NIU shaper tokens in units of 1/256 B, key tile × 4 + class (R403) -/
  tok : List (Nat × Int)
  /-- Wylet shaper tokens in units of 1/256 B, key port × 4 + class (R403) -/
  wtok : List (Nat × Int)
  /-- The event queue in front of the Ember log, oldest first (R716) -/
  embQ : List EmbEvt
  /-- The model's own counter of free values drawn (values the spec leaves open) -/
  free : Nat
  /-- The MSI-X vectors that are pending, bit v for vector v (R568) -/
  msixPend : Nat
  /-- A wake event of the Glovos plane has arisen and not yet been served (R584) -/
  glvWakeReq : Bool
  /-- A manifest has been admitted since the last reset (R45, R417) -/
  admittedSince : Bool
  /-- The lines an MXE holds from run-ahead reads, each with the poison it was read with, key tile (R147) -/
  mxeHeld : List (Nat × List (Nat × Bool))
  /-- The gated descriptor an MXE runs, key tile (R146) -/
  mxe : List (Nat × Option MxeSt)
  /-- The table images of a CDX table store, empty slots unlisted, key tile × 16 + slot (R258) -/
  cdxTbl : List (Nat × List Byte)
  /-- The loads and evictions that wait in a CDX, oldest first, key tile (R269) -/
  cdxReq : List (Nat × List TblReq)
  /-- What was posted when on a CDX queue, oldest first, key tile × 22 + queue (R269) -/
  cdxMark : List (Nat × List PostMark)
  /-- The queue a CDX served last, key tile (R153) -/
  cdxLast : List (Nat × Nat)
  /-- DISCARDS of each receive queue, key tile × 8 + queue (R335) -/
  aqDisc : List (Nat × Nat)
  /-- NAKS of each send record, key tile × 64 + record (R335) -/
  amqNaks : List (Nat × Nat)
  /-- The class of the messages of each receive record's channel, key tile × 64 + record (R313) -/
  amqTc : List (Nat × Nat)
  /-- The send port that the next credit of a channel goes to first, key tile × 64 + record (R326) -/
  amqNext : List (Nat × Nat)
  /-- The GO word that waits in a send port for a credit, key tile × 24 + core (R326) -/
  amqGo : List (Nat × Option W64)
  /-- The combining slots in use of each router, oldest first, key tile (R218) -/
  redSlot : List (Nat × List RedSlot)
  /-- The segments of each armed reduction, key (tile × 16 + context) × 1024 + segment (R230) -/
  redSeg : List (Nat × RedSegSt)
  /-- What a BEACON or TAPER has read of its source, key (tile × 22 + queue) × 65536 + index (R285, R294) -/
  srcBuf : List (Nat × List SrcChunk)
  /-- The Beacon taps, key tile × 2 for the row bus and tile × 2 + 1 for the column bus (R287) -/
  bcnTap : List (Nat × Option TapSt)
  /-- The beats that wait at a Taper port's input, oldest first, each with its POISON, key tile (R295, R296) -/
  tprIn : List (Nat × List (List Byte × Bool))
  /-- The pieces that a Taper port has landed since its enable, key tile (R298) -/
  tprPc : List (Nat × Nat)
  /-- A BREAK is on its way to a Taper port, key tile (R302) -/
  tprBrk : List (Nat × Bool)
  /-- What the Wick root holds of each cross-chip context beside its registers, key context (R363) -/
  wick : List (Nat × WickSt)
  /-- The flag updates that wait at each Wick node, oldest first: SET or CLEAR and the flag; key tile, 512 for the hub (R360) -/
  wickFq : List (Nat × List (Bool × Nat))
  /-- The Wick tokens that wait for a sideband slot of each Wylet port, oldest first, key port (R362) -/
  wickTx : List (Nat × List Nat)
  /-- The link layer of each Wylet port, key port (R440 to R454) -/
  wlp : List (Nat × WlpSt)
  /-- The egress queues, oldest frame first, key port × 8 + EQ (R473) -/
  wlpEq : List (Nat × List WlpFrame)
  /-- The receive pools, oldest frame first, key port × 8 + EQ (R440) -/
  wlpPool : List (Nat × List WlpFrame)
  /-- The bytes that the device answered last to a reader outside the tiles -/
  ansOut : List Byte
  /-- The formation of each collective group, key tile × 8 + slot (R530) -/
  colGrp : List (Nat × ColGrp)
  /-- The MAP_SEQ that the judgement in progress sampled (R544) -/
  admSeq : Nat
  /-- What the host has set in the configuration space of the function (R554) -/
  pci : PciCfg
  /-- The host requests not yet finished, in their order of arrival (R561) -/
  hostQ : List HostReq
  /-- The number of the next host request -/
  hostSeq : Nat
  /-- The completions that the HIF sent to the host last (R559, R560) -/
  hostCpl : List HostCpl
  /-- The TLPs of the last step that handed any to the transaction layer (R564, R568) -/
  tlpOut : List Tlp
  /-- The host-window reads in progress, oldest first (R564) -/
  hostRd : List HostRd
  /-- The MSI-X table: key 2v for the message address of vector v, 2v + 1 for its data and, in bit 32, its Mask bit inverted (R568) -/
  msixTbl : List (Nat × W64)
  /-- The DOE request not yet answered, for which DOE Busy reads set (R573) -/
  doe : Option DoeReq
  /-- The answer that the DOE mailbox holds (R572) -/
  doeAns : Option DoeAns
  /-- The image flash (R676), key flash address; an erased byte reads 0xFF -/
  flash : List (Nat × Byte)
  /-- An excursion hold is in force (R658) -/
  excHold : Bool
  /-- The power loop holds clocks below NOM for the cap in force (R656) -/
  capHold : Bool
  /-- A critical shutdown has taken place (R663) -/
  critical : Bool
  /-- After a thermal warning, the µs since CCLK last rose, while it rises by 25 MHz per ms (R661) -/
  warnTail : Option Nat
  /-- The last ten samples of input power, newest first (R646) -/
  pwrHist : List Nat
  /-- What the power averages are formed from (R646) -/
  pwrAvg : PwrAvg
  /-- The samples in a row that failed a sensor's self-check, key sensor (R647) -/
  tempFail : List (Nat × Nat)
  /-- The logic target of each regulator in units of 0.25 mV, key IVR (R659) -/
  vTgt : List (Nat × Nat)
  /-- The clock of a regulator's domain is stretched now, key IVR (R660) -/
  stretchOn : List (Nat × Bool)
  /-- The regulator group that starts next (R651) -/
  ivrNext : Nat
  /-- The resets that have been asked for, oldest first (R675) -/
  rstReq : List RstReq
  /-- The status of each image slot, key 0 GOLDEN, 1 A, 2 B; 5 for one left WRITING by a reset or restart (R679, R696) -/
  slotSt : List (Nat × Nat)
  /-- The 64 KiB blocks of the download slot that have been erased (R688) -/
  imgErased : Nat
  /-- The slot whose check COMMIT 1 has started (R688) -/
  imgCheck : Option Nat
  /-- The re-flash in progress (R692) -/
  rfl : Rfl
  /-- The cold-boot count that the persistent area keeps (R721) -/
  bootCnt : Nat
  /-- The tiles that were down when the apply pass reached them (R684) -/
  bootSkip : List Nat
  /-- The fuse words, by the numbers of `fuseRowA` and those beside it (R48, R677) -/
  fuse : List (Nat × W64)
  /-- FUSE_GRADE (R48) -/
  fuseGrade : Nat
  /-- STRAP_KEEPER as sampled (R733) -/
  strapKeeper : Bool
  /-- TESTMODE as sampled (R733) -/
  testMode : Bool
  /-- The accepted and the failed domains of the applied map, bit d for an accepted domain d and bit 68 + d for a failed one (R38, R45) -/
  mapDoms : Nat
  /-- The accepted and the failed domains as they stood when the apply began (R56) -/
  applyDoms : Nat
  /-- The tile domains that failed soft start at this reset, bit d for domain d (R38, R52) -/
  softFail : Nat
  /-- The pilot time of the cause of the restart in progress or last made (R588) -/
  glvCauseAt : Nat
  /-- The pilot times of the causes of the last restarts, newest first (R589) -/
  glvRst : List Nat
  /-- The board-to-plane mailbox, oldest word first; none marks a break (R599, R618) -/
  spiRx : List (Option Nat)
  /-- The plane-to-board mailbox, oldest word first (R599) -/
  spiTx : List Nat
  /-- The plane discards board-to-plane words until the next break (R618) -/
  spiSkip : Bool
  /-- TXN: the completed SPI transactions modulo 65,536 (R593) -/
  spiTxn : Nat
  /-- The previous SPI transaction: bit 0 aborted, bit 1 extra clocks, bit 2 invalid command (R593) -/
  spiPrev : Nat
  /-- The ticks that the watchdog of the Glovos plane has counted (R586) -/
  glvWdog : Nat
  /-- The HELLO timer has expired and no HELLO has been sent since (R605) -/
  helloDue : Bool
  /-- The re-flash frames that the plane has taken and not yet acted on, oldest first (R692) -/
  rflQ : List CanFrame
  /-- The CAN FD receive buffer, oldest first (R600) -/
  canRx : List CanFrame
  /-- The protocol frames being joined from CAN FD segments (R602) -/
  canAsm : List CanAsm
  /-- The CAN FD frames of the last step that sent any (R600) -/
  canOut : List CanFrame
  /-- The CAN FD frames that wait while the controller is bus-off (R600) -/
  canWait : List CanFrame
  /-- The bit timing in force, where it is not the one that GLV_CAN_BT holds (R600) -/
  canBt : Option W64
  /-- The Glovos requests that wait to be judged, oldest first (R620) -/
  dictQ : List DictReq
  /-- The responses that wait for room in the plane-to-board mailbox, oldest first (R618) -/
  spiRsp : List (List Byte)
  /-- The values of the objects of the dictionary that differ from their defaults, key index × 256 + subindex (R613, R627) -/
  obj : List (Nat × Option (List Byte))
  /-- The journal's last 1,024 entries, newest first (R626) -/
  jrn : List (List Byte)
  /-- JSEQ of the next journal entry (R626) -/
  jseq : Nat
  /-- The sessions, by ascending SID (R622) -/
  sess : List Sess
  /-- The consecutive AUTH failures, key CAN FD node, 128 for SPI, 129 for PCIe (R624) -/
  authFail : List (Nat × Nat)
  /-- The pilot time at which the lockout that runs began, keys as for authFail (R624) -/
  lockout : List (Nat × Option Nat)
  /-- The open block of the Ember copy-out: its BSEQ and the slots used (R721) -/
  embOpen : Option (Nat × Nat)
  /-- BSEQ of the next block of the Ember copy-out (R721) -/
  embBseq : Nat
  /-- A tile in power state 3 is leaving sleep, or is to leave it once entered, key tile (R157, R166) -/
  tileLeave : List (Nat × Bool)
  /-- The ports have been enabled for a topology of more than one device since the last reset (R685) -/
  topoUp : Bool
deriving DecidableEq, Repr

/-- The reasons a step could stop with a fault. No command of this block stops with one. -/
inductive Fault where
  /-- Raised by no command: every error of the device is an effect on its state. Kept so that the type is not empty. Safe. -/
  | none
deriving DecidableEq, Repr

/-- The reasons a step could refuse a command. -/
inductive Refusal where
  /-- A command whose meaning is not written yet, by its mnemonic. Safe. -/
  | notModelled (mnemonic : String)
deriving DecidableEq, Repr

/-- One update of the state. Every meaning is a list of these, so that what a command can do is said once. -/
inductive Eff where
  | reg (k : RKey) (v : W64)        -- a register takes a value; RSVD bits stay 0
  | fld (k : RKey) (f : Fld) (x : Nat)  -- one field of a register takes a value
  | cnt (k : RKey) (f : Fld) (n : Nat)  -- a saturating counter field rises by n (R11)
  | regsClr (cs : List Nat)         -- the registers with these codes return to their reset values
  | fresh (ids : List Nat) (vault : Bool)  -- everything returns to reset but the listed registers, flash, fuses, objects, and the vaults where kept
  | relabel (ps : List (Nat × Nat))  -- what each tile number holds moves to another tile number (R47)
  | runCm (k : Nat) (vs : List Byte)
  | wipeCm (lo hi : Nat)
  | runVlt (k : Nat) (vs : List Byte)
  | wipeVlt (lo hi : Nat)
  | putCmPsn (k : Nat) (v : Bool)
  | clrCmPsn (ks : List Nat)
  | putVltLn (k : Nat) (v : LineSt)
  | clrVltLn (ks : List Nat)
  | putCores (k : Nat) (v : CoreSt)
  | clrCores (ks : List Nat)
  | putQueues (k : Nat) (v : QueueSt)
  | clrQueues (ks : List Nat)
  | putTags (k : Nat) (v : TagSt)
  | clrTags (ks : List Nat)
  | putNiuq (k : Nat) (v : List NiuReq)
  | clrNiuq (ks : List Nat)
  | putNiuRr (k : Nat) (v : Nat)
  | clrNiuRr (ks : List Nat)
  | setBn (v : List BnFlight)
  | setCn (v : List CnFlight)
  | putCnq (k : Nat) (v : List CnPkt)
  | clrCnq (ks : List Nat)
  | setLatches (v : List LatchEnt)
  | putArb (k : Nat) (v : ArbSt)
  | clrArb (ks : List Nat)
  | putTok (k : Nat) (v : Int)
  | clrTok (ks : List Nat)
  | putWtok (k : Nat) (v : Int)
  | clrWtok (ks : List Nat)
  | setEmbQ (v : List EmbEvt)
  | setFree (v : Nat)
  | setMsixPend (v : Nat)
  | setGlvWakeReq (v : Bool)
  | setAdmittedSince (v : Bool)
  | putMxeHeld (k : Nat) (v : List (Nat × Bool))
  | clrMxeHeld (ks : List Nat)
  | putMxe (k : Nat) (v : Option MxeSt)
  | clrMxe (ks : List Nat)
  | putCdxTbl (k : Nat) (v : List Byte)
  | clrCdxTbl (ks : List Nat)
  | putCdxReq (k : Nat) (v : List TblReq)
  | clrCdxReq (ks : List Nat)
  | putCdxMark (k : Nat) (v : List PostMark)
  | clrCdxMark (ks : List Nat)
  | putCdxLast (k : Nat) (v : Nat)
  | clrCdxLast (ks : List Nat)
  | putAqDisc (k : Nat) (v : Nat)
  | clrAqDisc (ks : List Nat)
  | putAmqNaks (k : Nat) (v : Nat)
  | clrAmqNaks (ks : List Nat)
  | putAmqTc (k : Nat) (v : Nat)
  | clrAmqTc (ks : List Nat)
  | putAmqNext (k : Nat) (v : Nat)
  | clrAmqNext (ks : List Nat)
  | putAmqGo (k : Nat) (v : Option W64)
  | clrAmqGo (ks : List Nat)
  | putRedSlot (k : Nat) (v : List RedSlot)
  | clrRedSlot (ks : List Nat)
  | putRedSeg (k : Nat) (v : RedSegSt)
  | clrRedSeg (ks : List Nat)
  | putSrcBuf (k : Nat) (v : List SrcChunk)
  | clrSrcBuf (ks : List Nat)
  | putBcnTap (k : Nat) (v : Option TapSt)
  | clrBcnTap (ks : List Nat)
  | putTprIn (k : Nat) (v : List (List Byte × Bool))
  | clrTprIn (ks : List Nat)
  | putTprPc (k : Nat) (v : Nat)
  | clrTprPc (ks : List Nat)
  | putTprBrk (k : Nat) (v : Bool)
  | clrTprBrk (ks : List Nat)
  | putWick (k : Nat) (v : WickSt)
  | clrWick (ks : List Nat)
  | putWickFq (k : Nat) (v : List (Bool × Nat))
  | clrWickFq (ks : List Nat)
  | putWickTx (k : Nat) (v : List Nat)
  | clrWickTx (ks : List Nat)
  | putWlp (k : Nat) (v : WlpSt)
  | clrWlp (ks : List Nat)
  | putWlpEq (k : Nat) (v : List WlpFrame)
  | clrWlpEq (ks : List Nat)
  | putWlpPool (k : Nat) (v : List WlpFrame)
  | clrWlpPool (ks : List Nat)
  | setAnsOut (v : List Byte)
  | putColGrp (k : Nat) (v : ColGrp)
  | clrColGrp (ks : List Nat)
  | setAdmSeq (v : Nat)
  | setPci (v : PciCfg)
  | setHostQ (v : List HostReq)
  | setHostSeq (v : Nat)
  | setHostCpl (v : List HostCpl)
  | setTlpOut (v : List Tlp)
  | setHostRd (v : List HostRd)
  | putMsixTbl (k : Nat) (v : W64)
  | clrMsixTbl (ks : List Nat)
  | setDoe (v : Option DoeReq)
  | setDoeAns (v : Option DoeAns)
  | runFlash (k : Nat) (vs : List Byte)
  | wipeFlash (lo hi : Nat)
  | setExcHold (v : Bool)
  | setCapHold (v : Bool)
  | setCritical (v : Bool)
  | setWarnTail (v : Option Nat)
  | setPwrHist (v : List Nat)
  | setPwrAvg (v : PwrAvg)
  | putTempFail (k : Nat) (v : Nat)
  | clrTempFail (ks : List Nat)
  | putVTgt (k : Nat) (v : Nat)
  | clrVTgt (ks : List Nat)
  | putStretchOn (k : Nat) (v : Bool)
  | clrStretchOn (ks : List Nat)
  | setIvrNext (v : Nat)
  | setRstReq (v : List RstReq)
  | putSlotSt (k : Nat) (v : Nat)
  | clrSlotSt (ks : List Nat)
  | setImgErased (v : Nat)
  | setImgCheck (v : Option Nat)
  | setRfl (v : Rfl)
  | setBootCnt (v : Nat)
  | setBootSkip (v : List Nat)
  | putFuse (k : Nat) (v : W64)
  | clrFuse (ks : List Nat)
  | setFuseGrade (v : Nat)
  | setStrapKeeper (v : Bool)
  | setTestMode (v : Bool)
  | setMapDoms (v : Nat)
  | setApplyDoms (v : Nat)
  | setSoftFail (v : Nat)
  | setGlvCauseAt (v : Nat)
  | setGlvRst (v : List Nat)
  | setSpiRx (v : List (Option Nat))
  | setSpiTx (v : List Nat)
  | setSpiSkip (v : Bool)
  | setSpiTxn (v : Nat)
  | setSpiPrev (v : Nat)
  | setGlvWdog (v : Nat)
  | setHelloDue (v : Bool)
  | setRflQ (v : List CanFrame)
  | setCanRx (v : List CanFrame)
  | setCanAsm (v : List CanAsm)
  | setCanOut (v : List CanFrame)
  | setCanWait (v : List CanFrame)
  | setCanBt (v : Option W64)
  | setDictQ (v : List DictReq)
  | setSpiRsp (v : List (List Byte))
  | putObj (k : Nat) (v : Option (List Byte))
  | clrObj (ks : List Nat)
  | setJrn (v : List (List Byte))
  | setJseq (v : Nat)
  | setSess (v : List Sess)
  | putAuthFail (k : Nat) (v : Nat)
  | clrAuthFail (ks : List Nat)
  | putLockout (k : Nat) (v : Option Nat)
  | clrLockout (ks : List Nat)
  | setEmbOpen (v : Option (Nat × Nat))
  | setEmbBseq (v : Nat)
  | putTileLeave (k : Nat) (v : Bool)
  | clrTileLeave (ks : List Nat)
  | setTopoUp (v : Bool)
deriving DecidableEq, Repr

/-- The state right after reset: every register at the reset value of its table, memories as the boot scrub leaves them,
nothing waiting, in flight or running (R12, R38, R78, R81, R421). -/
def State.reset : State :=
  { pending := [], regs := [],
    cm := [],
    vlt := [],
    cmPsn := [],
    vltLn := [],
    cores := [],
    queues := [],
    tags := [],
    niuq := [],
    niuRr := [],
    bn := [],
    cn := [],
    cnq := [],
    latches := [],
    arb := [],
    tok := [],
    wtok := [],
    embQ := [],
    free := 0,
    msixPend := 0,
    glvWakeReq := false,
    admittedSince := false,
    mxeHeld := [],
    mxe := [],
    cdxTbl := [],
    cdxReq := [],
    cdxMark := [],
    cdxLast := [],
    aqDisc := [],
    amqNaks := [],
    amqTc := [],
    amqNext := [],
    amqGo := [],
    redSlot := [],
    redSeg := [],
    srcBuf := [],
    bcnTap := [],
    tprIn := [],
    tprPc := [],
    tprBrk := [],
    wick := [],
    wickFq := [],
    wickTx := [],
    wlp := [],
    wlpEq := [],
    wlpPool := [],
    ansOut := [],
    colGrp := [],
    admSeq := 0,
    pci := PciCfg.init,
    hostQ := [],
    hostSeq := 0,
    hostCpl := [],
    tlpOut := [],
    hostRd := [],
    msixTbl := [],
    doe := none,
    doeAns := none,
    flash := [],
    excHold := false,
    capHold := false,
    critical := false,
    warnTail := none,
    pwrHist := [],
    pwrAvg := ⟨0, 0, 0, 0, 0, []⟩,
    tempFail := [],
    vTgt := [],
    stretchOn := [],
    ivrNext := 0,
    rstReq := [],
    slotSt := [],
    imgErased := 0,
    imgCheck := none,
    rfl := ⟨0, 0, 0, 0, 0, []⟩,
    bootCnt := 0,
    bootSkip := [],
    fuse := [],
    fuseGrade := 1,
    strapKeeper := false,
    testMode := false,
    mapDoms := 0,
    applyDoms := 0,
    softFail := 0,
    glvCauseAt := 0,
    glvRst := [],
    spiRx := [],
    spiTx := [],
    spiSkip := false,
    spiTxn := 0,
    spiPrev := 0,
    glvWdog := 0,
    helloDue := false,
    rflQ := [],
    canRx := [],
    canAsm := [],
    canOut := [],
    canWait := [],
    canBt := none,
    dictQ := [],
    spiRsp := [],
    obj := [],
    jrn := [],
    jseq := 0,
    sess := [],
    authFail := [],
    lockout := [],
    embOpen := none,
    embBseq := 0,
    tileLeave := [],
    topoUp := false }

end Sys2Proof.Machine
end

