-- ==== Sys2Proof/Machine/Apply.lean ====
section
/-!
DEFINITION. Sys2Proof/Machine/Apply.lean: reading the state, and what each update (`Eff`) does to it. The only place where
a register is stored (RSVD bits stay 0, R8) and where the sparse maps keep their canonical form.
-/
namespace Sys2Proof.Machine

/-- The value a register holds. -/
def regOf (s : State) (k : RKey) : W64 := smGet (regReset k) s.regs k.code

/-- The value of a field of a register. -/
def fld (s : State) (k : RKey) (f : Fld) : Nat := fget (regOf s k) f

/-- Cluster memory, key tile × 2^23 + offset (R63, R81): the entry at a key. -/
def cmAt (s : State) (k : Nat) : Byte := smGet 0 s.cm k

/-- Vault data, key tile × 2^28 + in-tile offset (R62, R78): the entry at a key. -/
def vltAt (s : State) (k : Nat) : Byte := smGet 0 s.vlt k

/-- The poison bit of each CM line, key tile × 2^17 + line (R75): the entry at a key. -/
def cmPsnAt (s : State) (k : Nat) : Bool := smGet false s.cmPsn k

/-- The WR and PSN bits of each vault line, key tile × 2^22 + line (R74): the entry at a key. -/
def vltLnAt (s : State) (k : Nat) : LineSt := smGet ⟨false, false⟩ s.vltLn k

/-- The state of each core, key tile × 24 + core (R124, R125): the entry at a key. -/
def coresAt (s : State) (k : Nat) : CoreSt := smGet CoreSt.init s.cores k

/-- The engine side of each queue, key tile × 22 + queue (R133): the entry at a key. -/
def queuesAt (s : State) (k : Nat) : QueueSt := smGet QueueSt.init s.queues k

/-- The NIU tags, key tile × 1024 + tag (R188): the entry at a key. -/
def tagsAt (s : State) (k : Nat) : TagSt := smGet TagSt.free s.tags k

/-- The packets that wait in each NIU, oldest first, key tile (R186): the entry at a key. -/
def niuqAt (s : State) (k : Nat) : List NiuReq := smGet [] s.niuq k

/-- The source an NIU served last in each class, key tile × 4 + class (R186): the entry at a key. -/
def niuRrAt (s : State) (k : Nat) : Nat := smGet 0 s.niuRr k

/-- The CN packets that wait in each NIU, oldest first, key tile, 512 for the hub (R313): the entry at a key. -/
def cnqAt (s : State) (k : Nat) : List CnPkt := smGet [] s.cnq k

/-- The arbitration points, key tile × 128 + point, 512 × 128 + point for the device's (R371): the entry at a key. -/
def arbAt (s : State) (k : Nat) : ArbSt := smGet ArbSt.init s.arb k

/-- NIU shaper tokens in units of 1/256 B, key tile × 4 + class (R403): the entry at a key. -/
def tokAt (s : State) (k : Nat) : Int := smGet 0 s.tok k

/-- Wylet shaper tokens in units of 1/256 B, key port × 4 + class (R403): the entry at a key. -/
def wtokAt (s : State) (k : Nat) : Int := smGet 0 s.wtok k

/-- The lines an MXE holds from run-ahead reads, each with the poison it was read with, key tile (R147): the entry at a key. -/
def mxeHeldAt (s : State) (k : Nat) : List (Nat × Bool) := smGet [] s.mxeHeld k

/-- The gated descriptor an MXE runs, key tile (R146): the entry at a key. -/
def mxeAt (s : State) (k : Nat) : Option MxeSt := smGet none s.mxe k

/-- The table images of a CDX table store, empty slots unlisted, key tile × 16 + slot (R258): the entry at a key. -/
def cdxTblAt (s : State) (k : Nat) : List Byte := smGet [] s.cdxTbl k

/-- The loads and evictions that wait in a CDX, oldest first, key tile (R269): the entry at a key. -/
def cdxReqAt (s : State) (k : Nat) : List TblReq := smGet [] s.cdxReq k

/-- What was posted when on a CDX queue, oldest first, key tile × 22 + queue (R269): the entry at a key. -/
def cdxMarkAt (s : State) (k : Nat) : List PostMark := smGet [] s.cdxMark k

/-- The queue a CDX served last, key tile (R153): the entry at a key. -/
def cdxLastAt (s : State) (k : Nat) : Nat := smGet 0 s.cdxLast k

/-- DISCARDS of each receive queue, key tile × 8 + queue (R335): the entry at a key. -/
def aqDiscAt (s : State) (k : Nat) : Nat := smGet 0 s.aqDisc k

/-- NAKS of each send record, key tile × 64 + record (R335): the entry at a key. -/
def amqNaksAt (s : State) (k : Nat) : Nat := smGet 0 s.amqNaks k

/-- The class of the messages of each receive record's channel, key tile × 64 + record (R313): the entry at a key. -/
def amqTcAt (s : State) (k : Nat) : Nat := smGet 0 s.amqTc k

/-- The send port that the next credit of a channel goes to first, key tile × 64 + record (R326): the entry at a key. -/
def amqNextAt (s : State) (k : Nat) : Nat := smGet 0 s.amqNext k

/-- The GO word that waits in a send port for a credit, key tile × 24 + core (R326): the entry at a key. -/
def amqGoAt (s : State) (k : Nat) : Option W64 := smGet none s.amqGo k

/-- The combining slots in use of each router, oldest first, key tile (R218): the entry at a key. -/
def redSlotAt (s : State) (k : Nat) : List RedSlot := smGet [] s.redSlot k

/-- The segments of each armed reduction, key (tile × 16 + context) × 1024 + segment (R230): the entry at a key. -/
def redSegAt (s : State) (k : Nat) : RedSegSt := smGet ⟨0, false, false⟩ s.redSeg k

/-- What a BEACON or TAPER has read of its source, key (tile × 22 + queue) × 65536 + index (R285, R294): the entry at a key. -/
def srcBufAt (s : State) (k : Nat) : List SrcChunk := smGet [] s.srcBuf k

/-- The Beacon taps, key tile × 2 for the row bus and tile × 2 + 1 for the column bus (R287): the entry at a key. -/
def bcnTapAt (s : State) (k : Nat) : Option TapSt := smGet none s.bcnTap k

/-- The beats that wait at a Taper port's input, oldest first, each with its POISON, key tile (R295, R296): the entry at a key. -/
def tprInAt (s : State) (k : Nat) : List (List Byte × Bool) := smGet [] s.tprIn k

/-- The pieces that a Taper port has landed since its enable, key tile (R298): the entry at a key. -/
def tprPcAt (s : State) (k : Nat) : Nat := smGet 0 s.tprPc k

/-- A BREAK is on its way to a Taper port, key tile (R302): the entry at a key. -/
def tprBrkAt (s : State) (k : Nat) : Bool := smGet false s.tprBrk k

/-- What the Wick root holds of each cross-chip context beside its registers, key context (R363): the entry at a key. -/
def wickAt (s : State) (k : Nat) : WickSt := smGet ⟨0, false⟩ s.wick k

/-- The flag updates that wait at each Wick node, oldest first: SET or CLEAR and the flag; key tile, 512 for the hub (R360): the entry at a key. -/
def wickFqAt (s : State) (k : Nat) : List (Bool × Nat) := smGet [] s.wickFq k

/-- The Wick tokens that wait for a sideband slot of each Wylet port, oldest first, key port (R362): the entry at a key. -/
def wickTxAt (s : State) (k : Nat) : List Nat := smGet [] s.wickTx k

/-- The link layer of each Wylet port, key port (R440 to R454): the entry at a key. -/
def wlpAt (s : State) (k : Nat) : WlpSt := smGet WlpSt.init s.wlp k

/-- The egress queues, oldest frame first, key port × 8 + EQ (R473): the entry at a key. -/
def wlpEqAt (s : State) (k : Nat) : List WlpFrame := smGet [] s.wlpEq k

/-- The receive pools, oldest frame first, key port × 8 + EQ (R440): the entry at a key. -/
def wlpPoolAt (s : State) (k : Nat) : List WlpFrame := smGet [] s.wlpPool k

/-- The formation of each collective group, key tile × 8 + slot (R530): the entry at a key. -/
def colGrpAt (s : State) (k : Nat) : ColGrp := smGet ColGrp.init s.colGrp k

/-- The MSI-X table: key 2v for the message address of vector v, 2v + 1 for its data and, in bit 32, its Mask bit inverted (R568): the entry at a key. -/
def msixTblAt (s : State) (k : Nat) : W64 := smGet 0 s.msixTbl k

/-- The image flash (R676), key flash address; an erased byte reads 0xFF: the entry at a key. -/
def flashAt (s : State) (k : Nat) : Byte := smGet 0xFF s.flash k

/-- The samples in a row that failed a sensor's self-check, key sensor (R647): the entry at a key. -/
def tempFailAt (s : State) (k : Nat) : Nat := smGet 0 s.tempFail k

/-- The logic target of each regulator in units of 0.25 mV, key IVR (R659): the entry at a key. -/
def vTgtAt (s : State) (k : Nat) : Nat := smGet 0 s.vTgt k

/-- The clock of a regulator's domain is stretched now, key IVR (R660): the entry at a key. -/
def stretchOnAt (s : State) (k : Nat) : Bool := smGet false s.stretchOn k

/-- The status of each image slot, key 0 GOLDEN, 1 A, 2 B; 5 for one left WRITING by a reset or restart (R679, R696): the entry at a key. -/
def slotStAt (s : State) (k : Nat) : Nat := smGet 0 s.slotSt k

/-- The fuse words, by the numbers of `fuseRowA` and those beside it (R48, R677): the entry at a key. -/
def fuseAt (s : State) (k : Nat) : W64 := smGet 0 s.fuse k

/-- The values of the objects of the dictionary that differ from their defaults, key index × 256 + subindex (R613, R627): the entry at a key. -/
def objAt (s : State) (k : Nat) : Option (List Byte) := smGet none s.obj k

/-- The consecutive AUTH failures, key CAN FD node, 128 for SPI, 129 for PCIe (R624): the entry at a key. -/
def authFailAt (s : State) (k : Nat) : Nat := smGet 0 s.authFail k

/-- The pilot time at which the lockout that runs began, keys as for authFail (R624): the entry at a key. -/
def lockoutAt (s : State) (k : Nat) : Option Nat := smGet none s.lockout k

/-- A tile in power state 3 is leaving sleep, or is to leave it once entered, key tile (R157, R166): the entry at a key. -/
def tileLeaveAt (s : State) (k : Nat) : Bool := smGet false s.tileLeave k

/-- The state with a register stored; RSVD bits stay 0 (R8). -/
def setReg (s : State) (k : RKey) (v : W64) : State :=
  { s with regs := smSet (regReset k) s.regs k.code (v &&& regMask k) }

/-- Where a tile number moves to. -/
def moved (ps : List (Nat × Nat)) (t : Nat) : Nat := ((ps.find? (fun p => p.1 == t)).map (·.2)).getD t

/-- A sparse map whose keys are tile × w + rest, with the tile numbers moved. -/
def smMove {α : Type} [DecidableEq α] (d : α) (w : Nat) (f : Nat → Nat) (m : List (Nat × α)) : List (Nat × α) :=
  m.foldl (fun acc e => smSet d acc (f (e.1 / w) * w + e.1 % w) e.2) []

/-- The register store with the tile numbers moved; block 0 of the codes holds the device registers, block t + 1 those of tile t. -/
def relabelRegs (ps : List (Nat × Nat)) (m : List (Nat × W64)) : List (Nat × W64) :=
  m.foldl (fun acc e => smIns acc (if e.1 / 2 ^ 26 = 0 then e.1 else (moved ps (e.1 / 2 ^ 26 - 1) + 1) * 2 ^ 26 + e.1 % 2 ^ 26) e.2) []

/-- What one update does. -/
def applyEff (s : State) (e : Eff) : State :=
  match e with
  | .reg k v => setReg s k v
  | .fld k f x => setReg s k (fset (regOf s k) f x)
  | .cnt k f n => setReg s k (satAdd f (regOf s k) n)
  | .regsClr cs => { s with regs := smClr s.regs cs }
  | .fresh ids vault =>
    { State.reset with
      pending := s.pending, regs := s.regs.filter (fun e => ids.contains (e.1 / 65536)), free := s.free, flash := s.flash, fuse := s.fuse,
      fuseGrade := s.fuseGrade, obj := s.obj, jrn := s.jrn, jseq := s.jseq, slotSt := s.slotSt, bootCnt := s.bootCnt, embBseq := s.embBseq,
      strapKeeper := s.strapKeeper, testMode := s.testMode,
      vlt := if vault then s.vlt else [], vltLn := if vault then s.vltLn else [] }
  | .relabel ps =>
    { s with
      regs := relabelRegs ps s.regs,
      cm := smMove 0 (2 ^ 23) (moved ps) s.cm,
      vlt := smMove 0 (2 ^ 28) (moved ps) s.vlt,
      cmPsn := smMove false (2 ^ 17) (moved ps) s.cmPsn,
      vltLn := smMove ⟨false, false⟩ (2 ^ 22) (moved ps) s.vltLn,
      cores := smMove CoreSt.init (24) (moved ps) s.cores,
      queues := smMove QueueSt.init (22) (moved ps) s.queues,
      tags := smMove TagSt.free (1024) (moved ps) s.tags,
      niuq := smMove [] (1) (moved ps) s.niuq,
      niuRr := smMove 0 (4) (moved ps) s.niuRr,
      cnq := smMove [] (1) (moved ps) s.cnq,
      arb := smMove ArbSt.init (128) (moved ps) s.arb,
      tok := smMove 0 (4) (moved ps) s.tok,
      mxeHeld := smMove [] (1) (moved ps) s.mxeHeld,
      mxe := smMove none (1) (moved ps) s.mxe,
      cdxTbl := smMove [] (16) (moved ps) s.cdxTbl,
      cdxReq := smMove [] (1) (moved ps) s.cdxReq,
      cdxMark := smMove [] (22) (moved ps) s.cdxMark,
      cdxLast := smMove 0 (1) (moved ps) s.cdxLast,
      aqDisc := smMove 0 (8) (moved ps) s.aqDisc,
      amqNaks := smMove 0 (64) (moved ps) s.amqNaks,
      amqTc := smMove 0 (64) (moved ps) s.amqTc,
      amqNext := smMove 0 (64) (moved ps) s.amqNext,
      amqGo := smMove none (24) (moved ps) s.amqGo,
      redSlot := smMove [] (1) (moved ps) s.redSlot,
      redSeg := smMove ⟨0, false, false⟩ (16384) (moved ps) s.redSeg,
      srcBuf := smMove [] (1441792) (moved ps) s.srcBuf,
      bcnTap := smMove none (2) (moved ps) s.bcnTap,
      tprIn := smMove [] (1) (moved ps) s.tprIn,
      tprPc := smMove 0 (1) (moved ps) s.tprPc,
      tprBrk := smMove false (1) (moved ps) s.tprBrk,
      wickFq := smMove [] (1) (moved ps) s.wickFq,
      colGrp := smMove ColGrp.init (8) (moved ps) s.colGrp,
      tileLeave := smMove false (1) (moved ps) s.tileLeave }
  | .runCm k vs => { s with cm := smRun 0 s.cm k vs }
  | .wipeCm lo hi => { s with cm := smClrRange s.cm lo hi }
  | .runVlt k vs => { s with vlt := smRun 0 s.vlt k vs }
  | .wipeVlt lo hi => { s with vlt := smClrRange s.vlt lo hi }
  | .putCmPsn k v => { s with cmPsn := smSet false s.cmPsn k v }
  | .clrCmPsn ks => { s with cmPsn := smClr s.cmPsn ks }
  | .putVltLn k v => { s with vltLn := smSet ⟨false, false⟩ s.vltLn k v }
  | .clrVltLn ks => { s with vltLn := smClr s.vltLn ks }
  | .putCores k v => { s with cores := smSet CoreSt.init s.cores k v }
  | .clrCores ks => { s with cores := smClr s.cores ks }
  | .putQueues k v => { s with queues := smSet QueueSt.init s.queues k v }
  | .clrQueues ks => { s with queues := smClr s.queues ks }
  | .putTags k v => { s with tags := smSet TagSt.free s.tags k v }
  | .clrTags ks => { s with tags := smClr s.tags ks }
  | .putNiuq k v => { s with niuq := smSet [] s.niuq k v }
  | .clrNiuq ks => { s with niuq := smClr s.niuq ks }
  | .putNiuRr k v => { s with niuRr := smSet 0 s.niuRr k v }
  | .clrNiuRr ks => { s with niuRr := smClr s.niuRr ks }
  | .setBn v => { s with bn := v }
  | .setCn v => { s with cn := v }
  | .putCnq k v => { s with cnq := smSet [] s.cnq k v }
  | .clrCnq ks => { s with cnq := smClr s.cnq ks }
  | .setLatches v => { s with latches := v }
  | .putArb k v => { s with arb := smSet ArbSt.init s.arb k v }
  | .clrArb ks => { s with arb := smClr s.arb ks }
  | .putTok k v => { s with tok := smSet 0 s.tok k v }
  | .clrTok ks => { s with tok := smClr s.tok ks }
  | .putWtok k v => { s with wtok := smSet 0 s.wtok k v }
  | .clrWtok ks => { s with wtok := smClr s.wtok ks }
  | .setEmbQ v => { s with embQ := v }
  | .setFree v => { s with free := v }
  | .setMsixPend v => { s with msixPend := v }
  | .setGlvWakeReq v => { s with glvWakeReq := v }
  | .setAdmittedSince v => { s with admittedSince := v }
  | .putMxeHeld k v => { s with mxeHeld := smSet [] s.mxeHeld k v }
  | .clrMxeHeld ks => { s with mxeHeld := smClr s.mxeHeld ks }
  | .putMxe k v => { s with mxe := smSet none s.mxe k v }
  | .clrMxe ks => { s with mxe := smClr s.mxe ks }
  | .putCdxTbl k v => { s with cdxTbl := smSet [] s.cdxTbl k v }
  | .clrCdxTbl ks => { s with cdxTbl := smClr s.cdxTbl ks }
  | .putCdxReq k v => { s with cdxReq := smSet [] s.cdxReq k v }
  | .clrCdxReq ks => { s with cdxReq := smClr s.cdxReq ks }
  | .putCdxMark k v => { s with cdxMark := smSet [] s.cdxMark k v }
  | .clrCdxMark ks => { s with cdxMark := smClr s.cdxMark ks }
  | .putCdxLast k v => { s with cdxLast := smSet 0 s.cdxLast k v }
  | .clrCdxLast ks => { s with cdxLast := smClr s.cdxLast ks }
  | .putAqDisc k v => { s with aqDisc := smSet 0 s.aqDisc k v }
  | .clrAqDisc ks => { s with aqDisc := smClr s.aqDisc ks }
  | .putAmqNaks k v => { s with amqNaks := smSet 0 s.amqNaks k v }
  | .clrAmqNaks ks => { s with amqNaks := smClr s.amqNaks ks }
  | .putAmqTc k v => { s with amqTc := smSet 0 s.amqTc k v }
  | .clrAmqTc ks => { s with amqTc := smClr s.amqTc ks }
  | .putAmqNext k v => { s with amqNext := smSet 0 s.amqNext k v }
  | .clrAmqNext ks => { s with amqNext := smClr s.amqNext ks }
  | .putAmqGo k v => { s with amqGo := smSet none s.amqGo k v }
  | .clrAmqGo ks => { s with amqGo := smClr s.amqGo ks }
  | .putRedSlot k v => { s with redSlot := smSet [] s.redSlot k v }
  | .clrRedSlot ks => { s with redSlot := smClr s.redSlot ks }
  | .putRedSeg k v => { s with redSeg := smSet ⟨0, false, false⟩ s.redSeg k v }
  | .clrRedSeg ks => { s with redSeg := smClr s.redSeg ks }
  | .putSrcBuf k v => { s with srcBuf := smSet [] s.srcBuf k v }
  | .clrSrcBuf ks => { s with srcBuf := smClr s.srcBuf ks }
  | .putBcnTap k v => { s with bcnTap := smSet none s.bcnTap k v }
  | .clrBcnTap ks => { s with bcnTap := smClr s.bcnTap ks }
  | .putTprIn k v => { s with tprIn := smSet [] s.tprIn k v }
  | .clrTprIn ks => { s with tprIn := smClr s.tprIn ks }
  | .putTprPc k v => { s with tprPc := smSet 0 s.tprPc k v }
  | .clrTprPc ks => { s with tprPc := smClr s.tprPc ks }
  | .putTprBrk k v => { s with tprBrk := smSet false s.tprBrk k v }
  | .clrTprBrk ks => { s with tprBrk := smClr s.tprBrk ks }
  | .putWick k v => { s with wick := smSet ⟨0, false⟩ s.wick k v }
  | .clrWick ks => { s with wick := smClr s.wick ks }
  | .putWickFq k v => { s with wickFq := smSet [] s.wickFq k v }
  | .clrWickFq ks => { s with wickFq := smClr s.wickFq ks }
  | .putWickTx k v => { s with wickTx := smSet [] s.wickTx k v }
  | .clrWickTx ks => { s with wickTx := smClr s.wickTx ks }
  | .putWlp k v => { s with wlp := smSet WlpSt.init s.wlp k v }
  | .clrWlp ks => { s with wlp := smClr s.wlp ks }
  | .putWlpEq k v => { s with wlpEq := smSet [] s.wlpEq k v }
  | .clrWlpEq ks => { s with wlpEq := smClr s.wlpEq ks }
  | .putWlpPool k v => { s with wlpPool := smSet [] s.wlpPool k v }
  | .clrWlpPool ks => { s with wlpPool := smClr s.wlpPool ks }
  | .setAnsOut v => { s with ansOut := v }
  | .putColGrp k v => { s with colGrp := smSet ColGrp.init s.colGrp k v }
  | .clrColGrp ks => { s with colGrp := smClr s.colGrp ks }
  | .setAdmSeq v => { s with admSeq := v }
  | .setPci v => { s with pci := v }
  | .setHostQ v => { s with hostQ := v }
  | .setHostSeq v => { s with hostSeq := v }
  | .setHostCpl v => { s with hostCpl := v }
  | .setTlpOut v => { s with tlpOut := v }
  | .setHostRd v => { s with hostRd := v }
  | .putMsixTbl k v => { s with msixTbl := smSet 0 s.msixTbl k v }
  | .clrMsixTbl ks => { s with msixTbl := smClr s.msixTbl ks }
  | .setDoe v => { s with doe := v }
  | .setDoeAns v => { s with doeAns := v }
  | .runFlash k vs => { s with flash := smRun 0xFF s.flash k vs }
  | .wipeFlash lo hi => { s with flash := smClrRange s.flash lo hi }
  | .setExcHold v => { s with excHold := v }
  | .setCapHold v => { s with capHold := v }
  | .setCritical v => { s with critical := v }
  | .setWarnTail v => { s with warnTail := v }
  | .setPwrHist v => { s with pwrHist := v }
  | .setPwrAvg v => { s with pwrAvg := v }
  | .putTempFail k v => { s with tempFail := smSet 0 s.tempFail k v }
  | .clrTempFail ks => { s with tempFail := smClr s.tempFail ks }
  | .putVTgt k v => { s with vTgt := smSet 0 s.vTgt k v }
  | .clrVTgt ks => { s with vTgt := smClr s.vTgt ks }
  | .putStretchOn k v => { s with stretchOn := smSet false s.stretchOn k v }
  | .clrStretchOn ks => { s with stretchOn := smClr s.stretchOn ks }
  | .setIvrNext v => { s with ivrNext := v }
  | .setRstReq v => { s with rstReq := v }
  | .putSlotSt k v => { s with slotSt := smSet 0 s.slotSt k v }
  | .clrSlotSt ks => { s with slotSt := smClr s.slotSt ks }
  | .setImgErased v => { s with imgErased := v }
  | .setImgCheck v => { s with imgCheck := v }
  | .setRfl v => { s with rfl := v }
  | .setBootCnt v => { s with bootCnt := v }
  | .setBootSkip v => { s with bootSkip := v }
  | .putFuse k v => { s with fuse := smSet 0 s.fuse k v }
  | .clrFuse ks => { s with fuse := smClr s.fuse ks }
  | .setFuseGrade v => { s with fuseGrade := v }
  | .setStrapKeeper v => { s with strapKeeper := v }
  | .setTestMode v => { s with testMode := v }
  | .setMapDoms v => { s with mapDoms := v }
  | .setApplyDoms v => { s with applyDoms := v }
  | .setSoftFail v => { s with softFail := v }
  | .setGlvCauseAt v => { s with glvCauseAt := v }
  | .setGlvRst v => { s with glvRst := v }
  | .setSpiRx v => { s with spiRx := v }
  | .setSpiTx v => { s with spiTx := v }
  | .setSpiSkip v => { s with spiSkip := v }
  | .setSpiTxn v => { s with spiTxn := v }
  | .setSpiPrev v => { s with spiPrev := v }
  | .setGlvWdog v => { s with glvWdog := v }
  | .setHelloDue v => { s with helloDue := v }
  | .setRflQ v => { s with rflQ := v }
  | .setCanRx v => { s with canRx := v }
  | .setCanAsm v => { s with canAsm := v }
  | .setCanOut v => { s with canOut := v }
  | .setCanWait v => { s with canWait := v }
  | .setCanBt v => { s with canBt := v }
  | .setDictQ v => { s with dictQ := v }
  | .setSpiRsp v => { s with spiRsp := v }
  | .putObj k v => { s with obj := smSet none s.obj k v }
  | .clrObj ks => { s with obj := smClr s.obj ks }
  | .setJrn v => { s with jrn := v }
  | .setJseq v => { s with jseq := v }
  | .setSess v => { s with sess := v }
  | .putAuthFail k v => { s with authFail := smSet 0 s.authFail k v }
  | .clrAuthFail ks => { s with authFail := smClr s.authFail ks }
  | .putLockout k v => { s with lockout := smSet none s.lockout k v }
  | .clrLockout ks => { s with lockout := smClr s.lockout ks }
  | .setEmbOpen v => { s with embOpen := v }
  | .setEmbBseq v => { s with embBseq := v }
  | .putTileLeave k v => { s with tileLeave := smSet false s.tileLeave k v }
  | .clrTileLeave ks => { s with tileLeave := smClr s.tileLeave ks }
  | .setTopoUp v => { s with topoUp := v }

/-- A list of updates, in order. -/
def applyAll (s : State) (es : List Eff) : State := es.foldl applyEff s

/-- What a part of a meaning does: the updates it makes, from the state it starts in. -/
abbrev Act := State → List Eff

/-- Parts of a meaning one after another, each from the state that those before it leave. -/
def seqA : List Act → Act
  | [], _ => []
  | a :: as, s => a s ++ seqA as (applyAll s (a s))

/-- A part of a meaning that runs only where a condition holds. -/
def whenA (c : Bool) (a : Act) : Act := fun s => if c then a s else []

/-- A part of a meaning for each element of a list, one after another. -/
def eachA {α : Type} (l : List α) (f : α → Act) : Act := seqA (l.map f)

/-- No update. -/
def noA : Act := fun _ => []

/-- Updates that do not depend on the state. -/
def effA (es : List Eff) : Act := fun _ => es

end Sys2Proof.Machine
end

