-- ==== Sys2Proof/Machine/Ops.lean ====
section
/-!
DEFINITION. Sys2Proof/Machine/Ops.lean: the operations that the families share: the map in force, the power state of a tile,
status codes, interrupts, error events and how a report climbs (R703 to R708), and the two memories (R74 to R79, R755).
-/
namespace Sys2Proof.Machine

/-! ### Keys of registers -/

/-- A register of a tile's window. -/
def tk (t : Nat) (r : TReg) (i : Nat := 0) : RKey := .tile (Fin.ofNat 512 t) r (ix i)

/-- A device global register. -/
def dk (r : DReg) (i : Nat := 0) : RKey := .dev r (ix i)

/-- A field of a tile's register. -/
def tfld (s : State) (t : Nat) (r : TReg) (f : Fld) (i : Nat := 0) : Nat := fld s (tk t r i) f

/-- A field of a device register. -/
def dfld (s : State) (r : DReg) (f : Fld) (i : Nat := 0) : Nat := fld s (dk r i) f

/-- A field of a register set to 1. -/
def setBit (k : RKey) (f : Fld) : Eff := .fld k f 1

/-- The codes of the tile registers among the listed ones that hold other than their reset values. -/
def heldTile (s : State) (t : Nat) (p : TReg → Bool) (rs : List TReg) : List Nat :=
  let base := (t % 512 + 1) * 1024
  let idxs := (rs.filter p).map (fun r => base + r.ctorIdx)
  (s.regs.filter (fun e => idxs.contains (e.1 / 65536))).map (·.1)

/-! ### The map in force -/

/-- W of the grade in force (TILE_GRID.WIDTH). -/
def gridW (s : State) : Nat := dfld s .TILE_GRID f_TILE_GRID_WIDTH

/-- N, the number of logical tiles (R57). -/
def nTiles (s : State) : Nat := 16 * gridW s

/-- The device's own chip ID. -/
def chipId (s : State) : Nat := dfld s .SYS_CHIP f_SYS_CHIP_CHIP_ID

/-- The column and row of a logical tile ID (R5). -/
def tileX (t : Nat) : Nat := t / 16
def tileY (t : Nat) : Nat := t % 16

/-- The logical tile ID of a position (R5). -/
def tileAt (x y : Nat) : Nat := 16 * x + y

/-- The logical tiles of the map in force. -/
def allTiles (s : State) : List Nat := List.range (nTiles s)

/-- The px of a logical tile (TILE_L2P); 255 where the ID names no tile. -/
def tilePx (s : State) (t : Nat) : Nat := bitsOf (regOf s (dk .TILE_L2P (t / 8))).toNat (8 * (t % 8)) 8

/-- The tile domain that covers a physical position (R33). -/
def domainAt (px py : Nat) : Nat := py / 4 * 17 + px / 2

/-- The tile domain of a logical tile. -/
def tileDomain (s : State) (t : Nat) : Nat := domainAt (tilePx s t) (tileY t)

/-- R44: TILE_DOWN_MAP shows the tile as down. -/
def tileDown (s : State) (t : Nat) : Bool := bitOf (regOf s (dk .TILE_DOWN_MAP (t / 64))).toNat (t % 64)

/-- R663, R694: a critical shutdown, or the module's preparation for service, has switched IVRs 0 to 73 off. -/
def railsOff (s : State) : Bool := s.critical || dfld s .BOOT_SVC_STAT f_BOOT_SVC_STAT_STATE == 2

/-- R55, R654: the fabric domain of a tile's row has latched off or is switched off, so that its router, Wick node, Beacon repeater and
Taper link stop. -/
def rowStopped (s : State) (t : Nat) : Bool := railsOff s || bitOf (regOf s (dk .IVR_FAIL1)).toNat (4 + tileY t / 4)

/-- R661: a thermal trip is in force. -/
def tripped (s : State) : Bool := dfld s .PWR_STAT f_PWR_STAT_TRIP == 1

/-- The power state of a tile: 0 run, 1 doze, 2 sleep, 3 entering or leaving sleep. -/
def tilePwr (s : State) (t : Nat) : Nat := tfld s t .TILE_PWR_STAT f_TILE_PWR_STAT_STATE

/-- R88, R157, R167: the tile sleeps, or has begun to enter sleep. -/
def tileAsleep (s : State) (t : Nat) : Bool := 2 ≤ tilePwr s t

/-- The device counts as quiesced: QUIESCED reads 1, or no manifest has been admitted since the last reset (R45, R417). -/
def isQuiesced (s : State) : Bool :=
  dfld s .EPC_STAT f_EPC_STAT_QUIESCED == 1 || !s.admittedSince

/-- R416: the device is quiescing or quiesced, so it starts no new traffic. -/
def holdTraffic (s : State) : Bool :=
  dfld s .EPC_STAT f_EPC_STAT_QUIESCING == 1 || dfld s .EPC_STAT f_EPC_STAT_QUIESCED == 1

/-- The epoch stamped at injection (R408). -/
def epochNow (s : State) : Bool := dfld s .EPC_STAT f_EPC_STAT_EPOCH == 1

/-! ### Statuses (R138, R178) -/

def stOK : Nat := 0
def stAddr : Nat := 1
def stFmt : Nat := 2
def stLen : Nat := 3
def stDown : Nat := 4
def stAsleep : Nat := 5
def stNotReady : Nat := 6
def stPoisoned : Nat := 7
def stGate : Nat := 8
def stAborted : Nat := 9
def stFlag : Nat := 10

/-- R138: of several statuses, the lowest that is not zero. -/
def stMerge (a b : Nat) : Nat := if a = 0 then b else if b = 0 then a else min a b

/-! ### Pilot time, interrupts and events -/

/-- The pilot time (R579). -/
def pilotNow (s : State) : Nat := dfld s .GLV_PILOT f_GLV_PILOT_TICKS

/-- R154: a block signals an interrupt source of its tile. -/
def irq (t src : Nat) : Act := fun s =>
  [.reg (tk t .TILE_IRQ_PEND) (regOf s (tk t .TILE_IRQ_PEND) ||| BitVec.ofNat 64 (2 ^ src))]

/-- R716: an event takes its place in the queue: behind every event of an earlier PCLK; among those of the same PCLK fatal
events last, the others in ascending KIND and then LOC. -/
def embInsert (q : List EmbEvt) (e : EmbEvt) : List EmbEvt :=
  match q with
  | [] => [e]
  | h :: q' =>
    if h.pilot = e.pilot ∧ e.cls ≠ 3 ∧
        (h.cls = 3 ∨ e.kind < h.kind ∨ (e.kind = h.kind ∧ e.loc < h.loc)) then e :: h :: q'
    else h :: embInsert q' e

/-- R716: an event enters the Ember queue, or is counted in EMB_LOST when the queue holds 256. -/
def embPush (e : EmbEvt) : Act := fun s =>
  if 256 ≤ s.embQ.length then [.cnt (dk .EMB_LOST) f_EMB_LOST_COUNT 1] else [.setEmbQ (embInsert s.embQ e)]

/-- GLV_STAT.STATE (R583): 0 asleep, 1 waking, 2 awake, 3 restarting, 4 halted. -/
def glvState (s : State) : Nat := dfld s .GLV_STAT f_GLV_STAT_STATE

/-- The plane's firmware or boot ROM runs. -/
def glvAwake (s : State) : Bool := glvState s == 2

/-- R584: a wake event. A plane that is awake serves it at once. -/
def glvWake : Act := fun s => if glvAwake s then [] else [.setGlvWakeReq true]

/-- R703, R707, R708, R715: an error event of a class: counted, recorded and logged; a fatal one also raises the alert and
wakes the Glovos plane. -/
def raiseErr (kind cls sub loc data : Nat) : Act := seqA [
  fun s => [
    .cnt (dk .ERR_CNT cls) f_ERR_CNT_COUNT 1,
    .reg (dk .ERR_STAT) (regOf s (dk .ERR_STAT) ||| BitVec.ofNat 64 (2 ^ cls))],
  fun s =>
    if dfld s .ERR_FIRST f_ERR_FIRST_VALID cls = 1 then []
    else [.reg (dk .ERR_FIRST cls)
      (BitVec.ofNat 64 (2 ^ 63 + kind % 65536 * 2 ^ 32 + loc % 65536 * 2 ^ 16 + sub % 256 * 2 ^ 8))],
  fun s => embPush ⟨pilotNow s, kind, cls, false, sub, loc, data⟩ s,
  fun s =>
    if cls = 3 then
      .reg (dk .GLV_ALERT_SRC) (regOf s (dk .GLV_ALERT_SRC) ||| BitVec.ofNat 64 (2 ^ 5)) :: glvWake s
    else []]

/-- R715: an information entry. -/
def raiseInfo (kind sub loc data : Nat) : Act := fun s => embPush ⟨pilotNow s, kind, 0, true, sub, loc, data⟩ s

/-- R568, R569: an event of the device is raised to the host: its vector becomes pending where its entry enables it. -/
def hostEvt (n : Nat) : Act := fun s =>
  let w := (regOf s (dk .HIF_EVT_VEC (n / 4))).toNat
  if bitOf w (16 * (n % 4) + 15) then [.setMsixPend (s.msixPend ||| 2 ^ bitsOf w (16 * (n % 4)) 8)] else []

/-! ### The report's climb: levels that read lower levels live (R704, R705, R706) -/

/-- R705: a queue's feeders: STAT.CFG_ERR, STAT.QERR or ERR_CNT not zero. -/
def queueErr (s : State) (t q : Nat) : Bool :=
  tfld s t .Q_STAT f_Q_STAT_CFG_ERR q == 1 || tfld s t .Q_STAT f_Q_STAT_QERR q == 1
    || tfld s t .Q_ERR_CNT f_Q_ERR_CNT_COUNT q != 0

/-- Some bit of a range of a tile's register reads 1. -/
def anyBits (s : State) (t : Nat) (r : TReg) (lo len : Nat) : Bool := bitsOf (regOf s (tk t r)).toNat lo len != 0

/-- R704, R705: TILE_ERR_SUM, which reads its feeders live. -/
def errSum (s : State) (t : Nat) : Nat :=
  let b := fun (i : Nat) (c : Bool) => if c then 2 ^ i else 0
  b 0 (anyBits s t .CM_STAT 1 2) + b 1 (anyBits s t .TILE_VLT_STAT 2 3)
  + b 2 (queueErr s t 0) + b 3 (queueErr s t 1) + b 4 (queueErr s t 2)
  + b 5 (anyBits s t .CDX_STAT 0 4 || queueErr s t 3 || queueErr s t 8)
  + b 6 (queueErr s t 4 || queueErr s t 5 || queueErr s t 6 || queueErr s t 7)
  + b 7 (anyBits s t .NIU_STAT 0 2 || queueErr s t 9 || queueErr s t 10 || queueErr s t 11 || queueErr s t 12)
  + b 8 (anyBits s t .BN_TILE_STAT 0 3) + b 9 (anyBits s t .RED_STATUS 2 6 || queueErr s t 13)
  + b 10 (anyBits s t .CN_TILE_STAT 0 4) + b 11 (anyBits s t .AMQ_STAT 0 5)
  + b 12 (anyBits s t .WICK_STAT 0 4) + b 13 (anyBits s t .BCN_STAT 0 4)
  + b 14 (anyBits s t .TPR_STAT 0 4 || tfld s t .TPR_STAT f_TPR_STAT_BROKEN == 1)
  + b 15 (anyBits s t .SNF_STAT 0 2)
  + b 16 ((List.range 8).any (fun g => queueErr s t (14 + g) || tfld s t .COL_GSTAT f_COL_GSTAT_STATE g == 2))
  + b 17 (regOf s (dk .ERR_CORE_BUS t) != 0)

/-- The header flit of a CN packet as a number (R311). -/
def cnHeader (p : CnPkt) : Nat :=
  p.dtile.toNat * 2 ^ 55 + p.stile.toNat * 2 ^ 46 + p.op.toNat * 2 ^ 42 + p.tc.toNat * 2 ^ 40
    + b2n p.epoch * 2 ^ 39 + p.len.toNat * 2 ^ 32 + b2n p.dhub * 2 ^ 31 + b2n p.shub * 2 ^ 30 + p.flds.toNat

/-- A CN packet waits in the NIU of a tile (512 for the hub) until it is started, where it takes its epoch (R408). -/
def cnSend (t : Nat) (p : CnPkt) : Act := fun s => [.putCnq t (cnqAt s t ++ [{ p with epoch := epochNow s }])]

/-- R320: an INTR from a tile to the hub. -/
def cnIntr (t ev : Nat) : CnPkt :=
  ⟨0, BitVec.ofNat 9 t, 4, 3, false, 0, true, false, BitVec.ofNat 30 ev, [], false, 0⟩

/-- R706: the bits of a device register whose rise raises an event, each with its event; `any` says that the event is raised
only when the first of the bits rises. -/
structure Watch where
  mask : Nat
  any  : Bool
  ev   : Nat

/-- R706: the events that changes of a device register raise. -/
def watches (s : State) (r : DReg) (i : Nat) : List Watch :=
  match r with
  | .ERR_STAT =>
    (List.range 4).filterMap (fun c =>
      if bitOf (dfld s .ERR_CFG f_ERR_CFG_EVT_EN) c then some ⟨2 ^ c, false, 0x20 + c⟩ else none)
  | .WLP_EVENT => [⟨0x7FFF, false, 0x30 + i⟩]
  | .PWR_STAT => [⟨0x1B16, false, 0x40⟩]
  | .IVR_FAIL0 => [⟨2 ^ 64 - 1, false, 0x41⟩]
  | .IVR_FAIL1 => [⟨0x7FF, false, 0x41⟩]
  | .EPC_STAT => [⟨0x3F00, false, 0x42⟩]
  | .SYS_STAT => [⟨0x1F, false, 0x43⟩]
  | .PRG_STAT => [⟨7, false, 0x44⟩]
  | .GLV_STAT => [⟨3 * 2 ^ 62, false, 0x45⟩]
  | .BOOT_STAT => [⟨2 ^ 62, false, 0x46⟩]
  | .BOOT_RST_STAT => [⟨1, false, 0x46⟩]
  | .BOOT_SVC_STAT => [⟨1, false, 0x46⟩]
  | .BOOT_ADM_STAT => [⟨2 ^ 61, false, 0x46⟩]
  | .TILE_MAP_STAT => [⟨2, false, 0x47⟩]
  | .EMB_STAT => [⟨3 * 2 ^ 62, false, 0x48⟩]
  | .TILE_MEM_STAT => [⟨6, true, 0x49⟩]
  | .BN_DEV_STAT => [⟨2 ^ 63, true, 0x49⟩]
  | .RED_DEV_STAT => [⟨2 ^ 63, true, 0x49⟩]
  | .CN_DEV_STAT => [⟨2 ^ 63, true, 0x49⟩]
  | .WICK_DEV_STAT => [⟨3, true, 0x49⟩]
  | .SNF_DEV_STAT => [⟨3, true, 0x49⟩]
  | .HIF_STAT => [⟨0xF, false, 0xF0⟩]
  | .SPT_STAT => [⟨0x1F, true, 0x49⟩]
  | .COL_DEV_STAT => [⟨0x100, true, 0x49⟩]
  | _ => []

/-- R706: the events that the change of one device register from `s` to `t` raises. -/
def regEvents (s t : State) (r : DReg) (i : Nat) : List Nat :=
  let a := (regOf s (dk r i)).toNat
  let b := (regOf t (dk r i)).toNat
  (watches t r i).filterMap (fun w =>
    let rose := (b &&& w.mask) &&& (a ^^^ (a ||| b))
    if rose ≠ 0 ∧ (w.any = false ∨ a &&& w.mask = 0) then some w.ev else none)
  ++ (match r with
      | .GLV_STAT => if bitOf a 63 ∧ ¬ bitOf b 63 then [0x45] else []
      | .IVR_STAT => if bitsOf a 52 4 ≠ bitsOf b 52 4 then [0x41] else []
      | _ => [])

/-- The tile whose summary an update may change. -/
def touchedTile : Eff → Option Nat
  | .reg (.tile t _ _) _ => some t.val
  | .fld (.tile t _ _) _ _ => some t.val
  | .cnt (.tile t _ _) _ _ => some t.val
  | .reg (.dev .ERR_CORE_BUS i) _ => some i.val
  | _ => none

/-- The device register that an update may change. -/
def touchedDev : Eff → Option (DReg × Nat)
  | .reg (.dev r i) _ => some (r, i.val)
  | .fld (.dev r i) _ _ => some (r, i.val)
  | _ => none

/-- R704: on each rise of a summary bit, the tile signals source 16 and sends the hub an INTR with the bit's number. -/
def tileRise (old : State) (t : Nat) : Act := fun s =>
  let rose := (List.range 18).filter (fun b => bitOf (errSum s t) b && !bitOf (errSum old t) b)
  if rose = [] then [] else seqA (irq t 16 :: rose.map (fun b => cnSend t (cnIntr t b))) s

/-- What rises after the updates `es` have been made to `old`: summaries (R704) and host events (R706). -/
def climb (old : State) (es : List Eff) : Act := fun s =>
  let ts := (es.filterMap touchedTile).eraseDups
  let ds := (es.filterMap touchedDev).eraseDups
  let evs := (ds.flatMap (fun d => regEvents old s d.1 d.2)).eraseDups
  seqA (ts.map (tileRise old) ++ evs.map hostEvt) s

/-- A meaning: its updates, and what climbs from them. -/
def runA (a : Act) (s : State) : Host.Outcome State Fault Refusal :=
  let es := a s
  let t := applyAll s es
  .next (applyAll t (climb s es t))

end Sys2Proof.Machine
end

