-- ==== Sys2Proof/Machine/Mem.lean ====
section
/-!
DEFINITION. Sys2Proof/Machine/Mem.lean: the address map (R57 to R62), and reads and writes of CM and vault lines with ECC, poison
and the written bit (R74 to R80, R84, R88, R92, R755).
-/
namespace Sys2Proof.Machine

/-! ### The address map -/

/-- Where an address lies (R57). -/
inductive Place where
  | cm (t off : Nat)
  | vlt (t off : Nat)
  | treg (t off : Nat)
  | dreg (off : Nat)
  | host (off : Nat)
  | other (chip loc : Nat)
  | unmapped
deriving DecidableEq, Repr

/-- Vault bytes of a tile: 192 MiB. -/
def vaultSize : Nat := 0xC000000

/-- CM bytes of a tile: 8 MiB. -/
def cmSize : Nat := 0x800000

/-- R60: the stripe size that TILE_MEM_CFG.STRIPE selects. -/
def stripeSize (s : State) : Nat :=
  match dfld s .TILE_MEM_CFG f_TILE_MEM_CFG_STRIPE with
  | 0 => 256
  | 1 => 4096
  | 2 => 65536
  | _ => 2097152

/-- The vault mode in force: striped (R60) or tile-local (R59). -/
def striped (s : State) : Bool := dfld s .TILE_MEM_CFG f_TILE_MEM_CFG_VAULT_MODE == 1

/-- R59, R60: the tile and in-tile offset of a vault address. -/
def vaultPlace (s : State) (a : Nat) : Nat × Nat :=
  if striped s then
    let z := stripeSize s
    (a / z % nTiles s, a / z / nTiles s * z + a % z)
  else (a / vaultSize, a % vaultSize)

/-- The local vault address that maps to an in-tile offset under the mode in force (TILE_VLT_NWR_ADDR). -/
def vaultLocal (s : State) (t off : Nat) : Nat :=
  if striped s then
    let z := stripeSize s
    (off / z * nTiles s + t) * z + off % z
  else t * vaultSize + off

/-- R57, R58: where a local address lies; `own` is the tile of the issuing core or engine, none for any other requester. -/
def mapLocal (s : State) (own : Option Nat) (a : Nat) : Place :=
  let n := nTiles s
  if a < n * vaultSize then
    let p := vaultPlace s a
    .vlt p.1 p.2
  else if 0x010000000000 ≤ a ∧ a < 0x010000000000 + n * cmSize then
    .cm ((a - 0x010000000000) / cmSize) ((a - 0x010000000000) % cmSize)
  else if 0x020000000000 ≤ a ∧ a < 0x020000000000 + n * 0x10000 then
    .treg ((a - 0x020000000000) / 0x10000) ((a - 0x020000000000) % 0x10000)
  else if 0x02FFFFFF0000 ≤ a ∧ a ≤ 0x02FFFFFFFFFF then
    match own with
    | some t => if t < n then .treg t (a - 0x02FFFFFF0000) else .unmapped
    | none => .unmapped
  else if 0x030000000000 ≤ a ∧ a ≤ 0x030001FFFFFF then .dreg (a - 0x030000000000)
  else if 0x040000000000 ≤ a ∧ a ≤ 0x04FFFFFFFFFF then .host (a - 0x040000000000)
  else .unmapped

/-- Where a global address lies: decoded locally when its chip ID is the device's own (R57). -/
def mapGlobal (s : State) (own : Option Nat) (g : Nat) : Place :=
  if g / 2 ^ 47 = chipId s then mapLocal s own (g % 2 ^ 47) else .other (g / 2 ^ 47) (g % 2 ^ 47)

/-- The global address of a CM offset of a tile of this device. -/
def cmGlobal (s : State) (t off : Nat) : Nat := chipId s * 2 ^ 47 + 0x010000000000 + t * cmSize + off

/-- The global address of an in-tile vault offset of a tile of this device, under the mode in force. -/
def vltGlobal (s : State) (t off : Nat) : Nat := chipId s * 2 ^ 47 + vaultLocal s t off

/-- R142: an own-tile offset of 32 bits names a CM byte or a vault byte; none where it breaks its must-be-0 bits or lies
outside the memory. -/
def ownPlace (t off32 : Nat) : Option Place :=
  if 2 ^ 32 ≤ off32 then none
  else if bitOf off32 31 then
    if bitsOf off32 28 3 = 0 ∧ bitsOf off32 0 28 < vaultSize then some (.vlt t (bitsOf off32 0 28)) else none
  else if bitsOf off32 23 8 = 0 then some (.cm t (bitsOf off32 0 23)) else none

/-- The place a number of bytes further on in the same memory. -/
def Place.plus (p : Place) (n : Nat) : Place :=
  match p with
  | .cm t o => .cm t (o + n)
  | .vlt t o => .vlt t (o + n)
  | .treg t o => .treg t (o + n)
  | .dreg o => .dreg (o + n)
  | .host o => .host (o + n)
  | .other c o => .other c (o + n)
  | .unmapped => .unmapped

/-- A range of an own-tile memory lies wholly in it (R66). -/
def ownRangeOk (t off32 n : Nat) : Bool :=
  match ownPlace t off32 with
  | some (.cm _ o) => decide (o + n ≤ cmSize)
  | some (.vlt _ o) => decide (o + n ≤ vaultSize)
  | _ => false

/-! ### Keys -/

def cmKey (t off : Nat) : Nat := t * 2 ^ 23 + off
def vltKey (t off : Nat) : Nat := t * 2 ^ 28 + off
def cmLineKey (t off : Nat) : Nat := t * 2 ^ 17 + off / 64
def vltLineKey (t off : Nat) : Nat := t * 2 ^ 22 + off / 64

/-- What the checks of the lines of an access find, by line number of `lineNo`; an unlisted line is clean (R74 to R77). -/
abbrev Finds := List (Nat × Ecc)

/-- The number of the line of a CM or vault place, as an own-tile offset of R142 ÷ 64. -/
def lineNo (vault : Bool) (off : Nat) : Nat := (if vault then 2 ^ 25 else 0) + off / 64

/-- What the check of a line finds. -/
def Finds.at_ (fs : Finds) (ln : Nat) : Ecc := smGet .clean fs ln

/-! ### Reads -/

/-- What a read gives: its status, its bytes, whether some byte is poisoned, and what it does. -/
structure RdOut where
  st    : Nat
  bytes : List Byte
  psn   : Bool
  eff   : List Eff
deriving DecidableEq, Repr

/-- R44, R84, R88: the status that an access to a tile's CM (or vault) meets before it is performed. -/
def tileStatus (s : State) (t : Nat) (vault : Bool) : Nat :=
  if tileDown s t then stDown
  else if tileAsleep s t then stAsleep
  else if vault && tfld s t .TILE_VLT_STAT f_TILE_VLT_STAT_SCRUB_DONE == 0 then stNotReady
  else stOK

/-- R79, R97: the records of a read of a line never written, under NWR_MODE. -/
def nwrRecord (t off : Nat) : Act := fun s =>
  let mode := dfld s .TILE_MEM_CFG f_TILE_MEM_CFG_NWR_MODE
  if mode = 0 then []
  else
    let full := tfld s t .TILE_VLT_NWR_CNT f_TILE_VLT_NWR_CNT_COUNT = fmax f_TILE_VLT_NWR_CNT_COUNT
    let line := vaultLocal s t off / 64 * 64
    let recd : Act := fun s =>
      if full then []
      else .cnt (tk t .TILE_VLT_NWR_CNT) f_TILE_VLT_NWR_CNT_COUNT 1 ::
        (if tfld s t .TILE_VLT_STAT f_TILE_VLT_STAT_NWR_SEEN = 1 then []
         else [setBit (tk t .TILE_VLT_STAT) f_TILE_VLT_STAT_NWR_SEEN,
               .reg (tk t .TILE_VLT_NWR_ADDR) (BitVec.ofNat 64 (2 ^ 63 + line))])
    seqA [recd, whenA (mode = 2) (raiseErr 0x0103 1 0 t line)] s

/-- R76, R94, R148: a vault read finds an uncorrectable error: the line is poisoned, counted and recorded; `sub` is the SUB of
its VLT_UE event. -/
def vltUe (t off sub : Nat) : Act := fun s =>
  let line := vaultLocal s t off / 64 * 64
  let k := vltLineKey t off
  let first : Act := fun s =>
    if tfld s t .TILE_VLT_STAT f_TILE_VLT_STAT_UE_SEEN = 1 then []
    else [.reg (tk t .TILE_VLT_UE_ADDR) (BitVec.ofNat 64 (2 ^ 63 + line))]
  seqA [first, effA [.putVltLn k { vltLnAt s k with psn := true },
    .cnt (tk t .TILE_VLT_UE_CNT) f_TILE_VLT_UE_CNT_COUNT 1,
    setBit (tk t .TILE_VLT_STAT) f_TILE_VLT_STAT_UE_SEEN], raiseErr 0x0102 1 sub t line] s

/-- R76: a vault read finds a correctable error: counted and logged; the corrected line is written back. -/
def vltCe (t off : Nat) : Act := fun s =>
  seqA [effA [.cnt (tk t .TILE_VLT_CE_CNT) f_TILE_VLT_CE_CNT_COUNT 1,
    setBit (tk t .TILE_VLT_STAT) f_TILE_VLT_STAT_CE_SEEN],
    raiseErr 0x0101 0 0 t (vaultLocal s t off / 64 * 64)] s

/-- R76: a CM read finds an uncorrectable error. -/
def cmUe (t off : Nat) : Act := fun s =>
  let first : Act := fun s =>
    if tfld s t .CM_STAT f_CM_STAT_UE_SEEN = 1 then []
    else [.reg (tk t .CM_UE_ADDR) (BitVec.ofNat 64 (2 ^ 63 + off / 64 * 64))]
  seqA [first, effA [.putCmPsn (cmLineKey t off) true,
    .cnt (tk t .CM_UE_CNT) f_CM_UE_CNT_COUNT 1, setBit (tk t .CM_STAT) f_CM_STAT_UE_SEEN],
    raiseErr 0x0105 1 0 t (off / 64 * 64)] s

/-- R76: a CM read finds a correctable error. -/
def cmCe (t off : Nat) : Act :=
  seqA [effA [.cnt (tk t .CM_CE_CNT) f_CM_CE_CNT_COUNT 1, setBit (tk t .CM_STAT) f_CM_STAT_CE_SEEN],
    raiseErr 0x0104 0 0 t (off / 64 * 64)]

/-- R76, R79: whether a read of the vault line gives poisoned data, given what its check finds. -/
def vltLinePsn (s : State) (t off : Nat) (ecc : Ecc) : Bool :=
  let m := vltLnAt s (vltLineKey t off)
  if m.wr then m.psn || ecc == .uncorr else dfld s .TILE_MEM_CFG f_TILE_MEM_CFG_NWR_MODE == 2

/-- R76, R79: what a read of the vault line does, given what its check finds. -/
def vltLineRead (t off : Nat) (ecc : Ecc) : Act := fun s =>
  let m := vltLnAt s (vltLineKey t off)
  if !m.wr then nwrRecord t off s
  else if m.psn then []
  else match ecc with
    | .clean => []
    | .corr => vltCe t off s
    | .uncorr => vltUe t off 0 s

/-- R76: whether a read of the CM line gives poisoned data. -/
def cmLinePsn (s : State) (t off : Nat) (ecc : Ecc) : Bool := cmPsnAt s (cmLineKey t off) || ecc == .uncorr

/-- R76: what a read of the CM line does. -/
def cmLineRead (t off : Nat) (ecc : Ecc) : Act := fun s =>
  if cmPsnAt s (cmLineKey t off) then []
  else match ecc with
    | .clean => []
    | .corr => cmCe t off s
    | .uncorr => cmUe t off s

/-- The offsets at which the lines of a range begin, the first one as given. -/
def lineStarts (off n : Nat) : List Nat :=
  if n = 0 then [] else off :: (List.range ((off + n - 1) / 64 - off / 64)).map (fun i => (off / 64 + 1 + i) * 64)

/-- A read of `n` bytes of a CM or vault. -/
def memRead (s : State) (p : Place) (n : Nat) (fs : Finds) : RdOut :=
  match p with
  | .cm t off =>
    let st := tileStatus s t false
    if st ≠ stOK then ⟨st, [], false, []⟩
    else
      let ls := lineStarts off n
      ⟨stOK, smRead 0 s.cm (cmKey t off) n,
        ls.any (fun l => cmLinePsn s t l (fs.at_ (lineNo false l))),
        eachA ls (fun l => cmLineRead t l (fs.at_ (lineNo false l))) s⟩
  | .vlt t off =>
    let st := tileStatus s t true
    if st ≠ stOK then ⟨st, [], false, []⟩
    else
      let ls := lineStarts off n
      ⟨stOK, smRead 0 s.vlt (vltKey t off) n,
        ls.any (fun l => vltLinePsn s t l (fs.at_ (lineNo true l))),
        eachA ls (fun l => vltLineRead t l (fs.at_ (lineNo true l))) s⟩
  | _ => ⟨stAddr, [], false, []⟩

/-- The POISON of each 64 B flit of a read that starts at a place. -/
def flitPsn (s : State) (p : Place) (n : Nat) (fs : Finds) : List Bool :=
  (List.range (ceilDiv n 64)).map (fun i =>
    let m := min 64 (n - 64 * i)
    match p with
    | .cm t off => (lineStarts (off + 64 * i) m).any (fun l => cmLinePsn s t l (fs.at_ (lineNo false l)))
    | .vlt t off => (lineStarts (off + 64 * i) m).any (fun l => vltLinePsn s t l (fs.at_ (lineNo true l)))
    | _ => false)

/-! ### Writes -/

/-- R147: a write to a line that the MXE holds from a run-ahead read cancels it; `ln` is the own-tile offset ÷ 64. -/
def cancelHeld (t ln : Nat) : Act := fun s =>
  let h := mxeHeldAt s t
  if h.any (fun e => e.1 == ln) then
    [.putMxeHeld t (h.filter (fun e => e.1 ≠ ln)), .cnt (tk t .TILE_MXE_RA_CANCEL) f_TILE_MXE_RA_CANCEL_COUNT 1]
  else []

/-- A write to a line ends the reservations that other cores of the tile hold on it; `ln` as for `cancelHeld`. -/
def breakResv (t ln : Nat) (writer : Option Nat) : Act := fun s =>
  s.cores.filterMap (fun e =>
    if e.1 / 24 = t ∧ e.2.resv = some ln ∧ writer ≠ some (e.1 % 24) then some (.putCores e.1 { e.2 with resv := none })
    else none)

/-- R76, R755: a write of bytes within one CM line. -/
def cmLineWrite (t off : Nat) (bs : List Byte) (psn : Bool) (ecc : Ecc) (writer : Option Nat) : Act := fun s =>
  let k := cmLineKey t off
  let full := off % 64 = 0 ∧ bs.length = 64
  let partialWord := off % 8 ≠ 0 ∨ bs.length % 8 ≠ 0
  let rd : Act := fun s =>
    if partialWord ∧ cmPsnAt s k = false then cmLineRead t off ecc s else []
  seqA [rd,
    fun s => [.runCm (cmKey t off) bs, .putCmPsn k (if full then psn else psn || cmPsnAt s k)],
    cancelHeld t (lineNo false off), breakResv t (lineNo false off) writer] s

/-- R76, R77, R78: a write of bytes within one vault line. -/
def vltLineWrite (t off : Nat) (bs : List Byte) (psn : Bool) (ecc : Ecc) (writer : Option Nat) : Act := fun s =>
  let k := vltLineKey t off
  let full := off % 64 = 0 ∧ bs.length = 64
  let rd : Act := fun s =>
    let m := vltLnAt s k
    if full ∨ m.wr = false ∨ m.psn then []
    else match ecc with
      | .clean => []
      | .corr => vltCe t off s
      | .uncorr => vltUe t off 0 s
  seqA [rd,
    fun s => [.runVlt (vltKey t off) bs, .putVltLn k ⟨true, if full then psn else psn || (vltLnAt s k).psn⟩],
    cancelHeld t (lineNo true off), breakResv t (lineNo true off) writer] s

/-- The pieces of a write, line by line: the offset, the bytes, and whether some byte of the piece is poisoned (R75). -/
def lineCuts (off : Nat) (bs : List Byte) (psn : Nat → Bool) : List (Nat × List Byte × Bool) :=
  (lineStarts off bs.length).map (fun l =>
    let b := (bs.drop (l - off)).take (64 - l % 64)
    (l, b, (List.range b.length).any (fun j => psn (l - off + j))))

/-- A write of bytes to a CM or vault whose tile serves it; `psn` gives the poison of each byte by its distance from the start. -/
def memStore (p : Place) (bs : List Byte) (psn : Nat → Bool) (fs : Finds) (writer : Option Nat) : Act := fun s =>
  match p with
  | .cm t off =>
    eachA (lineCuts off bs psn) (fun c => cmLineWrite t c.1 c.2.1 c.2.2 (fs.at_ (lineNo false c.1)) writer) s
  | .vlt t off =>
    eachA (lineCuts off bs psn) (fun c => vltLineWrite t c.1 c.2.1 c.2.2 (fs.at_ (lineNo true c.1)) writer) s
  | _ => []

/-- The status that a write to a CM or vault meets (R44, R84, R88); ADDR_ERR for a place that is neither. -/
def memStatus (s : State) (p : Place) : Nat :=
  match p with
  | .cm t _ => tileStatus s t false
  | .vlt t _ => tileStatus s t true
  | _ => stAddr

/-- The poison that a read of the line at a distance of `k` bytes from a place gives. -/
def psnAt (s : State) (p : Place) (fs : Finds) (k : Nat) : Bool :=
  match p with
  | .cm t off => cmLinePsn s t (off + k) (fs.at_ (lineNo false (off + k)))
  | .vlt t off => vltLinePsn s t (off + k) (fs.at_ (lineNo true (off + k)))
  | _ => false

/-- A write of bytes without poison to a CM or vault: performed where its tile serves it. -/
def memPut (p : Place) (bs : List Byte) : Act := fun s =>
  if memStatus s p = stOK then memStore p bs (fun _ => false) [] none s else []

/-- R84: a CM access that waits for the CM scrub of its tile. -/
def cmWaits (s : State) (p : Place) : Bool :=
  match p with
  | .cm t _ => tfld s t .CM_STAT f_CM_STAT_SCRUB_DONE == 0 && !tileDown s t && !tileAsleep s t
  | _ => false

end Sys2Proof.Machine
end

