-- ==== Sys2Proof/Machine/CoreBase.lean ====
section
/-!
DEFINITION. Sys2Proof/Machine/CoreBase.lean: a core's registers and CSRs (R124 to R126), its traps, and the start and stop of
cores (R128). Traps follow the RISC-V privileged architecture, which R125 names (assumption 9).
-/
namespace Sys2Proof.Machine

/-- The key of a core. -/
def coreKey (t c : Nat) : Nat := t * 24 + c

/-- A core's state. -/
def coreOf (s : State) (t c : Nat) : CoreSt := coresAt s (coreKey t c)

/-- An integer register; x0 reads 0. -/
def CoreSt.getX (k : CoreSt) (r : Nat) : W64 := if r = 0 then 0 else smGet 0 k.x r

/-- The core with an integer register written; a write of x0 is discarded. -/
def CoreSt.setX (k : CoreSt) (r : Nat) (v : W64) : CoreSt := if r = 0 then k else { k with x := smSet 0 k.x r v }

/-- A float register. -/
def CoreSt.getF (k : CoreSt) (r : Nat) : W64 := smGet 0 k.f r

/-- The core with a float register written. -/
def CoreSt.setF (k : CoreSt) (r : Nat) (v : W64) : CoreSt := { k with f := smSet 0 k.f r v }

/-- A vector register. -/
def CoreSt.getV (k : CoreSt) (r : Nat) : BitVec 512 := smGet 0 k.v r

/-- The core with a vector register written. -/
def CoreSt.setV (k : CoreSt) (r : Nat) (v : BitVec 512) : CoreSt := { k with v := smSet 0 k.v r v }

/-- The value of a CSR after a start: vtype reads vill, and every other stored CSR reads 0 (assumption 9). -/
def csrReset (n : Nat) : W64 := if n = 0xC21 then 0x8000000000000000 else 0

/-- A stored CSR. -/
def CoreSt.getCsr (k : CoreSt) (n : Nat) : W64 := smGet (csrReset n) k.csr n

/-- The core with a stored CSR written. -/
def CoreSt.setCsr (k : CoreSt) (n : Nat) (v : W64) : CoreSt := { k with csr := smSet (csrReset n) k.csr n v }

/-- mstatus fields. -/
def mstatusMIE : Fld := ⟨3, 1, .rw, 0⟩
def mstatusMPIE : Fld := ⟨7, 1, .rw, 0⟩
def mstatusMPP : Fld := ⟨11, 2, .rw, 0⟩
def mstatusMPRV : Fld := ⟨17, 1, .rw, 0⟩
def mstatusFS : Fld := ⟨13, 2, .rw, 0⟩
def mstatusVS : Fld := ⟨9, 2, .rw, 0⟩
def mstatusTW : Fld := ⟨21, 1, .rw, 0⟩

/-- A trap to M-mode: mepc, mcause and mtval take the pc, the cause and the value; mstatus saves MIE and the mode; the pc goes
to the handler of mtvec, direct or vectored. -/
def CoreSt.trap (k : CoreSt) (interrupt : Bool) (cause : Nat) (epc tval : W64) : CoreSt :=
  let ms := k.getCsr 0x300
  let ms := fset ms mstatusMPIE (fget ms mstatusMIE)
  let ms := fset ms mstatusMIE 0
  let ms := fset ms mstatusMPP (if k.user then 0 else 3)
  let tvec := k.getCsr 0x305
  let base := tvec &&& ~~~(3 : W64)
  let k := k.setCsr 0x300 ms
  let k := k.setCsr 0x341 epc
  let k := k.setCsr 0x342 (BitVec.ofNat 64 (cause + if interrupt then 2 ^ 63 else 0))
  let k := k.setCsr 0x343 tval
  { k with
    user := false,
    pc := if interrupt ∧ fget tvec ⟨0, 2, .rw, 0⟩ = 1 then base + BitVec.ofNat 64 (4 * cause) else base }

/-- R128: the core runs: it is neither stopped nor in WFI. -/
def coreStopped (s : State) (t c : Nat) : Bool := bitOf (tfld s t .TILE_CORE_STAT f_TILE_CORE_STAT_STOPPED) c
def coreWfi (s : State) (t c : Nat) : Bool := bitOf (tfld s t .TILE_CORE_STAT f_TILE_CORE_STAT_WFI) c

/-- The core can execute, but for WFI: its tile is awake and up, it has been started and has not been asked to stop, and no thermal trip
holds it (R128, R661). -/
def coreRuns (s : State) (t c : Nat) : Bool :=
  decide (t < nTiles s) && bitOf (tfld s t .TILE_CORE_RUN f_TILE_CORE_RUN_RUN) c && !coreStopped s t c && tilePwr s t == 0
    && !tileDown s t && !tripped s && !railsOff s

/-- A core takes an exception. -/
def trapCore (t c cause : Nat) (epc : W64) (tval : Nat) : Act := fun s =>
  [.putCores (coreKey t c) ((coreOf s t c).trap false cause epc (BitVec.ofNat 64 tval))]

/-- An instruction retires, or where `back` holds it is no longer counted as retired; mcountinhibit.IR stops the count. -/
def CoreSt.retire (k : CoreSt) (back : Bool) : CoreSt :=
  if bitOf (k.getCsr 0x320).toNat 2 then k
  else k.setCsr 0xB02 (if back then k.getCsr 0xB02 - 1 else k.getCsr 0xB02 + 1)

/-- A core goes on to its next instruction. -/
def advance (t c n : Nat) : Act := fun s =>
  let k := coreOf s t c
  [.putCores (coreKey t c) { k.retire false with pc := k.pc + BitVec.ofNat 64 n }]

/-- The least size mask: the low `n` bytes of a word. -/
def truncW (n : Nat) (v : W64) : W64 := BitVec.ofNat 64 (v.toNat % 2 ^ (8 * n))

/-- A loaded value extended to 64 bits. -/
def extendLoad (size : Nat) (signed : Bool) (x : Nat) : W64 :=
  if signed then BitVec.ofInt 64 (toSigned (8 * size) x) else BitVec.ofNat 64 (x % 2 ^ (8 * size))

/-- A load's data reaches its register; a float of 4 bytes is NaN-boxed. An element of a vector load moves vstart past it. -/
def CoreSt.loaded (k : CoreSt) (dst : LdDst) (size : Nat) (bs : List Byte) : CoreSt :=
  match dst with
  | .x rd sg => k.setX rd (extendLoad size sg (leNat bs))
  | .f rd => k.setF rd (if size = 4 then BitVec.ofNat 64 (0xFFFFFFFF00000000 + leNat bs % 2 ^ 32) else BitVec.ofNat 64 (leNat bs))
  | .v vd first elem _ =>
    let k := k.setCsr 0x008 (BitVec.ofNat 64 (elem + 1))
    let old := (k.getV vd).toNat
    let lo := 8 * first
    let n := 8 * bs.length
    k.setV vd (BitVec.ofNat 512 (old - old / 2 ^ lo % 2 ^ n * 2 ^ lo + leNat bs % 2 ^ n * 2 ^ lo))
  | .none => k

/-- R66, R318, R711: a store of a core has failed: the core's STORE bit and a STORE_FAIL event. -/
def storeFail (t c addr : Nat) : Act := seqA [
  fun s => [.reg (dk .ERR_CORE_BUS t) (regOf s (dk .ERR_CORE_BUS t) ||| BitVec.ofNat 64 (2 ^ c))],
  raiseErr 0x0107 2 c t addr]

/-- R710: a core has met poison: the core's POISON bit and a POISON_USE event. -/
def poisonUse (t c addr : Nat) : Act := seqA [
  fun s => [.reg (dk .ERR_CORE_BUS t) (regOf s (dk .ERR_CORE_BUS t) ||| BitVec.ofNat 64 (2 ^ (24 + c)))],
  raiseErr 0x0106 2 c t addr]

/-- The first outstanding access of a core with a kind and a key, taken off its list. -/
def takeOut (k : CoreSt) (p : CoreOut → Bool) : Option CoreOut × CoreSt :=
  match k.outst.find? p with
  | some o => (some o, { k with outst := k.outst.erase o })
  | none => (none, k)

/-! ### Answers of remote accesses -/

/-- The WFI bit of a core clears. -/
def wfiClr (t c : Nat) : Act := fun s =>
  [.fld (tk t .TILE_CORE_STAT) f_TILE_CORE_STAT_WFI (tfld s t .TILE_CORE_STAT f_TILE_CORE_STAT_WFI &&& (2 ^ 24 - 1 - 2 ^ c))]

/-- The exception of an access: the instruction at `pc` does not count as retired where the core has gone past it, and what its other
loads bring is dropped. A vector load's vstart names the element; a fault-only-first load beyond its first element ends there
instead. -/
def CoreSt.faulted (k : CoreSt) (cause : Nat) (pc : W64) (addr : Nat) (dst : LdDst) : CoreSt :=
  let k := { k with outst := k.outst.map (fun (e : CoreOut) => if e.kind == CoreAcc.load then { e with dst := .none } else e) }
  match dst with
  | .v _ _ elem ff =>
    let k := k.setCsr 0x008 (BitVec.ofNat 64 elem)
    if ff ∧ elem ≠ 0 then k.setCsr 0xC20 (BitVec.ofNat 64 elem)
    else k.trap false cause pc (BitVec.ofNat 64 addr)
  | _ => (if k.pc = pc then k else k.retire true).trap false cause pc (BitVec.ofNat 64 addr)

/-- A core takes the exception of an access of the instruction at `pc`. -/
def faultAt (t c cause : Nat) (pc : W64) (addr : Nat) (dst : LdDst) : Act :=
  seqA [fun s => [.putCores (coreKey t c) ((coreOf s t c).faulted cause pc addr dst)], wfiClr t c]

/-- A core takes the exception of an access that it has outstanding. -/
def faultOut (t c : Nat) (o : CoreOut) (cause : Nat) : Act := faultAt t c cause o.pc o.addr o.dst

/-- R66, R69, R710, R711: the answer of a core's remote access `n`. -/
def coreAnswer (t c n st : Nat) (data : List Byte) (psn : Bool) : Act := fun s =>
  let k := coreOf s t c
  match takeOut k (fun o => (o.kind == .load || o.kind == .store || o.kind == .amo) && o.key == n) with
  | (none, _) => []
  | (some o, k') =>
    let put := effA [.putCores (coreKey t c) k']
    let bad := psn || st == stPoisoned
    match o.kind with
    | .store => seqA [put, whenA (st != stOK && st != stPoisoned) (storeFail t c o.addr)] s
    | .amo =>
      if st = stOK ∧ bad = false then [.putCores (coreKey t c) (k'.loaded o.dst o.size (data.take o.size))]
      else seqA [put, faultOut t c o 7, whenA bad (poisonUse t c o.addr)] s
    | _ =>
      if st = stOK ∧ bad = false then [.putCores (coreKey t c) (k'.loaded o.dst o.size data)]
      else seqA [put, faultOut t c o 5, whenA bad (poisonUse t c o.addr)] s

end Sys2Proof.Machine
end

