-- ==== Sys2Proof/Machine/NocBase.lean ====
section
/-!
DEFINITION. Sys2Proof/Machine/NocBase.lean: BN packets: their operations, addresses, pieces and waiting lists (R173 to R178, R186,
R187, R477), the tags of an NIU (R188), the shaper buckets (R403, R404), and the descriptors a queue has in flight (R135, R136).
-/
namespace Sys2Proof.Machine

/-! ### Operations -/

def opRdReq : Nat := 0x00
def opWr : Nat := 0x01
def opWrCb : Nat := 0x02
def opAmo : Nat := 0x03
def opMcWr : Nat := 0x08
def opMcWrCb : Nat := 0x09
def opRdRsp : Nat := 0x10
def opWrAck : Nat := 0x11
def opAmoRsp : Nat := 0x12
def opMcAck : Nat := 0x13

/-- R173, R177: the VC of an operation: 0 A0, 1 A1, 2 B0, 3 B1; none for one that is never injected. -/
def opVc (op : Nat) : Option Nat :=
  if op ≤ 3 then some 0
  else if op = 8 ∨ op = 9 then some 1
  else if 0x10 ≤ op ∧ op ≤ 0x13 then some 2
  else if 0x18 ≤ op ∧ op ≤ 0x1F then some 3
  else none

/-- R188: the operations whose packets hold a tag. -/
def opTagged (op : Nat) : Bool := op ≤ 3 || op == 8 || op == 9

/-- R403: the operations whose packets are shaped. -/
def opShaped (op : Nat) : Bool := opTagged op || op == 0x18 || op == 0x19

/-- R217: the operations of reduction partials, float and integer. -/
def opRedF : Nat := 0x18
def opRedI : Nat := 0x19
def opRedNak : Nat := 0x1A
def opRed (op : Nat) : Bool := op == opRedF || op == opRedI

/-- R177: the response that answers a request. -/
def opAnswer (op : Nat) : Nat := if op = opRdReq then opRdRsp else if op = opAmo then opAmoRsp
  else if op = opMcWr ∨ op = opMcWrCb then opMcAck else opWrAck

/-- R176: the DTILE and ADDR of a place. The device global registers are reached at the tile of the CN hub, (0,8). -/
def encPlace (p : Place) : Option (Nat × Nat) :=
  match p with
  | .cm t o => some (t, o)
  | .vlt t o => some (t, 2 ^ 40 + o)
  | .treg t o => some (t, 2 * 2 ^ 40 + o)
  | .dreg o => some (8, 2 * 2 ^ 40 + 2 ^ 25 + o)
  | .host o => some (7, 3 * 2 ^ 40 + o)
  | _ => none

/-- R176: the place that an ADDR names in a destination tile; none where it breaks the table. -/
def decAddr (dtile addr : Nat) : Option Place :=
  match addr / 2 ^ 40 with
  | 0 => if bitsOf addr 23 17 = 0 then some (.cm dtile (bitsOf addr 0 23)) else none
  | 1 => if bitsOf addr 28 12 = 0 ∧ bitsOf addr 0 28 < vaultSize then some (.vlt dtile (bitsOf addr 0 28)) else none
  | 2 =>
    if bitsOf addr 26 14 ≠ 0 then none
    else if bitOf addr 25 then some (.dreg (bitsOf addr 0 25))
    else if bitsOf addr 16 9 = 0 then some (.treg dtile (bitsOf addr 0 16)) else none
  | _ => some (.host (bitsOf addr 0 40))

/-- The DCHIP, DTILE and ADDR of a global address; a local address of another chip is decoded under the own map (R477). -/
def encGlobal (s : State) (own : Option Nat) (g : Nat) : Option (Nat × Nat × Nat) :=
  (encPlace (mapLocal s (if g / 2 ^ 47 = chipId s then own else none) (g % 2 ^ 47))).map
    (fun p => (g / 2 ^ 47, p.1, p.2))

/-- A BN packet as its NIU forms it; the epoch and the tag are stamped when it starts. -/
def mkBn (s : State) (t op tc rmode dchip dtile addr len : Nat) (data : List Byte) (psn : List Bool) : BnPkt :=
  { dchip := BitVec.ofNat 17 dchip, schip := BitVec.ofNat 17 (chipId s), far := 0, dtile := BitVec.ofNat 9 dtile,
    len := BitVec.ofNat 13 len, op := BitVec.ofNat 5 op, tc := BitVec.ofNat 2 tc, epoch := epochNow s,
    rmode := BitVec.ofNat 2 rmode, tag := 0, stile := BitVec.ofNat 9 t, addr := BitVec.ofNat 42 addr,
    data := data, psn := psn }

/-- The header word 0 of a BN packet (R175). -/
def bnWord0 (p : BnPkt) : Nat :=
  let mc := p.op.toNat = opMcWr ∨ p.op.toNat = opMcWrCb
  p.dchip.toNat * 2 ^ 47 + (if mc then p.far.toNat * 2 ^ 38 else p.schip.toNat * 2 ^ 30) + p.dtile.toNat * 2 ^ 21
    + p.len.toNat * 2 ^ 8 + p.op.toNat * 2 ^ 3 + p.tc.toNat * 2 + b2n p.epoch

/-- The header word 1 of a BN packet (R175). -/
def bnWord1 (p : BnPkt) : Nat :=
  p.rmode.toNat * 2 ^ 61 + p.tag.toNat * 2 ^ 51 + p.stile.toNat * 2 ^ 42 + p.addr.toNat

/-- The data flits of a packet (R171). -/
def bnFlits (p : BnPkt) : Nat := ceilDiv p.data.length 64

/-! ### Waiting in the NIU -/

/-- A packet joins the NIU of a tile (R186). -/
def niuPush (t : Nat) (r : NiuReq) : Act := fun s => [.putNiuq t (niuqAt s t ++ [r])]

/-- A response or acknowledgement (R174, R178, R408): formed in the tile, with the class of the packet that caused it. -/
def answerPkt (s : State) (t : Nat) (q : BnPkt) (st : Nat) (data : List Byte) (psn : List Bool) : BnPkt :=
  { dchip := q.schip, schip := BitVec.ofNat 17 (chipId s), far := 0, dtile := q.stile, len := BitVec.ofNat 13 data.length,
    op := BitVec.ofNat 5 (opAnswer q.op.toNat), tc := q.tc, epoch := epochNow s, rmode := q.rmode, tag := q.tag,
    stile := BitVec.ofNat 9 t, addr := BitVec.ofNat 42 st, data := data, psn := psn }

/-- For a multicast, the source chip is the device's own (R175). -/
def mcSource (s : State) (q : BnPkt) : BnPkt := { q with schip := BitVec.ofNat 17 (chipId s) }

/-- The NIU of a tile answers a packet. -/
def bnAnswer (t : Nat) (q : BnPkt) (st : Nat) (data : List Byte) (psn : List Bool) : Act := fun s =>
  let q' := if q.op.toNat = opMcWr ∨ q.op.toNat = opMcWrCb then mcSource s q else q
  niuPush t ⟨answerPkt s t q' st data psn, 47, .none⟩ s

/-! ### Reduction packets (R217)

A reduction packet keeps NCONTRIB in `tag`, CNTM1 in `far`, and the rest of its word 1 in `addr`: WFMT in bits 3:0, SEG in
13:4, GEN in 14, RID in 26:15, JW or TREE in 32:27 and ORD in 33. -/

def redWfmt (p : BnPkt) : Nat := bitsOf p.addr.toNat 0 4
def redSegNo (p : BnPkt) : Nat := bitsOf p.addr.toNat 4 10
def redGen (p : BnPkt) : Nat := bitsOf p.addr.toNat 14 1
def redRid (p : BnPkt) : Nat := bitsOf p.addr.toNat 15 12
def redJw (p : BnPkt) : Nat := bitsOf p.addr.toNat 27 6
def redOrd (p : BnPkt) : Bool := bitOf p.addr.toNat 33
def redNcontrib (p : BnPkt) : Nat := p.tag.toNat

/-- CNT: the elements of a partial. -/
def redCnt (p : BnPkt) : Nat := p.far.toNat + 1

/-- The `addr` of a reduction packet. -/
def redAddr (wfmt seg gen rid jw : Nat) (ord : Bool) : BitVec 42 :=
  BitVec.ofNat 42 (wfmt + seg * 2 ^ 4 + gen * 2 ^ 14 + rid * 2 ^ 15 + jw * 2 ^ 27 + b2n ord * 2 ^ 33)

/-- R217, R229: a RED_NAK from a tile to the STILE of a discarded partial. -/
def redNak (t : Nat) (p : BnPkt) (st : Nat) : Act := fun s =>
  niuPush t ⟨{ p with
    dtile := p.stile, stile := BitVec.ofNat 9 t, len := 0, op := BitVec.ofNat 5 opRedNak, epoch := epochNow s,
    far := BitVec.ofNat 9 st, addr := redAddr 0 (redSegNo p) (redGen p) (redRid p) 0 false, data := [], psn := [] },
    47, .none⟩ s

/-! ### Pieces (R187, R477) -/

/-- The length of the first piece of a transfer of `n` bytes at a global address: no piece crosses a 4 KiB boundary or a stripe
boundary, and a piece for another chip ends 2,032 B after its start at the latest. -/
def pieceLen (s : State) (g n : Nat) : Nat :=
  let a := g % 2 ^ 47
  let z := min n (4096 - a % 4096)
  let z := if striped s ∧ a < nTiles s * vaultSize then min z (stripeSize s - a % stripeSize s) else z
  if g / 2 ^ 47 = chipId s then z else min z 2032

/-- The pieces of a transfer: the offset from its start and the length of each; `k` bounds their number. -/
def piecesFrom (s : State) (g : Nat) : Nat → Nat → Nat → List (Nat × Nat)
  | 0, _, _ => []
  | k + 1, off, n =>
    if n = 0 then []
    else
      let z := pieceLen s (g + off) n
      (off, z) :: piecesFrom s g k (off + z) (n - z)

/-- The pieces of a transfer of `n` bytes at a global address. -/
def pieces (s : State) (g n : Nat) : List (Nat × Nat) := piecesFrom s g (n + 1) 0 n

/-! ### Tags (R188) -/

def tagKey (t g : Nat) : Nat := t * 1024 + g

/-- The state of a tag. -/
def tagOf (s : State) (t g : Nat) : TagSt := tagsAt s (tagKey t g)

/-- The lowest free tag of an NIU. -/
def freeTag (s : State) (t : Nat) : Option Nat := (List.range 1024).find? (fun g => tagOf s t g == .free)

/-- The tags of an NIU in use (NIU_OUTST). -/
def tagsInUse (s : State) (t : Nat) : Nat := (s.tags.filter (fun e => e.1 / 1024 = t)).length

/-! ### Shapers (R403, R404) -/

/-- The bucket entry in use for a start (R407): that of the active bank. -/
def niuBucket (s : State) (t tc : Nat) : W64 := regOf s (tk t .SHP_NIU_ACTIVE tc)

/-- R403: a class's bucket lets a packet start. -/
def shapeOk (s : State) (t tc : Nat) : Bool :=
  fget (niuBucket s t tc) f_SHP_NIU_ACTIVE_EN == 0 || 0 ≤ tokAt s (t * 4 + tc)

/-- R403: the charge of a start: 16 B and the payload, or the bytes an RD_REQ asks for. -/
def shapeCharge (p : BnPkt) : Nat := 16 + p.len.toNat

/-- R403, R404: a start is charged to its bucket where the bucket applies, and counted in SHP_BYTES. -/
def chargeA (t : Nat) (p : BnPkt) (waited : Nat) : Act := fun s =>
  let tc := p.tc.toNat
  .cnt (tk t .SHP_BYTES tc) f_SHP_BYTES_COUNT (shapeCharge p) ::
  .cnt (tk t .SHP_HELD_CNT tc) f_SHP_HELD_CNT_COUNT waited ::
  (if fget (niuBucket s t tc) f_SHP_NIU_ACTIVE_EN = 1 then
     [.putTok (t * 4 + tc) (tokAt s (t * 4 + tc) - 256 * (shapeCharge p : Int))] else [])

/-! ### Descriptors in flight -/

def queueKey (t q : Nat) : Nat := t * 22 + q

/-- A queue's engine side. -/
def queueOf (s : State) (t q : Nat) : QueueSt := queuesAt s (queueKey t q)

/-- The descriptor of a queue with this index that has been read and not retired. -/
def descOf (s : State) (t q idx : Nat) : Option Desc := (queueOf s t q).run.find? (fun d => d.idx == idx)

/-- A descriptor in flight takes a new record. -/
def putDesc (t q : Nat) (d : Desc) : Act := fun s =>
  let k := queueOf s t q
  [.putQueues (queueKey t q) { k with run := k.run.map (fun e => if e.idx = d.idx then d else e) }]

/-- A descriptor in flight is changed by a function of its record. -/
def modDesc (t q idx : Nat) (f : Desc → Desc) : Act := fun s =>
  match descOf s t q idx with
  | some d => putDesc t q (f d) s
  | none => []

/-- R138: a failing access of a descriptor: the lowest status, and the address of the first failing access. -/
def Desc.fail (d : Desc) (st addr : Nat) : Desc :=
  if st = stOK then d
  else { d with status := stMerge d.status st, failAddr := if d.status = stOK then addr else d.failAddr }

/-- R137: output of a descriptor was written poisoned. -/
def Desc.poisoned (d : Desc) (b : Bool) : Desc :=
  if b then { d with poison := true, status := stMerge d.status stPoisoned } else d

/-- One piece of a descriptor has ended, with its status, its bytes and the address it went to. -/
def pieceDone (t q idx st n addr : Nat) (psn : Bool) : Act :=
  modDesc t q idx (fun d =>
    let d := { d with pend := d.pend - 1 }
    if st = stOK ∨ st = stPoisoned then ({ d with count := d.count + n }).poisoned (psn || st == stPoisoned)
    else d.fail st addr)

end Sys2Proof.Machine
end

