-- ==== Sys2Proof/Machine/ArbBase.lean ====
section
/-!
DEFINITION. Sys2Proof/Machine/ArbBase.lean: how a shared point picks its next owner (R371 to R384) and what a grant records
(R391).
-/
namespace Sys2Proof.Machine

/-- The unit of an arbitration point: a tile, or 512 for the device points. -/
def arbKey (u p : Nat) : Nat := u * 128 + p

/-- A point's own state. -/
def arbOf (s : State) (u p : Nat) : ArbSt := arbAt s (arbKey u p)

/-- The registers of a point: configuration and requester settings of the active or shadow bank, and counters. -/
def arbCfgK (u p : Nat) (active : Bool) : RKey :=
  if u < 512 then (if active then tk u .ARB_CFG_ACTIVE p else tk u .ARB_CFG_SHADOW p)
  else (if active then dk .ARB_DEV_CFG_ACTIVE p else dk .ARB_DEV_CFG_SHADOW p)
def arbReqK (u p r : Nat) (active : Bool) : RKey :=
  if u < 512 then (if active then tk u .ARB_REQ_ACTIVE (p * 512 + r) else tk u .ARB_REQ_SHADOW (p * 512 + r))
  else (if active then dk .ARB_DEV_REQ_ACTIVE (p * 512 + r) else dk .ARB_DEV_REQ_SHADOW (p * 512 + r))
def arbGrantsK (u p r : Nat) : RKey :=
  if u < 512 then tk u .ARB_CNT_GRANTS (p * 512 + r) else dk .ARB_DEV_CNT_GRANTS (p * 512 + r)
def arbWaitK (u p r : Nat) : RKey :=
  if u < 512 then tk u .ARB_CNT_WAIT (p * 512 + r) else dk .ARB_DEV_CNT_WAIT (p * 512 + r)
def arbLongestK (u p r : Nat) : RKey :=
  if u < 512 then tk u .ARB_CNT_LONGEST (p * 512 + r) else dk .ARB_DEV_CNT_LONGEST (p * 512 + r)

/-- The configuration word of a point in the bank of an epoch: the active registers hold the bank of the epoch in force, the
shadow registers the other one (R407, R414). -/
def arbCfg (s : State) (u p : Nat) (ep : Bool) : W64 := regOf s (arbCfgK u p (ep == epochNow s))

/-- The WEIGHT and CLASS word of a requester in the bank of an epoch. -/
def arbReq (s : State) (u p r : Nat) (ep : Bool) : W64 := regOf s (arbReqK u p r (ep == epochNow s))

/-- R371: the router output points of a tile: BN 33 to 52 and CN 53 to 62. -/
def isRouterPoint (u p : Nat) : Bool := u < 512 && 33 ≤ p

/-- One requester that is present at a point: its index, its head packet's class and epoch, and its transfer in beats. -/
structure ArbReqst where
  idx   : Nat
  tc    : Nat
  ep    : Bool
  beats : Nat
deriving DecidableEq, Repr

/-- The bank that a requester's settings follow: its head packet's at a router output, the point's own elsewhere (R383). -/
def reqBank (s : State) (u p : Nat) (r : ArbReqst) : Bool := if isRouterPoint u p then r.ep else (epochNow s != (arbOf s u p).old)

/-- R375: the CRR class of a requester. -/
def arbClass (s : State) (u p : Nat) (r : ArbReqst) : Nat :=
  if isRouterPoint u p then
    bitsOf (arbCfg s u p (reqBank s u p r)).toNat (56 + 2 * r.tc) 2
  else bitsOf (arbReq s u p r.idx (reqBank s u p r)).toNat 16 2

/-- R374: a requester's WS counter; at the start of a window it is its WEIGHT, and a WEIGHT of 0 acts as 1. -/
def arbCredit (s : State) (u p : Nat) (r : ArbReqst) : Int :=
  match (arbOf s u p).ws.find? (fun e => e.1 == r.idx) with
  | some e => e.2
  | none => (max 1 (bitsOf (arbReq s u p r.idx (reqBank s u p r)).toNat 0 16) : Nat)

/-- A point-wide setting, from the point's own bank (R383). -/
def arbPointCfg (s : State) (u p : Nat) : Nat := (arbCfg s u p (epochNow s != (arbOf s u p).old)).toNat

/-- R375: the class quota of class 2 or 3 has been reached in this window. -/
def arbMasked (s : State) (u p c : Nat) : Bool :=
  let w := arbPointCfg s u p
  let k := arbOf s u p
  if c = 2 then bitsOf w 40 8 != 0 && bitsOf w 40 8 ≤ k.g2
  else if c = 3 then bitsOf w 48 8 != 0 && bitsOf w 48 8 ≤ k.g3
  else false

/-- R375: the rank of a class, 0 the highest: unmasked 3, unmasked 2, 1, 0, masked 3, masked 2. -/
def arbRank (s : State) (u p : Nat) (r : ArbReqst) : Nat :=
  match arbClass s u p r with
  | 3 => if arbMasked s u p 3 then 4 else 0
  | 2 => if arbMasked s u p 2 then 5 else 1
  | 1 => 2
  | _ => 3

/-- The requester of a list with the least key; the first of equals. -/
def leastBy (f : ArbReqst → Nat) : List ArbReqst → Option ArbReqst
  | [] => none
  | r :: rs =>
    match leastBy f rs with
    | none => some r
    | some q => if f q < f r then some q else some r

/-- R374: the requester with the largest counter; the lowest index of equals. -/
def wsBest (s : State) (u p : Nat) : List ArbReqst → Option ArbReqst
  | [] => none
  | r :: rs =>
    match wsBest s u p rs with
    | none => some r
    | some q =>
      if arbCredit s u p q > arbCredit s u p r ∨ (arbCredit s u p q = arbCredit s u p r ∧ q.idx < r.idx) then some q
      else some r

/-- R374, R375, R382: the winner among the requesters present. -/
def arbWinner (s : State) (u p : Nat) (rs : List ArbReqst) : Option ArbReqst :=
  let w := arbPointCfg s u p
  let k := arbOf s u p
  let held := if bitOf w 2 then rs.find? (fun r => k.owner == some r.idx) else none
  match held with
  | some r => some r
  | none =>
    if bitOf w 0 then
      match leastBy (arbRank s u p) rs with
      | none => none
      | some b =>
        let rk := arbRank s u p b
        let same := rs.filter (fun r => arbRank s u p r == rk)
        let last := (k.last.find? (fun e => e.1 == rk)).map (·.2)
        let dist := fun (r : ArbReqst) =>
          match last with
          | some l => if l < r.idx then r.idx - l else 1000 + r.idx
          | none => r.idx
        leastBy dist same
    else wsBest s u p rs

/-- An entry of an association list set. -/
def alSet {α : Type} (k : Nat) (v : α) (l : List (Nat × α)) : List (Nat × α) := (k, v) :: l.filter (fun e => e.1 ≠ k)

/-- R374, R375, R381, R391: a grant: the winner's counters and the point's own state; `waited` is the run of WAIT cycles that it
ends. -/
def arbGrant (u p : Nat) (r : ArbReqst) (waited : Nat) : Act := fun s =>
  let k := arbOf s u p
  let c := arbClass s u p r
  let lg := arbLongestK u p r.idx
  [.putArb (arbKey u p)
     { k with
       ws := alSet r.idx (arbCredit s u p r - (r.beats : Int)) k.ws,
       last := alSet (arbRank s u p r) r.idx k.last,
       g2 := k.g2 + (if c = 2 then 1 else 0),
       g3 := k.g3 + (if c = 3 then 1 else 0),
       owner := some r.idx, parked := true },
   .cnt (arbGrantsK u p r.idx) f_ARB_CNT_GRANTS_COUNT 1,
   .cnt (arbWaitK u p r.idx) f_ARB_CNT_WAIT_COUNT waited,
   .fld lg f_ARB_CNT_LONGEST_LONGEST (max (fld s lg f_ARB_CNT_LONGEST_LONGEST) (min waited (2 ^ 32 - 1)))]

/-- A BN router output point (R371 and the point numbers). -/
def bnPoint (plane out vc : Nat) : Nat := 33 + 10 * plane + 2 * out + vc

/-- A CN router output point. -/
def cnPoint (out vc : Nat) : Nat := 53 + 2 * out + vc

/-- R148, R391: a grant at a CM bank or vault port, by the requester index of R131. -/
def bankPoint (s : State) (p : Place) : Nat :=
  match p with
  | .cm _ off =>
    if dfld s .TILE_MEM_CFG f_TILE_MEM_CFG_CM_HASH = 1 then Nat.xor (bitsOf off 6 5) (bitsOf off 11 5) else bitsOf off 6 5
  | _ => 32

/-- The grants that the lines of a local access take at their banks or at the vault port (R131, R391). -/
def bankGrants (t : Nat) (p : Place) (n req : Nat) : Act := fun s =>
  match p with
  | .cm _ off =>
    (lineStarts off n).map (fun l =>
      .cnt (tk t .ARB_CNT_GRANTS (bankPoint s (.cm t l) * 512 + req)) f_ARB_CNT_GRANTS_COUNT 1)
  | .vlt _ off =>
    (lineStarts off n).map (fun _ => .cnt (tk t .ARB_CNT_GRANTS (32 * 512 + req)) f_ARB_CNT_GRANTS_COUNT 1)
  | _ => []

end Sys2Proof.Machine
end

