-- ==== Sys2Proof/Machine/Operands.lean ====
section
/-!
DEFINITION. Sys2Proof/Machine/Operands.lean: operand forms of the engines: format bytes (R105, R106), packed element arrays (R101,
R102, R119), MX arrays (R103, R104, R113, R118), own-tile offsets (R142), and the conversion of whole arrays with its flags
and poison (R107, R112, R117, R122).
-/
namespace Sys2Proof.Machine

/-! ### Format bytes and mode nibbles (R105, R106) -/

/-- CODE of a format byte. -/
def fmtCode (b : Nat) : Nat := b % 16

/-- MX of a format byte. -/
def fmtMx (b : Nat) : Bool := bitOf b 4

/-- R106: a format byte breaks its must-be-0 bits, or names MX with a code that does not take it. -/
def fmtBad (b : Nat) : Bool := decide (32 ≤ b) || (fmtMx b && !mxCode (fmtCode b))

/-- R106: a mode nibble breaks its must-be-0 bits. -/
def modeBad (m : Nat) : Bool := decide (4 ≤ m)

/-- A float code. -/
def isFloat (c : Nat) : Bool := (floatFmt c).isSome

/-! ### Packing (R101, R102, R119) -/

/-- The bits that one element takes in its container. -/
def contBits (code : Nat) : Nat :=
  match code with
  | 0x0 => 64
  | 0xE => 64
  | 0xF => 64
  | 0x1 => 32
  | 0x9 => 32
  | 0x2 => 16
  | 0x3 => 16
  | 0xA => 16
  | 0x6 => 6
  | 0x7 => 6
  | 0x8 => 4
  | 0xD => 4
  | _ => 8

/-- R102: the alignment of an array of a code. -/
def contAlign (code : Nat) : Nat := max 1 (contBits code / 8)

/-- The bytes of an array of `n` elements. -/
def arrayBytes (code n : Nat) : Nat :=
  if contBits code = 6 then 3 * ceilDiv n 4 else ceilDiv (n * contBits code) 8

/-- R142: the container that a row stride must be a multiple of. -/
def strideUnit (code : Nat) : Nat := if contBits code = 6 then 3 else contAlign code

/-- The bits of element i of a packed array; container bits outside the element are ignored (R119). -/
def rawElem (code : Nat) (bs : List Byte) (i : Nat) : Nat :=
  let b := contBits code * i
  bitsOf (leAt bs (b / 8) (contBits code / 8 + 2)) (b % 8) (elemBits code)

/-- The number that a packed array spells, element 0 lowest. -/
def packNat (cb : Nat) : List Nat → Nat
  | [] => 0
  | e :: es => e + 2 ^ cb * packNat cb es

/-- R101, R119: the bytes of an array of elements; unused positions are 0. -/
def packElems (code : Nat) (es : List Nat) : List Byte :=
  leBytes (arrayBytes code es.length) (packNat (contBits code) es)

/-- The first and last byte that element i touches. -/
def elemFirst (code i : Nat) : Nat := contBits code * i / 8
def elemLast (code i : Nat) : Nat := (contBits code * (i + 1) - 1) / 8

/-! ### Arrays -/

/-- An array as an engine reads it: its code and MX setting, its bytes and scale bytes, and the poison of each byte. -/
structure Arr where
  code : Nat
  mx   : Bool
  data : List Byte
  scl  : List Byte
  psn  : Nat → Bool
  spsn : Nat → Bool

/-- The bits of element i. -/
def Arr.raw (a : Arr) (i : Nat) : Nat := rawElem a.code a.data i

/-- The scale byte of element i. -/
def Arr.scaleOf (a : Arr) (i : Nat) : Nat := leAt a.scl (i / 32) 1

/-- R99, R104: the exact value of element i. -/
def Arr.val (a : Arr) (i : Nat) : Val :=
  if a.mx then mxValue a.code (a.scaleOf i) (a.raw i) else decodeElem a.code (a.raw i)

/-- Element i, or the scale it uses, was read poisoned. -/
def Arr.bad (a : Arr) (i : Nat) : Bool :=
  a.psn (elemFirst a.code i) || a.psn (elemLast a.code i) || (a.mx && a.spsn (i / 32))

/-- What an engine writes as an array: element bytes, scale bytes, flags, and the poison of each byte of both. -/
structure ArrOut where
  data  : List Byte
  scl   : List Byte
  flags : Nat
  psn   : Nat → Bool
  spsn  : Nat → Bool

/-- R107 to R114: values written as an array of a format, `bad i` saying that element i is to be poisoned. Elements of an MX block
that holds a poisoned element are poisoned, since they share its scale. -/
def encodeArr (code : Nat) (mx : Bool) (mode : Nat) (vs : List Val) (bad : Nat → Bool) : ArrOut :=
  let n := vs.length
  let own := fun (i : Nat) => decide (i < n) && bad i
  if mx then
    let blocks := (chunks 32 (n + 1) vs).map (mxBlock code (bitOf mode 0))
    let blockBad := fun (b : Nat) => (List.range 32).any (fun j => own (32 * b + j))
    { data := packElems code (blocks.flatMap (fun b => b.2.1)),
      scl := blocks.map (fun b => BitVec.ofNat 8 b.1),
      flags := blocks.foldl (fun a b => a ||| b.2.2) 0,
      psn := fun k => blockBad (8 * k / contBits code / 32) || blockBad ((8 * k + 7) / contBits code / 32),
      spsn := blockBad }
  else
    let rs := vs.map (convVal code mode)
    { data := packElems code (rs.map (·.1)), scl := [],
      flags := rs.foldl (fun a r => a ||| r.2) 0,
      psn := fun k => own (8 * k / contBits code) || own ((8 * k + 7) / contBits code),
      spsn := fun _ => false }

/-- R108, R117: an array converted to a format: bit for bit where code and MX setting are the same. -/
def convertArr (a : Arr) (n code : Nat) (mx : Bool) (mode : Nat) : ArrOut :=
  if a.code = code ∧ a.mx = mx then
    { data := packElems code ((List.range n).map a.raw), scl := if mx then a.scl.take (ceilDiv n 32) else [], flags := 0,
      psn := fun k => a.psn k || (mx && a.spsn (8 * k / contBits code / 32)), spsn := a.spsn }
  else encodeArr code mx mode ((List.range n).map a.val) a.bad

/-! ### Overlapping ranges (R161) -/

/-- A byte distance lies in one of several ranges of own-tile offsets, measured from `off`. -/
def inRanges (rs : List (Nat × Nat)) (off k : Nat) : Bool := rs.any (fun r => decide (r.1 ≤ off + k) && decide (off + k < r.1 + r.2))

/-- R161: source bytes of which some lie where the descriptor writes: such a byte reads as it stood before, or as one that the
descriptor has written, which timing decides; the free draws from `n` on decide it. -/
def mixBytes (n : Nat) (ov : Nat → Bool) (bs : List Byte) : List Byte :=
  bs.zipIdx.map (fun p =>
    if ov p.2 && Config.freeBit (n + p.2) then BitVec.ofNat 8 (Config.freeWord (n + p.2)).toNat else p.1)

/-! ### Own-tile ranges (R142) -/

/-- A read of `n` bytes at an own-tile offset of 32 bits. -/
def ownRead (s : State) (t off n : Nat) (fs : Finds) : RdOut :=
  match ownPlace t off with
  | some p => memRead s p n fs
  | none => ⟨stAddr, [], false, []⟩

/-- The poison that a read of an own-tile range gives at a distance of `k` bytes. -/
def ownPsn (s : State) (t off : Nat) (fs : Finds) (k : Nat) : Bool :=
  match ownPlace t off with
  | some p => psnAt s p fs k
  | none => false

/-- The global address of an own-tile offset, for FAIL_ADDR. -/
def ownGlobal (s : State) (t off : Nat) : Nat :=
  match ownPlace t off with
  | some (.cm _ o) => cmGlobal s t o
  | some (.vlt _ o) => vltGlobal s t o
  | _ => 0

/-- What a read of an own-tile range does at its memory and at the arbitration points: `req` is its requester index (R131). -/
def ownTouch (t off n req : Nat) (fs : Finds) : Act := fun s =>
  match ownPlace t off with
  | some p => seqA [fun s => (memRead s p n fs).eff, bankGrants t p n req] s
  | none => []

/-- An array at an own-tile offset. -/
def ownArr (s : State) (t off soff code : Nat) (mx : Bool) (n : Nat) (fs : Finds) : Arr :=
  { code := code, mx := mx, data := (ownRead s t off (arrayBytes code n) fs).bytes,
    scl := if mx then (ownRead s t soff (ceilDiv n 32) fs).bytes else [],
    psn := ownPsn s t off fs, spsn := ownPsn s t soff fs }

/-- An array at an own-tile offset that a descriptor writing the ranges `ws` reads (R161); the same array as one of them is no
overlap. -/
def ownArrMix (s : State) (t off soff code : Nat) (mx : Bool) (n : Nat) (fs : Finds) (ws : List (Nat × Nat)) (free : Nat) : Arr :=
  let a := ownArr s t off soff code mx n fs
  let ws := ws.filter (fun w => w ≠ (off, a.data.length))
  { a with data := mixBytes free (inRanges ws off) a.data, scl := mixBytes (free + a.data.length) (inRanges ws soff) a.scl }

/-- The status that a read of an own-tile range meets (R84, R88). -/
def ownStatus (s : State) (t off n : Nat) : Nat := if n = 0 then stOK else (ownRead s t off n []).st

/-- A write of bytes at an own-tile offset. -/
def ownWrite (t off : Nat) (bs : List Byte) (psn : Nat → Bool) (req : Nat) (fs : Finds) : Act := fun s =>
  match ownPlace t off with
  | some p =>
    if memStatus s p = stOK then seqA [memStore p bs psn fs none, bankGrants t p bs.length req] s else []
  | none => []

/-- R66, R142: the post-time status of an own-tile range. -/
def ownPost (t off n : Nat) : Nat := if (ownPlace t off).isNone ∨ ¬ ownRangeOk t off n then stAddr else stOK

end Sys2Proof.Machine
end

