-- ==== Sys2Proof/Machine/Codec.lean ====
section
/-!
DEFINITION. Sys2Proof/Machine/Codec.lean: the codeblock (R249 to R257, R263): CRC-32C, units, mode bodies, canonical codes, table
images, the building of a table (R268), the encoder and the decoder.
-/
namespace Sys2Proof.Machine

/-! ### CRC-32C (R250) -/

/-- One bit of the reflected Castagnoli division, `k` times. -/
def crcBits : Nat → Nat → Nat
  | 0, c => c
  | k + 1, c => crcBits k (if c % 2 = 1 then Nat.xor (c / 2) 0x82F63B78 else c / 2)

/-- The register after bytes in ascending order. -/
def crcRun (c : Nat) : List Byte → Nat
  | [] => c
  | b :: bs => forceNat (crcBits 8 (Nat.xor c b.toNat)) (fun c => crcRun c bs)

/-- R250: CRC-32C of bytes. -/
def crc32c (bs : List Byte) : Nat := Nat.xor (crcRun 0xFFFFFFFF bs) 0xFFFFFFFF

/-! ### Bit strings -/

/-- The bits of bytes, bit 0 of the first byte first. -/
def bytesBits (bs : List Byte) : List Bool := bs.flatMap (fun b => (List.range 8).map (fun i => b.getLsbD i))

/-- Bits packed into bytes that fill from bit 0 upward, padded with 0. -/
def bitsBytes (l : List Bool) : List Byte :=
  (chunks 8 (l.length + 1) l).map (fun c => BitVec.ofNat 8 (c.foldr (fun b a => b2n b + 2 * a) 0))

/-- The low `n` bits of a number, most significant first. -/
def msbBits (n x : Nat) : List Bool := (List.range n).map (fun i => bitOf x (n - 1 - i))

/-! ### Tables (R256, R257) -/

/-- A table: its ID, UNIT, Q_CODE, Q_K, NPLANES, CHECKSUM, and the code lengths of each plane. -/
structure Tbl where
  id   : Nat
  unit : Nat
  qc   : Nat
  qk   : Nat
  np   : Nat
  sum  : Nat
  lens : List (List Nat)
deriving DecidableEq, Repr

/-- R258: the built-in table 0. -/
def tbl0 : Tbl := ⟨0, 2, 0, 0, 0, 0, []⟩

/-- The 256 code lengths of a plane of an image. -/
def planeLens (img : List Byte) (p : Nat) : List Nat :=
  (sliceZ img (16 + 128 * p) 128).flatMap (fun b => [b.toNat % 16, b.toNat / 16])

/-- R256: the table that an image spells. -/
def tblOf (img : List Byte) : Tbl :=
  ⟨leAt img 0 2, leAt img 2 1, leAt img 3 1, leAt img 4 1, leAt img 5 1, leAt img 8 4,
    (List.range (leAt img 5 1)).map (planeLens img)⟩

/-- The container bytes and the fraction bits m of a Q_CODE. -/
def qUnit (qc : Nat) : Nat := if qc = 0 then 8 else if qc = 1 then 4 else 2
def qM (qc : Nat) : Nat := if qc = 0 then 52 else if qc = 1 then 23 else if qc = 2 then 10 else 7

/-- R257: a plane's lengths form a code: the sum of 2^-length is at most 1. -/
def planeValid (lens : List Nat) : Bool :=
  decide ((lens.foldl (fun a l => if l = 0 then a else a + 2 ^ (15 - l)) 0) ≤ 2 ^ 15)

/-- R267: the checks on the fields of an image, its checksum apart. -/
def tblFieldsOk (t : Tbl) : Bool :=
  (t.unit == 1 || t.unit == 2 || t.unit == 4 || t.unit == 8) && (t.np == 0 || t.np == t.unit) && decide (t.qc ≤ 3)
    && decide (t.qk + 1 ≤ qM t.qc) && t.lens.all planeValid

/-- R256: CHECKSUM of an image. -/
def imgSum (img : List Byte) : Nat := crc32c (img.take 8 ++ [0, 0, 0, 0] ++ img.drop 12)

/-- The bytes of an image with `np` planes. -/
def imgLen (np : Nat) : Nat := 16 + 128 * np

/-- R259: a mode may use a table. -/
def modeServed (t : Tbl) (mode : Nat) : Bool :=
  match mode with
  | 2 => t.np != 0
  | 3 => t.np != 0
  | 4 => t.qk != 0
  | _ => true

/-! ### Canonical codes (R257) -/

/-- The number of symbols of a length. -/
def lenCount (lens : List Nat) (l : Nat) : Nat := if l = 0 then 0 else lens.countP (· == l)

/-- The first code of a length. -/
def firstCode (lens : List Nat) : Nat → Nat
  | 0 => 0
  | l + 1 => 2 * (firstCode lens l + lenCount lens l)

/-- The code of a symbol. -/
def symCode (lens : List Nat) (sym : Nat) : Nat :=
  let l := (lens.drop sym).headD 0
  firstCode lens l + (lens.take sym).countP (· == l)

/-- The code length of a symbol; 0: it has no code. -/
def symLen (lens : List Nat) (sym : Nat) : Nat := (lens.drop sym).headD 0

/-- A byte's code bits, most significant first. -/
def symBits (lens : List Nat) (b : Byte) : List Bool := msbBits (symLen lens b.toNat) (symCode lens b.toNat)

/-- The symbol whose code of `l` bits is `c`. -/
def symFind (lens : List Nat) (l c : Nat) : Option Nat :=
  (List.range 256).find? (fun y => symLen lens y == l && symCode lens y == c)

/-- One symbol read from bits: `c` is what has been read, `l` bits of it. -/
def readSym (lens : List Nat) : Nat → Nat → Nat → List Bool → Option (Nat × List Bool)
  | 0, _, _, _ => none
  | _, _, _, [] => none
  | k + 1, l, c, b :: bs =>
    let c' := 2 * c + b2n b
    match symFind lens (l + 1) c' with
    | some y => some (y, bs)
    | none => readSym lens k (l + 1) c' bs

/-- `n` symbols read from bits. -/
def readSyms (lens : List Nat) : Nat → List Bool → Option (List Byte × List Bool)
  | 0, bs => some ([], bs)
  | n + 1, bs =>
    match readSym lens 15 0 0 bs with
    | none => none
    | some (y, r) => (readSyms lens n r).map (fun q => (BitVec.ofNat 8 y :: q.1, q.2))

/-! ### Bodies (R252, R253) -/

/-- R252: the units of a block. -/
def unitsOf (u : Nat) (bs : List Byte) : List (List Byte) := chunks u (bs.length + 1) bs

/-- A unit that is not zero. -/
def unitNz (x : List Byte) : Bool := x.any (· ≠ 0)

/-- R253: the bitmap of a Z or ZE body. -/
def zMap (us : List (List Byte)) : List Byte := bitsBytes (us.map unitNz)

/-- Plane p of units: byte p of every unit that holds one. -/
def planeOf (p : Nat) (us : List (List Byte)) : List Byte := us.filterMap (fun x => x[p]?)

/-- R253: one plane's stream and whether it is RAW. -/
def planeStream (lens : List Nat) (bs : List Byte) : List Byte × Bool :=
  let coded := bitsBytes (bs.flatMap (symBits lens))
  if bs.any (fun b => symLen lens b.toNat == 0) || decide (bs.length ≤ coded.length) then (bs, true) else (coded, false)

/-- R253: an E body over units: directory, streams, and the number of planes made RAW. -/
def eBody (t : Tbl) (us : List (List Byte)) : List Byte × Nat :=
  let ps := (List.range t.unit).map (fun p => planeStream ((t.lens.drop p).headD []) (planeOf p us))
  (ps.flatMap (fun s => leBytes 2 (s.1.length + if s.2 then 0x8000 else 0)) ++ ps.flatMap (·.1), ps.countP (·.2))

/-- R254: one element rounded to m − K fraction bits: its bits, and the flags of R255. -/
def qElem (qc k x : Nat) : Nat × Nat :=
  let w := 8 * qUnit qc
  let m := qM qc
  let sg := x / 2 ^ (w - 1) % 2 * 2 ^ (w - 1)
  let mag := x % 2 ^ (w - 1)
  let top := 2 ^ (w - 1) - 2 ^ m
  if mag = top then (x, 0)
  else if top < mag then (top + 2 ^ (m - 1), 0)
  else
    let n := mag / 2 ^ k
    let r := mag % 2 ^ k
    let up := decide (2 ^ k < 2 * r) || (2 * r == 2 ^ k && n % 2 == 1)
    let z := (n + b2n up) * 2 ^ k
    if top ≤ z then (sg + top - 2 ^ k, flOF + flNX)
    else (sg + z, if r = 0 then 0 else flNX + (if z < 2 ^ m then flUF else 0))

/-- R254: the elements of a block after rounding, and their flags. -/
def qRound (t : Tbl) (bs : List Byte) : List Nat × Nat :=
  let c := qUnit t.qc
  let rs := (chunks c (bs.length + 1) bs).map (fun e => qElem t.qc t.qk (leNat e))
  (rs.map (·.1), rs.foldl (fun a r => a ||| r.2) 0)

/-- R254: a Q body. -/
def qBody (t : Tbl) (es : List Nat) : List Byte :=
  let w := 8 * qUnit t.qc - t.qk
  leBytes (ceilDiv (es.length * w) 8) (packNat w (es.map (· / 2 ^ t.qk)))

/-! ### The encoder (R249 to R251) -/

/-- A block as the encoder forms it: its bytes, MODE, the bytes it decodes to, flags, and planes made RAW. -/
structure Enc where
  block : List Byte
  mode  : Nat
  out   : List Byte
  flags : Nat
  raw   : Nat

/-- R249: a header and its body. -/
def mkBlock (mode id sum : Nat) (out body : List Byte) : List Byte :=
  let clen := 16 + body.length
  leBytes 8 (sum * 2 ^ 32 + id * 2 ^ 16 + mode * 2 ^ 12 + (out.length - 1))
    ++ leBytes 8 (crc32c out * 2 ^ 32 + 2 ^ 28 + clen) ++ body

/-- R251: the stored form of a block. -/
def storedBlock (bs : List Byte) : List Byte := mkBlock 0 0 0 bs bs

/-- R251, R253, R254: bytes encoded in a mode under a table. -/
def encodeBlock (t : Tbl) (mode : Nat) (bs : List Byte) : Enc :=
  let us := unitsOf t.unit bs
  let nz := us.filter unitNz
  let e := eBody t us
  let ze := eBody t nz
  let q := qRound t bs
  let qOut := q.1.flatMap (leBytes (qUnit t.qc))
  let r : List Byte × List Byte × Nat × Nat :=
    match mode with
    | 1 => (zMap us ++ nz.flatten, bs, 0, 0)
    | 2 => (e.1, bs, 0, e.2)
    | 3 => (zMap us ++ ze.1, bs, 0, ze.2)
    | _ => (qBody t q.1, qOut, q.2, 0)
  if bs.length ≤ r.1.length then ⟨storedBlock bs, 0, bs, 0, 0⟩
  else ⟨mkBlock mode t.id t.sum r.2.1 r.1, mode, r.2.1, r.2.2.1, r.2.2.2⟩

/-! ### The decoder (R263) -/

/-- The header fields of a block. -/
structure Hdr where
  ulen  : Nat
  mode  : Nat
  mbz   : Bool
  id    : Nat
  tcrc  : Nat
  clen  : Nat
  ver   : Nat
  dcrc  : Nat
deriving DecidableEq, Repr

/-- R249: a header read. -/
def hdrOf (bs : List Byte) : Hdr :=
  let a := leAt bs 0 8
  let b := leAt bs 8 8
  ⟨bitsOf a 0 12 + 1, bitsOf a 12 3, bitOf a 15 || bitsOf b 13 15 != 0, bitsOf a 16 16, bitsOf a 32 32,
    bitsOf b 0 13, bitsOf b 28 4, bitsOf b 32 32⟩

/-- R263 check 1, the part that does not depend on the wire. -/
def hdrOk (h : Hdr) : Bool :=
  h.ver == 1 && !h.mbz && decide (h.mode ≤ 4) && decide (17 ≤ h.clen) && decide (h.clen ≤ 4112)
    && (h.mode != 0 || h.clen == 16 + h.ulen)

/-- The first `n` bits as Booleans of a bitmap whose pad bits must be 0; none where it is short or a pad bit is 1. -/
def readMap (n : Nat) (bs : List Byte) : Option (List Bool) :=
  let l := bytesBits bs
  if bs.length = ceilDiv n 8 ∧ (l.drop n).all (!·) then some (l.take n) else none

/-- One plane read back: `n` bytes from a stream. -/
def readPlane (lens : List Nat) (raw : Bool) (n : Nat) (bs : List Byte) : Option (List Byte) :=
  if raw then (if bs.length = n then some bs else none)
  else match readSyms lens n (bytesBits bs) with
    | some (o, r) => if r.length < 8 ∧ r.all (!·) then some o else none
    | none => none

/-- Planes read back in order: their directory entries, streams and byte counts. -/
def readPlanes (t : Tbl) : List (Nat × Nat × Nat) → List Byte → Option (List (List Byte))
  | [], bs => if bs = [] then some [] else none
  | (p, ent, n) :: ps, bs =>
    let len := bitsOf ent 0 13
    if bitsOf ent 13 2 ≠ 0 ∨ bs.length < len then none
    else
      match readPlane ((t.lens.drop p).headD []) (bitOf ent 15) n (bs.take len), readPlanes t ps (bs.drop len) with
      | some o, some r => some (o :: r)
      | _, _ => none

/-- An E body read back: `sizes` gives the bytes of each unit. -/
def readE (t : Tbl) (sizes : List Nat) (bs : List Byte) : Option (List (List Byte)) :=
  if bs.length < 2 * t.unit then none
  else
    let ents := (List.range t.unit).map (fun p => (p, leAt bs (2 * p) 2, sizes.countP (p < ·)))
    (readPlanes t ents (bs.drop (2 * t.unit))).map (fun planes =>
      sizes.zipIdx.map (fun z =>
        (List.range z.1).map (fun p => (((planes.drop p).headD []).drop ((sizes.take z.2).countP (p < ·))).headD 0)))

/-- Units put back in their places: zero units where the bitmap has 0. -/
def fillUnits : List (Bool × Nat) → List (List Byte) → Option (List Byte)
  | [], us => if us = [] then some [] else none
  | (false, n) :: m, us => (fillUnits m us).map (fun r => List.replicate n 0 ++ r)
  | (true, _) :: _, [] => none
  | (true, _) :: m, u :: us => (fillUnits m us).map (fun r => u ++ r)

/-- Bytes cut into pieces of given sizes; none where they do not fit exactly. -/
def cutSizes : List Nat → List Byte → Option (List (List Byte))
  | [], bs => if bs = [] then some [] else none
  | n :: ns, bs => if bs.length < n then none else (cutSizes ns (bs.drop n)).map (fun r => bs.take n :: r)

/-- R263 check 3: a body decoded under a table; none where it does not yield exactly ULEN bytes. -/
def decodeBody (t : Tbl) (mode ulen : Nat) (body : List Byte) : Option (List Byte) :=
  let nu := ceilDiv ulen t.unit
  let sizes := (List.range nu).map (fun i => min t.unit (ulen - i * t.unit))
  let mapLen := ceilDiv nu 8
  match mode with
  | 0 => if body.length = ulen then some body else none
  | 2 => (readE t sizes body).map List.flatten
  | 4 =>
    let c := qUnit t.qc
    let w := 8 * c - t.qk
    let n := ulen / c
    if ulen % c ≠ 0 ∨ body.length ≠ ceilDiv (n * w) 8 ∨ 2 ^ (n * w) ≤ leNat body then none
    else some ((List.range n).flatMap (fun j => leBytes c (bitsOf (leNat body) (w * j) w * 2 ^ t.qk)))
  | m =>
    match readMap nu (body.take mapLen) with
    | none => none
    | some mp =>
      let nz := ((mp.zip sizes).filter (·.1)).map (·.2)
      let us := if m = 1 then cutSizes nz (body.drop mapLen) else readE t nz (body.drop mapLen)
      match us with
      | none => none
      | some us => fillUnits (mp.zip sizes) us

/-- What decoding a block gives: the reason of the first check that fails (1 header, 2 table, 3 decode, 4 data), or its bytes. -/
inductive Dec where
  | bad (reason : Nat)
  | ok (out : List Byte)
deriving DecidableEq, Repr

/-- R258: the table that a block matches among those of a store. -/
def findTbl (store : List Tbl) (id sum : Nat) : Option Tbl :=
  if id = 0 then (if sum = 0 then some tbl0 else none) else store.find? (fun t => t.id == id && t.sum == sum)

/-- R263: the checks in order; `wire` gives LEN and ADDR of a block that arrives as a packet. -/
def decodeBlock (store : List Tbl) (wire : Option (Nat × Nat)) (bs : List Byte) : Dec :=
  let h := hdrOf bs
  let wireOk := match wire with
    | some (len, addr) => h.mode != 0 && h.clen == len && decide (addr % 4096 + h.ulen ≤ 4096)
    | none => true
  if !hdrOk h || !wireOk then .bad 1
  else
    let body := (bs.drop 16).take (h.clen - 16)
    let finish : Option (List Byte) → Dec := fun r =>
      match r with
      | none => .bad 3
      | some out => if out.length ≠ h.ulen then .bad 3 else if crc32c out = h.dcrc then .ok out else .bad 4
    if h.mode = 0 then finish (if body.length = h.ulen then some body else none)
    else match findTbl store h.id h.tcrc with
      | none => .bad 2
      | some t =>
        if !modeServed t h.mode || (h.mode == 4 && t.unit != qUnit t.qc) then .bad 2
        else if body.length ≠ h.clen - 16 then .bad 3
        else finish (decodeBody t h.mode h.ulen body)

/-! ### Building a table (R268) -/

/-- Counts of the symbols of a plane over the units of a sample. -/
def planeCounts (us : List (List Byte)) (p : Nat) (all : Bool) : List Nat :=
  let bs := planeOf p us
  (List.range 256).map (fun y => bs.countP (fun b => b.toNat == y) + b2n all)

/-- An item of package-merge: its weight and the symbols it holds. -/
abbrev PmItem := Nat × List Nat

/-- Two sorted lists merged; on equal weights symbols and packages keep the order that `Config.pmLeafFirst` names. -/
def pmMerge : Nat → List PmItem → List PmItem → List PmItem
  | 0, _, _ => []
  | _ + 1, [], ps => ps
  | _ + 1, ls, [] => ls
  | k + 1, l :: ls, p :: ps =>
    if l.1 < p.1 ∨ (l.1 = p.1 ∧ Config.pmLeafFirst) then l :: pmMerge k ls (p :: ps) else p :: pmMerge k (l :: ls) ps

/-- Packages of neighbouring items. -/
def pmPairs : List PmItem → List PmItem
  | a :: b :: l => (a.1 + b.1, a.2 ++ b.2) :: pmPairs l
  | _ => []

/-- The items of the last of `k` levels. -/
def pmLevels (leaves : List PmItem) : Nat → List PmItem
  | 0 => []
  | k + 1 => let p := pmPairs (pmLevels leaves k); pmMerge (leaves.length + p.length + 1) leaves p

/-- A leaf put into its place: by count, then by symbol. -/
def pmInsert (x : PmItem) : List PmItem → List PmItem
  | [] => [x]
  | y :: l => if x.1 < y.1 then x :: y :: l else y :: pmInsert x l

/-- R268: the code lengths of a plane: package-merge limited to 15 bits. -/
def buildLens (counts : List Nat) : List Nat :=
  let leaves := counts.zipIdx.foldl (fun a c => if c.1 = 0 then a else pmInsert (c.1, [c.2]) a) []
  match leaves with
  | [] => counts.map (fun _ => 0)
  | [l] => counts.zipIdx.map (fun c => if l.2 = [c.2] then 1 else 0)
  | _ =>
    let used := ((pmLevels leaves 15).take (2 * leaves.length - 2)).flatMap (·.2)
    counts.zipIdx.map (fun c => used.countP (· == c.2))

/-- Pairs of lengths as bytes of an image. -/
def lensBytes (lens : List Nat) : List Byte :=
  (chunks 2 (lens.length + 1) lens).map (fun p => BitVec.ofNat 8 (p.headD 0 + 16 * (p.drop 1).headD 0))

/-- R268: the image built from a sample. -/
def buildImage (sample : List Byte) (id unit qc qk : Nat) (ze allSyms planes : Bool) : List Byte :=
  let us := (chunks 4096 (sample.length + 1) sample).flatMap (unitsOf unit)
  let us := if ze then us.filter unitNz else us
  let np := if planes then unit else 0
  let body := (List.range np).flatMap (fun p => lensBytes (buildLens (planeCounts us p allSyms)))
  let img := leBytes 2 id ++ leBytes 1 unit ++ leBytes 1 qc ++ leBytes 1 qk ++ leBytes 1 np ++ leBytes 10 0 ++ body
  img.take 8 ++ leBytes 4 (imgSum img) ++ img.drop 12

end Sys2Proof.Machine
end

