-- ==== Sys2Proof/Machine/Cn.lean ====
section
/-!
DEFINITION. Sys2Proof/Machine/Cn.lean: the control network between its NIUs and the hub: forming answers, starting, routing, buffers,
link errors and bad packets (R309 to R316, R320, R336, R337), and the answers of a router for its tile (R44).
-/
namespace Sys2Proof.Machine

/-! ### Packets -/

/-- The node number of the hub. -/
def hub : Nat := 512

/-- R312: the VC of an operation: 0 REQ, 1 RSP; none for one that is never injected. -/
def cnVc (op : Nat) : Option Nat := if op ≤ 4 then some 0 else if 8 ≤ op ∧ op ≤ 0xB then some 1 else none

/-- The flits of a packet (R310): a header and its payload. -/
def cnFlits (p : CnPkt) : Nat := 1 + ceilDiv p.data.length 8

/-- A field of the operation fields. -/
def cnFld (p : CnPkt) (lo len : Nat) : Nat := bitsOf p.flds.toNat lo len

/-- The node a packet came from and the node it goes to. -/
def cnSrc (p : CnPkt) : Nat := if p.shub then hub else p.stile.toNat
def cnDst (p : CnPkt) : Nat := if p.dhub then hub else p.dtile.toNat

/-- A packet from a node to a node. -/
def mkCn (src dst op tc len flds : Nat) (data : List Byte) : CnPkt :=
  { dtile := if dst = hub then 0 else BitVec.ofNat 9 dst, stile := if src = hub then 0 else BitVec.ofNat 9 src,
    op := BitVec.ofNat 4 op, tc := BitVec.ofNat 2 tc, epoch := false, len := BitVec.ofNat 7 len,
    dhub := dst == hub, shub := src == hub, flds := BitVec.ofNat 30 flds, data := data, psn := false, rcd := 0 }

/-- R313: an answer from a node to the source of a packet, in its class. -/
def cnAnswer (node : Nat) (q : CnPkt) (op flds : Nat) (data : List Byte) : Act :=
  cnSend node (mkCn node (cnSrc q) op q.tc.toNat data.length flds data)

/-- R312: RRSP (or RWACK) with a status. -/
def rrsp (node : Nat) (q : CnPkt) (st : Nat) (data : List Byte) : Act :=
  cnAnswer node q (if q.op = 0 then 8 else 9) (cnFld q 25 5 * 2 ^ 25 + st) (if st = stOK ∨ st = stPoisoned then data else [])

/-- R312: a CRED to the sender of a message. -/
def cred (node : Nat) (q : CnPkt) (cstat : Nat) : Act :=
  cnAnswer node q 0xA (q.rcd.toNat * 2 ^ 24 + 2 ^ 16 + cstat * 2 ^ 13) []

/-- R312: an OPEN_RSP (1) or CLOSE_RSP (2) to a send record. -/
def ctlRsp (node : Nat) (q : CnPkt) (cmd dlvl win result credits : Nat) : Act :=
  cnAnswer node q 0xB (cmd * 2 ^ 27 + dlvl * 2 ^ 24 + cnFld q 18 6 * 2 ^ 18 + win * 2 ^ 14 + result * 2 ^ 11 + credits * 2 ^ 3) []

/-- R44, R323, R327: what the router of a down tile answers. -/
def cnDownAnswer (t : Nat) (q : CnPkt) : Act :=
  match q.op.toNat with
  | 0 => rrsp t q stDown []
  | 1 => rrsp t q stDown []
  | 2 => cred t q 2
  | 3 => if cnFld q 27 3 = 1 then ctlRsp t q 1 0 0 4 0 else if cnFld q 27 3 = 2 then ctlRsp t q 2 0 0 4 0 else noA
  | _ => noA

/-! ### Bad packets (R337) -/

/-- R312, R337: a packet whose OP is never injected, or that sets a must-be-0 field. -/
def cnBad (p : CnPkt) : Bool :=
  match p.op.toNat with
  | 0 => (!p.dhub && cnFld p 16 9 != 0) || !(p.len == 4 || p.len == 8)
  | 1 => (!p.dhub && cnFld p 16 9 != 0) || !(p.len == 4 || p.len == 8)
  | 2 => decide (64 < p.len.toNat)
  | 3 => cnFld p 0 12 != 0 || !(cnFld p 27 3 == 1 || cnFld p 27 3 == 2) || p.len != 0
  | 4 => cnFld p 8 22 != 0 || p.len != 0
  | 8 => cnFld p 8 17 != 0
  | 9 => cnFld p 8 17 != 0
  | 0xA => cnFld p 0 13 != 0
  | 0xB => cnFld p 0 3 != 0 || !(cnFld p 27 3 == 1 || cnFld p 27 3 == 2 || cnFld p 27 3 == 4)
  | _ => true

/-- The tile whose CN block counts for a node: the hub's is that of tile (0,8), whose router serves it. -/
def cnBlock (node : Nat) : Nat := if node = hub then 8 else node

/-- R337: a bad packet is discarded and counted; a register request is answered ADDR_ERR. -/
def cnBadOp (node : Nat) (p : CnPkt) : Act :=
  let t := cnBlock node
  seqA [
    effA [.cnt (tk t .CN_BAD_OP_CNT) f_CN_BAD_OP_CNT_COUNT 1, setBit (tk t .CN_TILE_STAT) f_CN_TILE_STAT_BAD_OP],
    raiseErr 0x0207 2 1 t (cnHeader p),
    whenA (decide (p.op.toNat ≤ 1)) (rrsp node p stAddr [])]

/-- A packet has been ejected at a node: it leaves the fabric and its own operation is performed, or R337 discards it. -/
def cnTake (node : Nat) (p : CnPkt) (op : Nat) (a : Act) : Act := fun s =>
  let gone := match s.cn.find? (fun f => f.at_ == node && f.ej && f.pkt == p) with
    | some f => [Eff.setCn (s.cn.erase f)]
    | none => []
  if cnBad p then seqA [effA gone, cnBadOp node p] s
  else if p.op.toNat ≠ op then []
  else seqA [effA gone, a] s

/-! ### Routing (R315) -/

/-- R315: the output of a packet at a router: REQ routes XY, RSP routes YX; for the hub, to (0,8) and out by W. -/
def cnOut (t : Nat) (p : CnPkt) (vc : Nat) : Nat :=
  let d := if p.dhub then 8 else p.dtile.toNat
  if t = d then (if p.dhub then 3 else 4)
  else
    let h := if tileX d < tileX t then 3 else 1
    let v := if tileY d < tileY t then 0 else 2
    if vc = 1 then (if tileY t ≠ tileY d then v else h) else (if tileX t ≠ tileX d then h else v)

/-- The node beyond an output, and the input of it that the packet enters. -/
def cnNext (s : State) (t o : Nat) : Option (Nat × Nat) :=
  let x := tileX t
  let y := tileY t
  match o with
  | 0 => if 0 < y then some (tileAt x (y - 1), 2) else none
  | 1 => if x + 1 < gridW s then some (tileAt (x + 1) y, 3) else none
  | 2 => if y < 15 then some (tileAt x (y + 1), 0) else none
  | 3 => if t = 8 then some (hub, 4) else if 0 < x then some (tileAt (x - 1) y, 1) else none
  | _ => none

/-- R310: the flits that an input of a router holds on a VC. -/
def cnHeld (s : State) (t inp vc : Nat) : Nat :=
  (s.cn.filter (fun f => f.at_ == t && f.inp == inp && !f.ej && cnVc f.pkt.op.toNat == some vc)).foldl
    (fun a f => a + cnFlits f.pkt) 0

/-- R310, R336: an output may take a packet: a flit of room downstream; the hub and the NIU take what arrives. -/
def cnReady (s : State) (t o vc : Nat) : Bool :=
  if o = 4 then true
  else match cnNext s t o with
    | some (n, i) => n == hub || decide (cnHeld s n i vc < 24)
    | none => false

/-- R313: the source that a waiting packet comes from: a core's register access by its REQ, the AMQ, or the errors of the tile. -/
def cnSource (p : CnPkt) : Nat := p.op.toNat * 32 + (if p.op.toNat ≤ 1 then cnFld p 25 5 else 0)

/-- R56, R313, R416: the packets that a node may start now on a VC: the oldest of each source in the highest class that has one; AM and
CTL packets wait while the device quiesces, and every packet while a map apply is in progress. -/
def cnStartable (s : State) (node vc : Nat) : List CnPkt :=
  let w := (cnqAt s node).filter (fun p =>
    cnVc p.op.toNat == some vc && !(holdTraffic s && (p.op.toNat == 2 || p.op.toNat == 3)))
  match [3, 1, 2, 0].find? (fun tc => w.any (fun p => p.tc.toNat == tc) && dfld s .TILE_MAP_STAT f_TILE_MAP_STAT_APPLYING == 0) with
  | none => []
  | some tc =>
    let c := w.filter (fun p => p.tc.toNat == tc)
    c.filter (fun p => c.find? (fun q => cnSource q == cnSource p) == some p)

/-- R371, R372: the requests at an output of a CN router. -/
def cnReq (inp : Nat) (p : CnPkt) : ArbReqst := ⟨inp, p.tc.toNat, p.epoch, cnFlits p⟩

/-- The heads of the inputs of a router that ask for an output on a VC. -/
def cnRivals (s : State) (t o vc : Nat) : List ArbReqst :=
  (List.range 4).filterMap (fun i =>
    match s.cn.find? (fun f => f.at_ == t && f.inp == i && !f.ej && cnVc f.pkt.op.toNat == some vc) with
    | some f => if cnOut t f.pkt vc = o then some (cnReq i f.pkt) else none
    | none => none)

/-- R337: an error on the link into a router. -/
def cnLinkErr (t inp : Nat) (e : LinkErr) : Act := fun s =>
  match e with
  | .ok => []
  | .ce => seqA [effA [.cnt (tk t .CN_LINK_CE_CNT) f_CN_LINK_CE_CNT_COUNT 1, setBit (tk t .CN_TILE_STAT) f_CN_TILE_STAT_LINK_CE],
      raiseErr 0x0204 0 inp t 0] s
  | .dataUe => seqA [effA [.cnt (tk t .CN_LINK_UE_CNT) f_CN_LINK_UE_CNT_COUNT 1, setBit (tk t .CN_TILE_STAT) f_CN_TILE_STAT_LINK_UE],
      raiseErr 0x0205 1 inp t 0] s
  | .hdrUe =>
    let rec1 : Act := fun s =>
      if dfld s .CN_DEV_STAT f_CN_DEV_STAT_VALID = 1 then []
      else [.reg (dk .CN_DEV_STAT) (BitVec.ofNat 64 (2 ^ 63 + t))]
    seqA [effA [setBit (tk t .CN_TILE_STAT) f_CN_TILE_STAT_HDR_UE], rec1, raiseErr 0x0206 3 inp t 0] s

/-- A packet leaves a router by an output. -/
def cnMove (t o : Nat) (p : CnPkt) : Act := fun s =>
  let cnt := Eff.cnt (tk t .CN_FLIT_CNT o) f_CN_FLIT_CNT_COUNT (cnFlits p)
  if o = 4 then
    if tileDown s t then cnt :: cnDownAnswer t p s
    else [cnt, .setCn (s.cn ++ [⟨p, t, 4, true⟩])]
  else match cnNext s t o with
    | none => []
    | some (n, i) =>
      if n = hub then [cnt, .setCn (s.cn ++ [⟨p, hub, 4, true⟩]), .cnt (dk .CN_HUB_RX_CNT) f_CN_HUB_RX_CNT_COUNT 1]
      else if rowStopped s n then cnt :: cnDownAnswer t p s
      else [cnt, .setCn (s.cn ++ [⟨p, n, i, false⟩])]

/-- R654: the hub answers a register request of its own that would enter the stopped row of its router. -/
def hubStopAnswer (p : CnPkt) : Act := fun s =>
  if p.op.toNat ≤ 1 then
    [.setCn (s.cn ++ [⟨mkCn hub hub (8 + p.op.toNat) p.tc.toNat 0 (cnFld p 25 5 * 2 ^ 25 + stDown) [], hub, 4, true⟩])]
  else []

/-- R408: a packet takes its epoch when it starts, an answer when it is formed. -/
def cnStamp (s : State) (p : CnPkt) : CnPkt := if 8 ≤ p.op.toNat then p else { p with epoch := epochNow s }

/-- R315: a packet header at an input of the router of a tile. Input 4 is the NIU's, where a waiting packet starts; at (0,8), input
3 takes what the hub starts. -/
def cnRouteA (t inp : Nat) (p : CnPkt) (err : LinkErr) (waited : Nat) : Act := fun s =>
  match cnVc p.op.toNat with
  | none => []
  | some vc =>
    let flight := s.cn.find? (fun f => f.at_ == t && f.inp == inp && !f.ej && f.pkt == p)
    let node := if inp = 4 then t else hub
    let starts := (inp == 4 || (t == 8 && inp == 3 && flight == none)) && (cnStartable s node vc).contains p
    let p' := if starts then cnStamp s p else p
    let o := cnOut t p' vc
    let req := cnReq inp p'
    let rivals := if starts then cnRivals s t o vc ++ [req] else cnRivals s t o vc
    let took : List Eff :=
      if starts then .putCnq node ((cnqAt s node).erase p) ::
        (if node = hub then [.cnt (dk .CN_HUB_TX_CNT) f_CN_HUB_TX_CNT_COUNT 1] else [])
      else match flight with
        | some f => [.setCn (s.cn.erase f)]
        | none => []
    if !starts && flight == none then []
    else if starts && node == hub && rowStopped s t then seqA [effA took, hubStopAnswer p'] s
    else if rowStopped s t then []
    else if err = .hdrUe then seqA [effA took, cnLinkErr t inp err] s
    else if !cnReady s t o vc || arbWinner s t (cnPoint o vc) rivals ≠ some req then []
    else seqA [effA took, cnLinkErr t inp err, arbGrant t (cnPoint o vc) req waited,
      cnMove t o (if err = .dataUe then { p' with psn := true } else p')] s

/-- R315: a CN header arrives at a router. -/
def execCnRoute (t : Tile) (inp : Fin 5) (p : CnPkt) (err : LinkErr) (waited : Nat) (s : State) :
    Host.Outcome State Fault Refusal :=
  runA (cnRouteA t inp p err waited) s

/-- R320: an INTR reaches the hub and raises its event. -/
def execCnIntr (p : CnPkt) (s : State) : Host.Outcome State Fault Refusal :=
  runA (cnTake hub p 4 (hostEvt (cnFld p 0 8))) s

end Sys2Proof.Machine
end

