-- ==== Sys2Proof/Machine/SysRoute.lean ====
section
/-!
DEFINITION. Sys2Proof/Machine/SysRoute.lean: machine shape and coordinates (R469, R470), the port map (R471), the choice of the exit
port (R478 to R483), gate tiles (R42), and the failure path (R490).
-/
namespace Sys2Proof.Machine

/-- R469: the size of dimension d. -/
def shapeK (s : State) (d : Nat) : Nat :=
  1 + (match d with
    | 0 => dfld s .SYS_SHAPE0 f_SYS_SHAPE0_K0M1
    | 1 => dfld s .SYS_SHAPE0 f_SYS_SHAPE0_K1M1
    | 2 => dfld s .SYS_SHAPE0 f_SYS_SHAPE0_K2M1
    | 3 => dfld s .SYS_SHAPE1 f_SYS_SHAPE1_K3M1
    | 4 => dfld s .SYS_SHAPE1 f_SYS_SHAPE1_K4M1
    | _ => dfld s .SYS_SHAPE1 f_SYS_SHAPE1_K5M1)

/-- R469: dimension d is a torus. -/
def isTorus (s : State) (d : Nat) : Bool := bitOf (dfld s .SYS_SHAPE1 f_SYS_SHAPE1_TORUS) d

/-- The number of devices of the machine. -/
def machineSize (s : State) : Nat := (List.range 6).foldl (fun a d => a * shapeK s d) 1

/-- R469: the coordinate of a chip in dimension d. -/
def coord (s : State) (chip d : Nat) : Nat := chip / ((List.range d).foldl (fun a e => a * shapeK s e) 1) % shapeK s d

/-- R470: a chip ID names a device of the machine. -/
def chipExists (s : State) (chip : Nat) : Bool := chip < machineSize s

/-- The chip with one coordinate of a chip changed. -/
def chipWith (s : State) (chip d c : Nat) : Nat :=
  let m := (List.range d).foldl (fun a e => a * shapeK s e) 1
  chip - coord s chip d * m + c * m

/-- R470: the neighbour in dimension d, + when `plus`; none past the edge of a mesh or where the dimension is absent. -/
def neighbour (s : State) (chip d : Nat) (plus : Bool) : Option Nat :=
  let k := shapeK s d
  let c := coord s chip d
  if k ≤ 1 then none
  else if plus then
    (if c + 1 < k then some (chipWith s chip d (c + 1)) else if isTorus s d then some (chipWith s chip d 0) else none)
  else if 0 < c then some (chipWith s chip d (c - 1))
  else if isTorus s d then some (chipWith s chip d (k - 1)) else none

/-- R471: the port map byte of a port: USE, DIR, DIM. -/
def portMap (s : State) (n : Nat) : Nat := bitsOf (regOf s (dk .SYS_PORT_MAP (n / 8))).toNat (8 * (n % 8)) 8
def portUse (s : State) (n : Nat) : Bool := bitOf (portMap s n) 7
def portPlus (s : State) (n : Nat) : Bool := !bitOf (portMap s n) 6
def portDim (s : State) (n : Nat) : Nat := bitsOf (portMap s n) 0 3

/-- The state of a Wylet port: 0 OFF, 1 TRAINING, 2 ACTIVE, 3 REJOIN, 4 DOWN, 5 HELD. -/
def portState (s : State) (n : Nat) : Nat := dfld s .WLP_STAT f_WLP_STAT_STATE n

/-- R482: a port is usable. -/
def portUsable (s : State) (n : Nat) : Bool := portUse s n && (portState s n == 2 || portState s n == 3)

/-- The ports of a dimension and direction, in ascending order (R471). -/
def portsOf (s : State) (d : Nat) (plus : Bool) : List Nat :=
  (List.range 16).filter (fun n => portUse s n && portDim s n == d && portPlus s n == plus)

/-- Free bytes in an egress queue of a port. -/
def eqFree (s : State) (n q : Nat) : Nat := dfld s .PRG_EQ_FREE f_PRG_EQ_FREE_BYTES (8 * n + q)

/-- R473: KIND of an operation: 1 for responses and acknowledgements. -/
def opKind (op : Nat) : Nat := if 0x10 ≤ op then 1 else 0

/-- R473: LAT of a class. -/
def tcLat (tc : Nat) : Nat := tc % 2

/-- R478: the order of dimensions under an RMODE, in the bank of an epoch. -/
def dimOrder (s : State) (rmode : Nat) (ep : Bool) : List Nat :=
  if rmode < 2 then [0, 1, 2, 3, 4, 5]
  else
    let w := regOf s (if ep == epochNow s then dk .SYS_ORDER_ACTIVE (rmode - 2) else dk .SYS_ORDER_SHADOW (rmode - 2))
    (List.range 6).map (fun i => bitsOf w.toNat (3 * i) 3)

/-- R480: the pin entry for a coordinate. -/
def sysPin (s : State) (rmode d v : Nat) (ep : Bool) : Nat :=
  if 256 ≤ v then 0
  else
    let i := 48 * (rmode - 2) + 8 * d + v / 32
    let w := regOf s (if ep == epochNow s then dk .SYS_PIN_ACTIVE i else dk .SYS_PIN_SHADOW i)
    bitsOf w.toNat (2 * (v % 32)) 2

/-- What the choice of an exit needs of a packet: where it goes, how it is routed, and its hash bit. -/
structure ExitAsk where
  dchip : Nat
  rmode : Nat
  ep    : Bool
  hash  : Nat
  kind  : Nat
  lat   : Nat
  mc    : Bool
deriving DecidableEq, Repr

/-- R481: H of a packet. -/
def hashBit (stile dtile : Nat) : Nat :=
  (Nat.xor (Nat.xor stile dtile) (Nat.xor (stile / 16) (dtile / 16))) % 2

/-- What a BN packet asks of the exit choice. -/
def exitAsk (p : BnPkt) : ExitAsk :=
  ⟨p.dchip.toNat, p.rmode.toNat, p.epoch, hashBit p.stile.toNat p.dtile.toNat, opKind p.op.toNat, tcLat p.tc.toNat, false⟩

/-- R478: the direction that the sign or δ gives; + on a tie. -/
def dirByRule (s : State) (d c t : Nat) : Bool :=
  if isTorus s d then
    let k := shapeK s d
    let δ := (t + k - c) % k
    2 * δ ≤ k
  else c < t

/-- R479: the free egress credit that the usable ports of a direction hold together (assumption 41). -/
def dirCredit (s : State) (d : Nat) (plus : Bool) (q : Nat) : Nat :=
  (portsOf s d plus).foldl (fun a n => if portUsable s n then a + eqFree s n q else a) 0

/-- R479, R481: the port of a direction that a packet prefers; RMODE 1 without ADAPT_EN chooses as RMODE 0 (assumption 41). -/
def portOfDir (s : State) (a : ExitAsk) (ps : List Nat) (q : Nat) : Option Nat :=
  match ps with
  | [] => none
  | [n] => some n
  | n :: m :: _ =>
    if a.rmode = 1 ∧ ¬ a.mc ∧ dfld s .SYS_CFG f_SYS_CFG_ADAPT_EN = 1 then some (if eqFree s n q < eqFree s m q then m else n)
    else some (if a.hash = 0 then n else m)

/-- R483: the frame leaves on the dateline VC: the link it leaves on wraps, or it keeps a direction in which it was on it. -/
def leavesDl (s : State) (d : Nat) (plus : Bool) (arr : Option (Nat × Bool × Bool)) : Bool :=
  let c := coord s (chipId s) d
  let wraps := if plus then c + 1 == shapeK s d else c == 0
  wraps || (match arr with
    | some (d', p', dl) => d' == d && p' == plus && dl
    | none => false)

/-- The result of an exit choice: the port and DL, no usable port (with the first port tried), and whether a pin was overridden. -/
structure ExitChoice where
  port : Option Nat
  tried : Nat
  dl   : Bool
  ovr  : Bool
deriving DecidableEq, Repr

/-- R478 to R483: the exit of a packet bound for another chip; `arr` is the dimension, direction and DL it arrived on. -/
def chooseExit (s : State) (a : ExitAsk) (arr : Option (Nat × Bool × Bool)) : ExitChoice :=
  let me := chipId s
  match (dimOrder s a.rmode a.ep).find? (fun d => coord s me d != coord s a.dchip d) with
  | none => ⟨none, 0, false, false⟩
  | some d =>
    let c := coord s me d
    let t := coord s a.dchip d
    let k := shapeK s d
    let pin := if 2 ≤ a.rmode ∧ ¬ a.mc then sysPin s a.rmode d t a.ep else 0
    let pinPlus := pin == 1
    let pinned := pin == 1 || pin == 2
    let ovr := pinned && (neighbour s me d pinPlus).isNone
    let qOf := fun (plus : Bool) => 4 * a.kind + 2 * b2n (leavesDl s d plus arr) + a.lat
    let tie := isTorus s d ∧ 2 * ((t + k - c) % k) = k
    let plus :=
      if pinned && !ovr then pinPlus
      else if a.rmode = 1 ∧ tie ∧ ¬ a.mc ∧ dfld s .SYS_CFG f_SYS_CFG_ADAPT_EN = 1 then
        decide (dirCredit s d false (qOf false) ≤ dirCredit s d true (qOf true))
      else dirByRule s d c t
    let ps := portsOf s d plus
    let first := portOfDir s a ps (qOf plus)
    let others := ps.filter (fun n => some n ≠ first) ++
      (if a.rmode ≤ 1 ∧ isTorus s d ∧ ¬ a.mc then portsOf s d (!plus) else [])
    let pick := (first.toList ++ others).find? (portUsable s)
    ⟨pick, first.getD 0, leavesDl s d (match pick with | some n => portPlus s n | none => plus) arr, ovr⟩

/-- R42: the gate tile of a Wylet port, and of the host port (16: the row-8 gate, 17: the row-7 gate). -/
def gateTile (s : State) (n : Nat) : Nat :=
  if n < 16 then tileAt (min (2 + 4 * (n % 8)) (gridW s - 1)) (if n < 8 then 0 else 15)
  else if n = 16 then 8 else 7

/-- R476: a packet may leave the tile for another chip. -/
def mayLeave (s : State) (dchip space : Nat) : Bool :=
  chipExists s dchip && space != 3 && dfld s .SYS_STAT f_SYS_STAT_TOPO_ERR == 0

/-- R476: a refused departure is counted and reported. -/
def noRoute (t dchip : Nat) : Act := seqA [
  effA [.cnt (dk .SYS_NOROUTE_CNT) f_SYS_NOROUTE_CNT_COUNT 1, setBit (dk .SYS_STAT) f_SYS_STAT_NOROUTE],
  raiseErr 0x0305 2 0 t dchip]

/-- The chips of a box (R491): every coordinate between those of the corners. -/
def inBox (s : State) (lo hi chip : Nat) : Bool :=
  (List.range 6).all (fun d =>
    let a := min (coord s lo d) (coord s hi d)
    let b := max (coord s lo d) (coord s hi d)
    decide (a ≤ coord s chip d) && decide (coord s chip d ≤ b))

/-- The number of chips of a box. -/
def boxSize (s : State) (lo hi : Nat) : Nat :=
  (List.range 6).foldl (fun a d =>
    a * (max (coord s lo d) (coord s hi d) - min (coord s lo d) (coord s hi d) + 1)) 1

/-- The chips of a box that a frame reaches from `start` when it travels onward in dimension d, direction `plus`, and in every
later dimension (R493). -/
def treeChips (s : State) (lo hi start d : Nat) (plus : Bool) : List Nat :=
  (List.range (machineSize s)).filter (fun chip =>
    inBox s lo hi chip &&
    (List.range 6).all (fun e =>
      if e < d then coord s chip e == coord s start e
      else if e = d then (if plus then decide (coord s start e ≤ coord s chip e) else decide (coord s chip e ≤ coord s start e))
      else true))

/-- R493: the directions in which a chip sends a cross-chip multicast on: onward in the dimension it arrived in (`arr`), and to
each neighbour in the box in every later dimension; never over a wrap. -/
def mcBranches (s : State) (lo hi : Nat) (arr : Option (Nat × Bool)) : List (Nat × Bool) :=
  let me := chipId s
  let ok := fun (d : Nat) (plus : Bool) =>
    let c := coord s me d
    let wraps := if plus then c + 1 == shapeK s d else c == 0
    match neighbour s me d plus with
    | some n => !wraps && inBox s lo hi n
    | none => false
  let later := match arr with
    | some (d, _) => d + 1
    | none => 0
  (match arr with
   | some (d, plus) => if ok d plus then [(d, plus)] else []
   | none => []) ++
  ((List.range 6).filter (later ≤ ·)).flatMap (fun e => [(e, true), (e, false)].filter (fun b => ok b.1 b.2))

/-- R481, R482: the port of a multicast frame in a direction: H chooses between two, and a usable one of the direction is taken; with
the first port tried. -/
def mcPort (s : State) (p : BnPkt) (d : Nat) (plus : Bool) : Option Nat × Nat :=
  let ps := portsOf s d plus
  let first := portOfDir s { exitAsk p with mc := true } ps 0
  (((first.toList ++ ps.filter (fun n => some n ≠ first)).find? (portUsable s)), first.getD 0)

/-- The chip reached in a direction. -/
def branchChip (s : State) (d : Nat) (plus : Bool) : Nat := (neighbour s (chipId s) d plus).getD (chipId s)

/-- The tiles of a rectangle between two corner tiles (R195). -/
def rectTiles (near far : Nat) : List Nat :=
  let x0 := min (tileX near) (tileX far)
  let x1 := max (tileX near) (tileX far)
  let y0 := min (tileY near) (tileY far)
  let y1 := max (tileY near) (tileY far)
  (List.range (x1 - x0 + 1)).flatMap (fun i => (List.range (y1 - y0 + 1)).map (fun j => tileAt (x0 + i) (y0 + j)))

/-- R490: an entry into the failure path is counted and recorded. -/
def failRecord (code port dchip : Nat) : Act := seqA [
  fun s =>
    .cnt (dk .SYS_FAIL_CNT) f_SYS_FAIL_CNT_COUNT 1 ::
    (if dfld s .SYS_STAT f_SYS_STAT_FAIL = 1 then []
     else [.reg (dk .SYS_FAIL_INFO) (BitVec.ofNat 64 (2 ^ 63 + code * 2 ^ 60 + port % 16 * 2 ^ 56 + dchip % 2 ^ 17))]) ++
    [setBit (dk .SYS_STAT) f_SYS_STAT_FAIL],
  raiseErr 0x0303 2 code port dchip]

/-- R490: a packet enters the failure path on this chip; `t` is the tile whose NIU sends the answer. For a multicast frame `mc`
gives the box and the chips it would have reached. -/
def failPath (t code port : Nat) (p : BnPkt) (mc : Option (List Nat)) : Act := fun s =>
  let op := p.op.toNat
  seqA [failRecord code port p.dchip.toNat,
    if op ≤ 3 then bnAnswer t p stDown [] []
    else if op = opMcWr ∨ op = opMcWrCb then
      match mc with
      | some chips => eachA (chips.flatMap (fun c => (rectTiles p.dtile.toNat p.far.toNat).map (fun d => (c, d))))
          (fun cd => fun s =>
            niuPush t ⟨{ answerPkt s cd.2 p stDown [] [] with schip := BitVec.ofNat 17 cd.1 }, 47, .none⟩ s)
      | none => noA
    else effA [.cnt (dk .SYS_DISCARD_CNT) f_SYS_DISCARD_CNT_COUNT 1]] s

end Sys2Proof.Machine
end

