-- ==== Sys2Proof/Machine/Noc.lean ====
section
/-!
DEFINITION. Sys2Proof/Machine/Noc.lean: the bulk network between its NIUs: starting packets (R174, R186 to R188, R403, R404, R408),
routing, multicast forks, buffers and link errors (R179 to R185, R195, R201, R207 to R209), and the answers of a router for its tile
(R44, R196).
-/
namespace Sys2Proof.Machine

/-! ### Starting a packet -/

/-- R69: the NIU holds a core's later access to a remote line until the earlier one is acknowledged. -/
def lineBusy (s : State) (t : Nat) (r : NiuReq) : Bool :=
  match r.owner with
  | .core c _ =>
    s.tags.any (fun e =>
      e.1 / 1024 == t &&
      (match e.2 with
       | .out (.core c' _) p =>
         c' == c && p.dchip == r.pkt.dchip && p.dtile == r.pkt.dtile && p.addr.toNat / 64 == r.pkt.addr.toNat / 64
       | _ => false))
  | _ => false

/-- A waiting packet may start now: its class is not held back, a tag is free, no quiesce holds it. -/
def mayStart (s : State) (t : Nat) (r : NiuReq) : Bool :=
  let op := r.pkt.op.toNat
  (!opShaped op || (shapeOk s t r.pkt.tc.toNat && !holdTraffic s))
    && (!opTagged op || ((freeTag s t).isSome && !lineBusy s t r))

/-- The heads of the sources of a class on a VC: the oldest packet of each source (R186). -/
def classHeads (rs : List NiuReq) (vc tc : Nat) : List NiuReq :=
  let c := rs.filter (fun r => opVc r.pkt.op.toNat == some vc && r.pkt.tc.toNat == tc)
  (List.range 48).filterMap (fun src => c.find? (fun r => r.src == src))

/-- R186: the packet of a class that starts next, round robin among the sources. -/
def classPick (s : State) (t vc tc : Nat) : Option NiuReq :=
  let hs := (classHeads (niuqAt s t) vc tc).filter (mayStart s t)
  let last := niuRrAt s (t * 4 + tc)
  match hs.find? (fun r => last < r.src) with
  | some r => some r
  | none => hs.head?

/-- R186: the packet that the NIU starts next on a VC: classes in the order TC3, TC1, TC2, TC0. -/
def pickStart (s : State) (t vc : Nat) : Option NiuReq :=
  [3, 1, 2, 0].findSome? (fun tc => classPick s t vc tc)

/-- The plane of a VC: 0 for A, 1 for B. -/
def vcPlane (vc : Nat) : Nat := vc / 2

/-- R195: the source router's flight of a multicast, or of any other packet. -/
def launch (t : Nat) (p : BnPkt) (exit : Option Nat) : Act := fun s =>
  [.setBn (s.bn ++ [⟨p, t, 4, false, exit, none⟩])]

/-- R195, R493: a multicast leaves its source: into the mesh, to the source tile itself, and to the gate of each branch to other
chips; a branch with no usable port enters the failure path. -/
def launchMc (t : Nat) (p : BnPkt) (self : Bool) (branches : List ((Nat × Bool) × Nat × Nat)) : Act := fun s =>
  seqA [
    whenA (decide (rectTiles p.dtile.toNat p.far.toNat ≠ [t])) (launch t p none),
    whenA self (fun s => [.setBn (s.bn ++ [⟨p, t, 4, true, none, none⟩])]),
    eachA branches (fun b => fun s =>
      match mcPort s p b.1.1 b.1.2 with
      | (some n, _) => launch t p (some n) s
      | (none, tried) =>
        let next := branchChip s b.1.1 b.1.2
        failPath t 1 tried { mcSource s p with dchip := BitVec.ofNat 17 next }
          (some (treeChips s b.2.1 b.2.2 next b.1.1 b.1.2)) s)] s

/-- The exit that a packet is bound for: the host port for the host window, a Wylet port for another chip. -/
def bindExit (s : State) (p : BnPkt) : Option ExitChoice :=
  if p.dchip.toNat = chipId s then none else some (chooseExit s (exitAsk p) none)

/-- R186, R188, R408: a packet starts: it takes its tag and epoch, is charged, and enters its router. -/
def startPkt (t vc : Nat) (r : NiuReq) (waited : Nat) : Act := fun s =>
  let op := r.pkt.op.toNat
  let tag := if opTagged op then (freeTag s t).getD 0 else r.pkt.tag.toNat
  let p : BnPkt := { r.pkt with tag := BitVec.ofNat 10 tag, epoch := if opShaped op then epochNow s else r.pkt.epoch }
  let tx := if vcPlane vc = 0 then RKey.tile (Fin.ofNat 512 t) .NIU_TX_A_BYTES 0 else RKey.tile (Fin.ofNat 512 t) .NIU_TX_B_BYTES 0
  let q := niuqAt s t
  seqA [
    effA [.putNiuq t (q.erase r), .putNiuRr (t * 4 + p.tc.toNat) r.src, .cnt tx f_NIU_TX_A_BYTES_COUNT p.data.length],
    whenA (opTagged op) (effA [.putTags (tagKey t tag) (.out r.owner p)]),
    whenA (opShaped op) (chargeA t p waited),
    (match r.owner with
     | .piece q idx addr => whenA (opRed op) (pieceDone t q idx stOK (redCnt p) addr (p.psn.any id))
     | _ => noA),
    (match r.owner with
     | .mcast _ _ _ self _ => launchMc t p self []
     | .xmcast _ _ _ lo hi self _ => launchMc t p self ((mcBranches s lo hi none).map (fun b => (b, lo, hi)))
     | _ =>
     match bindExit s p with
     | none =>
       let space := p.addr.toNat / 2 ^ 40
       launch t p (if space = 3 ∧ op ≤ 3 then some (if tileY t < 8 then 17 else 16) else none)
     | some c =>
       seqA [
         whenA c.ovr (effA [.cnt (dk .SYS_PIN_OVR_CNT) f_SYS_PIN_OVR_CNT_COUNT 1, setBit (dk .SYS_STAT) f_SYS_STAT_PIN_OVR]),
         (match c.port with
          | some n => launch t p (some n)
          | none => failPath t 1 c.tried p none)])] s

/-- R186: the NIU of a tile starts its next packet on a VC; `waited` is the number of FCLK it waited on its bucket. -/
def bnPacketInjectA (t vc waited : Nat) : Act := fun s =>
  match pickStart s t vc with
  | some r => startPkt t vc r waited s
  | none => []

/-! ### Routing -/

/-- Directions: 0 N, 1 E, 2 S, 3 W, 4 local. -/
def opposite (d : Nat) : Nat := if d < 4 then (d + 2) % 4 else 4

/-- The logical neighbour in a direction. -/
def neighTile (s : State) (t d : Nat) : Option Nat :=
  let x := tileX t
  let y := tileY t
  match d with
  | 0 => if 0 < y then some (tileAt x (y - 1)) else none
  | 1 => if x + 1 < gridW s then some (tileAt (x + 1) y) else none
  | 2 => if y < 15 then some (tileAt x (y + 1)) else none
  | 3 => if 0 < x then some (tileAt (x - 1) y) else none
  | _ => none

/-- R180: a plane's order is YX. -/
def planeYX (s : State) (plane : Nat) : Bool :=
  if plane = 0 then dfld s .BN_PLANE_CFG f_BN_PLANE_CFG_A_ORDER == 1 else dfld s .BN_PLANE_CFG f_BN_PLANE_CFG_B_ORDER == 1

/-- R180: the DOR output from a tile towards another. -/
def dorOut (yx : Bool) (t d : Nat) : Nat :=
  let h := if tileX d < tileX t then 3 else 1
  let v := if tileY d < tileY t then 0 else 2
  if t = d then 4
  else if yx then (if tileY t ≠ tileY d then v else h)
  else (if tileX t ≠ tileX d then h else v)

/-- R179: a direction reduces the distance to the destination. -/
def productive (t d o : Nat) : Bool :=
  match o with
  | 0 => tileY d < tileY t
  | 1 => tileX t < tileX d
  | 2 => tileY t < tileY d
  | 3 => tileX d < tileX t
  | _ => false

/-- R181: the outputs that adaptive routing allows. -/
def adaptiveOuts (yx : Bool) (t d : Nat) : List Nat :=
  if t = d then [4]
  else if yx then
    (if tileY d < tileY t then [0] else [1, 2, 3].filter (productive t d))
  else (if tileX d < tileX t then [3] else [0, 1, 2].filter (productive t d))

/-- R173, R184: data flits in a router input's buffer of a VC. -/
def inputFlits (s : State) (t inp vc : Nat) : Nat :=
  (s.bn.filter (fun f => f.at_ == t && f.inp == inp && !f.ej && opVc f.pkt.op.toNat == some vc)).foldl
    (fun a f => a + bnFlits f.pkt) 0

/-- R173, R184: packets in a router input's buffer of a VC. -/
def inputPkts (s : State) (t inp vc : Nat) : Nat :=
  (s.bn.filter (fun f => f.at_ == t && f.inp == inp && !f.ej && opVc f.pkt.op.toNat == some vc)).length

/-- R173: the data flits that an input's buffer of a VC holds. -/
def bufCap (vc : Nat) : Nat := if vc = 1 then 128 else 32

/-- R181, R184: free data-flit credits downstream of an output. -/
def freeCredits (s : State) (t o vc : Nat) : Nat :=
  match neighTile s t o with
  | some n => bufCap vc - inputFlits s n (opposite o) vc
  | none => 0

/-- R184: an output may take a packet: A1 needs room for the whole of it, every other VC a credit for a header and a flit. -/
def outReady (s : State) (t o vc : Nat) (p : BnPkt) : Bool :=
  if o = 4 then true
  else match neighTile s t o with
    | none => false
    | some n =>
      if vc = 1 then decide (inputPkts s n (opposite o) 1 < 2) && decide (bnFlits p ≤ freeCredits s t o 1)
      else decide (inputPkts s n (opposite o) vc < 32) && (bnFlits p == 0 || decide (0 < freeCredits s t o vc))

/-- R181: among allowed outputs, the one with more free credits; the DOR output on a tie. -/
def adaptivePick (s : State) (yx : Bool) (t d vc : Nat) : Nat :=
  let outs := adaptiveOuts yx t d
  let best := outs.foldl (fun a o => max a (freeCredits s t o vc)) 0
  let top := outs.filter (fun o => freeCredits s t o vc == best)
  let dor := dorOut yx t d
  if top.contains dor then dor else top.headD dor

/-- R182, R202: the pin entry of a destination at a router, in the bank of an epoch. -/
def pinEntry (s : State) (t plane set d : Nat) (ep : Bool) : Nat :=
  let i := 32 * (2 * plane + set) + d / 16
  bitsOf (regOf s (if ep == epochNow s then tk t .BN_PIN_ACTIVE i else tk t .BN_PIN_SHADOW i)).toNat (4 * (d % 16)) 4

/-- R202: the output that a pin entry names: 0 N, 1 E, 2 S, 3 W; an entry of 4 to 15 is no pin. -/
def pinOut (e : Nat) : Option Nat := if e < 4 then some e else none

/-- R179 to R182: the output of a unicast packet towards tile d, and whether a pin entry was overridden. -/
def unicastOut (s : State) (t d vc : Nat) (p : BnPkt) : Nat × Bool :=
  let plane := vcPlane vc
  let yx := planeYX s plane
  let dor := dorOut yx t d
  let adOn := if plane = 0 then dfld s .BN_PLANE_CFG f_BN_PLANE_CFG_A_ADAPT_EN == 1
    else dfld s .BN_PLANE_CFG f_BN_PLANE_CFG_B_ADAPT_EN == 1
  match p.rmode.toNat with
  | 0 => (dor, false)
  | 1 => (if adOn then adaptivePick s yx t d vc else dor, false)
  | m =>
    if t = d then (4, false)
    else match pinOut (pinEntry s t plane (m - 2) d p.epoch) with
      | some o => if (adaptiveOuts yx t d).contains o then (o, false) else (dor, true)
      | none => (dor, false)

/-- R195: the outputs at which a multicast forks in the router of tile t, 4 where it is delivered there. -/
def mcastOuts (yx : Bool) (t inp : Nat) (p : BnPkt) : List Nat :=
  let a := p.dtile.toNat
  let b := p.far.toNat
  let src := p.stile.toNat
  let lo := fun (f : Nat → Nat) => min (f a) (f b)
  let hi := fun (f : Nat → Nat) => max (f a) (f b)
  let fx := if yx then tileY else tileX
  let fy := if yx then tileX else tileY
  let dPlus := if yx then 2 else 1
  let dMinus := if yx then 0 else 3
  let ePlus := if yx then 1 else 2
  let eMinus := if yx then 3 else 0
  let x := fx t
  let y := fy t
  let inCols := decide (lo fx ≤ x) && decide (x ≤ hi fx)
  let inRows := decide (lo fy ≤ y) && decide (y ≤ hi fy)
  let onRow := fy src == y && (inp == 4 || inp == opposite dPlus || inp == opposite dMinus)
  (if onRow && decide (fx src ≤ x) && decide (x < hi fx) then [dPlus] else []) ++
  (if onRow && decide (x ≤ fx src) && decide (lo fx < x) then [dMinus] else []) ++
  (if inCols && decide (y < hi fy) && (onRow || inp == opposite ePlus) then [ePlus] else []) ++
  (if inCols && decide (lo fy < y) && (onRow || inp == opposite eMinus) then [eMinus] else []) ++
  (if inCols && inRows && decide (t ≠ src) then [4] else [])

/-- Where a flight leaves the mesh: at the gate of its exit, or at its destination tile. -/
def flightDest (s : State) (f : BnFlight) : Nat :=
  match f.exit with
  | some n => gateTile s n
  | none => f.pkt.dtile.toNat

/-- The outputs of a flight at its router, and whether a pin entry was overridden. -/
def flightOuts (s : State) (f : BnFlight) : List Nat × Bool :=
  let op := f.pkt.op.toNat
  let vc := (opVc op).getD 0
  match f.held with
  | some o => ([o], false)
  | none =>
  if vc = 1 ∧ f.exit = none then (mcastOuts (planeYX s 0) f.at_ f.inp f.pkt, false)
  else
    let o := unicastOut s f.at_ (flightDest s f) vc f.pkt
    ([o.1], o.2)

/-- R375: a flight's request at a router output. -/
def flightReq (f : BnFlight) : ArbReqst := ⟨f.inp, f.pkt.tc.toNat, f.pkt.epoch, max 1 (bnFlits f.pkt)⟩

/-- The head flights of the inputs of a router that ask for an output on a VC (R372). -/
def rivals (s : State) (t o vc : Nat) : List ArbReqst :=
  (List.range 5).filterMap (fun i =>
    match s.bn.find? (fun f => f.at_ == t && f.inp == i && !f.ej && opVc f.pkt.op.toNat == some vc) with
    | some f => if (flightOuts s f).1.contains o then some (flightReq f) else none
    | none => none)

/-- R44, R88, R196, R229: what the router of a down tile does with a packet ejected at it. -/
def routerAnswers (t : Nat) (p : BnPkt) : Act :=
  let op := p.op.toNat
  if op ≤ 3 ∨ op = opMcWr ∨ op = opMcWrCb then bnAnswer t p stDown [] []
  else if opRed op then redNak t p stDown
  else noA

/-- The tiles of a rectangle that a branch of a multicast reaches when it leaves tile t by output o; `k` bounds its length. -/
def branchTargets (s : State) (yx : Bool) (p : BnPkt) : Nat → Nat → Nat → List Nat
  | 0, _, _ => []
  | k + 1, t, o =>
    if o = 4 then [t]
    else match neighTile s t o with
      | some n => (mcastOuts yx n (opposite o) p).flatMap (fun o' => branchTargets s yx p k n o')
      | none => []

/-- The targets of a multicast branch that leaves tile t by output o: those of its chip, or of the chips beyond its gate. -/
def cutTargets (s : State) (f : BnFlight) (o : Nat) : List (Nat × Nat) :=
  match f.exit with
  | some n =>
    let box := match tagOf s f.pkt.stile.toNat f.pkt.tag.toNat with
      | .out (.xmcast _ _ _ lo hi _ _) _ => (lo, hi)
      | _ => (chipId s, chipId s)
    let next := branchChip s (portDim s n) (portPlus s n)
    (treeChips s box.1 box.2 next (portDim s n) (portPlus s n)).flatMap (fun c =>
      (rectTiles f.pkt.dtile.toNat f.pkt.far.toNat).map (fun d => (c, d)))
  | none => (branchTargets s (planeYX s 0) f.pkt 64 f.at_ o).map (fun d => (chipId s, d))

/-- R654: a router next to a stopped row answers a request whose next hop enters it by output o, and discards a response. -/
def stopAnswers (f : BnFlight) (o : Nat) : Act := fun s =>
  let p := f.pkt
  let op := p.op.toNat
  if op ≤ 3 then bnAnswer f.at_ p stDown [] [] s
  else if op = opMcWr ∨ op = opMcWrCb then
    eachA (cutTargets s f o) (fun cd => fun s =>
      niuPush f.at_ ⟨{ answerPkt s cd.2 (mcSource s p) stDown [] [] with schip := BitVec.ofNat 17 cd.1 }, 47, .none⟩ s) s
  else if opRed op then redNak f.at_ p stDown s
  else []

/-- One output of a packet at a router: it moves to the next router, or leaves to the NIU, the gate's frame builder or the host
port. -/
def moveOut (f : BnFlight) (o vc : Nat) : Act := fun s =>
  let flits := max 1 (bnFlits f.pkt)
  let cnt := Eff.cnt (tk f.at_ .BN_FLIT_CNT (5 * vcPlane vc + o)) f_BN_FLIT_CNT_COUNT flits
  if o = 4 then
    let rx := if vcPlane vc = 0 then tk f.at_ .NIU_RX_A_BYTES else tk f.at_ .NIU_RX_B_BYTES
    if f.exit.isSome then [cnt, .setBn (s.bn ++ [{ f with ej := true }])]
    else if tileDown s f.at_ then cnt :: routerAnswers f.at_ f.pkt s
    else [cnt, .cnt rx f_NIU_RX_A_BYTES_COUNT f.pkt.data.length, .setBn (s.bn ++ [{ f with ej := true }])]
  else
    match neighTile s f.at_ o with
    | some n => if rowStopped s n then cnt :: stopAnswers f o s else [cnt, .setBn (s.bn ++ [{ f with at_ := n, inp := opposite o, held := none }])]
    | none => []

/-- R201: an error on the link into a router: counted; a data flit's poison; a discarded header is fatal. -/
def bnLinkErr (t plane inp : Nat) (e : LinkErr) : Act := fun s =>
  let sub := 5 * plane + inp
  match e with
  | .ok => []
  | .ce => seqA [effA [.cnt (tk t .BN_LINK_CE_CNT) f_BN_LINK_CE_CNT_COUNT 1, setBit (tk t .BN_TILE_STAT) f_BN_TILE_STAT_LINK_CE],
      raiseErr 0x0201 0 sub t 0] s
  | .dataUe => seqA [effA [.cnt (tk t .BN_LINK_UE_CNT) f_BN_LINK_UE_CNT_COUNT 1, setBit (tk t .BN_TILE_STAT) f_BN_TILE_STAT_LINK_UE],
      raiseErr 0x0202 1 sub t 0] s
  | .hdrUe =>
    let rec1 : Act := fun s =>
      if dfld s .BN_DEV_STAT f_BN_DEV_STAT_VALID = 1 then []
      else [.reg (dk .BN_DEV_STAT) (BitVec.ofNat 64 (2 ^ 63 + t))]
    seqA [effA [setBit (tk t .BN_TILE_STAT) f_BN_TILE_STAT_HDR_UE], rec1, raiseErr 0x0203 3 sub t 0] s

/-- The flits of a packet with the first that is not yet poisoned marked. -/
def poisonFlit (p : BnPkt) : BnPkt :=
  if p.data = [] then p else { p with psn := true :: (List.replicate (bnFlits p) false ++ p.psn.drop 1).take (bnFlits p - 1) }

/-- R179: the header of a packet on an input of a router: the router checks it, ranks it at its outputs and forwards it.
A reduction packet is forwarded only after its combining decision (R225). -/
def bnRouteA (t inp : Nat) (p : BnPkt) (err : LinkErr) (waited : Nat) : Act := fun s =>
  match s.bn.find? (fun f => f.at_ == t && f.inp == inp && !f.ej && f.pkt == p) with
  | none => []
  | some f =>
    let op := p.op.toNat
    match opVc op with
    | none => []
    | some vc =>
      let err := if f.held = none then err else .ok
      if (opRed op ∧ f.held = none) ∨ rowStopped s t then []
      else if err = .hdrUe then seqA [effA [.setBn (s.bn.erase f)], bnLinkErr t (vcPlane vc) inp err] s
      else
        let outs := flightOuts s f
        let f' : BnFlight := if err = .dataUe then { f with pkt := poisonFlit p } else f
        let wins := fun (o : Nat) => arbWinner s t (bnPoint (vcPlane vc) o (vc % 2)) (rivals s t o vc) == some (flightReq f)
        if outs.1.all (fun o => wins o && outReady s t o vc p) then
          seqA [bnLinkErr t (vcPlane vc) inp err,
            whenA outs.2 (effA [.cnt (if vcPlane vc = 0 then tk t .BN_PIN_OVR_A else tk t .BN_PIN_OVR_B) f_BN_PIN_OVR_A_COUNT 1]),
            fun s => [.setBn (s.bn.erase f)],
            eachA outs.1 (fun o => seqA [arbGrant t (bnPoint (vcPlane vc) o (vc % 2)) (flightReq f) waited, moveOut f' o vc])] s
        else []

/-- R183, R186: a packet starts at the NIU of a tile on a VC. -/
def execBnPacketInject (t : Tile) (vc : Fin 4) (waited : Nat) (s : State) : Host.Outcome State Fault Refusal :=
  runA (bnPacketInjectA t vc waited) s

/-- R179: a header arrives at a router. -/
def execBnRoute (t : Tile) (inp : Fin 5) (p : BnPkt) (err : LinkErr) (waited : Nat) (s : State) :
    Host.Outcome State Fault Refusal :=
  runA (bnRouteA t inp p err waited) s

end Sys2Proof.Machine
end

