-- ==== Sys2Proof/Machine/Wick.lean ====
section
/-!
DEFINITION. Sys2Proof/Machine/Wick.lean: the Wick network: barrier contexts, releases and breaks (R351, R353 to R359), flags and watches
(R352, R360, R361) and tokens across chips (R362 to R364). A signal reaches every node in the step that sends it: the times of R350 are
left out.
-/
namespace Sys2Proof.Machine

/-! ### Contexts -/

def ctxCfg (s : State) (c : Nat) (f : Fld) : Nat := dfld s .WICK_CTX_CFG f c
def ctxStat (s : State) (c : Nat) (f : Fld) : Nat := dfld s .WICK_CTX_STAT f c
def ctxPut (c : Nat) (f : Fld) (x : Nat) : Eff := .fld (dk .WICK_CTX_STAT c) f x

/-- R351: the members of a context. -/
def wickMembers (s : State) (c : Nat) : List Nat :=
  (rectTiles (ctxCfg s c f_WICK_CTX_CFG_NEAR) (ctxCfg s c f_WICK_CTX_CFG_FAR)).filter (fun t => decide (t < nTiles s))

/-- R357: a tile is absent. -/
def tileAbsent (s : State) (t : Nat) : Bool := tileDown s t || tileAsleep s t

/-- A tile has arrived at a context in this generation. -/
def hasArrived (s : State) (t c : Nat) : Bool := bitOf (regOf s (tk t .WICK_ARRIVED)).toNat c

/-- R353, R357: a member counts as arrived. -/
def countsArrived (s : State) (c t : Nat) : Bool :=
  hasArrived s t c || (ctxCfg s c f_WICK_CTX_CFG_ABSENT == 1 && tileAbsent s t)

/-- A bit of a tile's WICK_STAT sets; DUP, NONMEMBER and BROKEN_SEEN signal interrupt source 11 as they set. -/
def wickSet (t : Nat) (f : Fld) : Act := fun s =>
  let e := setBit (tk t .WICK_STAT) f
  e :: (if tfld s t .WICK_STAT f = 0 ∧ f ≠ f_WICK_STAT_CFG_ERR then irq t 11 (applyEff s e) else [])

/-- The ports of a context's tree: its children, and its parent where it has one. -/
def treePorts (s : State) (c : Nat) : List Nat :=
  if ctxCfg s c f_WICK_CTX_CFG_XCHIP = 0 then []
  else (List.range 16).filter (fun n => bitOf (ctxCfg s c f_WICK_CTX_CFG_DOWN_MASK) n ||
    (ctxCfg s c f_WICK_CTX_CFG_UPV == 1 && ctxCfg s c f_WICK_CTX_CFG_UP_PORT == n))

/-- R362: a token of the current generation joins the sideband of a port. -/
def tokenSend (n kind c : Nat) : Act := fun s =>
  let tok := kind * 2 ^ 14 + ctxStat s c f_WICK_CTX_STAT_GEN % 2 * 2 ^ 13 + c
  [.putWickTx n (wickTxAt s n ++ [tok]), .cnt (dk .WICK_TOKEN_TX_CNT) f_WICK_TOKEN_TX_CNT_COUNT 1]

/-- R354, R358: the landing entries of a tile that name a context take a word. -/
def wickLand (t c w : Nat) (irqs : Bool) : Act := fun s =>
  eachA (List.range 8) (fun e => fun s =>
    let k := tk t .WICK_LAND e
    if fld s k f_WICK_LAND_EN = 1 ∧ fld s k f_WICK_LAND_CTX = c then
      seqA [memPut (.cm t (8 * fld s k f_WICK_LAND_OFF)) (leBytes 8 w), bankGrants t (.cm t (8 * fld s k f_WICK_LAND_OFF)) 8 36,
        whenA (irqs && fld s k f_WICK_LAND_IRQ_EN == 1) (irq t 11)] s
    else []) s

/-- A member's bit in WICK_ARRIVED clears. -/
def unArrive (t c : Nat) : Act := fun s =>
  [.reg (tk t .WICK_ARRIVED) (regOf s (tk t .WICK_ARRIVED) &&& ~~~(BitVec.ofNat 64 (2 ^ c)))]

/-- R354: the root releases a context. -/
def wickRelease (c : Nat) : Act := fun s =>
  let gen := (ctxStat s c f_WICK_CTX_STAT_GEN + 1) % 2 ^ 32
  seqA [
    eachA (wickMembers s c) (fun t => seqA [
      unArrive t c,
      fun s => [.reg (tk t .WICK_REL_PEND) (regOf s (tk t .WICK_REL_PEND) ||| BitVec.ofNat 64 (2 ^ c)),
        .cnt (tk t .WICK_REL_CNT) f_WICK_REL_CNT_COUNT 1],
      whenA (!tileAbsent s t) (wickLand t c gen true)]),
    effA [ctxPut c f_WICK_CTX_STAT_GEN gen, ctxPut c f_WICK_CTX_STAT_LAST 1, ctxPut c f_WICK_CTX_STAT_PENDING 0,
      .putWick c ⟨0, false⟩]] s

/-- R358, R363: a context breaks with a LAST; BREAK goes out on its tree ports but one. -/
def wickBreak (c last : Nat) (from_ : Option Nat) : Act := fun s =>
  let ms := wickMembers s c
  let missing := ms.filter (fun t => !countsArrived s c t)
  let gen := ctxStat s c f_WICK_CTX_STAT_GEN
  seqA [
    eachA ms (fun t => seqA [unArrive t c, whenA (!tileAbsent s t) (wickLand t c (2 ^ 63 + gen) false), wickSet t f_WICK_STAT_BROKEN_SEEN]),
    effA [ctxPut c f_WICK_CTX_STAT_BROKEN 1, ctxPut c f_WICK_CTX_STAT_LAST last, ctxPut c f_WICK_CTX_STAT_PENDING 0,
      ctxPut c f_WICK_CTX_STAT_FIRST_MISSING (missing.foldl min 511 * b2n (!missing.isEmpty)),
      ctxPut c f_WICK_CTX_STAT_MISSING_CNT missing.length, .putWick c ⟨0, false⟩,
      .cnt (dk .WICK_BREAK_CNT) f_WICK_BREAK_CNT_COUNT 1],
    fun s => raiseErr 0x0215 2 last c (regOf s (dk .WICK_CTX_STAT c)).toNat s,
    eachA ((treePorts s c).filter (fun n => some n ≠ from_)) (fun n => tokenSend n 3 c)] s

/-- R354, R363: the root completes a context whose members and children have all arrived. -/
def wickCheck (c : Nat) : Act := fun s =>
  let ready := ctxCfg s c f_WICK_CTX_CFG_EN == 1 && ctxStat s c f_WICK_CTX_STAT_BROKEN == 0
    && ctxStat s c f_WICK_CTX_STAT_PENDING == 1 && (wickMembers s c).all (countsArrived s c)
  let down := ctxCfg s c f_WICK_CTX_CFG_DOWN_MASK
  if !ready then []
  else if ctxCfg s c f_WICK_CTX_CFG_XCHIP = 0 then wickRelease c s
  else if (wickAt s c).got &&& down ≠ down then []
  else if ctxCfg s c f_WICK_CTX_CFG_UPV = 1 then
    if (wickAt s c).sent then []
    else seqA [tokenSend (ctxCfg s c f_WICK_CTX_CFG_UP_PORT) 1 c, effA [.putWick c { wickAt s c with sent := true }]] s
  else seqA [eachA ((List.range 16).filter (fun n => bitOf down n)) (fun n => tokenSend n 2 c), wickRelease c] s

/-- R357: a tile has become absent: every context that waits is looked at again. -/
def wickAbsent : Act := eachA (List.range 64) wickCheck

/-- R353: a write to WICK_ARRIVE. -/
def wickArriveA (t c : Nat) : Act := fun s =>
  let member := ctxCfg s c f_WICK_CTX_CFG_EN == 1 && (wickMembers s c).contains t
  if !member then
    seqA [effA [.cnt (tk t .WICK_NONMEM_CNT) f_WICK_NONMEM_CNT_COUNT 1], wickSet t f_WICK_STAT_NONMEMBER] s
  else if ctxStat s c f_WICK_CTX_STAT_BROKEN = 1 then wickSet t f_WICK_STAT_BROKEN_SEEN s
  else if hasArrived s t c then
    seqA [effA [.cnt (tk t .WICK_DUP_CNT) f_WICK_DUP_CNT_COUNT 1], wickSet t f_WICK_STAT_DUP] s
  else seqA [
    effA [.reg (tk t .WICK_ARRIVED) (regOf s (tk t .WICK_ARRIVED) ||| BitVec.ofNat 64 (2 ^ c)),
      .cnt (tk t .WICK_ARRIVE_CNT) f_WICK_ARRIVE_CNT_COUNT 1, ctxPut c f_WICK_CTX_STAT_PENDING 1],
    wickCheck c] s

/-- R358: the TMO of a context has run out. -/
def wickTimeoutA (c : Nat) : Act := fun s =>
  if ctxCfg s c f_WICK_CTX_CFG_TMO ≠ 0 ∧ ctxCfg s c f_WICK_CTX_CFG_EN = 1 ∧ ctxStat s c f_WICK_CTX_STAT_PENDING = 1
      ∧ ctxStat s c f_WICK_CTX_STAT_BROKEN = 0 then wickBreak c 2 none s
  else []

/-- R359: a write to WICK_CTX_CFG. -/
def wickCfgA (c : Nat) (v : W64) : Act := fun s =>
  let k := dk .WICK_CTX_CFG c
  let new := v &&& regMask k
  let down := fget new f_WICK_CTX_CFG_DOWN_MASK
  let upv := fget new f_WICK_CTX_CFG_UPV
  let x := fget new f_WICK_CTX_CFG_XCHIP
  let bad := gridW s ≤ tileX (fget new f_WICK_CTX_CFG_NEAR) ∨ gridW s ≤ tileX (fget new f_WICK_CTX_CFG_FAR)
    ∨ (upv = 0 ∧ x = 1 ∧ down = 0) ∨ (upv = 1 ∧ bitOf down (fget new f_WICK_CTX_CFG_UP_PORT) = true)
    ∨ (x = 0 ∧ (upv = 1 ∨ down ≠ 0))
  let flying := (List.range 16).any (fun n => (wickTxAt s n ++ (wlpAt s n).wUn.flatten).any (fun w => w % 64 == c))
  let pending := ctxStat s c f_WICK_CTX_STAT_PENDING = 1
  let en := fget new f_WICK_CTX_CFG_EN = 1
  if bad ∨ (pending ∧ en) ∨ (flying ∧ !decide pending) then [setBit (dk .WICK_DEV_STAT) f_WICK_DEV_STAT_CFG_ERR]
  else if pending then seqA [wickBreak c 4 none, effA [.reg k new]] s
  else [.reg k new, ctxPut c f_WICK_CTX_STAT_BROKEN 0, ctxPut c f_WICK_CTX_STAT_MISSING_CNT 0,
    ctxPut c f_WICK_CTX_STAT_FIRST_MISSING 0, .putWick c ⟨0, false⟩]

/-! ### Flags (R352, R360, R361) -/

/-- R361: a watch of a tile is judged. -/
def watchCheck (t w : Nat) : Act := fun s =>
  let k := tk t .WICK_WATCH w
  let f := fld s k f_WICK_WATCH_FLAG
  let v := bitOf (regOf s (dk .WICK_FLAG_STATE (f / 64))).toNat (f % 64)
  let off := 8 * fld s k f_WICK_WATCH_OFF
  if fld s k f_WICK_WATCH_EN = 1 ∧ fld s k f_WICK_WATCH_VALUE = b2n v then
    seqA [
      effA [.fld k f_WICK_WATCH_EN 0],
      whenA (off != 0) (seqA [
        memPut (.cm t off) (leBytes 8 (dfld s .WICK_FLAG_SEQ f_WICK_FLAG_SEQ_SEQ * 2 ^ 32 + b2n v * 2 ^ 8 + f)),
        bankGrants t (.cm t off) 8 36]),
      whenA (fld s k f_WICK_WATCH_IRQ_EN == 1) (irq t 11)] s
  else []

/-- R360: a write to WICK_FLAG_OP of a tile, or to WICK_DEV_FLAG_OP (512): an update joins the node's queue. A write that meets a full
queue waits behind it. -/
def flagOpA (n v : Nat) : Act := fun s =>
  let op := bitsOf v 8 2
  if op = 1 ∨ op = 2 then [.putWickFq n (wickFqAt s n ++ [(op == 1, bitsOf v 0 8)])]
  else if n < 512 then [setBit (tk n .WICK_STAT) f_WICK_STAT_CFG_ERR]
  else [setBit (dk .WICK_DEV_STAT) f_WICK_DEV_STAT_CFG_ERR]

/-- R352: the root applies the next update of a node and broadcasts it; every mirror follows, and the watches are judged. -/
def flagUpdateA (n : Nat) : Act := fun s =>
  match wickFqAt s n with
  | [] => []
  | (set, f) :: rest =>
    let k := dk .WICK_FLAG_STATE (f / 64)
    let bit := BitVec.ofNat 64 (2 ^ (f % 64))
    seqA [
      effA [.putWickFq n rest, .reg k (if set then regOf s k ||| bit else regOf s k &&& ~~~bit),
        .fld (dk .WICK_FLAG_SEQ) f_WICK_FLAG_SEQ_SEQ ((dfld s .WICK_FLAG_SEQ f_WICK_FLAG_SEQ_SEQ + 1) % 2 ^ 32)],
      eachA (allTiles s) (fun t => eachA (List.range 4) (watchCheck t))] s

/-- R361: a write to WICK_WATCH. -/
def watchWriteA (t w : Nat) (v : W64) : Act :=
  seqA [effA [.reg (tk t .WICK_WATCH w) (v &&& regMask (tk t .WICK_WATCH w))], watchCheck t w]

/-! ### Tokens (R362 to R364) -/

/-- R364: a token is discarded. -/
def tokenDrop : Act := effA [.cnt (dk .WICK_TOKEN_DROP_CNT) f_WICK_TOKEN_DROP_CNT_COUNT 1,
  setBit (dk .WICK_DEV_STAT) f_WICK_DEV_STAT_TOKEN_ERR]

/-- A token is taken from a port, or discarded under R364. -/
def tokenTake (n tok : Nat) (side : State → Bool) (a : Act) : Act := fun s =>
  let c := tok % 64
  let ok := ctxCfg s c f_WICK_CTX_CFG_EN == 1 && (treePorts s c).contains n && side s
    && ctxStat s c f_WICK_CTX_STAT_GEN % 2 == bitsOf tok 13 1
  seqA [effA [.cnt (dk .WICK_TOKEN_RX_CNT) f_WICK_TOKEN_RX_CNT_COUNT 1],
    if !ok then tokenDrop else if ctxStat s c f_WICK_CTX_STAT_BROKEN = 1 then noA else a] s

/-- The port is a child's. -/
def isChild (n tok : Nat) (s : State) : Bool := bitOf (ctxCfg s (tok % 64) f_WICK_CTX_CFG_DOWN_MASK) n

/-- R363: an ARRIVE from a child. -/
def tokenArriveA (n tok : Nat) : Act := tokenTake n tok (isChild n tok) (fun s =>
  let c := tok % 64
  seqA [effA [.putWick c { wickAt s c with got := (wickAt s c).got ||| 2 ^ n }, ctxPut c f_WICK_CTX_STAT_PENDING 1], wickCheck c] s)

/-- R363: a RELEASE from the parent. -/
def tokenReleaseA (n tok : Nat) : Act := tokenTake n tok (fun s => !isChild n tok s) (fun s =>
  let c := tok % 64
  seqA [eachA ((List.range 16).filter (fun m => bitOf (ctxCfg s c f_WICK_CTX_CFG_DOWN_MASK) m)) (fun m => tokenSend m 2 c),
    wickRelease c] s)

/-- R363: a BREAK. -/
def tokenBreakA (n tok : Nat) : Act := tokenTake n tok (fun _ => true) (wickBreak (tok % 64) 3 (some n))

/-- R363: the partner of a port has changed: every context with that tree port breaks. -/
def wickPartner (n : Nat) : Act := eachA (List.range 64) (fun c => fun s =>
  if ctxCfg s c f_WICK_CTX_CFG_EN = 1 ∧ (treePorts s c).contains n = true ∧ ctxStat s c f_WICK_CTX_STAT_BROKEN = 0 then
    wickBreak c 5 (some n) s
  else [])

/-- R368: a map apply, or a fabric reset, breaks every context with arrivals pending. -/
def wickBreakPending : Act := eachA (List.range 64) (fun c => fun s =>
  if ctxStat s c f_WICK_CTX_STAT_PENDING = 1 then wickBreak c 4 none s else [])

/-! ### The commands -/

/-- R353: a write to WICK_ARRIVE. -/
def execWickArrive (t : Tile) (c : BitVec 6) (s : State) : Host.Outcome State Fault Refusal := runA (wickArriveA t c.toNat) s

/-- R358: a context times out. -/
def execWickCtxTimeout (c : BitVec 6) (s : State) : Host.Outcome State Fault Refusal := runA (wickTimeoutA c.toNat) s

/-- R359: a write to WICK_CTX_CFG. -/
def execWickCtxCfgWrite (c : BitVec 6) (v : W64) (s : State) : Host.Outcome State Fault Refusal := runA (wickCfgA c.toNat v) s

/-- R360: a write to WICK_FLAG_OP of a tile, or of the hub. -/
def execWickFlagOpWrite (t : Option Tile) (v : BitVec 10) (s : State) : Host.Outcome State Fault Refusal :=
  runA (flagOpA (match t with
    | some t => t
    | none => 512) v.toNat) s

/-- R352: the root applies a flag update of a tile's node, or of the hub. -/
def execWickFlagUpdate (t : Option Tile) (s : State) : Host.Outcome State Fault Refusal :=
  runA (flagUpdateA (match t with
    | some t => t
    | none => 512)) s

/-- R361: a write to WICK_WATCH. -/
def execWickWatchWrite (t : Tile) (w : Fin 4) (v : W64) (s : State) : Host.Outcome State Fault Refusal := runA (watchWriteA t w v) s

/-- R363: an ARRIVE token comes in on a port. -/
def execWickTokenArrive (n : Port) (tok : BitVec 14) (s : State) : Host.Outcome State Fault Refusal :=
  runA (tokenArriveA n tok.toNat) s

/-- R363: a RELEASE token comes in on a port. -/
def execWickTokenRelease (n : Port) (tok : BitVec 14) (s : State) : Host.Outcome State Fault Refusal :=
  runA (tokenReleaseA n tok.toNat) s

/-- R363: a BREAK token comes in on a port. -/
def execWickTokenBreak (n : Port) (tok : BitVec 14) (s : State) : Host.Outcome State Fault Refusal :=
  runA (tokenBreakA n tok.toNat) s

end Sys2Proof.Machine
end

