-- ==== Sys2Proof/Machine/WylBase.lean ====
section
/-!
DEFINITION. Sys2Proof/Machine/WylBase.lean: the frames of a Wylet port and the packets in them (R438, R439, R472, R473), a port's registers,
events and buffers (R440, R457), the flush of a port (R454, R455) and the loss of its link (R453).
-/
namespace Sys2Proof.Machine

/-! ### Frames -/

/-- One byte's bits of the reflected CRC-64. -/
def crc64Bits : Nat → Nat → Nat
  | 0, c => c
  | k + 1, c => crc64Bits k (if c % 2 = 1 then Nat.xor (c / 2) 0xC96C5795D7870F42 else c / 2)

/-- The register after bytes in ascending order. -/
def crc64Run (c : Nat) : List Byte → Nat
  | [] => c
  | b :: bs => forceNat (crc64Bits 8 (Nat.xor c b.toNat)) (fun c => crc64Run c bs)

/-- R439: CRC-64 with the polynomial 0x42F0_E1EB_A9EA_3693, reflected, initial value and final XOR all ones. -/
def crc64 (bs : List Byte) : Nat :=
  Nat.xor (crc64Run 0xFFFFFFFFFFFFFFFF bs) 0xFFFFFFFFFFFFFFFF

/-- R438: the header and payload of a frame. -/
def frameBody (f : WlpFrame) : List Byte :=
  leBytes 8 (f.dchip.toNat * 2 ^ 47 + f.schip.toNat * 2 ^ 30 + f.data.length % 4096 * 2 ^ 18 + f.tc.toNat * 2 ^ 16
    + f.eq.toNat * 2 ^ 13 + f.route.toNat)
  ++ leBytes 8 (f.seq.toNat * 2 ^ 48 + f.carry.toNat) ++ f.data

/-- R438, R439: the bytes of a frame. -/
def frameBytes (f : WlpFrame) : List Byte := frameBody f ++ leBytes 8 (crc64 (frameBody f))

/-- R438: the frame that a header and payload spell, and its LEN field. -/
def parseFrame (bs : List Byte) : WlpFrame × Nat :=
  let w0 := leAt bs 0 8
  let w1 := leAt bs 8 8
  ({ dchip := BitVec.ofNat 17 (bitsOf w0 47 17), schip := BitVec.ofNat 17 (bitsOf w0 30 17),
     tc := BitVec.ofNat 2 (bitsOf w0 16 2), eq := BitVec.ofNat 3 (bitsOf w0 13 3), route := BitVec.ofNat 13 w0,
     seq := BitVec.ofNat 16 (bitsOf w1 48 16), carry := BitVec.ofNat 48 w1, data := (bs.take (bs.length - 8)).drop 16 },
   bitsOf w0 18 12)

/-- R438: the size of a frame, and its blocks of 32 B (R440, R445). -/
def frameSize (f : WlpFrame) : Nat := 24 + f.data.length
def frameBlocks (f : WlpFrame) : Nat := ceilDiv (frameSize f) 32

/-- R472: ROUTE: RMODE in 12:11, DL in 10, MC in 9, PSN in 8. -/
def frameRmode (f : WlpFrame) : Nat := bitsOf f.route.toNat 11 2
def frameDl (f : WlpFrame) : Bool := bitOf f.route.toNat 10
def frameMc (f : WlpFrame) : Bool := bitOf f.route.toNat 9
def framePsn (f : WlpFrame) : Bool := bitOf f.route.toNat 8

/-- R472: the corners of the box of a multicast frame. -/
def frameLo (f : WlpFrame) : Nat := bitsOf f.carry.toNat 0 17
def frameHi (f : WlpFrame) : Nat := bitsOf f.carry.toNat 17 17

/-- R473: an egress queue. -/
def egressQ (op tc : Nat) (dl : Bool) : Nat := 4 * opKind op + 2 * b2n dl + tcLat tc

/-- R472: the frame that carries a packet. `mc` gives the neighbour and the box of a multicast frame. -/
def frameOf (p : BnPkt) (schip : BitVec 17) (dl psn : Bool) (mc : Option (Nat × Nat × Nat)) : WlpFrame :=
  { dchip := match mc with
      | some m => BitVec.ofNat 17 m.1
      | none => p.dchip,
    schip := schip, tc := p.tc, eq := BitVec.ofNat 3 (egressQ p.op.toNat p.tc.toNat dl),
    route := BitVec.ofNat 13 (p.rmode.toNat * 2 ^ 11 + b2n dl * 2 ^ 10 + b2n mc.isSome * 2 ^ 9 + b2n psn * 2 ^ 8),
    seq := 0,
    carry := match mc with
      | some m => BitVec.ofNat 48 (m.2.2 * 2 ^ 17 + m.2.1)
      | none => 0,
    data := leBytes 8 (bnWord0 { p with epoch := false }) ++ leBytes 8 (bnWord1 p) ++ p.data }

/-- R472: the inner packet of a frame, with its LEN field as it stands. For a multicast the source chip is the frame's. -/
def innerPkt (f : WlpFrame) : BnPkt :=
  let w0 := leAt f.data 0 8
  let w1 := leAt f.data 8 8
  let op := bitsOf w0 3 5
  let mc := op = opMcWr ∨ op = opMcWrCb
  let data := f.data.drop 16
  { dchip := BitVec.ofNat 17 (bitsOf w0 47 17),
    schip := if mc then f.schip else BitVec.ofNat 17 (bitsOf w0 30 17),
    far := if mc then BitVec.ofNat 9 (bitsOf w0 38 9) else 0,
    dtile := BitVec.ofNat 9 (bitsOf w0 21 9), len := BitVec.ofNat 13 (bitsOf w0 8 13), op := BitVec.ofNat 5 op,
    tc := BitVec.ofNat 2 (bitsOf w0 1 2), epoch := false, rmode := BitVec.ofNat 2 (frameRmode f),
    tag := BitVec.ofNat 10 (bitsOf w1 51 10), stile := BitVec.ofNat 9 (bitsOf w1 42 9), addr := BitVec.ofNat 42 w1,
    data := data, psn := List.replicate (ceilDiv data.length 64) (framePsn f) }

/-! ### A port's registers and buffers -/

/-- A port's own link layer. -/
def wlp (s : State) (n : Nat) : WlpSt := wlpAt s n

/-- A change of a port's link layer. -/
def wlpMod (n : Nat) (g : WlpSt → WlpSt) : Act := fun s => [.putWlp n (g (wlp s n))]

/-- A counter of a port rises. -/
def wlpCnt (n k : Nat) (by_ : Nat := 1) : Eff := .cnt (dk .WLP_CNT (18 * n + k)) f_WLP_CNT_COUNT by_

/-- Fields of a port's registers. -/
def wlpStep (s : State) (n : Nat) : Nat := dfld s .WLP_STAT f_WLP_STAT_STEP n
def wlpSeq (s : State) (n : Nat) (f : Fld) : Nat := dfld s .WLP_SEQ f n
def putSeq (n : Nat) (f : Fld) (x : Nat) : Eff := .fld (dk .WLP_SEQ n) f x

/-- R440: the bytes of the replay buffer in use. -/
def replayBytes (fs : List WlpFrame) : Nat := fs.foldl (fun a f => a + 32 * frameBlocks f) 0

/-- R440, R752: the registers that show a port's buffers follow them. -/
def wlpShow (n : Nat) : Act := fun s =>
  let k := wlp s n
  [.fld (dk .WLP_REPLAY_FILL n) f_WLP_REPLAY_FILL_BYTES (replayBytes k.replay),
   putSeq n f_WLP_SEQ_TX_OLDEST (match k.replay with
     | f :: _ => f.seq.toNat
     | [] => wlpSeq s n f_WLP_SEQ_TX_NEXT),
   .fld (dk .WLP_MGMT_STAT n) f_WLP_MGMT_STAT_TX_FREE (16 - k.mTx.length),
   .fld (dk .WLP_MGMT_STAT n) f_WLP_MGMT_STAT_RX_CNT k.mRxq.length]

/-- The frames of an egress queue, and of a receive pool. -/
def eqOf (s : State) (n q : Nat) : List WlpFrame := wlpEqAt s (8 * n + q)
def poolOf (s : State) (n q : Nat) : List WlpFrame := wlpPoolAt s (8 * n + q)

/-- R473: an egress queue changes, and PRG_EQ_FREE with it. -/
def putEq (n q : Nat) (fs : List WlpFrame) : List Eff :=
  [.putWlpEq (8 * n + q) fs,
   .fld (dk .PRG_EQ_FREE (8 * n + q)) f_PRG_EQ_FREE_BYTES (8192 - fs.foldl (fun a f => a + frameSize f) 0)]

/-- R457: an event of a port: its bit sets and it is reported by its class. -/
def wlpEvent (n b : Nat) : Act := fun s =>
  let cont := [0, 2, 3, 4, 11, 12, 13, 14].contains b
  seqA [effA [.reg (dk .WLP_EVENT n) (regOf s (dk .WLP_EVENT n) ||| BitVec.ofNat 64 (2 ^ b))],
    if cont then raiseErr 0x0302 2 b n (regOf s (dk .WLP_LOSS_INFO n)).toNat else raiseErr 0x0301 0 b n 0] s

/-! ### Sideband streams (R452) -/

/-- R452: contents that wait pass into SIDE blocks while fewer than 16 are unacknowledged: Wick tokens two to a block, management words
one to a block. `k` bounds the number. -/
def pumpWick : Nat → List (List Nat) → Nat → List Nat → List (List Nat) × Nat × List Nat
  | 0, un, nx, q => (un, nx, q)
  | k + 1, un, nx, q =>
    if q = [] ∨ 16 ≤ un.length then (un, nx, q)
    else pumpWick k (un ++ [q.take 2]) ((nx + 1) % 256) (q.drop 2)

/-- R452: the port's SIDE blocks take what waits, while the port is ACTIVE. -/
def pumpSide (n : Nat) : Act := fun s =>
  if portState s n ≠ 2 then []
  else
    let k := wlp s n
    let w := pumpWick 16 k.wUn k.wNext (wickTxAt s n)
    let m := min (16 - k.mUn.length) k.mTx.length
    seqA [effA [.putWickTx n w.2.2,
      .putWlp n { k with
        wUn := w.1, wNext := w.2.1,
        mUn := k.mUn ++ k.mTx.take m, mTx := k.mTx.drop m, mNext := (k.mNext + m) % 256 }], wlpShow n] s

/-! ### Flush and loss -/

/-- R455, R490: a frame of a port enters the failure path. -/
def frameFail (n code : Nat) (f : WlpFrame) : Act := fun s =>
  let p := { innerPkt f with dchip := f.dchip }
  failPath (gateTile s n) code n p
    (if frameMc f then some (treeChips s (frameLo f) (frameHi f) f.dchip.toNat (portDim s n) (portPlus s n)) else none) s

/-- R454, R455, R490: the flush of a port with a WLP_LOSS_INFO cause: the replay buffer, the sideband contents not yet delivered and, for
the causes DISABLED and PORT_RST, the egress queues. -/
def wlpFlush (n cause : Nat) : Act := fun s =>
  let k := wlp s n
  let eqs := if 3 ≤ cause then (List.range 8).flatMap (eqOf s n) else []
  let frames := k.replay ++ eqs
  let toks := (k.wUn.flatten ++ wickTxAt s n).length
  let code := if cause = 1 then 3 else if cause = 2 then 2 else 4
  seqA [
    whenA (dfld s .WLP_LOSS_INFO f_WLP_LOSS_INFO_VALID n == 0)
      (effA [.reg (dk .WLP_LOSS_INFO n) (BitVec.ofNat 64 (2 ^ 63 + cause * 2 ^ 60 + min frames.length 65535 * 2 ^ 16
        + min toks 255 * 2 ^ 8 + min k.mUn.length 255))]),
    effA ([.putWlp n { k with replay := [], rep := none, sess := false, wUn := [], mUn := [] }, .putWickTx n []]
      ++ (if 3 ≤ cause then (List.range 8).flatMap (fun q => putEq n q []) else [])),
    wlpShow n,
    eachA frames (frameFail n code),
    wickPartner n] s

/-- R654, R663: the SerDes regulator of a port is latched off, or was switched off by a critical shutdown. -/
def serdesOff (s : State) (n : Nat) : Bool := railsOff s || bitOf (regOf s (dk .IVR_FAIL1)).toNat (8 + n / 8)

/-- A port goes to a state and a training step; DETECT and OFF hold no codeword lock. A port without power stays OFF (R654). -/
def wlpGo (n st step : Nat) : Act := fun s =>
  if serdesOff s n ∧ st ≠ 0 then [] else
  [.fld (dk .WLP_STAT n) f_WLP_STAT_STATE st, .fld (dk .WLP_STAT n) f_WLP_STAT_STEP step] ++
  (if step = 1 ∨ st = 0 then
     .fld (dk .WLP_STAT n) f_WLP_STAT_LANE_LOCK 0 ::
     (List.range 16).map (fun l => .fld (dk .WLP_LANE_STAT (16 * n + l)) f_WLP_LANE_STAT_LOCK 0)
   else []) ++
  [.putWlp n { wlp s n with hs := if step = 4 then 1 else 0, rdy := false, peer := none }]

/-- R454: the rejoin window of a port ends. -/
def wlpExpire (n : Nat) : Act := seqA [wlpFlush n 1, wlpEvent n 3]

/-- R453, R462: the link of an ACTIVE port is lost, with LINK_LOST (0) or RETRY_LIMIT (4). -/
def wlpLost (n ev : Nat) : Act := fun s =>
  if portState s n ≠ 2 then []
  else seqA [
    pumpSide n,
    wlpEvent n ev,
    effA [wlpCnt n 16],
    wlpMod n (fun k => { k with rep := none, sess := true }),
    (if dfld s .WLP_CFG f_WLP_CFG_REJOIN_MS n = 0 then seqA [wlpGo n 4 1, wlpExpire n] else wlpGo n 3 1)] s

/-- R448, R449: a replay begins at the oldest unacknowledged frame, or the retry limit is reached. -/
def wlpReplay (n : Nat) : Act := fun s =>
  match (wlp s n).replay with
  | [] => []
  | f :: _ =>
    if max 1 (dfld s .WLP_CFG f_WLP_CFG_RETRY_LIM n) ≤ wlpSeq s n f_WLP_SEQ_REPLAYS then wlpLost n 4 s
    else seqA [effA [putSeq n f_WLP_SEQ_REPLAYS (wlpSeq s n f_WLP_SEQ_REPLAYS + 1)],
      wlpMod n (fun k => { k with rep := some (f.seq.toNat, f.seq.toNat) })] s

/-- R447, R448, R449: the partner expects SEQ `nx` next: every frame before it is acknowledged. -/
def wlpAck (n nx : Nat) : Act := fun s =>
  let k := wlp s n
  let old := (k.replay.map (fun f => f.seq.toNat)).headD (wlpSeq s n f_WLP_SEQ_TX_NEXT)
  let d := (nx + 65536 - old) % 65536
  if d = 0 then []
  else if k.replay.length < d then (if d < 32768 then [wlpCnt n 11] else [])
  else seqA [wlpMod n (fun k => { k with replay := k.replay.drop d }), effA [putSeq n f_WLP_SEQ_REPLAYS 0], wlpShow n] s

/-- R452: the contents of a stream that the partner has accepted leave it. -/
def dropAcked {α : Type} (un : List α) (next expect : Nat) : List α :=
  let d := (expect + 256 + un.length - next) % 256
  if d ≤ un.length then un.drop d else un

end Sys2Proof.Machine
end

