-- ==== Sys2Proof/Machine/Wylet.lean ====
section
/-!
DEFINITION. Sys2Proof/Machine/Wylet.lean: the Wylet ports: states and training (R441 to R444), sending and receiving frames (R445, R446),
acknowledgement and replay (R447 to R450), SIDE blocks (R451, R452), loss, rejoin and re-plug (R453 to R455), and the egress point
(R371, R404, R405).
-/
namespace Sys2Proof.Machine

/-! ### States and training (R441 to R444) -/

/-- A register takes a write of software on the bits that `en` enables (R7, R73). -/
def regWr (k : RKey) (v en : W64) : Act := fun s => [.reg k (accWrite (regFields k) (regOf s k) v en)]

/-- All bits of a register. -/
def allBits : W64 := BitVec.allOnes 64

/-- The training steps begin again: in HELD with a session kept, in REJOIN; in HELD otherwise, in TRAINING. -/
def wlpRestart (n : Nat) : Act := fun s =>
  match portState s n with
  | 0 => []
  | 5 => wlpGo n (if (wlp s n).sess then 3 else 1) 1 s
  | st => wlpGo n st 1 s

/-- R441: a write to WLP_CFG. -/
def wlpCfgA (n : Nat) (v en : W64) : Act := fun s =>
  let was := dfld s .WLP_CFG f_WLP_CFG_EN n
  seqA [regWr (dk .WLP_CFG n) v en,
    fun s =>
      let is := dfld s .WLP_CFG f_WLP_CFG_EN n
      if was = 0 ∧ is = 1 then wlpGo n 1 1 s
      else if was = 1 ∧ is = 0 then seqA [wlpFlush n 3, wlpGo n 0 0] s
      else []] s

/-- R453: RETRAIN: a loss of the link while ACTIVE, the training steps again in any other state. -/
def wlpRetrainA (n : Nat) : Act := fun s => if portState s n = 2 then wlpLost n 0 s else wlpRestart n s

/-- R441, R443: PORT_RST. -/
def wlpPortRstA (n : Nat) : Act := fun s => seqA [
  wlpFlush n 4,
  effA [.fld (dk .WLP_INCARN n) f_WLP_INCARN_INCARN (dfld s .WLP_INCARN f_WLP_INCARN_INCARN n + 1)],
  wlpGo n 0 0,
  whenA (dfld s .WLP_CFG f_WLP_CFG_EN n == 1) (wlpGo n 1 1)] s

/-- A write to WLP_CTRL: bit 1 PORT_RST, bit 0 RETRAIN. -/
def wlpCtrlA (n : Nat) (v : W64) : Act :=
  if bitOf v.toNat 1 then wlpPortRstA n else if bitOf v.toNat 0 then wlpRetrainA n else noA

/-- A training step advances from `a` to `b` in a state that passes through the steps. -/
def wlpAdvance (n a b : Nat) : Act := fun s =>
  if [1, 3, 4].contains (portState s n) && wlpStep s n == a then wlpGo n (portState s n) b s else []

/-- R441: all lanes hold codeword lock and alignment; each lane's number and polarity are found. -/
def wlpAlignA (n : Nat) (logical : List (BitVec 4)) (inv : BitVec 16) : Act := fun s =>
  if [1, 3, 4].contains (portState s n) && wlpStep s n == 3 then
    seqA [wlpGo n (portState s n) 4,
      effA (.fld (dk .WLP_STAT n) f_WLP_STAT_LANE_LOCK 0xFFFF ::
        (List.range 16).map (fun l => .reg (dk .WLP_LANE_STAT (16 * n + l))
          (BitVec.ofNat 64 (2 ^ 63 + b2n (bitOf inv.toNat l) * 2 ^ 62 + (logical.getD l (BitVec.ofNat 4 l)).toNat * 2 ^ 56))))] s
  else []

/-- R441: a step runs out of time, or a lane loses lock in IDENT: back to DETECT. -/
def wlpFallback (n : Nat) : Act := fun s =>
  if [1, 3, 4].contains (portState s n) && decide (2 ≤ wlpStep s n) then wlpGo n (portState s n) 1 s else []

/-- R442: what a TRAIN block says, where it is not ignored: its STEP, its sender and its ECHO. -/
def parseTrain (bs : List Byte) : Option (Nat × TrainId × Nat) :=
  let b1 := leAt bs 1 1
  let chip := leAt bs 12 3
  if leAt bs 28 4 ≠ crc32c (bs.take 28) ∨ leAt bs 0 1 ≠ 0x5B ∨ bitsOf b1 4 4 ≠ 1 ∨ bitsOf b1 2 2 ≠ 0 ∨ 2 ^ 17 ≤ chip then none
  else some (bitsOf b1 0 2, ⟨leAt bs 2 8, leAt bs 10 2, chip, bitsOf (leAt bs 15 1) 0 4, bitsOf (leAt bs 15 1) 4 4, leAt bs 16 2,
    leAt bs 18 1, leAt bs 19 1⟩, leAt bs 20 8)

/-- The boot nonce. -/
def ownNonce (s : State) (n : Nat) : Nat := dfld s .WLP_NONCE f_WLP_NONCE_NONCE n

/-- R442: the TRAIN block that a port sends in IDENT. -/
def trainBlock (s : State) (n : Nat) : List Byte :=
  let k := wlp s n
  let body := leBytes 1 0x5B ++ leBytes 1 (0x10 + k.hs) ++ leBytes 8 (ownNonce s n)
    ++ leBytes 2 (dfld s .WLP_INCARN f_WLP_INCARN_INCARN n) ++ leBytes 3 (chipId s)
    ++ leBytes 1 (dfld s .TILE_GRID f_TILE_GRID_OPTION * 16 + n) ++ leBytes 2 (wlpSeq s n f_WLP_SEQ_RX_NEXT)
    ++ leBytes 1 k.wRx ++ leBytes 1 k.mRx ++ leBytes 8 ((k.peer.map (·.nonce)).getD 0)
  body ++ leBytes 4 (crc32c body)

/-- R444, R454: the same partner: the session resumes. -/
def wlpResume (n : Nat) (p : TrainId) : Act := seqA [
  wlpGo n 2 0,
  wlpAck n p.rxNext,
  wlpMod n (fun k => { k with
    sess := false, nakOut := false,
    rep := (k.replay.head?).map (fun f => (f.seq.toNat, f.seq.toNat)),
    wUn := dropAcked k.wUn k.wNext p.wNext,
    mUn := dropAcked k.mUn k.mNext p.mNext }),
  wlpEvent n 1,
  pumpSide n]

/-- R444, R454: a new partner: the old session is flushed and the link starts anew. -/
def wlpNewPartner (n : Nat) (p : TrainId) : Act := fun s => seqA [
  whenA ((wlp s n).sess) (seqA [wlpFlush n 2, wlpEvent n 2]),
  effA [.fld (dk .WLP_PARTNER_NONCE n) f_WLP_PARTNER_NONCE_NONCE p.nonce,
    .reg (dk .WLP_PARTNER_ID n)
      (BitVec.ofNat 64 (2 ^ 63 + p.incarn * 2 ^ 32 + p.chip * 2 ^ 8 + p.option * 2 ^ 4 + p.port)),
    .reg (dk .WLP_SEQ n) 0],
  wlpGo n 2 0,
  effA [.fld (dk .WLP_STAT n) f_WLP_STAT_HOLD_RX 0],
  wlpMod n (fun k => { WlpSt.init with mTx := k.mTx, mRxq := k.mRxq }),
  wlpShow n,
  pumpSide n] s

/-- R444: the judgement of the partner's identity. -/
def wlpJudge (n : Nat) (p : TrainId) : Act := fun s =>
  let ex := dk .WLP_EXPECT n
  let id := dk .WLP_PARTNER_ID n
  let held := fun (ev : Nat) => seqA [wlpGo n 5 0, wlpEvent n ev]
  if p.nonce = ownNonce s n ∧ p.chip = chipId s then held 12 s
  else if fld s ex f_WLP_EXPECT_EN = 1 ∧ (p.chip ≠ fld s ex f_WLP_EXPECT_CHIP_ID ∨ p.port ≠ fld s ex f_WLP_EXPECT_PORT) then held 13 s
  else if portState s n = 3 ∧ p.nonce = dfld s .WLP_PARTNER_NONCE f_WLP_PARTNER_NONCE_NONCE n
      ∧ p.incarn = fld s id f_WLP_PARTNER_ID_INCARN ∧ p.chip = fld s id f_WLP_PARTNER_ID_CHIP_ID
      ∧ p.port = fld s id f_WLP_PARTNER_ID_PORT then wlpResume n p s
  else wlpNewPartner n p s

/-- R442, R444: a TRAIN block moves the handshake; when READY has been sent and received, the judgement follows. -/
def trainBlockA (n : Nat) (bs : List Byte) : Act := fun s =>
  if wlpStep s n ≠ 4 then []
  else match parseTrain bs with
    | none => []
    | some (step, id, echo) =>
      let k := wlp s n
      let hs := if step = 1 then max k.hs 2 else if step = 2 ∧ echo = ownNonce s n then 3 else k.hs
      let rdy := k.rdy || step == 3
      seqA [wlpMod n (fun k => { k with hs := hs, rdy := rdy, peer := some id }),
        whenA (hs == 3 && rdy) (wlpJudge n id)] s

/-- R444: a write to WLP_EXPECT, which moves a HELD port back to the training steps. -/
def wlpExpectA (n : Nat) (v en : W64) : Act := seqA [regWr (dk .WLP_EXPECT n) v en,
  fun s => if portState s n = 5 then wlpRestart n s else []]

/-! ### Sending (R445) and the egress point (R371, R404, R405) -/

/-- The egress point of a port. -/
def egressPoint (n : Nat) : Nat := n

/-- R404: the bucket of a frame lets it start. -/
def wlpShapeOk (s : State) (n tc : Nat) : Bool :=
  fget (regOf s (dk .SHP_WLP_ACTIVE (4 * n + tc))) f_SHP_WLP_ACTIVE_EN == 0 || decide (0 ≤ wtokAt s (4 * n + tc))

/-- R445: the head frame of an egress queue may start. -/
def mayFrame (s : State) (n : Nat) (f : WlpFrame) : Bool :=
  let k := wlp s n
  portState s n == 2 && k.rep.isNone && dfld s .WLP_STAT f_WLP_STAT_HOLD_RX n == 0
    && decide (replayBytes k.replay + 32 * frameBlocks f ≤ 262144)
    && decide (frameBlocks f ≤ k.cred.getD f.eq.toNat 0) && wlpShapeOk s n f.tc.toNat

/-- The requests at the egress point of a port. -/
def egressReqs (s : State) (n : Nat) : List ArbReqst :=
  (List.range 8).filterMap (fun q =>
    match eqOf s n q with
    | f :: _ => if mayFrame s n f then some ⟨q, f.tc.toNat, epochNow s, ceilDiv (frameSize f) 64⟩ else none
    | [] => none)

/-- The next requester in index order after the last one served. -/
def nextRound (last : Option Nat) (rs : List ArbReqst) : Option ArbReqst :=
  match rs.find? (fun r => match last with
    | some l => decide (l < r.idx)
    | none => true) with
  | some r => some r
  | none => rs.head?

/-- R405: the winner at the egress point; under COLLECTIVE PRIORITY the TC2 frames go first until their quota, and last after it. -/
def egressWinner (s : State) (n : Nat) : Option ArbReqst :=
  let rs := egressReqs s n
  let ls := dk .SHP_LS_ACTIVE n
  let k := arbOf s 512 (egressPoint n)
  if fld s ls f_SHP_LS_ACTIVE_COLL_PRIO = 0 then arbWinner s 512 (egressPoint n) rs
  else
    let held := if bitOf (arbPointCfg s 512 (egressPoint n)) 2 then rs.find? (fun r => k.owner == some r.idx) else none
    let hi := rs.filter (fun r => r.tc == 2)
    let lo := rs.filter (fun r => r.tc != 2)
    let quota := fld s ls f_SHP_LS_ACTIVE_COLL_QUOTA
    let rr := nextRound ((k.last.find? (fun e => e.1 == 10)).map (·.2)) hi
    match held with
    | some r => some r
    | none =>
      if quota = 0 ∨ k.tc2 < quota then (if hi = [] then arbWinner s 512 (egressPoint n) lo else rr)
      else if lo = [] then rr else arbWinner s 512 (egressPoint n) lo

/-- R405: a grant to a TC2 frame is counted against the quota of the window. -/
def tc2Grant (n : Nat) (r : ArbReqst) : Act := fun s =>
  let k := arbOf s 512 (egressPoint n)
  if r.tc = 2 then [.putArb (arbKey 512 (egressPoint n)) { k with tc2 := k.tc2 + 1, last := alSet 10 r.idx k.last }] else []

/-- R445: a new frame starts: it takes its SEQ, is charged and kept for replay. `held` is the FCLK it waited on its bucket. -/
def sendNew (n : Nat) (r : ArbReqst) (waited held : Nat) : Act := fun s =>
  match eqOf s n r.idx with
  | [] => []
  | f :: fs =>
    let sq := wlpSeq s n f_WLP_SEQ_TX_NEXT
    let b := dk .SHP_WLP_ACTIVE (4 * n + f.tc.toNat)
    seqA [
      arbGrant 512 (egressPoint n) r waited, tc2Grant n r,
      effA (putEq n r.idx fs),
      effA [putSeq n f_WLP_SEQ_TX_NEXT (sq + 1), wlpCnt n 0, wlpCnt n 2 f.data.length,
        .cnt (dk .SHP_WLP_HELD_CNT (4 * n + f.tc.toNat)) f_SHP_WLP_HELD_CNT_COUNT held],
      whenA (fld s b f_SHP_WLP_ACTIVE_EN == 1)
        (effA [.putWtok (4 * n + f.tc.toNat) (wtokAt s (4 * n + f.tc.toNat) - 256 * (frameSize f : Int))]),
      wlpMod n (fun k => { k with
        replay := k.replay ++ [{ f with seq := BitVec.ofNat 16 sq }],
        cred := k.cred.modify r.idx (· - frameBlocks f) }),
      wlpShow n] s

/-- R448: the next unacknowledged frame is sent again; after the last one the replay ends. -/
def sendAgain (n start nx : Nat) : Act := fun s =>
  let k := wlp s n
  let old := (k.replay.map (fun f => f.seq.toNat)).headD nx
  match k.replay.drop ((nx + 65536 - old) % 65536 % 32768) with
  | [] => [.putWlp n { k with rep := none }]
  | f :: rest => [wlpCnt n 4, .putWlp n { k with rep := if rest = [] then none else some (start, (f.seq.toNat + 1) % 65536) }]

/-- R445, R448: a port sends its next frame. -/
def wlpSendA (n waited held : Nat) : Act := fun s =>
  if portState s n ≠ 2 then []
  else match (wlp s n).rep with
    | some (start, nx) =>
      let old := ((wlp s n).replay.map (fun f => f.seq.toNat)).headD nx
      -- frames acknowledged since the replay began are not sent again
      sendAgain n start (if (nx + 65536 - old) % 65536 < 32768 then nx else old) s
    | none =>
      match egressWinner s n with
      | some r => sendNew n r waited held s
      | none => []

/-! ### Receiving (R446) -/

/-- Corrected codewords: the lane and the symbols of each. -/
def fecCe (n : Nat) (fec : List (Fin 16 × Nat)) : Act :=
  eachA fec (fun e => effA [wlpCnt n 14, .cnt (dk .WLP_SYM_CNT (16 * n + e.1.val)) f_WLP_SYM_CNT_COUNT e.2])

/-- R446, R447: a failed frame is counted, reported and NAKed once. -/
def rxFail (n cnt : Nat) (ev : Option Nat) (nak : Bool) : Act := fun s => seqA [
  effA [wlpCnt n cnt],
  (match ev with
   | some e => wlpEvent n e
   | none => noA),
  whenA (nak && !(wlp s n).nakOut) (seqA [effA [wlpCnt n 5], wlpMod n (fun k => { k with nakOut := true })])] s

/-- The blocks of a receive pool in use. -/
def poolBlocks (s : State) (n q : Nat) : Nat := (poolOf s n q).foldl (fun a f => a + frameBlocks f) 0

/-- R446: a received frame is checked in order and enters its pool. -/
def wlpReceiveA (n : Nat) (blk : BlkErr) (bytes : List Byte) (fec : List (Fin 16 × Nat)) : Act := fun s =>
  let z := bytes.length
  let f := (parseFrame bytes).1
  let nx := wlpSeq s n f_WLP_SEQ_RX_NEXT
  let d := (nx + 65536 - f.seq.toNat) % 65536
  if portState s n ≠ 2 then []
  else seqA [fecCe n fec,
    if blk = .fecUe then rxFail n 15 (some 8) true
    else if blk = .fmt then rxFail n 11 (some 9) true
    else if z ≤ 23 then rxFail n 8 (some 5) true
    else if 2073 ≤ z then rxFail n 9 (some 6) true
    else if leAt bytes (z - 8) 8 ≠ crc64 (bytes.take (z - 8)) then rxFail n 10 (some 7) true
    else if 2048 < (parseFrame bytes).2 ∨ 24 + (parseFrame bytes).2 ≠ z then rxFail n 11 (some 9) true
    else if 1 ≤ d ∧ d ≤ 32768 then rxFail n 13 none false
    else if d ≠ 0 then rxFail n 12 (some 10) true
    else if 256 < poolBlocks s n f.eq.toNat + frameBlocks f then seqA [rxFail n 11 (some 11) false, wlpRetrainA n]
    else seqA [
      effA [.putWlpPool (8 * n + f.eq.toNat) (poolOf s n f.eq.toNat ++ [f]),
        putSeq n f_WLP_SEQ_RX_NEXT (nx + 1), wlpCnt n 1, wlpCnt n 3 f.data.length],
      wlpMod n (fun k => { k with nakOut := false })]] s

/-- R446: the head frame of a pool is taken; its blocks count as freed. -/
def poolTake (n q : Nat) : Act := fun s =>
  match poolOf s n q with
  | [] => []
  | f :: fs => [.putWlpPool (8 * n + q) fs,
      .putWlp n { wlp s n with freed := (wlp s n).freed.modify q (fun x => (x + frameBlocks f) % 4096) }]

/-! ### SIDE blocks (R451, R452) -/

/-- R451: the SIDE block that a port sends: its acknowledgement, credits and the oldest unacknowledged sideband contents. It is the next one
after a failure with NAK "Yes"; the later ones send NAK 0 until the next such failure (R447). -/
def sideBlock (s : State) (n : Nat) : List Byte :=
  let k := wlp s n
  let hold := holdTraffic s
  let w := k.wUn.headD []
  leBytes 1 0x4C
  ++ leBytes 1 (b2n k.nakOut + 2 * b2n hold + 4 * b2n (!k.wUn.isEmpty) + 8 * b2n (!k.mUn.isEmpty))
  ++ leBytes 2 ((wlpSeq s n f_WLP_SEQ_RX_NEXT + 65535) % 65536)
  ++ leBytes 12 ((List.range 8).foldl (fun a q => a + k.freed.getD q 0 * 2 ^ (12 * q)) 0)
  ++ leBytes 1 ((k.wNext + 256 - k.wUn.length) % 256) ++ leBytes 1 ((k.wRx + 255) % 256)
  ++ leBytes 1 ((k.mNext + 256 - k.mUn.length) % 256) ++ leBytes 1 ((k.mRx + 255) % 256)
  ++ leBytes 2 (w.getD 0 0) ++ leBytes 2 (w.getD 1 0) ++ leBytes 8 (k.mUn.headD 0).toNat

/-- R362: a Wick token from a sideband slot; 0 is an empty slot. -/
def sideToken (n w : Nat) : Act :=
  match bitsOf w 14 2 with
  | 1 => tokenArriveA n (w % 2 ^ 14)
  | 2 => tokenReleaseA n (w % 2 ^ 14)
  | 3 => tokenBreakA n (w % 2 ^ 14)
  | _ => noA

/-- R451, R452: a SIDE block. -/
def sideA (n : Nat) (bs : List Byte) (fec : List (Fin 16 × Nat)) : Act := fun s =>
  let fl := leAt bs 1 1
  let ack := (leAt bs 2 2 + 1) % 65536
  let ctr := fun (q : Nat) => bitsOf (leAt bs 4 12) (12 * q) 12
  if portState s n ≠ 2 then []
  else seqA [
    fecCe n fec,
    pumpSide n,
    effA [.fld (dk .WLP_STAT n) f_WLP_STAT_HOLD_RX (b2n (bitOf fl 1))],
    wlpAck n ack,
    wlpMod n (fun k => { k with
      cred := (List.range 8).map (fun q => k.cred.getD q 0 + (ctr q + 4096 - k.seen.getD q 0) % 4096),
      seen := (List.range 8).map ctr,
      wUn := dropAcked k.wUn k.wNext ((leAt bs 17 1 + 1) % 256),
      mUn := dropAcked k.mUn k.mNext ((leAt bs 19 1 + 1) % 256) }),
    fun s =>
      let k := wlp s n
      seqA [
        whenA (bitOf fl 2 && leAt bs 16 1 == k.wRx) (seqA [
          wlpMod n (fun k => { k with wRx := (k.wRx + 1) % 256 }), sideToken n (leAt bs 20 2), sideToken n (leAt bs 22 2)]),
        whenA (bitOf fl 3 && leAt bs 18 1 == k.mRx && decide (k.mRxq.length < 16))
          (seqA [wlpMod n (fun k => { k with mRx := (k.mRx + 1) % 256, mRxq := k.mRxq ++ [BitVec.ofNat 64 (leAt bs 24 8)] }),
            glvWake])] s,
    whenA (bitOf fl 0) (fun s => seqA [
      effA [wlpCnt n 6],
      -- R448: a NAK during a replay that asks for a SEQ at or after its start is ignored
      (match (wlp s n).rep with
       | some (start, _) => whenA (decide (32768 ≤ (ack + 65536 - start) % 65536)) (wlpReplay n)
       | none => wlpReplay n)] s),
    pumpSide n,
    wlpShow n] s

/-- R448: ACK_TMO runs out for the oldest unacknowledged frame. -/
def wlpAckTimeoutA (n : Nat) : Act := fun s =>
  if portState s n ≠ 2 ∨ (wlp s n).replay = [] ∨ (wlp s n).rep.isSome then []
  else seqA [effA [wlpCnt n 7], wlpReplay n] s

/-- R452: the oldest content of a sideband stream has waited ACK_TMO: the stream is sent again. -/
def wlpSbResendA (n : Nat) (mgmt : Bool) : Act := fun s =>
  if portState s n ≠ 2 then []
  else seqA [pumpSide n, fun s =>
    if (if mgmt then (wlp s n).mUn.isEmpty else (wlp s n).wUn.isEmpty) then [] else [wlpCnt n 17]] s

/-- R453: a lane loses signal or lock, or codewords fail in a row. -/
def wlpLinkLossA (n : Nat) : Act := fun s =>
  if portState s n = 2 then wlpLost n 0 s else if wlpStep s n = 4 then wlpFallback n s else []

/-- R454: the rejoin window ends: DOWN, with the flush. The training steps go on. -/
def wlpRejoinExpireA (n : Nat) : Act := fun s =>
  if (wlp s n).sess && (portState s n == 3 || portState s n == 5) then
    seqA [effA [.fld (dk .WLP_STAT n) f_WLP_STAT_STATE 4],
      whenA (portState s n == 5) (wlpGo n 4 1), wlpExpire n] s
  else []

/-- R452: a write to WLP_MGMT_TX. -/
def wlpMgmtTxA (n : Nat) (v : W64) : Act := fun s =>
  if 16 ≤ (wlp s n).mTx.length then wlpEvent n 14 s
  else seqA [wlpMod n (fun k => { k with mTx := k.mTx ++ [v] }), wlpShow n, pumpSide n] s

/-- R753: the word that a read of WLP_MGMT_RX returns. -/
def wlpMgmtHead (s : State) (n : Nat) : W64 := (wlp s n).mRxq.headD 0

/-- R753: a read of WLP_MGMT_RX removes the head word. -/
def wlpMgmtPop (n : Nat) : Act := seqA [wlpMod n (fun k => { k with mRxq := k.mRxq.drop 1 }), wlpShow n]

/-- A write of 1 to bits of WLP_EVENT: they clear, and WLP_LOSS_INFO with the event that caused its flush. -/
def wlpEventW1c (n : Nat) (v : W64) : Act := fun s =>
  let bit := match dfld s .WLP_LOSS_INFO f_WLP_LOSS_INFO_CAUSE n with
    | 1 => 3
    | 2 => 2
    | _ => 0
  seqA [regWr (dk .WLP_EVENT n) v allBits,
    whenA (bitOf v.toNat bit) (effA [.reg (dk .WLP_LOSS_INFO n) 0])] s

/-- A write to WLP_LANE_CFG: ignored when the taps sum to more than 64. -/
def wlpLaneCfgA (i : Nat) (v en : W64) : Act := fun s =>
  let k := dk .WLP_LANE_CFG i
  let w := accWrite (regFields k) (regOf s k) v en
  if fget w f_WLP_LANE_CFG_PRE + fget w f_WLP_LANE_CFG_MAIN + fget w f_WLP_LANE_CFG_POST ≤ 64 then [.reg k w] else []

/-! ### The commands -/

/-- R441: a write to WLP_CFG. -/
def execWlpCfgWrite (n : Port) (v : W64) (s : State) : Host.Outcome State Fault Refusal := runA (wlpCfgA n v allBits) s

/-- R453: WLP_CTRL.RETRAIN. -/
def execWlpRetrain (n : Port) (s : State) : Host.Outcome State Fault Refusal := runA (wlpRetrainA n) s

/-- R441, R443: WLP_CTRL.PORT_RST. -/
def execWlpPortRst (n : Port) (s : State) : Host.Outcome State Fault Refusal := runA (wlpPortRstA n) s

/-- R441: signal is present on all 16 lanes. -/
def execWlpSignalDetect (n : Port) (s : State) : Host.Outcome State Fault Refusal := runA (wlpAdvance n 1 2) s

/-- R441: every lane has locked to PAM4. -/
def execWlpLaneLock (n : Port) (s : State) : Host.Outcome State Fault Refusal := runA (wlpAdvance n 2 3) s

/-- R441: all lanes are aligned. -/
def execWlpLaneAlign (n : Port) (logical : List (BitVec 4)) (inv : BitVec 16) (s : State) : Host.Outcome State Fault Refusal :=
  runA (wlpAlignA n logical inv) s

/-- R441: a training step runs out of time. -/
def execWlpTrainTimeout (n : Port) (s : State) : Host.Outcome State Fault Refusal := runA (wlpFallback n) s

/-- R442: a TRAIN block arrives. -/
def execTrainBlockReceive (n : Port) (bs : List Byte) (s : State) : Host.Outcome State Fault Refusal := runA (trainBlockA n bs) s

/-- R445: a port starts its next frame. -/
def execWlpFrameSend (n : Port) (waited held : Nat) (s : State) : Host.Outcome State Fault Refusal := runA (wlpSendA n waited held) s

/-- R446: a frame arrives. -/
def execWlpFrameReceive (n : Port) (blk : BlkErr) (bytes : List Byte) (fec : List (Fin 16 × Nat)) (s : State) :
    Host.Outcome State Fault Refusal := runA (wlpReceiveA n blk bytes fec) s

/-- R451: a SIDE block arrives. -/
def execSideBlockReceive (n : Port) (bs : List Byte) (fec : List (Fin 16 × Nat)) (s : State) :
    Host.Outcome State Fault Refusal := runA (sideA n bs fec) s

/-- R448: ACK_TMO runs out. -/
def execWlpAckTimeout (n : Port) (s : State) : Host.Outcome State Fault Refusal := runA (wlpAckTimeoutA n) s

/-- R452: a sideband stream is sent again. -/
def execWlpSbResendTimeout (n : Port) (mgmt : Bool) (s : State) : Host.Outcome State Fault Refusal := runA (wlpSbResendA n mgmt) s

/-- R453: the link is lost. -/
def execWlpLinkLoss (n : Port) (s : State) : Host.Outcome State Fault Refusal := runA (wlpLinkLossA n) s

/-- R454: the rejoin window ends. -/
def execWlpRejoinExpire (n : Port) (s : State) : Host.Outcome State Fault Refusal := runA (wlpRejoinExpireA n) s

/-- R444: a write to WLP_EXPECT. -/
def execWlpExpectWrite (n : Port) (v : W64) (s : State) : Host.Outcome State Fault Refusal := runA (wlpExpectA n v allBits) s

/-- R452: a write to WLP_MGMT_TX. -/
def execWlpMgmtTxWrite (n : Port) (v : W64) (s : State) : Host.Outcome State Fault Refusal := runA (wlpMgmtTxA n v) s

/-- The updates of `execWlpMgmtRxRead`. -/
def wlpMgmtRxReadAct (n : Port) : Act := fun s =>
  seqA [effA [.setAnsOut (leBytes 8 (wlpMgmtHead s n).toNat)], wlpMgmtPop n] s

/-- R753: a read of WLP_MGMT_RX. -/
def execWlpMgmtRxRead (n : Port) (s : State) : Host.Outcome State Fault Refusal :=
  runA (wlpMgmtRxReadAct n) s

end Sys2Proof.Machine
end

