-- ==== Sys2Proof/Machine/SysNet.lean ====
section
/-!
DEFINITION. Sys2Proof/Machine/SysNet.lean: the system network: gate tiles (R485, R486, R503), transit over the perimeter ring (R474, R475,
R488, R502), cross-chip multicast on arrival (R493, R494) and bad frames (R497, R498).
-/
namespace Sys2Proof.Machine

/-! ### Bad frames (R498) -/

/-- R498: the inner operations that cross chips. -/
def opCrosses (op : Nat) : Bool := op ≤ 3 || op == opMcWr || op == opMcWrCb || (0x10 ≤ op && op ≤ 0x13)

/-- R497, R498: a frame taken from a port's pool is a bad frame. -/
def badFrame (s : State) (n : Nat) (f : WlpFrame) : Bool :=
  let p := innerPkt f
  let op := p.op.toNat
  dfld s .SYS_STAT f_SYS_STAT_TOPO_ERR == 1 || !portUse s n || decide (f.data.length < 16)
    || f.data.length != 16 + p.len.toNat || !opCrosses op || frameMc f != (op == opMcWr || op == opMcWrCb)
    || (!frameMc f && (f.dchip != p.dchip || !chipExists s f.dchip.toNat))

/-- R498: a bad frame is discarded, counted and reported. -/
def badFrameA (n q : Nat) (f : WlpFrame) : Act := seqA [
  poolTake n q,
  effA [.cnt (dk .SYS_BAD_FRAME_CNT) f_SYS_BAD_FRAME_CNT_COUNT 1, setBit (dk .SYS_STAT) f_SYS_STAT_BAD_FRAME],
  raiseErr 0x0304 2 0 n (leAt (frameBody f) 0 8)]

/-- The head frame of a pool, where it is good; a bad one is discarded. While the device is quiescing or quiesced frames stay in their
pools (R416). -/
def withFrame (n q : Nat) (want : State → WlpFrame → Bool) (a : WlpFrame → Act) : Act := fun s =>
  match poolOf s n q with
  | [] => []
  | f :: _ => if holdTraffic s then [] else if badFrame s n f then badFrameA n q f s else if want s f then a f s else []

/-! ### Gate tiles -/

/-- R485, R503: a packet at the gate of its port becomes a frame in the egress queue; where the port is no longer usable it enters the
failure path; where the queue lacks room it waits. -/
def gateBuildA (n : Nat) (p : BnPkt) : Act := fun s =>
  let g := gateTile s n
  match s.bn.find? (fun f => f.at_ == g && f.ej && f.exit == some n && f.pkt == p) with
  | none => []
  | some fl =>
    let op := p.op.toNat
    let d := portDim s n
    let plus := portPlus s n
    let box := match tagOf s p.stile.toNat p.tag.toNat with
      | .out (.xmcast _ _ _ lo hi _ _) _ => (lo, hi)
      | _ => (chipId s, chipId s)
    let mc := op == opMcWr || op == opMcWrCb
    let next := branchChip s d plus
    if !portUsable s n then
      seqA [effA [.setBn (s.bn.erase fl)],
        if mc then failPath g 1 n { mcSource s p with dchip := BitVec.ofNat 17 next } (some (treeChips s box.1 box.2 next d plus))
        else failPath g 1 n p none] s
    else
      let f := frameOf p (if mc then BitVec.ofNat 17 (chipId s) else p.schip) (!mc && leavesDl s d plus none) (p.psn.any id)
        (if mc then some (next, box.1, box.2) else none)
      if frameSize f ≤ eqFree s n f.eq.toNat then
        .setBn (s.bn.erase fl) :: putEq n f.eq.toNat (eqOf s n f.eq.toNat ++ [f])
      else []

/-- R408, R486: the inner packet of a frame as the gate router injects it. -/
def injectPkt (s : State) (f : WlpFrame) : BnPkt := { innerPkt f with epoch := epochNow s }

/-- R486: a frame for this chip leaves its pool at the gate tile of its port. -/
def gateInjectA (n q : Nat) : Act :=
  withFrame n q (fun s f => f.dchip.toNat == chipId s && !frameMc f) (fun f => fun s =>
    if rowStopped s (gateTile s n) then seqA [poolTake n q, failPath (gateTile s n) 1 n { innerPkt f with dchip := f.dchip } none] s
    else seqA [poolTake n q, fun s => launch (gateTile s n) (injectPkt s f) none s] s)

/-! ### The perimeter ring -/

/-- R43, R474: the ring position of the station of a port. -/
def ringPos (s : State) (n : Nat) : Nat :=
  let g := gateTile s n
  let px := tilePx s g
  if tileY g = 0 then px % 68 else (67 - px) % 68

/-- R474: the FCLK of the clockwise hop from a position. -/
def hopTime (p : Nat) : Nat := if p = 33 ∨ p = 67 then 8 else if p = 16 ∨ p = 50 then 3 else 1

/-- The positions that a packet passes clockwise from one position to another, the first included and the last not. -/
def ringWay (a b : Nat) : List Nat := (List.range ((b + 68 - a) % 68)).map (fun i => (a + i) % 68)

/-- The FCLK of the clockwise way. -/
def ringTime (a b : Nat) : Nat := (ringWay a b).foldl (fun t p => t + hopTime p) 0

/-- R488: the direction that a frame takes: 0 clockwise, also when both take the same time; 1 counter-clockwise. -/
def ringDir (a b : Nat) : Nat := if ringTime a b ≤ ringTime b a then 0 else 1

/-- R371: the grants that a ring packet takes: where it enters, and at the stations of other ports that it passes. -/
def ringGrants (n m slots waited : Nat) : Act := fun s =>
  let a := ringPos s n
  let b := ringPos s m
  let d := ringDir a b
  let way := if d = 0 then ringWay a b else ringWay b a
  seqA [
    arbGrant 512 (16 + 2 * n + d) ⟨1, 0, epochNow s, slots⟩ waited,
    eachA ((List.range 16).filter (fun k => k ≠ n && k ≠ m && way.contains (ringPos s k)))
      (fun k => arbGrant 512 (16 + 2 * k + d) ⟨0, 0, epochNow s, slots⟩ 0)] s

/-- R475, R488, R502: a frame rides the ring from the station of port n to that of port m and joins its egress queue. -/
def ringMove (n m : Nat) (f : WlpFrame) (slot : SlotErr) (waited : Nat) : Act := fun s =>
  let pos := ringPos s n
  let dir := ringDir pos (ringPos s m)
  let join := fun (f : WlpFrame) => fun (s : State) => putEq m f.eq.toNat (eqOf s m f.eq.toNat ++ [f])
  seqA [
    ringGrants n m (ceilDiv (frameSize f) 256) waited,
    effA [.cnt (dk .PRG_IN_CNT n) f_PRG_IN_CNT_COUNT 1],
    (match slot with
     | .hdrUe => seqA [effA [setBit (dk .PRG_STAT) f_PRG_STAT_HDR_UE], raiseErr 0x0214 3 dir pos 0]
     | .ce => seqA [effA [.cnt (dk .PRG_CE_CNT) f_PRG_CE_CNT_COUNT 1, setBit (dk .PRG_STAT) f_PRG_STAT_CE],
         raiseErr 0x0212 0 dir pos 0, join f, effA [.cnt (dk .PRG_OUT_CNT m) f_PRG_OUT_CNT_COUNT 1]]
     | .ue => seqA [effA [.cnt (dk .PRG_UE_CNT) f_PRG_UE_CNT_COUNT 1, setBit (dk .PRG_STAT) f_PRG_STAT_UE],
         raiseErr 0x0213 1 dir pos 0, join { f with route := f.route ||| 0x100 },
         effA [.cnt (dk .PRG_OUT_CNT m) f_PRG_OUT_CNT_COUNT 1]]
     | .ok => seqA [join f, effA [.cnt (dk .PRG_OUT_CNT m) f_PRG_OUT_CNT_COUNT 1]])] s

/-- R473, R483: the frame as its next port sends it, on a DL. -/
def relabel (f : WlpFrame) (dl : Bool) : WlpFrame :=
  { f with
    eq := BitVec.ofNat 3 (f.eq.toNat / 4 * 4 + 2 * b2n dl + f.eq.toNat % 2)
    route := (f.route &&& ~~~(BitVec.ofNat 13 (2 ^ 10))) ||| BitVec.ofNat 13 (b2n dl * 2 ^ 10), seq := 0 }

/-- How a frame arrived on a port: its dimension, its direction of travel, and its DL. -/
def arrivedOn (s : State) (n : Nat) (f : WlpFrame) : Nat × Bool × Bool := (portDim s n, !portPlus s n, frameDl f)

/-- R488, R490: the input station sends a frame for another chip on to its exit port. -/
def transitA (n q : Nat) (slot : SlotErr) (waited : Nat) : Act :=
  withFrame n q (fun s f => f.dchip.toNat != chipId s) (fun f => fun s =>
    let p := innerPkt f
    let c := chooseExit s ⟨f.dchip.toNat, frameRmode f, epochNow s, hashBit p.stile.toNat p.dtile.toNat,
      opKind p.op.toNat, tcLat f.tc.toNat, false⟩ (some (arrivedOn s n f))
    let ovr := whenA c.ovr (effA [.cnt (dk .SYS_PIN_OVR_CNT) f_SYS_PIN_OVR_CNT_COUNT 1, setBit (dk .SYS_STAT) f_SYS_STAT_PIN_OVR])
    match c.port with
    | none => seqA [ovr, poolTake n q, failPath (gateTile s n) 1 c.tried { p with dchip := f.dchip } none] s
    | some m =>
      let f' := relabel f c.dl
      if frameSize f' ≤ eqFree s m f'.eq.toNat then seqA [ovr, poolTake n q, ringMove n m f' slot waited] s else [])

/-! ### Cross-chip multicast on arrival (R493, R494) -/

/-- R494: the gate answers the source chip for a target. -/
def xmAnswer (g : Nat) (p : BnPkt) (st : Nat) (u : Nat) : Act := fun s => niuPush g ⟨answerPkt s u p st [] [], 47, .none⟩ s

/-- R494: the gate tile takes its copy of a multicast frame. `dflag` is the destination flag that the frame's source set (R192). -/
def xmLocal (n : Nat) (f : WlpFrame) (dflag : Option (Nat × Nat)) : Act := fun s =>
  let g := gateTile s n
  let p := innerPkt f
  let us := rectTiles p.dtile.toNat p.far.toNat
  let inn := us.filter (fun u => tileX u < gridW s)
  let out := us.filter (fun u => gridW s ≤ tileX u)
  if tileDown s g ∨ tileAsleep s g then
    eachA us (xmAnswer g p (if tileDown s g then stDown else stAsleep)) s
  else seqA [
    eachA out (xmAnswer g p stAddr),
    (match inn with
     | [] => noA
     | u :: us' => fun s =>
       let tag := (freeTag s g).getD 0
       let far := us'.getLastD u
       let p' : BnPkt := { injectPkt s f with
         dchip := BitVec.ofNat 17 (chipId s), schip := 0, dtile := BitVec.ofNat 9 u, far := BitVec.ofNat 9 far,
         stile := BitVec.ofNat 9 g, tag := BitVec.ofNat 10 tag }
       seqA [effA [.putTags (tagKey g tag) (.out (.xgate f.schip.toNat p.stile.toNat p.tag.toNat (inn.map (fun v => chipId s * 512 + v)) dflag) p')],
         launchMc g p' (inn.contains g) []] s)] s

/-- R493: a multicast frame arrives: it goes on to every onward port and to the gate tile of this one. It waits in its pool until a tag
of the gate is free (R494) and every onward queue has room. -/
def xmReceiveA (n q : Nat) (dflag : Option (Nat × Nat)) (slots : List SlotErr) : Act :=
  withFrame n q (fun s f => f.dchip.toNat == chipId s && frameMc f) (fun f => fun s =>
    let p := innerPkt f
    let lo := frameLo f
    let hi := frameHi f
    let bs := (mcBranches s lo hi (some (portDim s n, !portPlus s n))).map (fun b => (b, mcPort s p b.1 b.2))
    let g := gateTile s n
    let f' := relabel f false
    let room := bs.all (fun b => match b.2.1 with
      | some m => decide (frameSize f ≤ eqFree s m f'.eq.toNat)
      | none => true)
    if !room || ((freeTag s g).isNone && !(tileDown s g || tileAsleep s g)) then []
    else seqA [
      poolTake n q,
      eachA ((List.range bs.length).zip bs) (fun e => fun s =>
        let next := branchChip s e.2.1.1 e.2.1.2
        match e.2.2.1 with
        | some m => ringMove n m { f' with dchip := BitVec.ofNat 17 next } (slots.getD e.1 .ok) 0 s
        | none => failPath g 1 e.2.2.2 { p with dchip := BitVec.ofNat 17 next } (some (treeChips s lo hi next e.2.1.1 e.2.1.2)) s),
      xmLocal n f dflag] s)

/-! ### The commands -/

/-- R485: a packet reaches the frame builder of its gate. -/
def execGateFrameBuild (n : Port) (p : BnPkt) (s : State) : Host.Outcome State Fault Refusal := runA (gateBuildA n p) s

/-- R486: a frame for this chip enters the BN at its gate. -/
def execGateFrameInject (n : Port) (q : Fin 8) (s : State) : Host.Outcome State Fault Refusal := runA (gateInjectA n q) s

/-- R488: a transit frame crosses the perimeter ring. -/
def execTransitFrame (n : Port) (q : Fin 8) (slot : SlotErr) (waited : Nat) (s : State) : Host.Outcome State Fault Refusal :=
  runA (transitA n q slot waited) s

/-- R493: a cross-chip multicast frame arrives. -/
def execXmcastFrameReceive (n : Port) (q : Fin 8) (dflag : Option (Nat × Nat)) (slots : List SlotErr) (s : State) :
    Host.Outcome State Fault Refusal := runA (xmReceiveA n q dflag slots) s

end Sys2Proof.Machine
end

