-- ==== Sys2Proof/Machine/Queue.lean ====
section
/-!
DEFINITION. Sys2Proof/Machine/Queue.lean: the descriptor queues: rings, posting, reading and checking a descriptor (R133 to R135),
its flag write and completion (R136 to R138, R154, R155), ABORT (R139) and the queue's registers (R159).
-/
namespace Sys2Proof.Machine

/-! ### Rings (R133) -/

/-- The ring size in entries. -/
def ringSize (s : State) (t q : Nat) : Nat := 2 ^ tfld s t .Q_DESC f_Q_DESC_LOG2_SIZE q

/-- The bytes of a descriptor: MXE descriptors are 128 B, every other 64 B. -/
def descBytes (q : Nat) : Nat := if q = 0 then 128 else 64

/-- The CM offset of the slot of an index in the descriptor ring. -/
def descSlot (s : State) (t q i : Nat) : Nat :=
  tfld s t .Q_DESC f_Q_DESC_BASE q * 64 + i % ringSize s t q * descBytes q

/-- The CM offset of the slot of an index in the completion ring. -/
def cplSlot (s : State) (t q i : Nat) : Nat :=
  tfld s t .Q_CPL f_Q_CPL_BASE q * 64 + i % ringSize s t q * 16

def qPI (s : State) (t q : Nat) : Nat := tfld s t .Q_PI f_Q_PI_PI q
def qCI (s : State) (t q : Nat) : Nat := tfld s t .Q_CI f_Q_CI_CI q
def qCqPI (s : State) (t q : Nat) : Nat := tfld s t .Q_CQ_PI f_Q_CQ_PI_CQ_PI q
def qCqCI (s : State) (t q : Nat) : Nat := tfld s t .Q_CQ_CI f_Q_CQ_CI_CQ_CI q

/-- A difference of free-running 16-bit indices. -/
def idxDiff (a b : Nat) : Nat := (a + 65536 - b) % 65536

/-- R133: the number of descriptors the queue holds. -/
def qHeld (s : State) (t q : Nat) : Nat := idxDiff (qPI s t q) (qCI s t q)

/-- R156, R157, R159: the queue is empty and idle. -/
def qIdle (s : State) (t q : Nat) : Bool := qHeld s t q == 0 && (queueOf s t q).run.isEmpty

/-- R136: the completion ring is full. -/
def cqFull (s : State) (t q : Nat) : Bool := idxDiff (qCqPI s t q) (qCqCI s t q) == ringSize s t q

/-! ### Reservation (R129, R194) -/

/-- The queues that COMM_RSV reserves for core 23: DMV3, CDX1 and NQ3. -/
def rsvQueue (q : Nat) : Bool := q == 7 || q == 8 || q == 12

/-- The requester is core 23 of the tile itself. -/
def isCore23 (t : Nat) (who : Requester) : Bool :=
  match who with
  | .core t' c => t'.val == t && c.val == 23
  | _ => false

/-- COMM_RSV is set and the requester is not core 23 itself. -/
def rsvBlocks (s : State) (t : Nat) (who : Requester) : Bool :=
  tfld s t .TILE_CORE_CTRL f_TILE_CORE_CTRL_COMM_RSV == 1 && !isCore23 t who

/-- R129: a refused write sets RSV_REFUSED. -/
def rsvRefused (t : Nat) : Eff := setBit (tk t .TILE_CORE_STAT) f_TILE_CORE_STAT_RSV_REFUSED

/-- A write to a register of a queue, unless COMM_RSV refuses it; queues of the TILE_ block are not reached asleep (R158). -/
def queueWrite (who : Requester) (t q : Nat) (a : Act) : Act := fun s =>
  if rsvQueue q && rsvBlocks s t who then [rsvRefused t]
  else if decide (q < 9) && tileAsleep s t then []
  else a s

/-! ### Posting (R134) -/

/-- The queues whose descriptors may name a table (R269): CDX, DMV and NQ. -/
def tblQueues : List Nat := [3, 4, 5, 6, 7, 8, 9, 10, 11, 12]

/-- R269: a PI write of a CDX queue marks what the tile's other queues had posted by then. -/
def postMark (t q v : Nat) : Act := fun s =>
  let ci := qCI s t q
  let pi := qPI s t q
  let old := (cdxMarkAt s (t * 22 + q)).filter (fun m => idxDiff m.first ci + m.count ≤ 65536 && idxDiff m.first ci < idxDiff pi ci)
  if q = 3 ∨ q = 8 then
    [.putCdxMark (t * 22 + q) (old ++ [⟨pi, idxDiff v pi, tblQueues.map (fun x => (x, qPI s t x))⟩])]
  else []

/-- R134, R511: a PI write publishes descriptors, or is ignored with QERR. That of a collective queue signals source 12. -/
def piWriteA (who : Requester) (t q v : Nat) : Act := queueWrite who t q (fun s =>
  if ringSize s t q < idxDiff v (qCI s t q) then [setBit (tk t .Q_STAT q) f_Q_STAT_QERR]
  else seqA [postMark t q v, effA [.fld (tk t .Q_PI q) f_Q_PI_PI v], whenA (decide (14 ≤ q)) (irq t 12)] s)

/-- R159: a write to DESC or CPL (`cpl`) configures the queue or is refused with CFG_ERR. -/
def descWriteA (who : Requester) (t q : Nat) (cpl : Bool) (v : W64) : Act := queueWrite who t q (fun s =>
  let k := if cpl then tk t .Q_CPL q else tk t .Q_DESC q
  let old := regOf s k
  let new := v &&& regMask k
  if new = old then []
  else
    let en := fget old f_Q_DESC_ENABLE
    let onlyDisable := !cpl && fset new f_Q_DESC_ENABLE 1 == old && fget new f_Q_DESC_ENABLE == 0
    let enabled := tfld s t .Q_DESC f_Q_DESC_ENABLE q == 1
    let desc := if cpl then regOf s (tk t .Q_DESC q) else new
    let cbase := if cpl then fget new f_Q_CPL_BASE else tfld s t .Q_CPL f_Q_CPL_BASE q
    let lg := fget desc f_Q_DESC_LOG2_SIZE
    let runsPast := cmSize < fget desc f_Q_DESC_BASE * 64 + 2 ^ lg * descBytes q || cmSize < cbase * 64 + 2 ^ lg * 16
    if (enabled && !qIdle s t q && !(onlyDisable && en == 1)) || lg < 4 || 12 < lg || runsPast then
      [setBit (tk t .Q_STAT q) f_Q_STAT_CFG_ERR]
    else [.reg k new])

/-- R136: a CQ_CI write frees completion slots. -/
def cqCiWriteA (who : Requester) (t q v : Nat) : Act := queueWrite who t q (effA [.fld (tk t .Q_CQ_CI q) f_Q_CQ_CI_CQ_CI v])

/-! ### Reading a descriptor (R135) -/

/-- The opcodes that a queue serves (R135, R140, R144, R150, R152, R191, R219, R222, R266, R491). -/
def queueServes (q : Nat) : List Nat :=
  if q = 0 then [0x10] else if q = 1 then [0x30] else if q = 2 then [0x20]
  else if q = 3 ∨ q = 8 then [0x60, 0x61, 0x62, 0x63, 0x64]
  else if q ≤ 7 then [0x01, 0x02, 0x03, 0x04]
  else if q ≤ 12 then [0x40, 0x41, 0x42, 0x43, 0x44]
  else if q = 13 then [0x50]
  else [0x70, 0x71, 0x72, 0x73, 0x74, 0x75]

/-- R661: a thermal trip has stopped the engines. -/
def engineStopped (s : State) (t : Nat) : Bool :=
  dfld s .PWR_STAT f_PWR_STAT_TRIP == 1 || tileDown s t || tilePwr s t != 0

/-- Nothing beyond pieces to wait for. -/
def extOver : DescX → Bool
  | .none => true
  | .redCtx c => decide (32 ≤ c)
  | _ => false

/-- R139, R234: what an aborted descriptor still holds: a RED_ARM that runs keeps its context until it completes. -/
def extStop : DescX → DescX
  | .redCtx c => if c < 16 then .redCtx (c + 32) else if c = 16 then .none else .redCtx c
  | .beacon b => if b.started then .beacon { b with cut := true } else .none
  | _ => .none

/-- R308: the buses that an aborted BEACON frees at once: those of one that has not sent START. -/
def extBuses : DescX → List Nat
  | .beacon b => if b.started then [] else b.held
  | _ => []

/-- The bit of BCN_DEV_HELD of a bus point. -/
def busBit (p : Nat) : Nat := if p < 64 then p - 48 else if p < 96 then p - 48 else 48

/-- Buses are freed, and their points have no owner. -/
def busFree (ps : List Nat) : Act := seqA (ps.map (fun p => fun s =>
  [.reg (dk .BCN_DEV_HELD) (regOf s (dk .BCN_DEV_HELD) &&& ~~~(BitVec.ofNat 64 (2 ^ busBit p)))]))

/-- A descriptor that has done all its work: no piece outstanding and nothing else to wait for. -/
def Desc.done (d : Desc) : Bool := d.pend == 0 && extOver d.ext

/-- The engine may read its next descriptor: enabled, one is posted, no finished one is held on a full completion ring (R136),
and none runs before one with FENCE (R135). -/
def mayRead (s : State) (t q : Nat) (flags : Nat) : Bool :=
  let k := queueOf s t q
  tfld s t .Q_DESC f_Q_DESC_ENABLE q == 1 && k.next != qPI s t q && !engineStopped s t
    && !(cqFull s t q && k.run.any Desc.done) && !(bitOf flags 2 && !k.run.isEmpty)
    && !holdTraffic s

/-- The bytes of the next descriptor and whether its ring line reads poisoned. -/
def nextDesc (s : State) (t q : Nat) : List Byte × Bool :=
  let r := memRead s (.cm t (descSlot s t q (queueOf s t q).next)) (descBytes q) []
  (r.bytes, r.psn || r.st != stOK)

/-- The flag pair lies in the last 16 B. -/
def flagAddrOf (bs : List Byte) : Nat := leAt bs (bs.length - 16) 8
def flagValOf (bs : List Byte) : Nat := leAt bs (bs.length - 8) 8

/-- R64, R66: whether a range at a global address is reachable by an engine: it lies wholly in one window; registers are reached
only by naturally aligned accesses of 4 or 8 B. -/
def rangeStatus (s : State) (t g n : Nat) : Nat :=
  let chip := g / 2 ^ 47
  let a := g % 2 ^ 47
  let own := if chip = chipId s then some t else none
  if chip ≠ chipId s ∧ ¬ mayLeave s chip (if 0x040000000000 ≤ a then 3 else 0) then stAddr
  else if n = 0 then (if mapLocal s own a = .unmapped ∧ chip = chipId s then stAddr else stOK)
  else
    match mapLocal s own a with
    | .cm _ _ => if a + n ≤ 0x010000000000 + nTiles s * cmSize then stOK else stAddr
    | .vlt _ _ => if a + n ≤ nTiles s * vaultSize then stOK else stAddr
    | .host o => if o + n ≤ 2 ^ 40 then stOK else stAddr
    | .treg _ o => if (n = 8 ∨ n = 4) ∧ o % n = 0 then stOK else stAddr
    | .dreg o => if (n = 8 ∨ n = 4) ∧ o % n = 0 then stOK else stAddr
    | _ => if chip = chipId s then stAddr else stOK

/-- R135: the checks on the header and the flag pair that every descriptor shares. -/
def headerStatus (s : State) (t : Nat) (bs : List Byte) : Nat :=
  let f := flagAddrOf bs
  stMerge (if 8 ≤ leAt bs 1 1 ∨ leAt bs 4 4 ≠ 0 ∨ f % 8 ≠ 0 then stFmt else stOK)
    (if f = 0 then stOK else rangeStatus s t f 8)

/-- The record of a descriptor as it is read. -/
def descRecord (idx : Nat) (bs : List Byte) : Desc :=
  { idx := idx, tag := leAt bs 2 2, op := leAt bs 0 1, flags := leAt bs 1 1, flagAddr := flagAddrOf bs,
    flagVal := flagValOf bs, status := 0, count := 0, failAddr := 0, poison := false, fp := 0, pend := 0,
    refused := false, flagSt := 0, raw := bs, ext := .none }

/-- The queue takes up its next descriptor with this record. -/
def pushDesc (t q : Nat) (d : Desc) : Act := fun s =>
  let k := queueOf s t q
  [.putQueues (queueKey t q) { k with next := (k.next + 1) % 65536, run := k.run ++ [d] },
   setBit (tk t .Q_STAT q) f_Q_STAT_BUSY]

/-- R135: the engine of a queue reads its next descriptor, checks it whole, and either refuses it or runs it. `check` gives the
status of the operation's own checks; `run` performs it. Nothing happens where the next descriptor is not one of opcode `opc`. -/
def takeDesc (t q opc : Nat) (check : State → List Byte → Nat) (run : Nat → List Byte → Act) : Act := fun s =>
  let k := queueOf s t q
  let nd := nextDesc s t q
  let bs := nd.1
  let d := descRecord k.next bs
  if !mayRead s t q (if nd.2 then 0 else d.flags) then []
  else if nd.2 then
    pushDesc t q
      { d with
        tag := 0, status := stFmt, poison := true, refused := true, flags := 0
        failAddr := cmGlobal s t (descSlot s t q k.next) } s
  else if !(queueServes q).contains d.op then pushDesc t q { d with status := stFmt, refused := true } s
  else if d.op ≠ opc then []
  else
    let st := stMerge (headerStatus s t bs) (check s bs)
    if st ≠ stOK then pushDesc t q { d with status := st, refused := true } s
    else seqA [pushDesc t q d, run k.next bs] s

/-! ### Completion (R136, R137, R154, R155) -/

/-- The interrupt source of a queue (R154); NQ0 to NQ3 signal through NIU_IRQ_STAT. -/
def queueIrq (t q : Nat) : Act :=
  if q ≤ 2 then irq t q
  else if q = 3 then irq t 3
  else if q = 8 then irq t 4
  else if q ≤ 7 then irq t (q + 1)
  else if q ≤ 12 then
    seqA [fun s => [.reg (tk t .NIU_IRQ_STAT) (regOf s (tk t .NIU_IRQ_STAT) ||| BitVec.ofNat 64 (2 ^ (q - 9)))], irq t 9]
  else irq t 15

/-- R155: the nibble of TILE_FPFLAGS that an engine's completions feed. -/
def fpField (q : Nat) : Option Fld :=
  if q = 0 then some f_TILE_FPFLAGS_MXE else if q = 1 then some f_TILE_FPFLAGS_VXE
  else if q = 2 then some f_TILE_FPFLAGS_RCX else if q = 3 ∨ q = 8 then some f_TILE_FPFLAGS_CDX else none

/-- R137: the bytes of a completion entry. -/
def cplEntry (d : Desc) (phase : Nat) : List Byte :=
  leBytes 2 d.tag ++ leBytes 1 d.status ++ leBytes 1 (d.fp % 16 + phase * 64 + b2n d.poison * 128)
    ++ leBytes 4 (min d.count 0xFFFFFFFF) ++ leBytes 8 d.failAddr

/-- R233: a completed reduction frees its context and is recorded in RED_DONE. -/
def redFree (t c : Nat) : Act := fun s =>
  let k := tk t .RED_CTX c
  let rid := fld s k f_RED_CTX_RID
  let w := (regOf s (tk t .RED_DONE (rid / 32))).toNat
  let j := 2 * (rid % 32)
  let w' := w - bitsOf w j 2 * 2 ^ j + (1 + 2 * fld s k f_RED_CTX_GEN) * 2 ^ j
  [.reg (tk t .RED_DONE (rid / 32)) (BitVec.ofNat 64 w'), .reg k 0,
   .fld (tk t .RED_STATUS) f_RED_STATUS_CTX_ARMED
     (tfld s t .RED_STATUS f_RED_STATUS_CTX_ARMED - bitsOf (tfld s t .RED_STATUS f_RED_STATUS_CTX_ARMED) c 1 * 2 ^ c),
   .clrRedSeg ((s.redSeg.filter (fun e => e.1 / 1024 = t * 16 + c)).map (·.1))]

/-- R529: a group enters BROKEN; the first case recorded gives CAUSE and COL_GFAIL. -/
def colBreak (t g cause chip tile : Nat) : Act := fun s =>
  if tfld s t .COL_GSTAT f_COL_GSTAT_STATE g ≠ 1 then []
  else [.fld (tk t .COL_GSTAT g) f_COL_GSTAT_STATE 2, .fld (tk t .COL_GSTAT g) f_COL_GSTAT_CAUSE cause,
    .reg (tk t .COL_GFAIL g) (BitVec.ofNat 64 (2 ^ 63 + tile * 2 ^ 32 + chip % 2 ^ 17))]

/-- The entry that a collective group runs. -/
def colEntry (s : State) (t g : Nat) : Option Desc :=
  (queueOf s t (14 + g)).run.find? (fun d => match d.ext with
    | .col _ => true
    | _ => false)

/-! ### ABORT (R139, R165) -/

/-- R147, R165: the MXE's held lines are cancelled. -/
def cancelAllHeld (t : Nat) : Act := fun s =>
  let h := mxeHeldAt s t
  if h = [] then [] else [.clrMxeHeld [t], .cnt (tk t .TILE_MXE_RA_CANCEL) f_TILE_MXE_RA_CANCEL_COUNT h.length]

/-- R139: running descriptors end ABORTED, posted ones are completed ABORTED without running. -/
def abortA (who : Requester) (t q : Nat) : Act := queueWrite who t q (fun s =>
  let k := queueOf s t q
  let pi := qPI s t q
  let n := idxDiff pi k.next
  let posted := (List.range n).map (fun i =>
    let idx := (k.next + i) % 65536
    { descRecord idx (memRead s (.cm t (descSlot s t q idx)) (descBytes q) []).bytes with
      status := stAborted, refused := true })
  let stopped := k.run.map (fun d =>
    if d.done then d else { d with status := stMerge d.status stAborted, refused := true, pend := 0, ext := extStop d.ext })
  if qCI s t q = pi then
    -- no ring entry is there; what the collective runtime posted here ends
    if k.run = [] then [] else seqA [effA [.putQueues (queueKey t q) { k with run := stopped }],
      busFree (k.run.flatMap (fun d => if d.done then [] else extBuses d.ext)),
      fun s => [.putNiuq t ((niuqAt s t).filter (fun r => r.src ≠ 24 + q))]] s
  else seqA [
    effA [.putQueues (queueKey t q) ⟨pi, stopped ++ posted, some pi⟩,
      setBit (tk t .Q_STAT q) f_Q_STAT_ABORTING, setBit (tk t .Q_STAT q) f_Q_STAT_BUSY],
    whenA (decide (14 ≤ q) && !k.run.isEmpty) (colBreak t (q - 14) 8 (chipId s) 0),
    busFree (k.run.flatMap (fun d => if d.done then [] else extBuses d.ext)),
    fun s => [.putNiuq t ((niuqAt s t).filter (fun r => r.src ≠ 24 + q))],
    whenA (q == 0) (seqA [cancelAllHeld t, effA [.clrMxe [t]]])] s)

/-! ### Completion (R136, R137) -/

/-- R535: the lowest tile of a group's rectangle that is down. -/
def downInRect (s : State) (t g : Nat) : Option Nat :=
  let near := tfld s t .COL_GCFG1 f_COL_GCFG1_NEAR g
  let far := tfld s t .COL_GCFG1 f_COL_GCFG1_FAR g
  (List.range 512).find? (fun u => decide (tileX near ≤ tileX u ∧ tileX u ≤ tileX far ∧ tileY near ≤ tileY u ∧ tileY u ≤ tileY far)
    && tileDown s u)

/-- R511, R529: a descriptor that the collective runtime posted for a group is done: its entry takes its status and flags, and
ends where a member is down, in the on-chip phase with an ABORT of the RED queue. An entry that has ended takes nothing from what it
left running: `tag` is the index of the entry. The runtime's rings hold no completion entry in this model. -/
def childRetire (t q : Nat) (d : Desc) : Act := fun s =>
  let g := d.idx / 65536 - 1
  let gone := d.status == stDown || d.status == stAsleep
  let k := queueOf s t q
  let arming := (queueOf s t 13).run.any (fun c => c.idx / 65536 == g + 1 && !c.done)
  seqA [
    effA [.putQueues (queueKey t q) { k with run := k.run.filter (fun e => e.idx ≠ d.idx) }],
    (match d.ext with
     | .redCtx c => whenA (decide (32 ≤ c)) (redFree t (c - 32))
     | _ => noA),
    (match (queueOf s t (14 + g)).run.head? with
     | some e =>
       if e.idx ≠ d.tag then noA
       else seqA [
         whenA gone (colBreak t g 7 (d.failAddr / 2 ^ 47) (if arming then (downInRect s t g).getD 0 else 0)),
         putDesc t (14 + g) { (e.fail d.status d.failAddr) with
           pend := e.pend - 1, poison := e.poison || d.poison, fp := e.fp ||| d.fp,
           ext := if gone then .none else e.ext },
         whenA (gone && arming) (abortA (.core (Fin.ofNat 512 t) 23) t 13)]
     | none => noA)] s

/-- R136: the descriptor leaves its queue: its completion entry where one is due, CI, counters and interrupts. -/
def retire (t q : Nat) (d : Desc) : Act := fun s =>
  if 65536 ≤ d.idx then childRetire t q d s else
  let err := d.status ≠ stOK
  let due := err ∨ bitOf d.flags 0
  let cq := qCqPI s t q
  let phase := 1 - cq / ringSize s t q % 2
  if due ∧ cqFull s t q then []
  else seqA [
    whenA due (seqA [
      memPut (.cm t (cplSlot s t q cq)) (cplEntry d phase),
      effA [.fld (tk t .Q_CQ_PI q) f_Q_CQ_PI_CQ_PI ((cq + 1) % 65536), .cnt (tk t .Q_DONE_CNT q) f_Q_DONE_CNT_COUNT 1]]),
    whenA err (effA [.cnt (tk t .Q_ERR_CNT q) f_Q_ERR_CNT_COUNT 1]),
    (match d.ext with
     | .redCtx c => whenA (decide (32 ≤ c)) (redFree t (c - 32))
     | _ => noA),
    (match fpField q with
     | some f => fun s => [.fld (tk t .TILE_FPFLAGS) f (tfld s t .TILE_FPFLAGS f ||| d.fp)]
     | none => noA),
    fun s =>
      let k := queueOf s t q
      let run := k.run.filter (fun e => e.idx ≠ d.idx)
      let ci := (qCI s t q + 1) % 65536
      let ab := k.abortPi == some ci
      [.fld (tk t .Q_CI q) f_Q_CI_CI ci,
       .putQueues (queueKey t q) { k with run := run, abortPi := if ab then none else k.abortPi },
       .fld (tk t .Q_STAT q) f_Q_STAT_BUSY (b2n (!run.isEmpty))] ++
      (if ab then [.fld (tk t .Q_STAT q) f_Q_STAT_ABORTING 0] else []),
    whenA (decide (q < 14) && (bitOf d.flags 1 || (decide err && tfld s t .Q_CTRL f_Q_CTRL_ERR_IRQ q == 1))) (queueIrq t q)] s

/-- R136: the flag write of a descriptor: to CM or vault of its own tile at once, elsewhere as a WR packet whose answer is
waited for. -/
def flagWrite (t q : Nat) (d : Desc) : Act := fun s =>
  match mapGlobal s (some t) d.flagAddr with
  | .cm t' o =>
    if t' = t then seqA [memPut (.cm t o) (leBytes 8 d.flagVal), putDesc t q { d with flagSt := 2 }] s
    else sendFlag s
  | .vlt t' o =>
    if t' = t then
      let st := memStatus s (.vlt t o)
      seqA [memPut (.vlt t o) (leBytes 8 d.flagVal),
        putDesc t q ({ d with flagSt := 2 }.fail (if st = stOK then stOK else stFlag) d.flagAddr)] s
    else sendFlag s
  | _ => sendFlag s
where
  /-- The flag write leaves as a packet. -/
  sendFlag (s : State) : List Eff :=
    match encGlobal s (some t) d.flagAddr with
    | some (chip, dt, ad) =>
      seqA [niuPush t ⟨mkBn s t opWr 0 0 chip dt ad 8 (leBytes 8 d.flagVal) [false], 24 + q, .flag q d.idx⟩,
        putDesc t q { d with flagSt := 1 }] s
    | none => putDesc t q ({ d with flagSt := 2 }.fail stFlag d.flagAddr) s

/-- R136: a descriptor whose work is done makes its flag write, and then its completion. -/
def completeA (t q idx : Nat) : Act := fun s =>
  match descOf s t q idx with
  | none => []
  | some d =>
    if !d.done then []
    else if d.refused ∨ d.flagAddr = 0 ∨ d.flagSt = 2 then retire t q d s
    else if d.flagSt = 1 then []
    else
      seqA [flagWrite t q d, fun s =>
        match descOf s t q idx with
        | some d' => if d'.flagSt = 2 then retire t q d' s else []
        | none => []] s

/-! ### The commands -/

/-- R134: a PI write. -/
def execQueuePiWrite (who : Requester) (t : Tile) (q : Fin 22) (v : BitVec 16) (s : State) :
    Host.Outcome State Fault Refusal :=
  runA (piWriteA who t q v.toNat) s

/-- R159: a DESC or CPL write. -/
def execQueueDescWrite (who : Requester) (t : Tile) (q : Fin 22) (cpl : Bool) (v : W64) (s : State) :
    Host.Outcome State Fault Refusal :=
  runA (descWriteA who t q cpl v) s

/-- R136: a CQ_CI write. -/
def execCqCiWrite (who : Requester) (t : Tile) (q : Fin 22) (v : BitVec 16) (s : State) : Host.Outcome State Fault Refusal :=
  runA (cqCiWriteA who t q v.toNat) s

/-- R136: a descriptor's writes have been acknowledged. An index from 65,536 names a descriptor of the collective runtime. -/
def execDescriptorComplete (t : Tile) (q : Fin 22) (idx : BitVec 20) (s : State) : Host.Outcome State Fault Refusal :=
  runA (completeA t q idx.toNat) s

end Sys2Proof.Machine
end

