-- ==== Sys2Proof/Machine/Rcx.lean ====
section
/-!
DEFINITION. Sys2Proof/Machine/Rcx.lean: what the engines with operands in their own tile share, and the RCX (R142, R150).
-/
namespace Sys2Proof.Machine

/-! ### Jobs in the own tile -/

/-- One output of a job: where it goes, its bytes and the poison of each. -/
structure JobOut where
  off : Nat
  bs  : List Byte
  psn : Nat → Bool

/-- The first of several own-tile ranges that is not served, with its status. -/
def firstBad (s : State) (t : Nat) : List (Nat × Nat) → Option (Nat × Nat)
  | [] => none
  | (off, n) :: l => if ownStatus s t off n = stOK then firstBad s t l else some (ownStatus s t off n, off)

/-- An engine reads its sources, writes its outputs and records the work (R136 to R138). A range that is not served ends it with
that range's status and nothing written. -/
def localJob (t q idx req : Nat) (fs : Finds) (srcs : List (Nat × Nat)) (outs : List JobOut) (count fp : Nat) : Act := fun s =>
  match firstBad s t (srcs ++ outs.map (fun o => (o.off, o.bs.length))) with
  | some (st, off) => modDesc t q idx (fun d => d.fail st (ownGlobal s t off)) s
  | none =>
    let bad := outs.any (fun o => (List.range o.bs.length).any o.psn)
    seqA [
      eachA (srcs.filter (fun r => r.2 ≠ 0)) (fun r => ownTouch t r.1 r.2 req fs),
      eachA outs (fun o => ownWrite t o.off o.bs o.psn req []),
      modDesc t q idx (fun d => ({ d with count := d.count + count, fp := d.fp ||| fp }).poisoned bad)] s

/-- R102: an own-tile array start is aligned to its container. -/
def alignOk (code off : Nat) : Bool := off % contAlign code == 0

/-! ### RCX (R150) -/

/-- The fields of an RCX descriptor. -/
structure RcxD where
  src   : Nat
  dst   : Nat
  count : Nat
  strd  : Nat
  nsrc  : Nat
  fsrc  : Nat
  fdst  : Nat
  mode  : Nat
  ssc   : Nat
  dsc   : Nat
  sstrd : Nat

/-- R150: the descriptor's fields. -/
def rcxD (bs : List Byte) : RcxD :=
  ⟨leAt bs 8 4, leAt bs 12 4, leAt bs 16 4, leAt bs 20 4, leAt bs 24 1, leAt bs 25 1, leAt bs 26 1, leAt bs 27 1,
    leAt bs 28 4, leAt bs 32 4, leAt bs 36 4⟩

/-- The offsets of the source arrays, and of their scale arrays. -/
def RcxD.srcs (d : RcxD) : List (Nat × Nat) :=
  (List.range (if d.nsrc = 1 then 1 else d.nsrc)).map (fun j => (d.src + j * d.strd, d.ssc + j * d.sstrd))

/-- The ranges an RCX job reads. -/
def RcxD.reads (d : RcxD) : List (Nat × Nat) :=
  d.srcs.map (fun p => (p.1, arrayBytes (fmtCode d.fsrc) d.count)) ++
  (if fmtMx d.fsrc then d.srcs.map (fun p => (p.2, ceilDiv d.count 32)) else [])

/-- R102, R106, R138, R142, R150: the post-time checks of an RCX descriptor. -/
def rcxCheck (t : Nat) (bs : List Byte) : Nat :=
  let d := rcxD bs
  let fmt := fmtBad d.fsrc || fmtBad d.fdst || modeBad d.mode || leAt bs 40 8 != 0
    || !d.srcs.all (fun p => alignOk (fmtCode d.fsrc) p.1) || !alignOk (fmtCode d.fdst) d.dst
  let len := d.count == 0 || decide (2 ^ 24 < d.count) || d.nsrc == 0 || decide (8 < d.nsrc)
  let rngs := d.reads ++ [(d.dst, arrayBytes (fmtCode d.fdst) d.count)] ++
    (if fmtMx d.fdst then [(d.dsc, ceilDiv d.count 32)] else [])
  let addr := if len then stOK else rngs.foldl (fun a r => stMerge a (ownPost t r.1 r.2)) stOK
  stMerge addr (stMerge (if fmt then stFmt else stOK) (if len then stLen else stOK))

/-- R150: integer sources are summed in INT64 with saturation. -/
def satI64 (x : Int) : Int := max (-(2 ^ 63)) (min (2 ^ 63 - 1) x)

/-- The integer value of an integer element. -/
def Val.toI : Val → Int
  | .fin n m e => alignTo n m e 0
  | _ => 0

/-- R115, R116: a W40 addition, with NV where +infinity meets −infinity. -/
def addW40F (a b : Nat) : Nat × Nat :=
  let x := decodeFloat w40 a
  let y := decodeFloat w40 b
  (addW40 a b, if x.add y = .nan ∧ x ≠ .nan ∧ y ≠ .nan then flNV else 0)

/-- R150: the sum of element values in array order: its value and flags. -/
def sumVals (wide : Bool) : List Val → Val × Nat
  | [] => (.zero, 0)
  | v :: vs =>
    if wide then
      let r := vs.foldl (fun (a : Nat × Nat) x => let z := addW40F a.1 (toW40 x); (z.1, a.2 ||| z.2)) (toW40 v, 0)
      (decodeFloat w40 r.1, r.2)
    else (Val.ofInt (vs.foldl (fun a x => satI64 (a + x.toI)) (satI64 v.toI)), 0)

/-- R150: what an RCX job writes. -/
def rcxOut (d : RcxD) (arrs : List Arr) : ArrOut :=
  let mx := fmtMx d.fdst
  match arrs with
  | [a] => convertArr a d.count (fmtCode d.fdst) mx d.mode
  | _ =>
    let wide := isFloat (fmtCode d.fsrc) || fmtMx d.fsrc
    let rs := (List.range d.count).map (fun i => sumVals wide (arrs.map (fun a => a.val i)))
    let o := encodeArr (fmtCode d.fdst) mx d.mode (rs.map (·.1)) (fun i => arrs.any (fun a => a.bad i))
    { o with flags := rs.foldl (fun a r => a ||| r.2) o.flags }

/-- R150: the RCX runs a descriptor. -/
def rcxRun (t idx : Nat) (bs : List Byte) (fs : Finds) : Act := fun s =>
  let d := rcxD bs
  let ws := (d.dst, arrayBytes (fmtCode d.fdst) d.count) :: (if fmtMx d.fdst then [(d.dsc, ceilDiv d.count 32)] else [])
  let step := arrayBytes (fmtCode d.fsrc) d.count + d.count
  let arrs := d.srcs.zipIdx.map (fun p =>
    ownArrMix s t p.1.1 p.1.2 (fmtCode d.fsrc) (fmtMx d.fsrc) d.count fs ws (s.free + p.2 * step))
  let o := rcxOut d arrs
  seqA [effA [.setFree (s.free + d.nsrc * step)],
    localJob t 2 idx 29 fs d.reads
      (⟨d.dst, o.data, o.psn⟩ :: (if fmtMx d.fdst then [⟨d.dsc, o.scl, o.spsn⟩] else [])) d.count o.flags] s

/-- R150: the RCX takes up its next descriptor. -/
def execRcxConvert (t : Tile) (ecc : List (Nat × Ecc)) (s : State) : Host.Outcome State Fault Refusal :=
  runA (takeDesc t 2 0x20 (fun _ bs => rcxCheck t bs) (fun idx bs => rcxRun t idx bs ecc)) s

end Sys2Proof.Machine
end

