-- ==== Sys2Proof/Machine/Cdx.lean ====
section
/-!
DEFINITION. Sys2Proof/Machine/Cdx.lean: the CDX: its table store (R258, R267 to R269), the checks and records of its decoder (R263 to
R265), the encoding of wire pieces (R259 to R261) and its descriptors (R266 to R269, R277).
-/
namespace Sys2Proof.Machine

/-! ### The table store (R258) -/

/-- The image in a slot; none where it is empty. -/
def slotImg (s : State) (t k : Nat) : List Byte := cdxTblAt s (t * 16 + k)

/-- The slots that hold a table. -/
def heldSlots (s : State) (t : Nat) : List Nat := (List.range 16).filter (fun k => slotImg s t k ≠ [])

/-- The tables of a store, table 0 apart. -/
def storeTbls (s : State) (t : Nat) : List Tbl := (heldSlots s t).map (fun k => tblOf (slotImg s t k))

/-- The table of a store with this TABLE_ID. -/
def tblNamed (s : State) (t id : Nat) : Option Tbl := if id = 0 then some tbl0 else (storeTbls s t).find? (fun x => x.id == id)

/-- The slot that holds a TABLE_ID. -/
def slotNamed (s : State) (t id : Nat) : Option Nat := (heldSlots s t).find? (fun k => (tblOf (slotImg s t k)).id == id)

/-- SLOT_VALID and a slot's register follow the store. -/
def slotRegs (t k : Nat) (img : List Byte) : Act := fun s =>
  let x := tblOf img
  let v := regOf s (tk t .CDX_STAT)
  let bit := BitVec.ofNat 64 (2 ^ (16 + k))
  if img = [] then [.reg (tk t .CDX_SLOT k) 0, .reg (tk t .CDX_STAT) (v &&& ~~~bit)]
  else [.reg (tk t .CDX_SLOT k)
      (BitVec.ofNat 64 (2 ^ 63 + x.unit % 16 * 2 ^ 52 + x.np % 16 * 2 ^ 48 + x.id * 2 ^ 32 + x.sum)),
    .reg (tk t .CDX_STAT) (v ||| bit)]

/-- A slot takes an image; the empty image empties it. -/
def putSlot (t k : Nat) (img : List Byte) : Act :=
  seqA [effA [.putCdxTbl (t * 16 + k) img], slotRegs t k img]

/-! ### Compressed transfers (R259, R260) -/

/-- R254, R259: a mode can be used with a table. -/
def modeOk (x : Tbl) (mode : Nat) : Bool := modeServed x mode && (mode != 4 || x.unit == qUnit x.qc)

/-- R259: the post-time status of CMODE and TABLE_ID; `aligned c` says that every address and length is a multiple of c. -/
def cmodePost (s : State) (t mode id : Nat) (aligned : Nat → Bool) : Nat :=
  if mode = 0 then stOK
  else if 4 < mode then stFmt
  else match tblNamed s t id with
    | none => stFmt
    | some x => if !modeOk x mode || (mode == 4 && !aligned (qUnit x.qc)) then stFmt else stOK

/-- How a wire piece travels: compressed or plain, its payload, the flags of its rounding, and what the encoder counts. -/
structure WirePiece where
  cb    : Bool
  bytes : List Byte
  flags : Nat
  eff   : List Eff

/-- R260: the encoder of a tile forms a wire piece; a piece with poisoned bytes is not encoded. -/
def wirePiece (s : State) (t mode id : Nat) (bs : List Byte) (psn : Bool) : WirePiece :=
  let plain := Eff.cnt (tk t .CDX_PLAIN_CNT) f_CDX_PLAIN_CNT_COUNT 1
  if mode = 0 then ⟨false, bs, 0, []⟩
  else if psn then ⟨false, bs, 0, [plain]⟩
  else match tblNamed s t id with
    | none => ⟨false, bs, 0, [plain]⟩
    | some x =>
      let e := encodeBlock x mode bs
      let inb := Eff.cnt (tk t .CDX_ENC_IN_BYTES) f_CDX_ENC_IN_BYTES_COUNT bs.length
      let fl := Eff.fld (tk t .TILE_FPFLAGS) f_TILE_FPFLAGS_CDX
      let q := qRound x bs
      let fl' := fun (g : Nat) => if g = 0 then [] else [fl (tfld s t .TILE_FPFLAGS f_TILE_FPFLAGS_CDX ||| g)]
      if e.block.length < bs.length then
        ⟨true, e.block, e.flags, [inb, .cnt (tk t .CDX_ENC_OUT_BYTES) f_CDX_ENC_OUT_BYTES_COUNT e.block.length,
          .cnt (tk t .CDX_RAW_PLANE_CNT) f_CDX_RAW_PLANE_CNT_COUNT e.raw] ++ fl' e.flags⟩
      else if mode = 4 then ⟨false, q.1.flatMap (leBytes (qUnit x.qc)), q.2, [inb, plain] ++ fl' q.2⟩
      else ⟨false, bs, 0, [inb, plain]⟩

/-! ### Failed checks (R264) -/

/-- R264: a block fails check `reason`: counted, _SEEN, the first failure recorded, and an event. -/
def cdxFail (t reason schip stile id : Nat) : Act := fun s =>
  let c : Eff :=
    match reason with
    | 1 => .cnt (tk t .CDX_HDR_ERR_CNT) f_CDX_HDR_ERR_CNT_COUNT 1
    | 2 => .cnt (tk t .CDX_TBL_ERR_CNT) f_CDX_TBL_ERR_CNT_COUNT 1
    | 3 => .cnt (tk t .CDX_DEC_ERR_CNT) f_CDX_DEC_ERR_CNT_COUNT 1
    | _ => .cnt (tk t .CDX_CRC_ERR_CNT) f_CDX_CRC_ERR_CNT_COUNT 1
  let info := 2 ^ 63 + reason * 2 ^ 60 + schip * 2 ^ 43 + stile * 2 ^ 34 + id * 2 ^ 18
  let held := regOf s (tk t .CDX_BAD_INFO)
  seqA [
    effA [c, .reg (tk t .CDX_STAT) (regOf s (tk t .CDX_STAT) ||| BitVec.ofNat 64 (2 ^ (reason - 1)))],
    whenA (held == 0) (effA [.reg (tk t .CDX_BAD_INFO) (BitVec.ofNat 64 info)]),
    raiseErr 0x020B 1 reason t (if held = 0 then info else held.toNat)] s

/-- What the decoder makes of one block: its bytes or poisoned zeros, and the failing check, 0 for none. -/
structure DecOut where
  out : List Byte
  psn : Bool
  why : Nat

/-- R263, R264: the decoder's outcome for a block of a packet: `room` is the distance from ADDR to the next 4 KiB boundary. -/
def decWire (s : State) (t len addr : Nat) (bs : List Byte) : DecOut :=
  match decodeBlock (storeTbls s t) (some (len, addr)) bs with
  | .ok out => ⟨out, false, 0⟩
  | .bad r => ⟨List.replicate (if r = 1 then 4096 - addr % 4096 else (hdrOf bs).ulen) 0, true, r⟩

/-- R264, R270: what the decoder counts for a block. -/
def decCount (t inb outb : Nat) : List Eff :=
  [.cnt (tk t .CDX_DEC_IN_BYTES) f_CDX_DEC_IN_BYTES_COUNT inb, .cnt (tk t .CDX_DEC_OUT_BYTES) f_CDX_DEC_OUT_BYTES_COUNT outb]

/-! ### COMPRESS (R266, R277) -/

/-- Bytes rounded up to a multiple of 16. -/
def up16 (n : Nat) : Nat := (n + 15) / 16 * 16

/-- R267: the post-time checks of COMPRESS. -/
def compressCheck (t : Nat) (s : State) (bs : List Byte) : Nat :=
  let src := leAt bs 8 4
  let dst := leAt bs 12 4
  let n := leAt bs 16 4
  let mode := leAt bs 20 1
  let len := n == 0 || decide (2 ^ 24 < n)
  let fmt := leAt bs 21 1 != 0 || leAt bs 24 24 != 0 || dst % 16 != 0 || mode == 0
    || cmodePost s t mode (leAt bs 22 2) (fun c => n % c == 0) != stOK
  let addr := if len then stOK else stMerge (ownPost t src n) (ownPost t dst (ceilDiv n 4096 * 4112))
  stMerge addr (stMerge (if fmt then stFmt else stOK) (if len then stLen else stOK))

/-- One block of COMPRESS: a poisoned source makes it stored. -/
def compressBlock (x : Tbl) (mode : Nat) (bs : List Byte) (psn : Bool) : Enc :=
  if psn then ⟨storedBlock bs, 0, bs, 0, 0⟩ else encodeBlock x mode bs

/-- R266, R277: COMPRESS runs. -/
def compressRun (t q idx : Nat) (bs : List Byte) (fs : Finds) : Act := fun s =>
  let src := leAt bs 8 4
  let dst := leAt bs 12 4
  let n := leAt bs 16 4
  let x := (tblNamed s t (leAt bs 22 2)).getD tbl0
  let data := (ownRead s t src n fs).bytes
  let blocks := (chunks 4096 (n + 1) data).zipIdx.map (fun p =>
    let bad := (List.range p.1.length).any (fun k => ownPsn s t src fs (4096 * p.2 + k))
    (compressBlock x (leAt bs 20 1) p.1 bad, bad, p.2))
  let offs := fun (b : Nat) => ((blocks.take b).map (fun e => up16 e.1.block.length)).foldl (· + ·) 0
  let total := match blocks.getLast? with
    | some e => offs e.2.2 + e.1.block.length
    | none => 0
  let stream := sliceZ (blocks.flatMap (fun e => sliceZ e.1.block 0 (up16 e.1.block.length))) 0 total
  let psn := fun (k : Nat) => blocks.any (fun e =>
    e.2.1 && decide (offs e.2.2 + 16 ≤ k) && decide (k < offs e.2.2 + e.1.block.length)
      && ownPsn s t src fs (4096 * e.2.2 + (k - offs e.2.2 - 16)))
  let flags := blocks.foldl (fun a e => a ||| e.1.flags) 0
  let sum := fun (f : Enc → Nat) => blocks.foldl (fun a e => a + f e.1) 0
  seqA [
    localJob t q idx 28 fs [(src, n)] [⟨dst, stream, psn⟩] total flags,
    whenA (firstBad s t [(src, n), (dst, total)]).isNone (effA [
      .cnt (tk t .CDX_ENC_IN_BYTES) f_CDX_ENC_IN_BYTES_COUNT n,
      .cnt (tk t .CDX_ENC_OUT_BYTES) f_CDX_ENC_OUT_BYTES_COUNT (sum (·.block.length)),
      .cnt (tk t .CDX_PLAIN_CNT) f_CDX_PLAIN_CNT_COUNT (sum (fun e => b2n (e.mode == 0))),
      .cnt (tk t .CDX_RAW_PLANE_CNT) f_CDX_RAW_PLANE_CNT_COUNT (sum (·.raw))])] s

/-! ### DECOMPRESS (R265) -/

/-- R267: the post-time checks of DECOMPRESS. -/
def decompressCheck (t : Nat) (bs : List Byte) : Nat :=
  let src := leAt bs 8 4
  let dst := leAt bs 12 4
  let n := leAt bs 16 4
  let len := n == 0 || decide (4096 < n)
  let fmt := leAt bs 20 28 != 0 || src % 16 != 0
  let addr := if len then stOK else stMerge (ownPost t src (n * 4112)) (ownPost t dst (n * 4096))
  stMerge addr (stMerge (if fmt then stFmt else stOK) (if len then stLen else stOK))

/-- One block of a walk: its output, poison by byte, failing check, TABLE_ID, and the source bytes it took. -/
structure WalkBlk where
  out : List Byte
  psn : Nat → Bool
  why : Nat
  id  : Nat
  inb : Nat

/-- R265: the walk over `n` blocks from a source offset. -/
def walkBlocks (s : State) (t : Nat) (fs : Finds) : Nat → Nat → List WalkBlk
  | 0, _ => []
  | n + 1, off =>
    let raw := (ownRead s t off 4112 []).bytes
    let h := hdrOf raw
    match decodeBlock (storeTbls s t) none raw with
    | .bad 1 => List.replicate (n + 1) ⟨List.replicate 4096 0, fun _ => true, 1, h.id, 0⟩
    | .bad r => ⟨List.replicate h.ulen 0, fun _ => true, r, h.id, h.clen⟩ :: walkBlocks s t fs n (off + up16 h.clen)
    | .ok out =>
      let bad := fun (k : Nat) => ownPsn s t off fs k
      let whole := (List.range h.clen).any bad
      ⟨out, if h.mode = 0 then fun k => bad (16 + k) || bad 0 else fun _ => whole, 0, h.id, h.clen⟩
        :: walkBlocks s t fs n (off + up16 h.clen)

/-- R265, R277: DECOMPRESS runs; a header failure is recorded once, for the block it stops at. -/
def decompressRun (t q idx : Nat) (bs : List Byte) (fs : Finds) : Act := fun s =>
  let src := leAt bs 8 4
  let dst := leAt bs 12 4
  let n := leAt bs 16 4
  let ws := walkBlocks s t fs n src
  let offs := fun (b : Nat) => ((ws.take b).map (fun w => w.out.length)).foldl (· + ·) 0
  let took := (ws.map (fun w => up16 w.inb)).foldl (· + ·) 0
  let outs := ws.zipIdx.map (fun p => (⟨dst + offs p.2, p.1.out, p.1.psn⟩ : JobOut))
  let fails := (ws.takeWhile (fun w => w.why ≠ 1)).filter (fun w => w.why ≠ 0) ++ (ws.find? (fun w => w.why == 1)).toList
  seqA [
    localJob t q idx 28 fs [(src, max 16 took)] outs (offs ws.length) 0,
    whenA (firstBad s t ((src, max 16 took) :: outs.map (fun o => (o.off, o.bs.length)))).isNone (seqA [
      effA (decCount t ((ws.map (·.inb)).foldl (· + ·) 0) (offs ws.length)),
      eachA fails (fun w => cdxFail t w.why (chipId s) t w.id)])] s

/-! ### Tables (R267 to R269) -/

/-- The TABLE_ID that a descriptor names. -/
def descNames (bs : List Byte) : Option Nat :=
  match leAt bs 0 1 with
  | 0x01 => if leAt bs 40 1 ≠ 0 then some (leAt bs 42 2) else none
  | 0x40 => if leAt bs 26 1 ≠ 0 then some (leAt bs 28 2) else none
  | 0x42 => if leAt bs 26 1 ≠ 0 then some (leAt bs 28 2) else none
  | 0x60 => some (leAt bs 22 2)
  | 0x62 => some (leAt bs 20 2)
  | 0x64 => some (leAt bs 8 2)
  | _ => none

/-- R269: the descriptors of a queue that have not completed and were posted before the producer index `pi`. -/
def openBefore (s : State) (t q pi : Nat) : List (List Byte) :=
  let k := queueOf s t q
  let ci := qCI s t q
  let before := fun (i : Nat) => decide (idxDiff i ci < idxDiff pi ci)
  (k.run.filter (fun d => !d.refused && before d.idx)).map (·.raw) ++
  ((List.range (idxDiff pi k.next % 4097)).map (fun i => (k.next + i) % 65536)).filterMap (fun i =>
    if before i then some (memRead s (.cm t (descSlot s t q i)) (descBytes q) []).bytes else none)

/-- R269: nothing that names the ID of a request and was posted before it is still open. -/
def tblDrained (s : State) (t : Nat) (r : TblReq) : Bool :=
  r.seen.all (fun e => (openBefore s t e.1 e.2).all (fun bs => descNames bs ≠ some r.id))

/-- The producer indices of the queues when a descriptor of a CDX queue was posted; those now, where no mark names it. -/
def postedAt (s : State) (t q idx : Nat) : List (Nat × Nat) :=
  match (cdxMarkAt s (queueKey t q)).find? (fun m => idxDiff idx m.first < m.count) with
  | some m => m.seen.map (fun e => if e.1 = q then (q, idx) else e)
  | none => tblQueues.map (fun x => (x, if x = q then idx else qPI s t x))

/-- R269: a load, or with no image an eviction, waits. -/
def askTbl (t q idx id : Nat) (img : List Byte) : Act := fun s =>
  seqA [effA [.putCdxReq t (cdxReqAt s t ++ [⟨q, idx, id, img, postedAt s t q idx⟩])],
    modDesc t q idx (fun d => { d with ext := .tbl })] s

/-- R267: the post-time checks of TBL_BUILD. -/
def buildCheck (t : Nat) (bs : List Byte) : Nat :=
  let src := leAt bs 8 4
  let img := leAt bs 12 4
  let n := leAt bs 16 4
  let unit := leAt bs 22 1
  let qc := leAt bs 24 1
  let len := n == 0 || decide (2 ^ 24 < n)
  let fmt := leAt bs 26 22 != 0 || decide (16 ≤ leAt bs 23 1) || img % 16 != 0 || leAt bs 20 2 == 0
    || !(unit == 1 || unit == 2 || unit == 4 || unit == 8) || decide (3 < qc) || decide (qM qc ≤ leAt bs 25 1)
  let out := imgLen (if bitOf (leAt bs 23 1) 3 then unit else 0)
  let addr := if len then stOK else stMerge (ownPost t src n) (ownPost t img out)
  stMerge addr (stMerge (if fmt then stFmt else stOK) (if len then stLen else stOK))

/-- R268: TBL_BUILD runs: the image is written, and asked to be loaded where LOAD is 1. -/
def buildRun (t q idx : Nat) (bs : List Byte) (fs : Finds) : Act := fun s =>
  let src := leAt bs 8 4
  let n := leAt bs 16 4
  let fl := leAt bs 23 1
  let img := buildImage (ownRead s t src n fs).bytes (leAt bs 20 2) (leAt bs 22 1) (leAt bs 24 1) (leAt bs 25 1)
    (bitOf fl 0) (bitOf fl 1) (bitOf fl 3)
  let bad := (List.range n).any (ownPsn s t src fs)
  seqA [
    localJob t q idx 28 fs [(src, n)] [⟨leAt bs 12 4, img, fun _ => bad⟩] img.length 0,
    whenA (bitOf fl 2 && (firstBad s t [(src, n), (leAt bs 12 4, img.length)]).isNone) (askTbl t q idx (leAt bs 20 2) img)] s

/-- The image at an own-tile offset. -/
def imageAt (s : State) (t off : Nat) : List Byte :=
  let np := leAt (ownRead s t off 16 []).bytes 5 1
  (ownRead s t off (imgLen (min np 8)) []).bytes

/-- R267: the post-time checks of TBL_LOAD, which read the image. -/
def loadCheck (t : Nat) (s : State) (bs : List Byte) : Nat :=
  let off := leAt bs 8 4
  let img := imageAt s t off
  let x := tblOf img
  let fmt0 := leAt bs 12 36 != 0 || off % 16 != 0
  let addr := stMerge (ownPost t off 16) (ownPost t off (imgLen (min x.np 8)))
  let fmt1 := addr == stOK && (!tblFieldsOk x || imgSum img != x.sum || x.id == 0)
  stMerge addr (if fmt0 || fmt1 then stFmt else stOK)

/-- R269: TBL_LOAD asks for the load of an image. -/
def loadRun (t q idx : Nat) (bs : List Byte) (fs : Finds) : Act := fun s =>
  let off := leAt bs 8 4
  let img := imageAt s t off
  seqA [ownTouch t off img.length 28 fs, askTbl t q idx (tblOf img).id img] s

/-- R267: the post-time checks of TBL_EVICT. -/
def evictCheck (bs : List Byte) : Nat := if leAt bs 10 38 ≠ 0 ∨ leAt bs 8 2 = 0 then stFmt else stOK

/-- R269: a load or an eviction takes effect. A new table takes one of the empty slots, which the spec leaves open. -/
def switchTbl (t : Nat) (r : TblReq) : Act := fun s =>
  let finish (st : Nat) : Act := seqA [
    fun s => [.putCdxReq t ((cdxReqAt s t).filter (fun e => !(e.q == r.q && e.idx == r.idx)))],
    modDesc t r.q r.idx (fun d => { d with status := stMerge d.status st, ext := .none })]
  match slotNamed s t r.id with
  | some k =>
    if r.img ≠ [] ∧ (tblOf (slotImg s t k)).sum = (tblOf r.img).sum then finish stOK s
    else seqA [putSlot t k r.img, finish stOK] s
  | none =>
    if r.img = [] then finish stOK s
    else
      let empty := (List.range 16).filter (fun k => slotImg s t k = [])
      if empty = [] then finish stLen s
      else
        let k := (empty.drop ((Config.freeWord s.free).toNat % empty.length)).headD 0
        seqA [effA [.setFree (s.free + 1)], putSlot t k r.img, finish stOK] s

/-- R269: the drain of a waiting load or eviction is over. -/
def tblSwitchA (t q idx : Nat) : Act := fun s =>
  match (cdxReqAt s t).find? (fun r => r.q == q && r.idx == idx) with
  | some r => if tblDrained s t r then switchTbl t r s else []
  | none => []

/-! ### The commands -/

/-- R153: CDX0 and CDX1 are served in turn while both hold work. -/
def cdxTurn (t q : Nat) (a : Act) : Act := fun s =>
  let other := if q = 3 then 8 else 3
  let k := queueOf s t q
  let o := queueOf s t other
  let waits := fun (x : QueueSt) (q : Nat) => x.next != qPI s t q && tfld s t .Q_DESC f_Q_DESC_ENABLE q == 1
  if waits k q && waits o other && cdxLastAt s t == q then []
  else
    let es := a s
    if es = [] then [] else es ++ [.putCdxLast t q]

/-- The CDX queue that a command names: CDX0 or, where `one`, CDX1. -/
def cdxQ (one : Bool) : Nat := if one then 8 else 3

/-- R266: COMPRESS. -/
def execCdxCompress (t : Tile) (one : Bool) (ecc : List (Nat × Ecc)) (s : State) : Host.Outcome State Fault Refusal :=
  let q := cdxQ one
  runA (cdxTurn t q (takeDesc t q 0x60 (compressCheck t) (fun idx bs => compressRun t q idx bs ecc))) s

/-- R265: DECOMPRESS. -/
def execCdxDecompress (t : Tile) (one : Bool) (ecc : List (Nat × Ecc)) (s : State) : Host.Outcome State Fault Refusal :=
  let q := cdxQ one
  runA (cdxTurn t q (takeDesc t q 0x61 (fun _ bs => decompressCheck t bs) (fun idx bs => decompressRun t q idx bs ecc))) s

/-- R268: TBL_BUILD. -/
def execCdxTblBuild (t : Tile) (one : Bool) (ecc : List (Nat × Ecc)) (s : State) : Host.Outcome State Fault Refusal :=
  let q := cdxQ one
  runA (cdxTurn t q (takeDesc t q 0x62 (fun _ bs => buildCheck t bs) (fun idx bs => buildRun t q idx bs ecc))) s

/-- R269: TBL_LOAD. -/
def execCdxTblLoad (t : Tile) (one : Bool) (ecc : List (Nat × Ecc)) (s : State) : Host.Outcome State Fault Refusal :=
  let q := cdxQ one
  runA (cdxTurn t q (takeDesc t q 0x63 (loadCheck t) (fun idx bs => loadRun t q idx bs ecc))) s

/-- R269: TBL_EVICT. -/
def execCdxTblEvict (t : Tile) (one : Bool) (s : State) : Host.Outcome State Fault Refusal :=
  let q := cdxQ one
  runA (cdxTurn t q (takeDesc t q 0x64 (fun _ bs => evictCheck bs) (fun idx bs => askTbl t q idx (leAt bs 8 2) []))) s

/-- R269: a table switch. -/
def execTblSwitch (t : Tile) (one : Bool) (idx : BitVec 16) (s : State) : Host.Outcome State Fault Refusal :=
  runA (tblSwitchA t (cdxQ one) idx.toNat) s

end Sys2Proof.Machine
end

