-- ==== Sys2Proof/Machine/Dmv.lean ====
section
/-!
DEFINITION. Sys2Proof/Machine/Dmv.lean: transfers by pieces (R187, R259 to R261) and the DMV's COPY and FILL (R140, R141, R160, R161).
-/
namespace Sys2Proof.Machine

/-! ### Transfers -/

/-- The engine side of a transfer: its tile, queue and descriptor, the class and route mode of its packets, its compression mode
and table, and whether it reaches its own CM and vault directly (an engine of the tile) or only through the NIU. -/
structure Xfer where
  t    : Nat
  q    : Nat
  idx  : Nat
  tc   : Nat
  rm   : Nat
  mode : Nat
  tbl  : Nat
  own  : Bool
deriving DecidableEq, Repr

/-- A packet of a transfer joins the NIU, and its descriptor waits for one more answer. -/
def Xfer.push (x : Xfer) (p : BnPkt) (o : Owner) : Act :=
  seqA [niuPush x.t ⟨p, 24 + x.q, o⟩, modDesc x.t x.q x.idx (fun d => { d with pend := d.pend + 1 })]

/-- The requester index of an engine at the banks of its tile (R131): DMV channels 30 to 33, NQ and AMQ through the NIU 35. -/
def Xfer.req (x : Xfer) : Nat := if 4 ≤ x.q ∧ x.q ≤ 7 then 26 + x.q else 35

/-- The POISON of each flit of a payload, from the poison of its bytes. -/
def flitsOf (n : Nat) (psn : Nat → Bool) : List Bool :=
  (List.range (ceilDiv n 64)).map (fun f => (List.range (min 64 (n - 64 * f))).any (fun k => psn (64 * f + k)))

/-- R187, R260: one piece of a write to a global address. -/
def Xfer.wrPiece (x : Xfer) (g : Nat) (bs : List Byte) (psn : Nat → Bool) : Act := fun s =>
  let bad := (List.range bs.length).any psn
  match mapGlobal s (some x.t) g with
  | .cm t' o => if x.own ∧ t' = x.t ∧ x.mode = 0 then direct s (.cm t' o) bad else packet s bad
  | .vlt t' o => if x.own ∧ t' = x.t ∧ x.mode = 0 then direct s (.vlt t' o) bad else packet s bad
  | _ => packet s bad
where
  /-- The piece is written in the own tile. -/
  direct (s : State) (p : Place) (bad : Bool) : List Eff :=
    let st := memStatus s p
    if st ≠ stOK then modDesc x.t x.q x.idx (fun d => d.fail st g) s
    else seqA [memStore p bs psn [] none, bankGrants x.t p bs.length x.req,
      modDesc x.t x.q x.idx (fun d => ({ d with count := d.count + bs.length }).poisoned bad)] s
  /-- The piece leaves as a packet. -/
  packet (s : State) (bad : Bool) : List Eff :=
    match encGlobal s (some x.t) g with
    | none => modDesc x.t x.q x.idx (fun d => d.fail stAddr g) s
    | some (chip, dt, ad) =>
      let w := wirePiece s x.t x.mode x.tbl bs bad
      let fl := flitsOf w.bytes.length (fun k => if w.cb then false else psn k)
      seqA [effA w.eff,
        x.push (mkBn s x.t (if w.cb then opWrCb else opWr) x.tc x.rm chip dt ad w.bytes.length w.bytes fl) (.piece x.q x.idx g),
        modDesc x.t x.q x.idx (fun d => { d with fp := d.fp ||| (if x.q ≤ 8 then w.flags else 0) })] s

/-- R187: bytes are written to a global address, piece by piece. -/
def Xfer.write (x : Xfer) (g : Nat) (bs : List Byte) (psn : Nat → Bool) : Act := fun s =>
  eachA (pieces s g bs.length) (fun p => x.wrPiece (g + p.1) ((bs.drop p.1).take p.2) (fun k => psn (p.1 + k))) s

/-- How far a range from a global address stays in one memory of one tile. -/
def runLen (s : State) (g n : Nat) : Nat :=
  let a := g % 2 ^ 47
  if g / 2 ^ 47 ≠ chipId s then n
  else if a < nTiles s * vaultSize then
    (if striped s then min n (stripeSize s - a % stripeSize s) else min n (vaultSize - a % vaultSize))
  else match mapLocal s none a with
    | .cm _ o => min n (cmSize - o)
    | _ => n

/-- The runs of a range: the offset and length of each. -/
def runsFrom (s : State) (g : Nat) : Nat → Nat → Nat → List (Nat × Nat)
  | 0, _, _ => []
  | k + 1, off, n =>
    if n = 0 then []
    else let z := max 1 (runLen s (g + off) n); (off, z) :: runsFrom s g k (off + z) (n - z)

/-- R187: read requests for a range at a global address, each answer to be written on to `dst`. -/
def Xfer.rdPieces (x : Xfer) (g dst n : Nat) : Act := fun s =>
  eachA (pieces s g n) (fun p => fun s =>
    match encGlobal s (some x.t) (g + p.1) with
    | none => modDesc x.t x.q x.idx (fun d => d.fail stAddr (g + p.1)) s
    | some (chip, dt, ad) =>
      x.push (mkBn s x.t opRdReq x.tc x.rm chip dt ad p.2 [] []) (.readTo x.q x.idx (dst + p.1) (g + p.1)) s) s

/-- One run of a copy from a global address to another: read in the own tile, or asked for. -/
def Xfer.copyRun (x : Xfer) (src dst n : Nat) (fs : Finds) (ov : Nat → Bool) : Act := fun s =>
  let direct (p : Place) : List Eff :=
    let r := memRead s p n fs
    if r.st ≠ stOK then modDesc x.t x.q x.idx (fun d => d.fail r.st src) s
    else
      seqA [effA r.eff, bankGrants x.t p n x.req,
        whenA ((List.range n).any ov) (effA [.setFree (s.free + n)]),
        x.write dst (mixBytes s.free ov r.bytes) (psnAt s p fs)] s
  match mapGlobal s (some x.t) src with
  | .cm t' o => if t' = x.t then direct (.cm t' o) else x.rdPieces src dst n s
  | .vlt t' o => if t' = x.t then direct (.vlt t' o) else x.rdPieces src dst n s
  | _ => x.rdPieces src dst n s

/-- A row of a copy. -/
def Xfer.copyRow (x : Xfer) (src dst n : Nat) (fs : Finds) (ov : Nat → Bool) : Act := fun s =>
  eachA (runsFrom s src (n + 1) 0 n) (fun r => x.copyRun (src + r.1) (dst + r.1) r.2 fs (fun k => ov (src + r.1 + k))) s

/-! ### DMV descriptors (R140) -/

/-- The fields of a DMV descriptor. -/
structure DmvD where
  src  : Nat
  dst  : Nat
  len  : Nat
  rows : Nat
  ss   : Nat
  ds   : Nat
  mode : Nat
  tbl  : Nat

/-- R140: the descriptor's fields. -/
def dmvD (bs : List Byte) : DmvD :=
  ⟨leAt bs 8 8, leAt bs 16 8, leAt bs 24 4, leAt bs 28 4, leAt bs 32 4, leAt bs 36 4, leAt bs 40 1, leAt bs 42 2⟩

/-- The start of a row. -/
def rowAt (base stride r : Nat) : Nat := (base + r * stride) % 2 ^ 64

/-- R259: a compressed transfer must not go to registers or the host window. -/
def cmodeDst (s : State) (t mode g : Nat) : Nat :=
  if mode = 0 then stOK
  else match mapLocal s (some t) (g % 2 ^ 47) with
    | .cm _ _ => stOK
    | .vlt _ _ => stOK
    | _ => stAddr

/-- R64, R66, R138, R140, R141, R259: the post-time checks of a COPY or FILL. -/
def dmvCheck (t : Nat) (fill : Bool) (s : State) (bs : List Byte) : Nat :=
  let d := dmvD bs
  let len := decide (0x1000000 < d.len) || d.rows == 0 || decide (65536 < d.rows) || decide (2 ^ 32 < d.len * d.rows)
    || (fill && d.len % 8 != 0)
  let mbz := leAt bs 41 1 != 0 || leAt bs 44 4 != 0 || (fill && (d.ss != 0 || leAt bs 40 8 != 0))
  let cm := if fill then stOK
    else stMerge (cmodePost s t d.mode d.tbl (fun c =>
      d.src % c == 0 && d.dst % c == 0 && d.len % c == 0 && d.ss % c == 0 && d.ds % c == 0)) (cmodeDst s t d.mode d.dst)
  let addr := if len ∨ d.len = 0 then stOK
    else (List.range d.rows).foldl (fun a r =>
      stMerge a (stMerge (if fill then stOK else rangeStatus s t (rowAt d.src d.ss r) d.len)
        (rangeStatus s t (rowAt d.dst d.ds r) d.len))) stOK
  stMerge addr (stMerge cm (stMerge (if mbz then stFmt else stOK) (if len then stLen else stOK)))

/-- R174: the class and route mode of a DMV channel. -/
def dmvTc (s : State) (t ch : Nat) : Nat := bitsOf (regOf s (tk t .NIU_CFG)).toNat (32 + 2 * ch) 2
def dmvRm (s : State) (t ch : Nat) : Nat := bitsOf (regOf s (tk t .NIU_CFG)).toNat (40 + 2 * ch) 2

/-- The transfer of a DMV descriptor. -/
def dmvXfer (s : State) (t q idx : Nat) (d : DmvD) (fill : Bool) : Xfer :=
  ⟨t, q, idx, dmvTc s t (q - 4), dmvRm s t (q - 4), if fill then 0 else d.mode, if fill then 0 else d.tbl, true⟩

/-- R161: a byte of the source lies where the descriptor writes, and the two are not the same array. -/
def DmvD.overlaps (d : DmvD) (g : Nat) : Bool :=
  !(d.src == d.dst && d.ss == d.ds) &&
  (List.range d.rows).any (fun r => decide (rowAt d.dst d.ds r ≤ g) && decide (g < rowAt d.dst d.ds r + d.len))

/-- R140: COPY runs, row by row. -/
def copyA (t q idx : Nat) (bs : List Byte) (fs : Finds) : Act := fun s =>
  let d := dmvD bs
  let x := dmvXfer s t q idx d false
  eachA (List.range d.rows) (fun r => x.copyRow (rowAt d.src d.ss r) (rowAt d.dst d.ds r) d.len fs d.overlaps) s

/-- R140: FILL runs, row by row. -/
def fillA (t q idx : Nat) (bs : List Byte) : Act := fun s =>
  let d := dmvD bs
  let x := dmvXfer s t q idx d true
  let row := (List.replicate (d.len / 8) (leBytes 8 d.src)).flatten
  eachA (List.range d.rows) (fun r => x.write (rowAt d.dst d.ds r) row (fun _ => false)) s

/-- R140: DMV channel `ch` takes up a COPY. -/
def execDmvCopy (t : Tile) (ch : Fin 4) (ecc : List (Nat × Ecc)) (s : State) : Host.Outcome State Fault Refusal :=
  runA (takeDesc t (4 + ch.val) 0x01 (dmvCheck t false) (fun idx bs => copyA t (4 + ch.val) idx bs ecc)) s

/-- R140: DMV channel `ch` takes up a FILL. -/
def execDmvFill (t : Tile) (ch : Fin 4) (s : State) : Host.Outcome State Fault Refusal :=
  runA (takeDesc t (4 + ch.val) 0x02 (dmvCheck t true) (fun idx bs => fillA t (4 + ch.val) idx bs)) s

/-- R139: a write of CTRL.ABORT to a queue. -/
def execQueueAbort (who : Requester) (t : Tile) (q : Fin 22) (s : State) : Host.Outcome State Fault Refusal :=
  runA (abortA who t q.val) s

end Sys2Proof.Machine
end

