-- ==== Sys2Proof/Machine/Beacon.lean ====
section
/-!
DEFINITION. Sys2Proof/Machine/Beacon.lean: Beacon transfers: posting, granting the buses, the beats at each tap, the summary (R280 to R292,
R300, R306 to R308, R387), and how a BEACON or TAPER reads its source.
-/
namespace Sys2Proof.Machine

/-! ### Source bytes -/

/-- The key of a descriptor's source bytes. -/
def srcKey (t q idx : Nat) : Nat := queueKey t q * 65536 + idx

/-- Source bytes have been read. -/
def srcPut (t q idx : Nat) (c : SrcChunk) : Act := fun s =>
  [.putSrcBuf (srcKey t q idx) (srcBufAt s (srcKey t q idx) ++ [c])]

/-- R291: a source range that could not be read: its bytes are sent as zeros with POISON set. -/
def srcFail (t q idx off n st addr : Nat) : Act :=
  seqA [modDesc t q idx (fun d => d.fail st addr),
    srcPut t q idx ⟨off, List.replicate n 0, List.replicate (ceilDiv n 64) true⟩]

/-- One run of a source: read in the own tile, or asked for. -/
def srcRun (x : Xfer) (src off n : Nat) (fs : Finds) : Act := fun s =>
  let direct (p : Place) : List Eff :=
    let r := memRead s p n fs
    if r.st ≠ stOK then srcFail x.t x.q x.idx off n r.st src s
    else seqA [effA r.eff, bankGrants x.t p n x.req, srcPut x.t x.q x.idx ⟨off, r.bytes, flitPsn s p n fs⟩] s
  let ask : Act := fun s =>
    eachA (pieces s src n) (fun p => fun s =>
      match encGlobal s (some x.t) (src + p.1) with
      | none => srcFail x.t x.q x.idx (off + p.1) p.2 stAddr (src + p.1) s
      | some (chip, dt, ad) =>
        x.push (mkBn s x.t opRdReq x.tc x.rm chip dt ad p.2 [] []) (.srcTo x.q x.idx (off + p.1) (src + p.1)) s) s
  match mapGlobal s (some x.t) src with
  | .cm t' o => if t' = x.t then direct (.cm t' o) else ask s
  | .vlt t' o => if t' = x.t then direct (.vlt t' o) else ask s
  | _ => ask s

/-- A source is read. -/
def srcRead (x : Xfer) (src n : Nat) (fs : Finds) : Act := fun s =>
  eachA (runsFrom s src (n + 1) 0 n) (fun r => srcRun x (src + r.1) r.1 r.2 fs) s

/-- A byte of a source with its poison, where it has been read. -/
def srcByte (cs : List SrcChunk) (i : Nat) : Option (Byte × Bool) :=
  match cs.find? (fun c => decide (c.off ≤ i) && decide (i < c.off + c.bs.length)) with
  | some c => some ((c.bs[i - c.off]?).getD 0, (c.psn[(i - c.off) / 64]?).getD false)
  | none => none

/-- R285: beat k of a source of `n` bytes, where all of its bytes have been read: its bytes within `n`, and its POISON. -/
def srcBeat (cs : List SrcChunk) (n k : Nat) : Option (List Byte × Bool) :=
  let b := (List.range (min 32 (n - 32 * k))).map (fun j => srcByte cs (32 * k + j))
  if b.all (·.isSome) then some (b.filterMap (fun x => x.map (·.1)), b.any (fun x => (x.map (·.2)).getD false)) else none

/-! ### BEACON descriptors (R282, R283) -/

/-- The fields of a BEACON. -/
structure BcnD where
  src   : Nat
  len   : Nat
  off   : Nat
  bus   : Nat
  chan  : Nat
  plog  : Nat
  rows  : Nat
  pflag : Nat

/-- R282: the descriptor's fields. -/
def bcnD (bs : List Byte) : BcnD :=
  ⟨leAt bs 8 8, leAt bs 16 4, leAt bs 20 4, leAt bs 24 1, leAt bs 25 1, leAt bs 26 1, leAt bs 28 2, leAt bs 32 8⟩

/-- The bytes of a piece; the whole transfer where PIECE_LOG2 is 0. -/
def BcnD.piece (d : BcnD) : Nat := if d.plog = 0 then max 1 d.len else 2 ^ d.plog

/-- The pieces of a transfer. -/
def BcnD.pieces (d : BcnD) : Nat := ceilDiv d.len d.piece

/-- The DATA beats of a transfer. -/
def BcnD.beats (d : BcnD) : Nat := ceilDiv d.len 32

/-- R283: the post-time checks. -/
def bcnCheck (t : Nat) (s : State) (bs : List Byte) : Nat :=
  let d := bcnD bs
  let plogBad := (decide (1 ≤ d.plog) && decide (d.plog ≤ 5)) || decide (23 < d.plog)
  let fmt := decide (2 < d.bus) || decide (63 < d.chan) || plogBad || d.off % 64 != 0 || decide (cmSize ≤ d.off)
    || (d.bus != 2 && d.rows != 0) || leAt bs 27 1 != 0 || leAt bs 30 2 != 0 || leAt bs 40 8 != 0
  let len := decide (2 ^ 24 < d.len) || (!plogBad && decide (256 < d.pieces))
  stMerge (if len then stOK else rangeStatus s t d.src d.len) (stMerge (if fmt then stFmt else stOK) (if len then stLen else stOK))

/-! ### Buses (R280, R284, R371) -/

/-- The bus points that a transfer takes, in order. -/
def bcnBuses (t : Nat) (d : BcnD) : List Nat :=
  let own := 48 + tileY t
  if d.bus = 0 then [own]
  else if d.bus = 1 then [64 + tileX t]
  else 96 :: own :: ((List.range 16).filter (fun y => bitOf d.rows y && 48 + y != own)).map (fun y => 48 + y)

/-- R371: a source's requester index at a bus point. -/
def busReq (t bus p : Nat) : Nat :=
  if p = 96 then t else if p < 64 then (if bus = 2 then 32 else tileX t) else tileY t

/-- The tiles with a tap on a transfer's reach. -/
def bcnReach (s : State) (t : Nat) (d : BcnD) : List Nat :=
  if d.bus = 0 then (List.range (gridW s)).map (fun x => tileAt x (tileY t))
  else if d.bus = 1 then (List.range 16).map (fun y => tileAt (tileX t) y)
  else (allTiles s).filter (fun u => bitOf d.rows (tileY u))

/-- R44, R654: a tap does not hear a source: its tile is down, or a repeater in the rows between them has stopped. -/
def bcnAway (s : State) (t u : Nat) : Bool :=
  tileDown s u || (List.range 16).any (fun y =>
    decide (min (tileY t) (tileY u) ≤ y ∧ y ≤ max (tileY t) (tileY u)) && rowStopped s y)

/-- The key of the tap state that a transfer meets at a tile: row bus and spine transfers arrive on the row bus (R287). -/
def tapKey (u bus : Nat) : Nat := 2 * u + (if bus = 1 then 1 else 0)

/-- The BEACON that a DMV channel runs. -/
def bcnOf (s : State) (t ch : Nat) : Option (Desc × BcnX) :=
  (queueOf s t (4 + ch)).run.findSome? (fun d =>
    match d.ext with
    | .beacon b => some (d, b)
    | _ => none)

/-- A BEACON's transfer takes a new state. -/
def bcnPut (t ch : Nat) (d : Desc) (b : BcnX) : Act := modDesc t (4 + ch) d.idx (fun e => { e with ext := .beacon b })

/-- The bus point that a waiting transfer needs next. -/
def busNext (t : Nat) (d : BcnD) (b : BcnX) : Option Nat :=
  if b.started then none else (bcnBuses t d).find? (fun p => !b.held.contains p)

/-- The point's request of a transfer. -/
def bcnReq (s : State) (t p : Nat) (d : BcnD) : ArbReqst := ⟨busReq t d.bus p, 0, epochNow s, max 1 d.beats⟩

/-- The transfers that wait at a bus point. -/
def bcnRivals (s : State) (p : Nat) : List ArbReqst :=
  s.queues.filterMap (fun e =>
    let t := e.1 / 22
    let q := e.1 % 22
    if 4 ≤ q ∧ q ≤ 7 then
      match bcnOf s t (q - 4) with
      | some (d, b) => if busNext t (bcnD d.raw) b = some p then some (bcnReq s t p (bcnD d.raw)) else none
      | none => none
    else none)

/-- The point is free. -/
def busFreeNow (s : State) (p : Nat) : Bool := !bitOf (regOf s (dk .BCN_DEV_HELD)).toNat (busBit p)

/-- R284, R285: a transfer takes its next bus where its point grants it; with the last one it reads its source and places START. -/
def bcnGrantA (t ch waited : Nat) (fs : Finds) : Act := fun s =>
  match bcnOf s t ch with
  | none => []
  | some (d, b) =>
    let x := bcnD d.raw
    match busNext t x b with
    | none => []
    | some p =>
      let req := bcnReq s t p x
      if !busFreeNow s p || (arbWinner s 512 p (bcnRivals s p)).map (·.idx) != some req.idx || engineStopped s t
          || holdTraffic s then []
      else
        let b' : BcnX := { b with held := b.held ++ [p] }
        let all := busNext t x b' = none
        seqA [
          arbGrant 512 p req waited,
          effA [.reg (dk .BCN_DEV_HELD) (regOf s (dk .BCN_DEV_HELD) ||| BitVec.ofNat 64 (2 ^ busBit p))],
          bcnPut t ch d { b' with started := decide all },
          whenA (decide all) (srcRead ⟨t, 4 + ch, d.idx, dmvTc s t ch, dmvRm s t ch, 0, 0, true⟩ x.src x.len fs)] s

/-! ### Taps (R287 to R290, R292) -/

/-- A bit of BCN_STAT sets; SB_ERR and UE signal interrupt source 13 as they set. -/
def bcnSet (t : Nat) (f : Fld) : Act := fun s =>
  let e := setBit (tk t .BCN_STAT) f
  let rise := tfld s t .BCN_STAT f = 0 ∧ (f = f_BCN_STAT_SB_ERR ∨ f = f_BCN_STAT_UE)
  e :: (if rise then irq t 13 (applyEff s e) else [])

/-- R287: the enabled entry of a tap that names a bus and channel: its entry and landing words. -/
def tapEntry (s : State) (u bus chan : Nat) : Option (Nat × Nat) :=
  (List.range 4).findSome? (fun e =>
    let w := regOf s (tk u .BCN_TAP_ENT e)
    if fget w f_BCN_TAP_ENT_EN = 1 ∧ fget w f_BCN_TAP_ENT_BUS = (if bus = 1 then 1 else 0) ∧ fget w f_BCN_TAP_ENT_CHANNEL = chan
    then some (w.toNat, (regOf s (tk u .BCN_TAP_LAND e)).toNat) else none)

def entWin (e : Nat × Nat) : Nat := 2 ^ bitsOf e.1 0 5
def entFlags (e : Nat × Nat) : Bool := bitOf e.1 7
def entBase (e : Nat × Nat) : Nat := bitsOf e.2 0 23
def entFlagOff (e : Nat × Nat) : Nat := bitsOf e.2 32 23

/-- The tap state of a tile for a transfer, where the tap has seen its START. -/
def tapOf (s : State) (u t ch : Nat) (d : Desc) : Option TapSt :=
  match bcnTapAt s (tapKey u (bcnD d.raw).bus) with
  | some k => if k.src = t ∧ k.q = 4 + ch ∧ k.idx = d.idx then some k else none
  | none => none

/-- R287, R288, R291, R292: START reaches a tap; `sb` says that the three copies of one of its fields all differ. A transfer of no bytes
overruns no window. -/
def bcnStartA (t ch u : Nat) (sb : Bool) : Act := fun s =>
  match bcnOf s t ch with
  | none => []
  | some (d, b) =>
    let x := bcnD d.raw
    if !b.started || !(bcnReach s t x).contains u || (bcnTapAt s (tapKey u x.bus)).isSome then []
    else
      let ent := tapEntry s u x.bus x.chan
      let big := match ent with
        | some e => x.len != 0 && decide (entWin e < x.off + x.len)
        | none => false
      seqA [
        effA [.putBcnTap (tapKey u x.bus) (some ⟨t, 4 + ch, d.idx, ent, 0, big || sb, false, false⟩)],
        whenA ent.isSome (effA [.cnt (tk u .BCN_XFER_CNT) f_BCN_XFER_CNT_COUNT 1]),
        whenA (ent.isSome && sb) (seqA [bcnSet u f_BCN_STAT_SB_ERR, raiseErr 0x020D 2 0 u 0])] s

/-- R288: the piece flag that the beats up to byte `e` of a transfer complete. -/
def pieceEnd (d : BcnD) (e : Nat) : Option Nat :=
  if e = d.len then some ((d.len - 1) / d.piece) else if e % d.piece = 0 then some (e / d.piece - 1) else none

/-- R292: what the code on a bus finds in a DATA beat at a tap. -/
def bcnBeatErr (u : Nat) (err : LinkErr) : Act :=
  match err with
  | .ok => noA
  | .ce => seqA [effA [.cnt (tk u .BCN_CE_CNT) f_BCN_CE_CNT_COUNT 1], bcnSet u f_BCN_STAT_CE]
  | _ => seqA [effA [.cnt (tk u .BCN_UE_CNT) f_BCN_UE_CNT_COUNT 1], bcnSet u f_BCN_STAT_UE, raiseErr 0x020C 1 0 u 0]

/-- R288, R289: the next DATA beat reaches a tap; `stop` is the FCLK in which the tap asserted STOP since the last one. -/
def bcnDataA (t ch u : Nat) (err : LinkErr) (stop : Nat) : Act := fun s =>
  match bcnOf s t ch with
  | none => []
  | some (d, b) =>
    let x := bcnD d.raw
    match tapOf s u t ch d with
    | none => []
    | some k =>
      let beat := srcBeat (srcBufAt s (srcKey t (4 + ch) d.idx)) x.len k.next
      match beat with
      | none => []
      | some (bs, psn) =>
        if k.ended ∨ x.beats ≤ k.next ∨ (b.cut ∧ b.placed ≤ k.next) then []
        else
          let ue := err = .dataUe ∨ err = .hdrUe
          let bad := psn || decide ue
          let lands := match k.ent with
            | some _ => !k.bad && !bcnAway s t u && !tileAsleep s u
            | none => false
          let e := k.ent.getD (0, 0)
          let off := entBase e + x.off + 32 * k.next
          seqA [
            bcnPut t ch d { b with placed := max b.placed (k.next + 1) },
            effA [.putBcnTap (tapKey u x.bus) (some { k with next := k.next + 1, psn := k.psn || bad })],
            effA [.cnt (tk u .BCN_STOP_CNT) f_BCN_STOP_CNT_COUNT stop],
            whenA k.ent.isSome (bcnBeatErr u err),
            whenA lands (seqA [
              memStore (.cm u off) bs (fun j => psn || (decide ue && decide (j < 16))) [] none,
              bankGrants u (.cm u off) bs.length 36,
              effA [.cnt (tk u .BCN_RX_BYTES) f_BCN_RX_BYTES_COUNT bs.length],
              (match pieceEnd x (32 * k.next + bs.length) with
               | some i =>
                 if entFlags e && !b.cut then
                   seqA [memPut (.cm u (entFlagOff e + 8 * i)) (leBytes 8 x.pflag), bankGrants u (.cm u (entFlagOff e + 8 * i)) 8 36]
                 else noA
               | none => noA)])] s

/-- R290, R308, R387: the outcome of an open tap. -/
def tapOutcome (s : State) (u : Nat) (k : TapSt) (cut miss : Bool) : Nat :=
  if bcnAway s k.src u then stDown
  else if tileAsleep s u then stAsleep
  else if k.bad || miss then stAddr
  else if k.psn || cut then stPoisoned
  else stOK

/-- R290, R292: END reaches a tap, which merges its outcome into the summary; `miss` says that its END was lost to errors. -/
def bcnEndA (t ch u : Nat) (miss : Bool) : Act := fun s =>
  match bcnOf s t ch with
  | none => []
  | some (d, b) =>
    let x := bcnD d.raw
    match tapOf s u t ch d with
    | none => []
    | some k =>
      if k.ended ∨ k.next < (if b.cut then b.placed else x.beats) then []
      else seqA [
        effA [.putBcnTap (tapKey u x.bus) (some { k with ended := true })],
        (match k.ent with
         | some _ => seqA [
             bcnPut t ch d { b with got := b.got ++ [(u, tapOutcome s u k b.cut miss)] },
             whenA miss (seqA [bcnSet u f_BCN_STAT_SB_ERR, raiseErr 0x020D 2 0 u 0])]
         | none => noA)] s

/-! ### Summary (R291, R308) -/

/-- The transfer's buses, taps and source bytes are given up. -/
def bcnFree (s : State) (t ch : Nat) (d : Desc) (b : BcnX) : Act :=
  let x := bcnD d.raw
  seqA [
    effA (((bcnReach s t x).filter (fun u => (tapOf s u t ch d).isSome)).map (fun u => .putBcnTap (tapKey u x.bus) none)),
    effA [.clrSrcBuf [srcKey t (4 + ch) d.idx]], busFree b.held,
    effA (b.held.map (fun p => .putArb (arbKey 512 p) { arbOf s 512 p with parked := true }))]

/-- The global address at which a transfer lands in a tap. -/
def tapLanding (s : State) (u t ch : Nat) (d : Desc) : Nat :=
  match tapOf s u t ch d with
  | some k => cmGlobal s u (entBase (k.ent.getD (0, 0)) + (bcnD d.raw).off)
  | none => 0

/-- R291, R308: the summary reaches the source once every tap in reach has performed its END. -/
def bcnSummaryA (t ch : Nat) : Act := fun s =>
  match bcnOf s t ch with
  | none => []
  | some (d, b) =>
    let x := bcnD d.raw
    let all := (bcnReach s t x).all (fun u =>
      match tapOf s u t ch d with
      | some k => k.ended
      | none => false)
    if !b.started || !all then []
    else
      let good := b.got.filter (fun g => g.2 == stOK || g.2 == stPoisoned)
      let fails := b.got.filter (fun g => g.2 != stOK && g.2 != stPoisoned)
      let low := fails.foldl (fun (a : Option Nat) g => match a with
        | some u => some (min u g.1)
        | none => some g.1) none
      let st := b.got.foldl (fun a g => stMerge a g.2) stOK
      let aborted := d.refused
      seqA [
        modDesc t (4 + ch) d.idx (fun e =>
          let e := { e with ext := .none }
          if aborted then { e with count := (b.got.filter (fun g => g.2 == stPoisoned)).length }
          else
            let e := { e with count := good.length, poison := e.poison || b.got.any (fun g => g.2 == stPoisoned) }
            match low with
            | some u => e.fail st (tapLanding s u t ch d)
            | none => { e with status := stMerge e.status st }),
        bcnFree s t ch d b] s

/-- R308, R387: the summary of a transfer that was cut short does not return in time. -/
def bcnTimeoutA (t ch : Nat) : Act := fun s =>
  match bcnOf s t ch with
  | none => []
  | some (d, b) =>
    if !b.cut then []
    else seqA [
      modDesc t (4 + ch) d.idx (fun e =>
        { e with
          ext := .none, count := 0, status := if e.refused then e.status else stMerge e.status stPoisoned
          poison := e.poison || !e.refused }),
      bcnFree s t ch d b] s

/-! ### Tap configuration (R300) -/

/-- Two enabled entries name the same bus and channel. -/
def tapClash (ws : List Nat) : Bool :=
  let en := ws.filter (fun w => bitOf w 15)
  en.zipIdx.any (fun p => (en.drop (p.2 + 1)).any (fun w => bitsOf w 8 7 == bitsOf p.1 8 7))

/-- R300: a write of BCN_TAP_LAND (`land`) or BCN_TAP_ENT. -/
def tapWriteA (u e : Nat) (land : Bool) (v : W64) : Act := fun s =>
  let k := if land then tk u .BCN_TAP_LAND e else tk u .BCN_TAP_ENT e
  let new := v &&& regMask k
  let ent := if land then (regOf s (tk u .BCN_TAP_ENT e)).toNat else new.toNat
  let lnd := if land then new.toNat else (regOf s (tk u .BCN_TAP_LAND e)).toNat
  let ents := (List.range 4).map (fun j => if j = e then ent else (regOf s (tk u .BCN_TAP_ENT j)).toNat)
  let lg := bitsOf ent 0 5
  if lg < 12 ∨ 23 < lg ∨ cmSize < bitsOf lnd 0 23 + 2 ^ lg ∨ (bitOf ent 7 = true ∧ cmSize < bitsOf lnd 32 23 + 8 * 256)
      ∨ bitsOf lnd 0 12 ≠ 0 ∨ bitsOf lnd 32 3 ≠ 0 ∨ tapClash ents = true then
    bcnSet u f_BCN_STAT_CFG_ERR s
  else [.reg k new]

/-! ### The commands -/

/-- R282: a DMV channel takes up a BEACON. -/
def execDmvBeacon (t : Tile) (ch : Fin 4) (s : State) : Host.Outcome State Fault Refusal :=
  runA (takeDesc t (4 + ch) 0x03 (bcnCheck t)
    (fun idx _ => modDesc t (4 + ch) idx (fun d => { d with ext := .beacon ⟨false, [], 0, false, []⟩ }))) s

/-- R284: a transfer is granted a bus. -/
def execBeaconGrant (t : Tile) (ch : Fin 4) (waited : Nat) (ecc : List (Nat × Ecc)) (s : State) :
    Host.Outcome State Fault Refusal :=
  runA (bcnGrantA t ch waited ecc) s

/-- R287: a START beat reaches a tap. -/
def execBeaconStartBeat (t : Tile) (ch : Fin 4) (u : Tile) (sb : Bool) (s : State) : Host.Outcome State Fault Refusal :=
  runA (bcnStartA t ch u sb) s

/-- The updates of `execBeaconDataBeat`. -/
def beaconDataBeatAct (t : Tile) (ch : Fin 4) (u : Tile) (err : LinkErr) (stop : Nat) : Act := fun s =>
  if cmWaits s (.cm u 0) then [] else bcnDataA t ch u err stop s

/-- R288: a DATA beat reaches a tap. -/
def execBeaconDataBeat (t : Tile) (ch : Fin 4) (u : Tile) (err : LinkErr) (stop : Nat) (s : State) : Host.Outcome State Fault Refusal :=
  runA (beaconDataBeatAct t ch u err stop) s

/-- R290: an END beat reaches a tap. -/
def execBeaconEndBeat (t : Tile) (ch : Fin 4) (u : Tile) (miss : Bool) (s : State) : Host.Outcome State Fault Refusal :=
  runA (bcnEndA t ch u miss) s

/-- R291: the summary reaches the source. -/
def execBeaconSummaryReturn (t : Tile) (ch : Fin 4) (s : State) : Host.Outcome State Fault Refusal :=
  runA (bcnSummaryA t ch) s

/-- R308: the summary has not returned in time. -/
def execBeaconSummaryTimeout (t : Tile) (ch : Fin 4) (s : State) : Host.Outcome State Fault Refusal :=
  runA (bcnTimeoutA t ch) s

/-- R300: a tap entry is written. -/
def execBcnTapWrite (t : Tile) (e : Fin 4) (land : Bool) (v : W64) (s : State) : Host.Outcome State Fault Refusal :=
  runA (tapWriteA t e land v) s

end Sys2Proof.Machine
end

