-- ==== Sys2Proof/Machine/Taper.lean ====
section
/-!
DEFINITION. Sys2Proof/Machine/Taper.lean: Taper chains: configuration and checks (R293, R301), the stream of the head (R294), passing beats in
step, landing and piece flags (R295 to R299), ring release (R297) and breaks (R302).
-/
namespace Sys2Proof.Machine

/-! ### Ports -/

def tpr (s : State) (t : Nat) (f : Fld) : Nat := tfld s t .TPR_CFG f

/-- A bit of TPR_STAT sets; BROKEN, SKIPPED, RP_ERR and CHAIN_ERR signal interrupt source 14 as they set. -/
def tprSet (t : Nat) (f : Fld) : Act := fun s =>
  let e := setBit (tk t .TPR_STAT) f
  e :: (if tfld s t .TPR_STAT f = 0 ∧ f ≠ f_TPR_STAT_CFG_ERR then irq t 14 (applyEff s e) else [])

/-- The direction that IN or OUT names, as a direction of the mesh (0 N, 1 E, 2 S, 3 W). -/
def inDir (c : Nat) : Option Nat := if c = 1 then some 3 else if c = 2 then some 0 else if c = 3 then some 2 else none
def outDir (c : Nat) : Option Nat := if c = 1 then some 1 else if c = 2 then some 0 else if c = 3 then some 2 else none

/-- The input neighbour and the output neighbour that a configuration word names. -/
def inNeigh (s : State) (t w : Nat) : Option Nat := (inDir (bitsOf w 26 2)).bind (neighTile s t)
def outNeigh (s : State) (t w : Nat) : Option Nat := (outDir (bitsOf w 24 2)).bind (neighTile s t)

/-- A port's configuration word. -/
def tprWord (s : State) (t : Nat) : Nat := (regOf s (tk t .TPR_CFG)).toNat

def cfgEn (w : Nat) : Bool := bitOf w 31
def cfgLand (w : Nat) : Bool := bitOf w 30
def cfgLen (w : Nat) : Nat := bitsOf w 16 7
def cfgPos (w : Nat) : Nat := bitsOf w 8 6

/-- R293: the checks of a port. -/
def portOk (s : State) (t : Nat) : Bool :=
  let w := tprWord s t
  let head := bitsOf w 26 2 == 0
  let tail := bitsOf w 24 2 == 0
  (head == (cfgPos w == 0)) && (tail == (cfgPos w + 1 == cfgLen w)) &&
    (head || match inNeigh s t w with
      | some n =>
        let v := tprWord s n
        cfgEn v && outNeigh s n v == some t && cfgLen v == cfgLen w && cfgPos v + 1 == cfgPos w
      | none => false)

/-- R293: a port is checked. -/
def portCheck (t : Nat) : Act := fun s =>
  if !cfgEn (tprWord s t) then [.fld (tk t .TPR_STAT) f_TPR_STAT_READY 0]
  else if portOk s t then [.fld (tk t .TPR_STAT) f_TPR_STAT_READY 1]
  else seqA [effA [.fld (tk t .TPR_STAT) f_TPR_STAT_READY 0], tprSet t f_TPR_STAT_CHAIN_ERR] s

/-- R302: a port drops the beats that it holds and sends BREAK upstream, to the port whose output it is. -/
def portBreak (t w : Nat) : Act := fun s =>
  .putTprIn t [] :: (match inNeigh s t w with
    | some n => if outNeigh s n (tprWord s n) = some t then [.putTprBrk n true] else []
    | none => [])

/-- R293, R301, R302: a write of TPR_CFG. -/
def tprCfgA (t : Nat) (v : W64) : Act := fun s =>
  let old := tprWord s t
  let new := (v &&& regMask (tk t .TPR_CFG)).toNat
  let en := 2 ^ 31
  if (cfgEn old ∧ new % en ≠ old % en) ∨ cfgLen new = 0 ∨ 64 < cfgLen new ∨ cfgLen new ≤ cfgPos new then
    tprSet t f_TPR_STAT_CFG_ERR s
  else
    seqA [
      effA [.reg (tk t .TPR_CFG) (BitVec.ofNat 64 new)],
      whenA (!cfgEn old && cfgEn new) (effA [.reg (tk t .TPR_WP) 0, .putTprPc t 0, .putTprIn t [], .putTprBrk t false,
        .fld (tk t .TPR_STAT) f_TPR_STAT_BROKEN 0]),
      whenA (cfgEn old && !cfgEn new) (portBreak t old),
      portCheck t,
      eachA ([outNeigh s t old, outNeigh s t new].filterMap id).eraseDups (fun n => fun s =>
        if inNeigh s n (tprWord s n) = some t ∧ cfgEn (tprWord s n) = true then portCheck n s else [])] s

/-- R301: a write of TPR_RING (`r` 1) or TPR_FLAG_CFG (`r` 2). -/
def tprRegA (t r : Nat) (v : W64) : Act := fun s =>
  let k := if r = 1 then tk t .TPR_RING else tk t .TPR_FLAG_CFG
  let new := v &&& regMask k
  let lg := bitsOf new.toNat 0 5
  let ringBad := r = 1 ∧ (lg < 12 ∨ 22 < lg ∨ cmSize < bitsOf new.toNat 12 11 * 4096 + 2 ^ lg)
  if cfgEn (tprWord s t) ∨ ringBad then tprSet t f_TPR_STAT_CFG_ERR s else [.reg k new]

/-! ### The stream (R294) -/

/-- R294: the post-time checks of a TAPER. -/
def taperCheck (t ch : Nat) (s : State) (bs : List Byte) : Nat :=
  let n := leAt bs 16 4
  let head := tfld s t .TPR_STAT f_TPR_STAT_READY == 1 && bitsOf (tprWord s t) 26 2 == 0
  let fmt := !head || tpr s t f_TPR_CFG_HEAD_CH != ch || leAt bs 20 28 != 0
  let len := decide (n < 32) || decide (2 ^ 24 < n) || n % 32 != 0
  stMerge (if len then stOK else rangeStatus s t (leAt bs 8 8) n) (stMerge (if fmt then stFmt else stOK) (if len then stLen else stOK))

/-- R294, R302: a TAPER joins the stream; on a broken chain it ends ABORTED at once. -/
def taperRun (t ch idx : Nat) (bs : List Byte) (fs : Finds) : Act := fun s =>
  if tfld s t .TPR_STAT f_TPR_STAT_BROKEN = 1 then
    modDesc t (4 + ch) idx (fun d => { d with status := stAborted, refused := true }) s
  else seqA [
    modDesc t (4 + ch) idx (fun d => { d with ext := .taper (leAt bs 16 4 / 32) }),
    srcRead ⟨t, 4 + ch, idx, dmvTc s t ch, dmvRm s t ch, 0, 0, true⟩ (leAt bs 8 8) (leAt bs 16 4) fs] s

/-- The TAPER that a channel injects from: the oldest. -/
def taperOf (s : State) (t ch : Nat) : Option (Desc × Nat) :=
  (queueOf s t (4 + ch)).run.findSome? (fun d =>
    match d.ext with
    | .taper left => some (d, left)
    | _ => none)

/-- The next beat at a port: of its stream at the head, of its input elsewhere. -/
def nextBeat (s : State) (t : Nat) : Option (List Byte × Bool) :=
  let w := tprWord s t
  if bitsOf w 26 2 = 0 then
    -- R416: a quiesce holds the beats of a stream back
    match if holdTraffic s then none else taperOf s t (bitsOf w 28 2) with
    | some (d, left) =>
      let n := leAt d.raw 16 4
      srcBeat (srcBufAt s (srcKey t (4 + bitsOf w 28 2) d.idx)) n (n / 32 - left)
    | none => none
  else (tprInAt s t).head?

/-- The beat that a port has accepted is taken from its stream or its input; a TAPER ends with its last one. -/
def takeBeat (t : Nat) (psn : Bool) : Act := fun s =>
  let w := tprWord s t
  let ch := bitsOf w 28 2
  if bitsOf w 26 2 = 0 then
    match taperOf s t ch with
    | some (d, left) =>
      seqA [modDesc t (4 + ch) d.idx (fun e =>
          ({ e with count := e.count + 32, ext := if left ≤ 1 then .none else .taper (left - 1) }).poisoned psn),
        whenA (decide (left ≤ 1)) (effA [.clrSrcBuf [srcKey t (4 + ch) d.idx]])] s
    | none => []
  else [.putTprIn t ((tprInAt s t).drop 1)]

/-! ### Passing in step (R295 to R299) -/

/-- R295: the free bytes of a port's ring. -/
def ringSpace (s : State) (t : Nat) : Nat :=
  let wp := tfld s t .TPR_WP f_TPR_WP_WP
  let rp := tfld s t .TPR_RP f_TPR_RP_RP
  2 ^ tfld s t .TPR_RING f_TPR_RING_LOG2 - (wp + 2 ^ 32 - rp) % 2 ^ 32

/-- R298: the flag of the piece that a landing ends. -/
def taperFlag (t : Nat) : Act := fun s =>
  let pl := tfld s t .TPR_FLAG_CFG f_TPR_FLAG_CFG_PIECE_LOG2
  let n := tfld s t .TPR_FLAG_CFG f_TPR_FLAG_CFG_NFLAGM1 + 1
  let k := tprPcAt s t
  if 6 ≤ pl ∧ pl ≤ 22 ∧ tfld s t .TPR_WP f_TPR_WP_WP % 2 ^ pl = 0 then
    let off := tfld s t .TPR_FLAG_CFG f_TPR_FLAG_CFG_FLAG_OFF + 8 * (k % n)
    seqA [
      (if off + 8 ≤ cmSize then
        seqA [memPut (.cm t off) (leBytes 8 (tfld s t .TPR_FLAG_BASE f_TPR_FLAG_BASE_FBASE + k / n)), bankGrants t (.cm t off) 8 36]
       else noA),
      effA [.putTprPc t (k + 1)]] s
  else []

/-- R295, R298: a beat lands in a port's ring. -/
def taperLand (t : Nat) (bs : List Byte) (psn : Bool) : Act := fun s =>
  let wp := tfld s t .TPR_WP f_TPR_WP_WP
  let off := tfld s t .TPR_RING f_TPR_RING_BASE * 4096 + wp % 2 ^ tfld s t .TPR_RING f_TPR_RING_LOG2
  seqA [
    (if off + 32 ≤ cmSize then seqA [memStore (.cm t off) bs (fun _ => psn) [] none, bankGrants t (.cm t off) 32 36] else noA),
    effA [.fld (tk t .TPR_WP) f_TPR_WP_WP ((wp + 32) % 2 ^ 32)], taperFlag t] s

/-- R295: a port accepts a beat; `stall` is the number of FCLK that the beat waited there. -/
def taperAcceptA (t stall : Nat) : Act := fun s =>
  let w := tprWord s t
  let away := tileDown s t || tileAsleep s t
  let out := outNeigh s t w
  let credit := match out with
    | some n => decide ((tprInAt s n).length < Config.taperCredits)
    | none => true
  let space := !cfgLand w || away || decide (32 ≤ ringSpace s t)
  if tfld s t .TPR_STAT f_TPR_STAT_READY = 0 ∨ tfld s t .TPR_STAT f_TPR_STAT_BROKEN = 1 ∨ !credit ∨ !space ∨ rowStopped s t then []
  else match nextBeat s t with
    | none => []
    | some (bs, psn) =>
      seqA [
        takeBeat t psn,
        effA [.cnt (tk t .TPR_IN_BYTES) f_TPR_IN_BYTES_COUNT 32, .cnt (tk t .TPR_STALL_CNT) f_TPR_STALL_CNT_COUNT stall],
        (if away then seqA [effA [.cnt (tk t .TPR_SKIP_CNT) f_TPR_SKIP_CNT_COUNT 32], tprSet t f_TPR_STAT_SKIPPED]
         else if cfgLand w then taperLand t bs psn
         else noA),
        (match out with
         | some n => fun s => [.putTprIn n (tprInAt s n ++ [(bs, psn)])]
         | none => noA)] s

/-- R297: a write of TPR_RP. -/
def tprRpA (t v : Nat) : Act := fun s =>
  let wp := tfld s t .TPR_WP f_TPR_WP_WP
  let v := v % 2 ^ 32
  if 2 ^ tfld s t .TPR_RING f_TPR_RING_LOG2 < (wp + 2 ^ 32 - v) % 2 ^ 32 then tprSet t f_TPR_STAT_RP_ERR s
  else [.fld (tk t .TPR_RP) f_TPR_RP_RP v]

/-- R302: the head of a broken chain ends its TAPER descriptors. -/
def headAbort (t ch : Nat) : Act := fun s =>
  let q := 4 + ch
  let ds := (queueOf s t q).run.filter (fun d => match d.ext with
    | .taper _ => true
    | _ => false)
  eachA ds (fun d => seqA [
    modDesc t q d.idx (fun e => { e with ext := .none, pend := 0, refused := true, status := stMerge e.status stAborted }),
    effA [.clrSrcBuf [srcKey t q d.idx]]]) s

/-- R302: a BREAK reaches a port, which is broken and passes it on upstream. -/
def taperBreakA (t : Nat) : Act := fun s =>
  let w := tprWord s t
  if !tprBrkAt s t then []
  else seqA [
    effA [.putTprBrk t false],
    whenA (cfgEn w) (seqA [
      tprSet t f_TPR_STAT_BROKEN,
      fun s => raiseErr 0x020E 2 0 t (regOf s (tk t .TPR_WP)).toNat s,
      portBreak t w,
      whenA (bitsOf w 26 2 == 0) (headAbort t (bitsOf w 28 2))])] s

/-! ### The commands -/

/-- R294: a DMV channel takes up a TAPER. -/
def execDmvTaper (t : Tile) (ch : Fin 4) (ecc : List (Nat × Ecc)) (s : State) : Host.Outcome State Fault Refusal :=
  runA (takeDesc t (4 + ch) 0x04 (taperCheck t ch) (fun idx bs => taperRun t ch idx bs ecc)) s

/-- The updates of `execTaperBeatAccept`. -/
def taperBeatAcceptAct (t : Tile) (stall : Nat) : Act := fun s =>
  if cmWaits s (.cm t 0) then [] else taperAcceptA t stall s

/-- R295: a port accepts a beat. -/
def execTaperBeatAccept (t : Tile) (stall : Nat) (s : State) : Host.Outcome State Fault Refusal :=
  runA (taperBeatAcceptAct t stall) s

/-- R297: a write of TPR_RP. -/
def execTprRpWrite (t : Tile) (v : BitVec 32) (s : State) : Host.Outcome State Fault Refusal := runA (tprRpA t v.toNat) s

/-- R301: a write of TPR_CFG (`r` 0), TPR_RING (1) or TPR_FLAG_CFG (2). -/
def execTprCfgWrite (t : Tile) (r : Fin 3) (v : W64) (s : State) : Host.Outcome State Fault Refusal :=
  runA (if r = 0 then tprCfgA t v else tprRegA t r v) s

/-- R302: a BREAK reaches a port. -/
def execTaperBreak (t : Tile) (s : State) : Host.Outcome State Fault Refusal := runA (taperBreakA t) s

end Sys2Proof.Machine
end

