-- ==== Sys2Proof/Machine/Epc.lean ====
section
/-!
DEFINITION. Sys2Proof/Machine/Epc.lean: epoch commits (R409 to R415, R419), shadow writes (R412), quiesce (R416, R417, R430), the writes
that need quiesce (R418), and the check of the port-to-dimension map (R497).
-/
namespace Sys2Proof.Machine

/-! ### Reporting (R422) -/

/-- R422: a setting of a bit of EPC_STAT raises an event; `data` is EPC_LATE_INFO or EPC_NQ_INFO where it applies. -/
def epcFault (b data : Nat) : Act := seqA [
  fun s => [.reg (dk .EPC_STAT) (regOf s (dk .EPC_STAT) ||| BitVec.ofNat 64 (2 ^ b))],
  raiseErr 0x0405 2 b 0 data]

/-- The place of a register as EPC_LATE_INFO and EPC_NQ_INFO record it: DEV and TILE, and the offset. -/
def epcPlace (t : Option Nat) (off : Nat) : Nat :=
  2 ^ 63 + (match t with
    | some t => t * 2 ^ 25
    | none => 2 ^ 62) + off % 2 ^ 25

/-- R412: a late write of a shadow register is dropped. -/
def lateWrite (t : Option Nat) (off : Nat) : Act := fun s => seqA [
  whenA (dfld s .EPC_STAT f_EPC_STAT_LATE_WRITE == 0) (effA [.reg (dk .EPC_LATE_INFO) (BitVec.ofNat 64 (epcPlace t off))]),
  effA [.cnt (dk .EPC_LATE_CNT) f_EPC_LATE_CNT_COUNT 1],
  fun s => epcFault 9 (regOf s (dk .EPC_LATE_INFO)).toNat s] s

/-- R418: a write that needs quiesce is refused whole. -/
def nqRefuse (off : Nat) : Act := fun s => seqA [
  whenA (dfld s .EPC_STAT f_EPC_STAT_NEEDS_QUIESCE == 0) (effA [.reg (dk .EPC_NQ_INFO) (BitVec.ofNat 64 (epcPlace none off))]),
  effA [.cnt (dk .EPC_NQ_CNT) f_EPC_NQ_CNT_COUNT 1],
  fun s => epcFault 8 (regOf s (dk .EPC_NQ_INFO)).toNat s] s

/-- R418: a write that needs quiesce: made when the device is quiesced or when it changes nothing, refused otherwise. -/
def nqWrite (k : RKey) (off : Nat) (v en : W64) : Act := fun s =>
  let w := accWrite (regFields k) (regOf s k) v en
  if w = regOf s k then [] else if isQuiesced s then [.reg k w] else nqRefuse off s

/-! ### The epoch tables (R407) -/

def epcPhase (s : State) : Nat := dfld s .EPC_STAT f_EPC_STAT_PHASE

/-- R407: the tables of a tile and of the device, the shadow and the active register of each. -/
def tileTables : List (TReg × TReg) :=
  [(.BN_PIN_SHADOW, .BN_PIN_ACTIVE), (.RED_OTREE_SHADOW, .RED_OTREE_ACTIVE), (.ARB_CFG_SHADOW, .ARB_CFG_ACTIVE),
   (.ARB_REQ_SHADOW, .ARB_REQ_ACTIVE), (.SHP_NIU_SHADOW, .SHP_NIU_ACTIVE)]
def devTables : List (DReg × DReg) :=
  [(.ARB_DEV_CFG_SHADOW, .ARB_DEV_CFG_ACTIVE), (.ARB_DEV_REQ_SHADOW, .ARB_DEV_REQ_ACTIVE), (.SHP_WLP_SHADOW, .SHP_WLP_ACTIVE),
   (.SHP_LS_SHADOW, .SHP_LS_ACTIVE), (.SYS_ORDER_SHADOW, .SYS_ORDER_ACTIVE), (.SYS_PIN_SHADOW, .SYS_PIN_ACTIVE)]

/-- The shadow and active keys of the table entry that a register code names. -/
def tablePair (c : Nat) : Option (RKey × RKey) :=
  let i := c % 65536
  let r := c / 65536
  if r < 1024 then
    (devTables.find? (fun p => p.1.ctorIdx == r || p.2.ctorIdx == r)).map (fun p => (dk p.1 i, dk p.2 i))
  else
    (tileTables.find? (fun p => p.1.ctorIdx == r % 1024 || p.2.ctorIdx == r % 1024)).map
      (fun p => (tk (r / 1024 - 1) p.1 i, tk (r / 1024 - 1) p.2 i))

/-- A register is a shadow of an epoch table. -/
def isShadow (k : RKey) : Bool := (tablePair k.code).any (fun p => p.1 == k)

/-- R409: the two banks of every table change places. -/
def swapBanks : Act := fun s =>
  s.regs.flatMap (fun e => match tablePair e.1 with
    | some (a, b) => [.reg a (regOf s b), .reg b (regOf s a)]
    | none => [])

/-- R409: every table copies its active bank into the other. -/
def copyBanks : Act := fun s =>
  s.regs.flatMap (fun e => match tablePair e.1 with
    | some (a, b) => [.reg a (regOf s b)]
    | none => [])

/-! ### Shapers at a switch (R415) -/

/-- R415: the tokens of a bucket at T_SW, from its new entry: set where it is dirty, and clipped to the new BURST. -/
def bucketSwitch (entry : W64) (dirty full : Bool) (tok : Int) : Int :=
  let top : Int := (256 * fget entry f_SHP_NIU_ACTIVE_BURST : Nat)
  if dirty then (if full then top else 0) else min tok top

/-- The tile whose SHP_DIRTY a register code names. -/
def dirtyTile (c : Nat) : Option Nat :=
  if 1024 ≤ c / 65536 ∧ c / 65536 % 1024 = TReg.SHP_DIRTY.ctorIdx then some (c / 65536 / 1024 - 1) else none

/-- The tiles with dirty buckets or with tokens held. -/
def bucketTiles (s : State) : List Nat :=
  (s.tok.map (fun (e : Nat × Int) => e.1 / 4) ++ s.regs.filterMap (fun (e : Nat × W64) => dirtyTile e.1)).eraseDups

/-- R415: every bucket at T_SW. -/
def bucketsSwitch : Act := seqA [
  fun s => (bucketTiles s).flatMap (fun t =>
    (List.range 4).map (fun i =>
      .putTok (4 * t + i) (bucketSwitch (regOf s (tk t .SHP_NIU_ACTIVE i)) (bitOf (regOf s (tk t .SHP_DIRTY)).toNat i)
        (bitOf (regOf s (tk t .SHP_RST)).toNat i) (tokAt s (4 * t + i)))) ++
    [.reg (tk t .SHP_DIRTY) 0]),
  fun s => (List.range 64).map (fun i =>
      .putWtok i (bucketSwitch (regOf s (dk .SHP_WLP_ACTIVE i)) (bitOf (regOf s (dk .SHP_DEV_DIRTY)).toNat i)
        (bitOf (regOf s (dk .SHP_DEV_RST)).toNat i) (wtokAt s i))) ++ [.reg (dk .SHP_DEV_DIRTY) 0]]

/-- R415: a write of a bucket's shadow entry marks it dirty. -/
def markDirty (k : RKey) : Act := fun s =>
  match k with
  | .tile t .SHP_NIU_SHADOW i => [.reg (tk t .SHP_DIRTY) (regOf s (tk t .SHP_DIRTY) ||| BitVec.ofNat 64 (2 ^ i.val))]
  | .dev .SHP_WLP_SHADOW i => [.reg (dk .SHP_DEV_DIRTY) (regOf s (dk .SHP_DEV_DIRTY) ||| BitVec.ofNat 64 (2 ^ i.val))]
  | _ => []

/-! ### Commits (R409 to R411) -/

/-- R409, R410: a write to EPC_COMMIT; `lo` says that it covers bits 15:0. -/
def commitA (v : Nat) (lo : Bool) : Act := fun s =>
  if !lo then []
  else if epcPhase s ≠ 0 then epcFault 10 0 s
  else seqA [effA [.fld (dk .EPC_STAT) f_EPC_STAT_PHASE 1, .fld (dk .EPC_STAT) f_EPC_STAT_LAST_ID v], raiseInfo 0x0401 0 0 (v % 65536)] s

/-- R409, R410, R415: T_SW. The points that have run since reset change their bank at their next window boundary; an idle point that
never ran counts as changed. -/
def switchA : Act := fun s =>
  if epcPhase s ≠ 1 ∨ dfld s .TILE_MAP_STAT f_TILE_MAP_STAT_APPLYING = 1 then []
  else seqA [
    swapBanks,
    bucketsSwitch,
    fun s => [.fld (dk .EPC_STAT) f_EPC_STAT_EPOCH (1 - dfld s .EPC_STAT f_EPC_STAT_EPOCH), .fld (dk .EPC_STAT) f_EPC_STAT_PHASE 2]
      ++ s.arb.map (fun e => .putArb e.1 { e.2 with old := true })] s

/-- R409: no packet of the old epoch is left in the fabric, and no point is still on the old bank. -/
def drained (s : State) : Bool :=
  let e := epochNow s
  s.bn.all (fun f => f.pkt.epoch == e) && s.cn.all (fun f => f.pkt.epoch == e)
    && s.redSlot.all (fun r => r.2.all (fun x => x.pkt.epoch == e))
    && s.niuq.all (fun q => q.2.all (fun r => opShaped r.pkt.op.toNat || r.pkt.epoch == e))
    && s.cnq.all (fun q => q.2.all (fun p => cnVc p.op.toNat != some 1 || p.epoch == e))
    && s.arb.all (fun a => !a.2.old)

/-- R409, R422: the commit ends. -/
def commitDone : Act := fun s => seqA [
  effA [.fld (dk .EPC_STAT) f_EPC_STAT_PHASE 0, .cnt (dk .EPC_COMMIT_CNT) f_EPC_COMMIT_CNT_COUNT 1],
  raiseInfo 0x0402 0 0 (dfld s .EPC_STAT f_EPC_STAT_LAST_ID + dfld s .EPC_DRAIN_LAST f_EPC_DRAIN_LAST_FCLKS * 2 ^ 16)] s

/-- R409: DRAIN ends, `fclks` after T_SW. -/
def copyStartA (fclks : Nat) : Act := fun s =>
  if epcPhase s ≠ 2 ∨ !drained s then []
  else seqA [
    effA [.fld (dk .EPC_DRAIN_LAST) f_EPC_DRAIN_LAST_FCLKS fclks],
    if dfld s .EPC_CFG f_EPC_CFG_COPY_ON_DRAIN = 1 then effA [.fld (dk .EPC_STAT) f_EPC_STAT_PHASE 3] else commitDone] s

/-- R409: COPY ends. -/
def commitEndA : Act := fun s => if epcPhase s ≠ 3 then [] else seqA [copyBanks, commitDone] s

/-- R411: DRAIN has lasted DRAIN_TMO. -/
def drainSlowA : Act := fun s => if epcPhase s = 2 then epcFault 11 0 s else []

/-- R497: the port-to-dimension map and chip ID are inconsistent. -/
def topoBad (s : State) : Bool :=
  let dims := (List.range 16).filter (portUse s)
  decide (131072 < machineSize s) || !chipExists s (chipId s)
    || dims.any (fun n => decide (6 ≤ portDim s n) || shapeK s (portDim s n) == 1)
    || dims.any (fun n => 3 ≤ (dims.filter (fun m => portDim s m == portDim s n && portPlus s m == portPlus s n)).length)

/-- R496: the six fields of an order are a permutation of 0 to 5. -/
def isPerm6 (w : Nat) : Bool := (List.range 6).all (fun d => (List.range 6).any (fun i => bitsOf w (3 * i) 3 == d))

/-- R412, R415, R496: a write of a shadow register, on the bits that `en` enables. -/
def shadowWr (t : Option Nat) (off : Nat) (k : RKey) (v en : W64) : Act := fun s =>
  let w := accWrite (regFields k) (regOf s k) v en
  if 2 ≤ epcPhase s then lateWrite t off s
  else match k with
    | .dev .SYS_ORDER_SHADOW _ =>
      if isPerm6 w.toNat then [.reg k w, .fld (dk .SYS_STAT) f_SYS_STAT_TOPO_ERR (b2n (topoBad s))]
      else seqA [whenA (dfld s .SYS_STAT f_SYS_STAT_TOPO_ERR == 0) (raiseErr 0x0306 2 0 0 0),
        effA [.fld (dk .SYS_STAT) f_SYS_STAT_TOPO_ERR 1]] s
    | _ => seqA [effA [.reg k w], markDirty k] s

/-! ### Quiesce (R416, R417, R430) -/

/-- R497: when quiesce is released, or the first manifest is admitted, the map is checked whole. -/
def topoCheck : Act := fun s =>
  let bad := topoBad s
  seqA [whenA (bad && dfld s .SYS_STAT f_SYS_STAT_TOPO_ERR == 0) (raiseErr 0x0306 2 0 0 0),
    effA [.fld (dk .SYS_STAT) f_SYS_STAT_TOPO_ERR (b2n bad)]] s

/-- R685: the device holds a consistent topology of more than one device. -/
def topoMany (s : State) : Bool := !topoBad s && decide (1 < machineSize s)

/-- R685: every port is enabled, once, when such a topology is in force. -/
def portsEnable : Act := fun s =>
  if topoMany s ∧ !s.topoUp then seqA [effA [.setTopoUp true], eachA (List.range 16) (fun n => wlpCfgA n 1 1)] s else []

/-- R417, R497, R685: traffic resumes. -/
def resumeA : Act := fun s =>
  if dfld s .EPC_STAT f_EPC_STAT_QUIESCING = 0 ∧ dfld s .EPC_STAT f_EPC_STAT_QUIESCED = 0 then []
  else seqA [
    whenA (dfld s .EPC_STAT f_EPC_STAT_QUIESCED == 1) (raiseInfo 0x0404 0 0 0),
    effA [.fld (dk .EPC_STAT) f_EPC_STAT_QUIESCING 0, .fld (dk .EPC_STAT) f_EPC_STAT_QUIESCED 0],
    fun s => (allTiles s).map (fun t => .fld (tk t .TILE_ID) f_TILE_ID_CHIP_ID (chipId s)),
    topoCheck,
    fun s => if dfld s .BOOT_STAT f_BOOT_STAT_STAGE = 6 then portsEnable s else []] s

/-- R416, R417, R430: a write to EPC_QUIESCE. -/
def quiesceWr (req : Nat) : Act := fun s =>
  if req = dfld s .EPC_QUIESCE f_EPC_QUIESCE_REQ then []
  else seqA [
    effA [.fld (dk .EPC_QUIESCE) f_EPC_QUIESCE_REQ req],
    if req = 1 then (if dfld s .EPC_STAT f_EPC_STAT_QUIESCED = 1 then noA else setBitA)
    else if dfld s .TILE_MAP_STAT f_TILE_MAP_STAT_APPLYING = 1 then noA
    else resumeA] s
where
  setBitA : Act := effA [.fld (dk .EPC_STAT) f_EPC_STAT_QUIESCING 1]

/-- R416: nothing that quiesce waits for remains anywhere in the device. -/
def quiet (s : State) : Bool :=
  s.bn.isEmpty && s.niuq.all (fun q => q.2.all (fun r => opShaped r.pkt.op.toNat))
    && s.cn.all (fun f => f.pkt.op.toNat != 2 && f.pkt.op.toNat != 3)
    && s.redSlot.isEmpty && s.bcnTap.isEmpty && regOf s (dk .BCN_DEV_HELD) == 0 && s.tprIn.isEmpty
    && s.wlp.all (fun e => e.2.replay.isEmpty)

/-- R416: quiesce is reached. -/
def quiesceReachedA : Act := fun s =>
  if dfld s .EPC_STAT f_EPC_STAT_QUIESCING = 1 ∧ quiet s then
    seqA [effA [.fld (dk .EPC_STAT) f_EPC_STAT_QUIESCING 0, .fld (dk .EPC_STAT) f_EPC_STAT_QUIESCED 1], raiseInfo 0x0403 0 0 0] s
  else []

/-- R416: quiescing has lasted DRAIN_TMO. -/
def quiesceSlowA : Act := fun s => if dfld s .EPC_STAT f_EPC_STAT_QUIESCING = 1 then epcFault 12 0 s else []

/-- A write of 1 to bits of EPC_STAT: they clear, and with LATE_WRITE and NEEDS_QUIESCE their records. -/
def epcStatW1c (v en : W64) : Act := seqA [regWr (dk .EPC_STAT) v en,
  whenA (bitOf (v &&& en).toNat 9) (effA [.reg (dk .EPC_LATE_INFO) 0]),
  whenA (bitOf (v &&& en).toNat 8) (effA [.reg (dk .EPC_NQ_INFO) 0])]

/-! ### The commands -/

/-- R409: a write to EPC_COMMIT; `hi` says that it is a 32-bit write at + 4. -/
def execEpcCommitWrite (v : W64) (hi : Bool) (s : State) : Host.Outcome State Fault Refusal :=
  runA (commitA (v.toNat % 65536) (!hi)) s

/-- R409: T_SW. -/
def execEpochSwitch (s : State) : Host.Outcome State Fault Refusal := runA switchA s

/-- R409: COPY begins, `fclks` after T_SW. -/
def execEpochCopyStart (fclks : BitVec 32) (s : State) : Host.Outcome State Fault Refusal := runA (copyStartA fclks.toNat) s

/-- R409: COPY ends. -/
def execEpochCommitEnd (s : State) : Host.Outcome State Fault Refusal := runA commitEndA s

/-- R411: the drain is slow. -/
def execEpochDrainSlow (s : State) : Host.Outcome State Fault Refusal := runA drainSlowA s

/-- R416: EPC_QUIESCE.REQ is written 1. -/
def execQuiesceRequest (s : State) : Host.Outcome State Fault Refusal := runA (quiesceWr 1) s

/-- R416: quiesce is reached. -/
def execQuiesceReached (s : State) : Host.Outcome State Fault Refusal := runA quiesceReachedA s

/-- R416: quiescing is slow. -/
def execQuiesceSlow (s : State) : Host.Outcome State Fault Refusal := runA quiesceSlowA s

/-- R417: EPC_QUIESCE.REQ is written 0. -/
def execQuiesceResume (s : State) : Host.Outcome State Fault Refusal := runA (quiesceWr 0) s

end Sys2Proof.Machine
end

