-- ==== Sys2Proof/Machine/Adm.lean ====
section
/-!
DEFINITION. Sys2Proof/Machine/Adm.lean: the admission of a model: the manifest (R543), its checks (R544), what admission locks
(R545, R546), release (R547) and withdrawal (R548).
-/
namespace Sys2Proof.Machine

/-! ### The manifest -/

/-- A field of a manifest's record (R543). -/
def recAt (bs : List Byte) (i off n : Nat) : Nat := leAt bs (64 + 16 * i + off) n

/-- WIDTH of a manifest. -/
def mfWidth (bs : List Byte) : Nat := leAt bs 6 1

/-- FLAGS of a manifest. -/
def mfFlags (bs : List Byte) : Nat := leAt bs 7 1

/-- The tile IDs that a manifest has records for. -/
def mfIds (bs : List Byte) : List Nat := List.range (16 * mfWidth bs)

/-- A record has a field that is not 0. -/
def recUsed (bs : List Byte) (i : Nat) : Bool := recAt bs i 0 12 != 0

/-- R541: what a tile's runtime takes of its vault, in KiB. -/
def runtimeKib (s : State) (i : Nat) : Nat := if tfld s i .TILE_CORE_CTRL f_TILE_CORE_CTRL_COMM_RSV = 1 then 1024 else 0

/-- The CRC of a manifest (R543). -/
def mfCrc (bs : List Byte) : Nat := crc32c (bs.take 24 ++ [0, 0, 0, 0] ++ bs.drop 28)

/-- A check that holds of the header: its code, and whether the manifest fails it. -/
def hdrFail (code : Nat) (bad : Bool) : Option (Nat × Nat) := if bad then some (code, 0) else none

/-- A check over the records, in ascending tile ID. -/
def recFail (bs : List Byte) (code : Nat) (bad : Nat → Bool) : Option (Nat × Nat) :=
  ((mfIds bs).find? bad).map (fun i => (code, i))

/-- R544: the FORMAT checks of a manifest that has been read, after those of the reading. -/
def formatFail (bs : List Byte) : Option (Nat × Nat) :=
  (hdrFail 3 (leAt bs 0 4 != 0x4E464D31 || leAt bs 4 2 != 1 || leAt bs 24 4 != mfCrc bs
    || bitsOf (mfFlags bs) 5 3 != 0 || leAt bs 19 5 != 0 || leAt bs 28 36 != 0))
  <|> recFail bs 3 (fun i => recAt bs i 12 4 != 0)
  <|> hdrFail 3 (leAt bs 18 1 != (mfIds bs).foldl (fun a i => a + recAt bs i 9 1) 0)

/-- R544: the checks from WIDTH to QUEUE, in the order of the table. -/
def limitFail (s : State) (bs : List Byte) : Option (Nat × Nat) :=
  let fl := mfFlags bs
  let mem := fun f => dfld s .TILE_MEM_CFG f
  hdrFail 4 (mfWidth bs == 0 || gridW s < mfWidth bs)
  <|> hdrFail 5 (bitsOf fl 1 1 != mem f_TILE_MEM_CFG_VAULT_MODE || bitsOf fl 4 1 != mem f_TILE_MEM_CFG_CM_HASH
    || (bitOf fl 1 && bitsOf fl 2 2 != mem f_TILE_MEM_CFG_STRIPE))
  <|> recFail bs 6 (fun i => bitOf fl 0 && recAt bs i 9 1 != 0 && runtimeKib s i == 0)
  <|> recFail bs 7 (fun i => tileDown s i && recUsed bs i)
  <|> recFail bs 8 (fun i => 196608 < recAt bs i 0 4 + runtimeKib s i)
  <|> recFail bs 9 (fun i => 8192 < recAt bs i 4 2 + recAt bs i 6 2)
  <|> hdrFail 10 (4096 < leAt bs 16 2)
  <|> recFail bs 10 (fun i => 16 < recAt bs i 8 1)
  <|> hdrFail 11 (64 < leAt bs 18 1)
  <|> recFail bs 11 (fun i => 8 < recAt bs i 9 1 || 1 < recAt bs i 10 1 || recAt bs i 9 1 < recAt bs i 10 1)
  <|> recFail bs 12 (fun i =>
    let q := recAt bs i 11 1
    if q = 0 then recAt bs i 9 1 != 0 else q < 4 || 12 < q)
  <|> hdrFail 13 (dfld s .TILE_MAP_STAT f_TILE_MAP_STAT_MAP_SEQ != s.admSeq)

/-! ### Judging -/

/-- The place of a line of the manifest; none where it lies in no CM or vault of this device. -/
def mfPlace (s : State) (i : Nat) : Option Place :=
  match mapGlobal s none ((regOf s (dk .BOOT_ADM_ADDR)).toNat + 64 * i) with
  | .cm t o => some (.cm t o)
  | .vlt t o => some (.vlt t o)
  | _ => none

/-- The finds of one line of the manifest; `fs` gives them by the number of the line in the manifest. -/
def mfFinds (fs : Finds) (p : Place) (i : Nat) : Finds :=
  match p with
  | .cm _ o => [(lineNo false o, fs.at_ i)]
  | .vlt _ o => [(lineNo true o, fs.at_ i)]
  | _ => []

/-- A read of one line of the manifest. -/
def mfLine (s : State) (fs : Finds) (i : Nat) : RdOut :=
  match mfPlace s i with
  | some p => memRead s p 64 (mfFinds fs p i)
  | none => ⟨stAddr, [], false, []⟩

/-- A line came back with a status other than OK, or poisoned. -/
def RdOut.bad (r : RdOut) : Bool := r.st != stOK || r.psn

/-- The lines of a manifest after its header. -/
def mfLines (hdr : List Byte) : List Nat := (List.range (4 * mfWidth hdr)).map (· + 1)

/-- R544: the outcome of a judgement: a code and a record, or none where every check passes. -/
def judge (s : State) (fs : Finds) : Option (Nat × Nat) × List Byte :=
  if dfld s .TILE_GRID f_TILE_GRID_GRADE = 0 then (some (2, 0), [])
  else
    let hdr := mfLine s fs 0
    if hdr.bad then (some (3, 0), [])
    else
      let ls := mfLines hdr.bytes
      if ls.any (fun i => (mfPlace s i).isNone) then (some (3, 0), [])
      else
        match ls.find? (fun i => (mfLine s fs i).bad) with
        | some i => (some (3, 4 * (i - 1)), [])
        | none =>
          let bs := hdr.bytes ++ (ls.map (fun i => (mfLine s fs i).bytes)).flatten
          (formatFail bs <|> limitFail s bs, bs)

/-- What the reads of the manifest record (R76, R79). -/
def mfReads (fs : Finds) : Act := fun s =>
  if dfld s .TILE_GRID f_TILE_GRID_GRADE = 0 then []
  else
    let hdr := mfLine s fs 0
    seqA ((fun s => (mfLine s fs 0).eff) ::
      (if hdr.bad ∨ (mfLines hdr.bytes).any (fun i => (mfPlace s i).isNone) then []
       else (mfLines hdr.bytes).map (fun i => fun s => (mfLine s fs i).eff))) s

/-- R544: a refusal is counted and reported; event 0xF2 follows. -/
def admRefused : Act := seqA [
  effA [setBit (dk .BOOT_ADM_STAT) f_BOOT_ADM_STAT_REFUSED, .cnt (dk .BOOT_ADM_REFUSE_CNT) f_BOOT_ADM_REFUSE_CNT_COUNT 1],
  hostEvt 0xF2]

/-- CODE and TILE of the last judgement. -/
def admRecord (code tile : Nat) : Act := effA [
  .fld (dk .BOOT_ADM_STAT) f_BOOT_ADM_STAT_CODE code, .fld (dk .BOOT_ADM_STAT) f_BOOT_ADM_STAT_TILE tile]

/-- R544: a write of ADMIT. -/
def admitA : Act := fun s =>
  let busy := dfld s .BOOT_ADM_STAT f_BOOT_ADM_STAT_BUSY = 1
  if busy then admRefused s
  else if dfld s .BOOT_ADM_STAT f_BOOT_ADM_STAT_ADMITTED = 1 ∨ dfld s .TILE_MAP_STAT f_TILE_MAP_STAT_APPLYING = 1 then
    seqA [admRecord 1 0, admRefused] s
  else [.fld (dk .BOOT_ADM_STAT) f_BOOT_ADM_STAT_BUSY 1, .setAdmSeq (dfld s .TILE_MAP_STAT f_TILE_MAP_STAT_MAP_SEQ)]

/-- R544 to R546: a judgement completes. -/
def judgedA (fs : Finds) : Act := fun s =>
  if dfld s .BOOT_ADM_STAT f_BOOT_ADM_STAT_BUSY = 0 then []
  else
    let j := judge s fs
    seqA [mfReads fs, effA [.fld (dk .BOOT_ADM_STAT) f_BOOT_ADM_STAT_BUSY 0],
      (match j.1 with
       | some (code, tile) => seqA [admRecord code tile, admRefused]
       | none => seqA [
          whenA (!s.admittedSince) topoCheck,
          admRecord 0 0,
          effA [setBit (dk .BOOT_ADM_STAT) f_BOOT_ADM_STAT_ADMITTED, .reg (dk .BOOT_ADM_MODEL) (BitVec.ofNat 64 (leAt j.2 8 8)),
            .setAdmittedSince true],
          hostEvt 0xF2])] s

/-- R547: a write of RELEASE. -/
def admReleaseA : Act := fun s =>
  if dfld s .BOOT_ADM_STAT f_BOOT_ADM_STAT_BUSY = 1 then [] else [.fld (dk .BOOT_ADM_STAT) f_BOOT_ADM_STAT_ADMITTED 0]

/-- R548: a map apply that completes withdraws the admission. -/
def admWithdraw : Act := fun s =>
  if dfld s .BOOT_ADM_STAT f_BOOT_ADM_STAT_ADMITTED = 0 then []
  else seqA [
    effA [.fld (dk .BOOT_ADM_STAT) f_BOOT_ADM_STAT_ADMITTED 0, setBit (dk .BOOT_ADM_STAT) f_BOOT_ADM_STAT_WITHDRAWN],
    raiseErr 0x0408 2 0 0 (regOf s (dk .BOOT_ADM_MODEL)).toNat] s

/-- A write to BOOT_ADM_CTRL: RELEASE acts first (R547). -/
def admCtrlA (v : Nat) : Act := seqA [whenA (bitOf v 1) admReleaseA, whenA (bitOf v 0) admitA]

/-! ### The commands -/

/-- R544: a write of BOOT_ADM_CTRL.ADMIT. -/
def execAdmitWrite (s : State) : Host.Outcome State Fault Refusal := runA admitA s

/-- R545: the judgement completes; `ecc` gives what the checks of the manifest's lines find, by line of the manifest. -/
def execAdmitJudgementComplete (ecc : List (Nat × Ecc)) (s : State) : Host.Outcome State Fault Refusal := runA (judgedA ecc) s

/-- R547: a write of RELEASE. -/
def execAdmRelease (s : State) : Host.Outcome State Fault Refusal := runA admReleaseA s

end Sys2Proof.Machine
end

