-- ==== Sys2Proof/Machine/Amq.lean ====
section
/-!
DEFINITION. Sys2Proof/Machine/Amq.lean: active messages: channel records, opening and closing, send ports, landing, combining,
entries, credits, status words (R314, R321 to R347).
-/
namespace Sys2Proof.Machine

/-! ### Records -/

/-- The states of a channel record (R321). -/
def chClosed : Nat := 0
def chListen : Nat := 1
def chOpening : Nat := 2
def chOpen : Nat := 3
def chClosing : Nat := 4
def chDraining : Nat := 5
def chBroken : Nat := 6

/-- A field of a record's configuration and of its status. -/
def chCfg (s : State) (t i : Nat) (f : Fld) : Nat := tfld s t .AMQ_CHAN_CFG f i
def chStat (s : State) (t i : Nat) (f : Fld) : Nat := tfld s t .AMQ_CHAN_STAT f i
def chState (s : State) (t i : Nat) : Nat := chStat s t i f_AMQ_CHAN_STAT_STATE

/-- A record of the send role, and one of the receive role. -/
def isSend (s : State) (t i : Nat) : Bool := chCfg s t i f_AMQ_CHAN_CFG_ROLE == 1
def isRecv (s : State) (t i : Nat) : Bool := chCfg s t i f_AMQ_CHAN_CFG_ROLE == 2

/-- A field of a record's status takes a value. -/
def chPut (t i : Nat) (f : Fld) (x : Nat) : Eff := .fld (tk t .AMQ_CHAN_STAT i) f x

/-- The bytes of a window of code WIN. -/
def winBytes (w : Nat) : Nat := 2 ^ (w + 6)

/-- The number of entries of an AQ's ring. -/
def aqSize (s : State) (t q : Nat) : Nat := 2 ^ tfld s t .AQ_CFG f_AQ_CFG_LOG2_SIZE q

/-- A record that a queue counts as bound: a receive record in LISTEN, OPEN or DRAINING. -/
def boundTo (s : State) (t q i : Nat) : Bool :=
  isRecv s t i && chCfg s t i f_AMQ_CHAN_CFG_AQ == q &&
    (chState s t i == chListen || chState s t i == chOpen || chState s t i == chDraining)

/-! ### Status words (R335) -/

/-- A status word at a CM offset, where the word lies in CM. -/
def statusWord (t off w : Nat) : Act := fun s => if off + 8 ≤ cmSize then memPut (.cm t off) (leBytes 8 w) s else []

/-- R335: a send record's status word. -/
def sendWord (t i : Nat) : Act := fun s =>
  if tfld s t .AMQ_CFG f_AMQ_CFG_SWORD_EN = 1 ∧ isSend s t i = true then
    statusWord t (8 * tfld s t .AMQ_CFG f_AMQ_CFG_SWORD_BASE + 8 * i)
      (chState s t i * 2 ^ 61 + chStat s t i f_AMQ_CHAN_STAT_CREDITS * 2 ^ 40 + amqNaksAt s (t * 64 + i) * 2 ^ 16
        + chStat s t i f_AMQ_CHAN_STAT_MSGS) s
  else []

/-- R335: an AQ's status word. -/
def aqWord (t q : Nat) : Act := fun s =>
  let off := tfld s t .AQ_SWORD f_AQ_SWORD_OFF q
  if tfld s t .AQ_CFG f_AQ_CFG_ENABLE q = 1 ∧ off ≠ 0 then
    statusWord t (8 * off) (aqDiscAt s (t * 8 + q) * 2 ^ 32 + tfld s t .AQ_PI f_AQ_PI_PI q) s
  else []

/-- A bit of AMQ_STAT sets; NAK_SEEN and DISCARD_SEEN signal interrupt source 10 as they set. -/
def amqSet (t : Nat) (f : Fld) : Act := fun s =>
  let rise := tfld s t .AMQ_STAT f = 0 ∧ (f = f_AMQ_STAT_NAK_SEEN ∨ f = f_AMQ_STAT_DISCARD_SEEN)
  setBit (tk t .AMQ_STAT) f :: (if rise then irq t 10 (applyEff s (setBit (tk t .AMQ_STAT) f)) else [])

/-! ### Sending (R325, R326) -/

def goChan (w : Nat) : Nat := bitsOf w 0 6
def goLen (w : Nat) : Nat := bitsOf w 32 7
def goLoff (w : Nat) : Nat := bitsOf w 16 16
def goHandler (w : Nat) : Nat := bitsOf w 8 8

/-- A send port ends a GO without sending it. -/
def goEnd (t c last : Nat) : Act :=
  effA [.fld (tk t .AMQ_SEND_STAT c) f_AMQ_SEND_STAT_LAST last, .fld (tk t .AMQ_SEND_STAT c) f_AMQ_SEND_STAT_BUSY 0,
    .putAmqGo (t * 24 + c) none]

/-- R326: a message takes a credit and is sent, with the first LEN bytes of the port's buffer. -/
def sendMsg (t c w : Nat) : Act := fun s =>
  let i := goChan w
  let buf := (List.range 8).flatMap (fun k => leBytes 8 (regOf s (tk t .AMQ_SEND_BUF (8 * c + k))).toNat)
  let p := mkCn t (chStat s t i f_AMQ_CHAN_STAT_PEER_TILE) 2 (chCfg s t i f_AMQ_CHAN_CFG_TC) (goLen w)
    (chStat s t i f_AMQ_CHAN_STAT_PEER_CHAN * 2 ^ 24 + goHandler w * 2 ^ 16 + goLoff w) (buf.take (goLen w))
  seqA [
    effA [
      chPut t i f_AMQ_CHAN_STAT_CREDITS (chStat s t i f_AMQ_CHAN_STAT_CREDITS - 1),
      chPut t i f_AMQ_CHAN_STAT_MSGS (chStat s t i f_AMQ_CHAN_STAT_MSGS + 1),
      .cnt (tk t .AMQ_TX_CNT) f_AMQ_TX_CNT_COUNT 1,
      .fld (tk t .AMQ_SEND_STAT c) f_AMQ_SEND_STAT_SENT (tfld s t .AMQ_SEND_STAT f_AMQ_SEND_STAT_SENT c + 1)],
    cnSend t { p with rcd := BitVec.ofNat 6 i },
    goEnd t c 0] s

/-- R326: a write of AMQ_SEND_GO. -/
def sendGoA (t c w : Nat) : Act := fun s =>
  let i := goChan w
  let last := fun (n : Nat) => Eff.fld (tk t .AMQ_SEND_STAT c) f_AMQ_SEND_STAT_LAST n
  if tfld s t .AMQ_SEND_STAT f_AMQ_SEND_STAT_BUSY c = 1 then
    last 7 :: amqSet t f_AMQ_STAT_OVERRUN (applyEff s (last 7))
  else if bitsOf w 41 23 ≠ 0 ∨ bitsOf w 39 1 ≠ 0 ∨ bitsOf w 6 2 ≠ 0 then [last 6]
  else if 64 < goLen w then [last 5]
  else if !(isSend s t i && chState s t i == chOpen) then [last 3]
  else if winBytes (chStat s t i f_AMQ_CHAN_STAT_WIN) < goLoff w * 8 + goLen w then [last 4]
  else if chStat s t i f_AMQ_CHAN_STAT_CREDITS = 0 then
    if bitOf w 40 then [last 2]
    else [last 1, setBit (tk t .AMQ_SEND_STAT c) f_AMQ_SEND_STAT_BUSY, .putAmqGo (t * 24 + c) (some (BitVec.ofNat 64 w))]
  else sendMsg t c w s

/-- The ports that wait for a credit of a record. -/
def waitPorts (s : State) (t i : Nat) : List Nat :=
  (List.range 24).filter (fun c =>
    match amqGoAt s (t * 24 + c) with
    | some w => goChan w.toNat == i
    | none => false)

/-- R326: a credit that has arrived goes to the next waiting port, round robin after the last port served. -/
def serveOne (t i : Nat) : Act := fun s =>
  let ps := waitPorts s t i
  let n := amqNextAt s (t * 64 + i)
  if chStat s t i f_AMQ_CHAN_STAT_CREDITS = 0 then []
  else match (ps.find? (fun c => n ≤ c)).orElse (fun _ => ps.head?) with
    | none => []
    | some c =>
      match amqGoAt s (t * 24 + c) with
      | some w => seqA [sendMsg t c w.toNat, effA [.putAmqNext (t * 64 + i) (c + 1)]] s
      | none => []

/-- A record leaves OPEN: every message that it holds for a credit is dropped with CLOSED (R324). -/
def dropHeld (t i : Nat) : Act := fun s => eachA (waitPorts s t i) (fun c => goEnd t c 3) s

/-- A record enters a state. -/
def enter (t i st : Nat) : Act := seqA [effA [chPut t i f_AMQ_CHAN_STAT_STATE st], sendWord t i]

/-! ### Opening and closing (R322 to R324) -/

/-- A CTL packet of a send record: CMD 1 OPEN, 2 CLOSE. -/
def ctlPkt (s : State) (t i dst cmd dchan : Nat) : CnPkt :=
  { mkCn t dst 3 (chCfg s t i f_AMQ_CHAN_CFG_TC) 0
      (cmd * 2 ^ 27 + chCfg s t i f_AMQ_CHAN_CFG_SLVL * 2 ^ 24 + i * 2 ^ 18 + dchan * 2 ^ 12) [] with
    rcd := BitVec.ofNat 6 i }

/-- A command on a record is ignored with CTL_ERR. -/
def ctlErr (t : Nat) : Act := amqSet t f_AMQ_STAT_CTL_ERR

/-- R322: LISTEN. -/
def listenA (t i : Nat) : Act := fun s =>
  let q := chCfg s t i f_AMQ_CHAN_CFG_AQ
  let cr := chCfg s t i f_AMQ_CHAN_CFG_CREDITS
  let used := ((List.range 64).filter (boundTo s t q)).foldl (fun a j => a + chCfg s t j f_AMQ_CHAN_CFG_CREDITS) 0
  let base := chCfg s t i f_AMQ_CHAN_CFG_WIN_BASE * 64
  if isRecv s t i && chState s t i == chClosed && tfld s t .AQ_CFG f_AQ_CFG_ENABLE q == 1
      && decide (base + winBytes (chCfg s t i f_AMQ_CHAN_CFG_WIN) ≤ cmSize) && decide (1 ≤ cr) && decide (used + cr ≤ aqSize s t q)
  then effA [chPut t i f_AMQ_CHAN_STAT_STATE chListen] s
  else ctlErr t s

/-- R323: OPEN. -/
def openA (t i peerChan : Nat) : Act := fun s =>
  let peer := chCfg s t i f_AMQ_CHAN_CFG_PEER
  if !(isSend s t i && chState s t i == chClosed) || chCfg s t i f_AMQ_CHAN_CFG_SLVL == 7 || decide (gridW s ≤ tileX peer)
  then ctlErr t s
  else seqA [
    effA [chPut t i f_AMQ_CHAN_STAT_PEER_CHAN peerChan, chPut t i f_AMQ_CHAN_STAT_PEER_TILE peer],
    cnSend t (ctlPkt s t i peer 1 peerChan), enter t i chOpening] s

/-- R324: a send record closes: held messages are dropped, then CTL CLOSE is sent. -/
def closeSend (t i : Nat) : Act := fun s =>
  seqA [dropHeld t i,
    cnSend t (ctlPkt s t i (chStat s t i f_AMQ_CHAN_STAT_PEER_TILE) 2 (chStat s t i f_AMQ_CHAN_STAT_PEER_CHAN)),
    enter t i chClosing] s

/-- R324: the CLOSE_REQ of a receive record to the send record it is bound to. -/
def closeReq (t i : Nat) : Act := fun s =>
  cnSend t { mkCn t (chStat s t i f_AMQ_CHAN_STAT_PEER_TILE) 0xB (amqTcAt s (t * 64 + i)) 0
      (4 * 2 ^ 27 + chStat s t i f_AMQ_CHAN_STAT_PEER_CHAN * 2 ^ 18) [] with
    rcd := BitVec.ofNat 6 i } s

/-- R322, R324: CLOSE. -/
def closeA (t i : Nat) : Act := fun s =>
  let st := chState s t i
  if isSend s t i then
    if st = chOpen then closeSend t i s
    else if st = chBroken then enter t i chClosed s
    else []
  else if isRecv s t i then
    if st = chListen then effA [chPut t i f_AMQ_CHAN_STAT_STATE chClosed] s
    else if st = chOpen then seqA [effA [chPut t i f_AMQ_CHAN_STAT_STATE chDraining], closeReq t i] s
    else []
  else []

/-- R323: what the receiver answers to an OPEN, and the binding it makes. -/
def ctlOpenA (t : Nat) (p : CnPkt) : Act := fun s =>
  let i := cnFld p 12 6
  let q := chCfg s t i f_AMQ_CHAN_CFG_AQ
  let lvl := tfld s t .AQ_CFG f_AQ_CFG_LEVEL q
  let win := chCfg s t i f_AMQ_CHAN_CFG_WIN
  let cr := chCfg s t i f_AMQ_CHAN_CFG_CREDITS
  let refuse := fun (r : Nat) => ctlRsp t p 1 0 0 r 0
  if tileAsleep s t then refuse 5 s
  else if !(isRecv s t i && chState s t i == chListen) then refuse 1 s
  else if chCfg s t i f_AMQ_CHAN_CFG_ANY = 0 ∧ p.stile.toNat ≠ chCfg s t i f_AMQ_CHAN_CFG_PEER then refuse 2 s
  else if lvl ≤ cnFld p 24 3 then refuse 3 s
  else seqA [
    effA [chPut t i f_AMQ_CHAN_STAT_STATE chOpen, chPut t i f_AMQ_CHAN_STAT_PEER_TILE p.stile.toNat,
      chPut t i f_AMQ_CHAN_STAT_PEER_CHAN (cnFld p 18 6), chPut t i f_AMQ_CHAN_STAT_CREDITS cr,
      .putAmqTc (t * 64 + i) p.tc.toNat],
    ctlRsp t p 1 lvl win 0 cr] s

/-- The packet's source is the one that a receive record is bound to. -/
def boundPeer (s : State) (t i : Nat) (p : CnPkt) : Bool :=
  isRecv s t i && (chState s t i == chOpen || chState s t i == chDraining)
    && chStat s t i f_AMQ_CHAN_STAT_PEER_TILE == p.stile.toNat && chStat s t i f_AMQ_CHAN_STAT_PEER_CHAN == p.rcd.toNat

/-- R324: a CLOSE reaches the receiver. -/
def ctlCloseA (t : Nat) (p : CnPkt) : Act := fun s =>
  let i := cnFld p 12 6
  seqA [
    whenA (boundPeer s t i p && !tileAsleep s t) (effA [chPut t i f_AMQ_CHAN_STAT_STATE chClosed]),
    ctlRsp t p 2 0 0 (if tileAsleep s t then 5 else 0) 0] s

/-- The answer of a send record in a state comes from the peer it waits for. -/
def fromPeer (s : State) (t i st : Nat) (p : CnPkt) : Bool :=
  isSend s t i && chState s t i == st && chStat s t i f_AMQ_CHAN_STAT_PEER_TILE == p.stile.toNat

/-- R323: an OPEN_RSP reaches the sender. -/
def openRspA (t : Nat) (p : CnPkt) : Act := fun s =>
  let i := cnFld p 18 6
  let r := cnFld p 11 3
  if !fromPeer s t i chOpening p then []
  else seqA [
    effA [chPut t i f_AMQ_CHAN_STAT_RESULT r],
    (if r = 0 then effA [chPut t i f_AMQ_CHAN_STAT_DLVL (cnFld p 24 3), chPut t i f_AMQ_CHAN_STAT_WIN (cnFld p 14 4),
      chPut t i f_AMQ_CHAN_STAT_CREDITS (cnFld p 3 8)] else noA),
    enter t i (if r = 0 then chOpen else chClosed)] s

/-- R324: a CLOSE_RSP reaches the sender. -/
def closeRspA (t : Nat) (p : CnPkt) : Act := fun s =>
  let i := cnFld p 18 6
  if fromPeer s t i chClosing p then enter t i chClosed s else []

/-- R324, R342: a CLOSE_REQ reaches the sender. -/
def closeReqA (t : Nat) (p : CnPkt) : Act := fun s =>
  let i := cnFld p 18 6
  if fromPeer s t i chOpen p && chStat s t i f_AMQ_CHAN_STAT_PEER_CHAN == p.rcd.toNat then closeSend t i s
  else if isSend s t i && chState s t i == chClosing then []
  else cnSend t (ctlPkt s t i p.stile.toNat 2 p.rcd.toNat) s

/-! ### Receiving (R327 to R330) -/

/-- A handler's byte. -/
def handlerByte (s : State) (t h : Nat) : Nat := bitsOf (regOf s (tk t .AMQ_HANDLER (h / 8))).toNat (8 * (h % 8)) 8
def hEn (b : Nat) : Bool := bitOf b 7
def hCombine (b : Nat) : Bool := bitOf b 6
def hOp (b : Nat) : Nat := bitsOf b 4 2
def hFmt (b : Nat) : Nat := bitsOf b 2 2

/-- The bytes of an element of a handler's format. -/
def hElem (b : Nat) : Nat := if hFmt b % 2 = 0 then 4 else 8

def amChan (p : CnPkt) : Nat := cnFld p 24 6
def amHandler (p : CnPkt) : Nat := cnFld p 16 8
def amLoff (p : CnPkt) : Nat := cnFld p 0 16

/-- R327: the AMQ_BAD_INFO of a discarded message. -/
def badInfo (p : CnPkt) (reason : Nat) : Nat :=
  2 ^ 63 + reason * 2 ^ 60 + p.stile.toNat * 2 ^ 51 + amChan p * 2 ^ 45 + amHandler p * 2 ^ 37 + amLoff p

/-- R327: a message discarded from order 3 on. -/
def amDiscard (t : Nat) (p : CnPkt) (reason : Nat) : Act := fun s =>
  let q := chCfg s t (amChan p) f_AMQ_CHAN_CFG_AQ
  let cnt := if reason = 4 then TReg.AMQ_COMB_NOARM_CNT else if reason = 5 then .AMQ_COMB_LATE_CNT else .AMQ_DISCARD_CNT
  let rec1 : Act := fun s =>
    if tfld s t .AMQ_STAT f_AMQ_STAT_DISCARD_SEEN = 1 then []
    else [.reg (tk t .AMQ_BAD_INFO) (BitVec.ofNat 64 (badInfo p reason))]
  seqA [
    effA [.cnt (tk t cnt) f_AMQ_DISCARD_CNT_COUNT 1], rec1, amqSet t f_AMQ_STAT_DISCARD_SEEN,
    effA [.putAqDisc (t * 8 + q) ((aqDiscAt s (t * 8 + q) + 1) % 2 ^ 32)], aqWord t q,
    cred t p 4,
    fun s => raiseErr 0x0216 2 reason t (regOf s (tk t .AMQ_BAD_INFO)).toNat s] s

/-- R329: an entry's bytes. -/
def aqEntry (p : CnPkt) (combine psn : Bool) (phase inline_ : Nat) : List Byte :=
  leBytes 8 (amLoff p * 2 ^ 48 + amHandler p * 2 ^ 40 + amChan p * 2 ^ 34 + p.len.toNat * 2 ^ 27 + p.stile.toNat * 2 ^ 18
    + b2n combine * 2 ^ 17 + b2n psn * 2 ^ 16 + phase)
  ++ leBytes 8 inline_

/-- R328: an entry is posted: the entry, PI, the status word, and the interrupt. -/
def postEntry (t q : Nat) (p : CnPkt) (combine psn : Bool) (inline_ : Nat) : Act := fun s =>
  let pi := tfld s t .AQ_PI f_AQ_PI_PI q
  let n := aqSize s t q
  let off := tfld s t .AQ_CFG f_AQ_CFG_BASE q * 16 + pi % n * 16
  seqA [
    (if off + 16 ≤ cmSize then seqA [memPut (.cm t off) (aqEntry p combine psn (1 - pi / n % 2) inline_), bankGrants t (.cm t off) 16 34] else noA),
    effA [.fld (tk t .AQ_PI q) f_AQ_PI_PI ((pi + 1) % 65536)], aqWord t q,
    whenA (tfld s t .AQ_CFG f_AQ_CFG_IRQ_EN q == 1) (irq t 10)] s

/-- A message is accepted: counted, and the record's MSGS rises. -/
def amAccept (t : Nat) (p : CnPkt) : Act := fun s =>
  [.cnt (tk t .AMQ_RX_CNT) f_AMQ_RX_CNT_COUNT 1,
   chPut t (amChan p) f_AMQ_CHAN_STAT_MSGS (chStat s t (amChan p) f_AMQ_CHAN_STAT_MSGS + 1)]

/-- R328: append mode. -/
def amAppend (t : Nat) (p : CnPkt) (fs : Finds) : Act := fun s =>
  let i := amChan p
  let off := chCfg s t i f_AMQ_CHAN_CFG_WIN_BASE * 64 + amLoff p * 8
  seqA [amAccept t p, memStore (.cm t off) p.data (fun _ => p.psn) fs none, bankGrants t (.cm t off) p.data.length 34,
    postEntry t (chCfg s t i f_AMQ_CHAN_CFG_AQ) p false (p.psn && !p.data.isEmpty) (leNat (p.data.take 8))] s

/-- R332: one float element combined: IEEE 754-2019 addition, minimum or maximum. -/
def combFloat (f : FFmt) (op a b : Nat) : Nat :=
  let x := decodeFloat f a
  let y := decodeFloat f b
  if op = 0 then (toFloat f false true (x.add y)).1
  else if x == .nan ∨ y == .nan then canonNan f
  else
    let xLow := x.lt y || (x.isZero && y.isZero && x.sign)
    if op = 1 then (if xLow then a else b) else (if xLow then b else a)

/-- R332: one element combined. -/
def combElem (op fmt a b : Nat) : Nat :=
  let w := if fmt % 2 = 0 then 32 else 64
  if op = 3 then a ||| b
  else if fmt < 2 then
    if op = 0 then (a + b) % 2 ^ w
    else
      let less := decide (toSigned w a < toSigned w b)
      if op = 1 then (if less then a else b) else (if less then b else a)
  else combFloat (if fmt = 2 then fp32 else fp64) op a b

/-- R333: the slot's data after a payload has been combined into it. -/
def combData (b : Nat) (old new : List Byte) : List Byte :=
  let z := hElem b
  (List.range (new.length / z)).flatMap (fun i =>
    leBytes z (combElem (hOp b) (hFmt b) (leAt old (i * z) z) (leAt new (i * z) z)))

/-- R331: credits return to the sender of a channel while it is OPEN or DRAINING. -/
def returnCredits (t i n : Nat) : Act := fun s =>
  let st := chState s t i
  if n = 0 ∨ !(isRecv s t i && (st == chOpen || st == chDraining)) then []
  else cnSend t (mkCn t (chStat s t i f_AMQ_CHAN_STAT_PEER_TILE) 0xA (amqTcAt s (t * 64 + i)) 0
    (chStat s t i f_AMQ_CHAN_STAT_PEER_CHAN * 2 ^ 24 + n * 2 ^ 16) []) s

/-- R327, R333, R334, R346: combine mode, with the slot's two checks. -/
def amCombine (t : Nat) (p : CnPkt) (b : Nat) (fs : Finds) : Act := fun s =>
  let i := amChan p
  let off := chCfg s t i f_AMQ_CHAN_CFG_WIN_BASE * 64 + amLoff p * 8
  let r := memRead s (.cm t off) 8 fs
  let ctl := leNat r.bytes
  let target := bitsOf ctl 16 16
  let count := bitsOf ctl 0 16
  if target = 0 then seqA [effA r.eff, amDiscard t p 4] s
  else if bitOf ctl 63 then seqA [effA r.eff, amDiscard t p 5] s
  else
    let n := p.data.length
    let d := memRead s (.cm t (off + 8)) n fs
    let data := if count = 0 then p.data else combData b d.bytes p.data
    let bad := decide (n ≠ 0) && (p.psn || (count != 0 && d.psn))
    let count' := min (count + 1) 65535
    let done := decide (count < target) && count' == target
    seqA [effA r.eff, whenA (count != 0) (effA d.eff), bankGrants t (.cm t off) (8 + n) 34, amAccept t p,
      effA [.cnt (tk t .AMQ_COMB_CNT) f_AMQ_COMB_CNT_COUNT 1],
      memStore (.cm t (off + 8)) data (fun _ => bad) [] none, bankGrants t (.cm t off) (8 + n) 34,
      memStore (.cm t off) (leBytes 8 (b2n done * 2 ^ 63 + target * 2 ^ 16 + count')) (fun _ => false) [] none,
      (if done then postEntry t (chCfg s t i f_AMQ_CHAN_CFG_AQ) p true bad (leNat (data.take 8)) else returnCredits t i 1)] s

/-- R327: an AM at its destination. -/
def amA (t : Nat) (p : CnPkt) (fs : Finds) : Act := fun s =>
  let i := amChan p
  let b := handlerByte s t (amHandler p)
  let win := winBytes (chCfg s t i f_AMQ_CHAN_CFG_WIN)
  if tileDown s t then cred t p 2 s
  else if tileAsleep s t then cred t p 3 s
  else if !boundPeer s t i p then cred t p 1 s
  else if !hEn b || tfld s t .AQ_CFG f_AQ_CFG_ENABLE (chCfg s t i f_AMQ_CHAN_CFG_AQ) == 0 then amDiscard t p 1 s
  else if win < amLoff p * 8 + p.data.length + (if hCombine b then 8 else 0) then amDiscard t p 2 s
  else if hCombine b then
    if p.data.length % hElem b ≠ 0 then amDiscard t p 3 s else amCombine t p b fs s
  else amAppend t p fs s

/-- R327, R335: a CRED reaches a sender. One with a CSTAT other than OK is counted whatever has become of the record. -/
def credA (t : Nat) (p : CnPkt) : Act := fun s =>
  let i := cnFld p 24 6
  let n := cnFld p 16 8
  let cs := cnFld p 13 3
  let st := chState s t i
  let mine := isSend s t i && (st == chOpen || st == chClosing || st == chBroken) && chStat s t i f_AMQ_CHAN_STAT_PEER_TILE == p.stile.toNat
  if !mine && cs == 0 then []
  else
    let nak : Act := seqA [
      effA [.cnt (tk t .AMQ_NAK_CNT) f_AMQ_NAK_CNT_COUNT 1,
        .putAmqNaks (t * 64 + i) ((amqNaksAt s (t * 64 + i) + 1) % 65536)],
      amqSet t f_AMQ_STAT_NAK_SEEN]
    seqA [
      whenA mine (effA [chPut t i f_AMQ_CHAN_STAT_CREDITS (min 255 (chStat s t i f_AMQ_CHAN_STAT_CREDITS + n))]),
      whenA (cs != 0) nak,
      (if !mine ∨ st = chBroken then noA
       else if 1 ≤ cs ∧ cs ≤ 3 then seqA [dropHeld t i, enter t i chBroken]
       else if st = chOpen then eachA (List.range n) (fun _ => serveOne t i) else noA),
      sendWord t i] s

/-! ### Register writes (R331, R338, R339) -/

/-- R331: the entries that a CI write passes give back their credits, channel by channel. -/
def aqCiWriteA (t q v : Nat) : Act := fun s =>
  let ci := tfld s t .AQ_CI f_AQ_CI_CI q
  let pi := tfld s t .AQ_PI f_AQ_PI_PI q
  let k := idxDiff v ci
  if idxDiff pi ci < k then amqSet t f_AMQ_STAT_CFG_ERR s
  else
    let base := tfld s t .AQ_CFG f_AQ_CFG_BASE q * 16
    let chans := (List.range k).map (fun j =>
      bitsOf (leNat (smRead 0 s.cm (cmKey t (base + (ci + j) % 65536 % aqSize s t q * 16)) 8)) 34 6)
    seqA [
      effA [.fld (tk t .AQ_CI q) f_AQ_CI_CI v],
      eachA (List.range 64) (fun i =>
        let n := (chans.filter (fun c => c == i)).length
        eachA (List.range (ceilDiv n 255)) (fun j => returnCredits t i (min 255 (n - 255 * j))))] s

/-- R338: a write of AQ_CFG. -/
def aqCfgWriteA (t q : Nat) (v : W64) : Act := fun s =>
  let old := regOf s (tk t .AQ_CFG q)
  let new := v &&& regMask (tk t .AQ_CFG q)
  let lg := fget new f_AQ_CFG_LOG2_SIZE
  let moved := fget new f_AQ_CFG_LEVEL ≠ fget old f_AQ_CFG_LEVEL ∨ lg ≠ fget old f_AQ_CFG_LOG2_SIZE
    ∨ fget new f_AQ_CFG_BASE ≠ fget old f_AQ_CFG_BASE
  if (moved ∧ (List.range 64).any (boundTo s t q)) ∨ fget new f_AQ_CFG_LEVEL = 0 ∨ lg < 4 ∨ 12 < lg then
    amqSet t f_AMQ_STAT_CFG_ERR s
  else [.reg (tk t .AQ_CFG q) new]

/-- R339: a write of AMQ_CHAN_CFG. -/
def chanCfgWriteA (t i : Nat) (v : W64) : Act := fun s =>
  let new := v &&& regMask (tk t .AMQ_CHAN_CFG i)
  let win := fget new f_AMQ_CHAN_CFG_WIN
  if chState s t i ≠ chClosed ∨ fget new f_AMQ_CHAN_CFG_ROLE = 3 ∨ 13 < win
      ∨ fget new f_AMQ_CHAN_CFG_WIN_BASE * 64 % winBytes win ≠ 0 then
    amqSet t f_AMQ_STAT_CFG_ERR s
  else [.reg (tk t .AMQ_CHAN_CFG i) new]

/-! ### The commands -/

/-- The updates of `execCnAm`. -/
def cnAmAct (t : Tile) (p : CnPkt) (ecc : List (Nat × Ecc)) : Act := fun s =>
  if cmWaits s (.cm t 0) then [] else cnTake t p 2 (amA t p ecc) s

/-- R327: an AM is ejected at its destination. -/
def execCnAm (t : Tile) (p : CnPkt) (ecc : List (Nat × Ecc)) (s : State) : Host.Outcome State Fault Refusal :=
  runA (cnAmAct t p ecc) s

/-- R327: a CRED is ejected. -/
def execCnCred (t : Tile) (p : CnPkt) (s : State) : Host.Outcome State Fault Refusal :=
  runA (cnTake t p 0xA (credA t p)) s

/-- R323: a CTL OPEN is ejected. -/
def execCnCtlOpen (t : Tile) (p : CnPkt) (s : State) : Host.Outcome State Fault Refusal :=
  runA (if cnFld p 27 3 = 2 then noA else cnTake t p 3 (ctlOpenA t p)) s

/-- R324: a CTL CLOSE is ejected. -/
def execCnCtlClose (t : Tile) (p : CnPkt) (s : State) : Host.Outcome State Fault Refusal :=
  runA (if cnFld p 27 3 = 1 then noA else cnTake t p 3 (ctlCloseA t p)) s

/-- R323: an OPEN_RSP is ejected. -/
def execCnOpenRsp (t : Tile) (p : CnPkt) (s : State) : Host.Outcome State Fault Refusal :=
  runA (if cnFld p 27 3 = 2 ∨ cnFld p 27 3 = 4 then noA else cnTake t p 0xB (openRspA t p)) s

/-- R324: a CLOSE_RSP is ejected. -/
def execCnCloseRsp (t : Tile) (p : CnPkt) (s : State) : Host.Outcome State Fault Refusal :=
  runA (if cnFld p 27 3 = 1 ∨ cnFld p 27 3 = 4 then noA else cnTake t p 0xB (closeRspA t p)) s

/-- R324: a CLOSE_REQ is ejected. -/
def execCnCloseReq (t : Tile) (p : CnPkt) (s : State) : Host.Outcome State Fault Refusal :=
  runA (if cnFld p 27 3 = 1 ∨ cnFld p 27 3 = 2 then noA else cnTake t p 0xB (closeReqA t p)) s

/-- R322: a LISTEN. -/
def execAmqListen (t : Tile) (i : BitVec 6) (s : State) : Host.Outcome State Fault Refusal := runA (listenA t i.toNat) s

/-- R323: an OPEN. -/
def execAmqOpen (t : Tile) (i peerChan : BitVec 6) (s : State) : Host.Outcome State Fault Refusal :=
  runA (openA t i.toNat peerChan.toNat) s

/-- R324: a CLOSE. -/
def execAmqClose (t : Tile) (i : BitVec 6) (s : State) : Host.Outcome State Fault Refusal := runA (closeA t i.toNat) s

/-- R326: a GO. -/
def execAmqSendGo (t : Tile) (c : CoreIx) (v : W64) (s : State) : Host.Outcome State Fault Refusal :=
  runA (sendGoA t c v.toNat) s

/-- R331: a write of AQ_CI. -/
def execAqCiWrite (t : Tile) (q : Fin 8) (v : BitVec 16) (s : State) : Host.Outcome State Fault Refusal :=
  runA (aqCiWriteA t q v.toNat) s

/-- R338: a write of AQ_CFG. -/
def execAqCfgWrite (t : Tile) (q : Fin 8) (v : W64) (s : State) : Host.Outcome State Fault Refusal :=
  runA (aqCfgWriteA t q v) s

/-- R339: a write of AMQ_CHAN_CFG. -/
def execAmqChanCfgWrite (t : Tile) (i : BitVec 6) (v : W64) (s : State) : Host.Outcome State Fault Refusal :=
  runA (chanCfgWriteA t i.toNat v) s

end Sys2Proof.Machine
end

