-- ==== Sys2Proof/Machine/Mxe.lean ====
section
/-!
DEFINITION. Sys2Proof/Machine/Mxe.lean: the MXE (R142 to R149, R162 to R165): checks, the accumulation in W40, arrival-gated operands
and run-ahead reads.
-/
namespace Sys2Proof.Machine

/-- The fields of an MXE descriptor. -/
structure MxeD where
  a : Nat
  b : Nat
  c : Nat
  d : Nat
  m : Nat
  n : Nat
  k : Nat
  lda : Nat
  ldb : Nat
  ldc : Nat
  fa : Nat
  fb : Nat
  fc : Nat
  mode : Nat
  acc : Nat
  sa : Nat
  sb : Nat
  gflags : Nat
  gval : Nat
  np : Nat
  pk : Nat
  opnd : Nat
  ahead : Nat
  tmo : Nat

/-- R144: the descriptor's fields. -/
def mxeD (bs : List Byte) : MxeD :=
  { a := leAt bs 8 4, b := leAt bs 12 4, c := leAt bs 16 4, d := leAt bs 20 4,
    m := leAt bs 24 2, n := leAt bs 26 2, k := leAt bs 28 2,
    lda := leAt bs 32 4, ldb := leAt bs 36 4, ldc := leAt bs 40 4,
    fa := leAt bs 44 1, fb := leAt bs 45 1, fc := leAt bs 46 1,
    mode := bitsOf (leAt bs 47 1) 0 4, acc := bitsOf (leAt bs 47 1) 4 2,
    sa := leAt bs 48 4, sb := leAt bs 52 4, gflags := leAt bs 64 4, gval := leAt bs 68 4,
    np := leAt bs 72 2, pk := leAt bs 74 2, opnd := leAt bs 76 1, ahead := leAt bs 77 1, tmo := leAt bs 78 2 }

/-- R103: scale blocks along K. -/
def MxeD.kb (d : MxeD) : Nat := ceilDiv d.k 32

/-- The ranges of A, B, C, D and the scale arrays, as offsets and lengths. -/
def MxeD.rngA (d : MxeD) : Nat × Nat := (d.a, (d.m - 1) * d.lda + arrayBytes (fmtCode d.fa) d.k)
def MxeD.rngB (d : MxeD) : Nat × Nat := (d.b, (d.k - 1) * d.ldb + arrayBytes (fmtCode d.fb) d.n)
def MxeD.rngC (d : MxeD) : Nat × Nat := (d.c, (d.m - 1) * d.ldc + arrayBytes (fmtCode d.fc) d.n)
def MxeD.rngD (d : MxeD) : Nat × Nat := (d.d, (d.m - 1) * d.ldc + arrayBytes (fmtCode d.fc) d.n)
def MxeD.rngs (d : MxeD) : List (Nat × Nat) :=
  [d.rngA, d.rngB, d.rngC] ++ (if d.acc = 1 then [d.rngD] else [])
    ++ (if fmtMx d.fa then [(d.sa, d.m * d.kb)] else []) ++ (if fmtMx d.fb then [(d.sb, d.kb * d.n)] else [])

/-- R107, R143: the codes of an operand. -/
def mxeSrcCode (c : Nat) : Bool := decide (2 ≤ c) && decide (c ≤ 8) || c == 0xB || c == 0xC || c == 0xD

/-- R102, R106, R138, R142 to R144: the post-time checks of an MXE descriptor. -/
def mxeCheck (t : Nat) (bs : List Byte) : Nat :=
  let d := mxeD bs
  let ca := fmtCode d.fa
  let cb := fmtCode d.fb
  let cc := fmtCode d.fc
  let fmt := fmtBad d.fa || fmtBad d.fb || fmtBad d.fc || fmtMx d.fc || modeBad d.mode || decide (64 ≤ leAt bs 47 1)
    || decide (2 ≤ d.acc) || leAt bs 30 2 != 0 || leAt bs 56 8 != 0 || leAt bs 80 32 != 0
    || !mxeSrcCode ca || !mxeSrcCode cb || isFloat ca != isFloat cb
    || !(if isFloat ca then cc == 1 || cc == 2 || cc == 3 else cc == 9)
    || !alignOk ca d.a || !alignOk cb d.b || !alignOk cc d.c || (d.acc == 1 && !alignOk cc d.d)
    || d.lda % strideUnit ca != 0 || d.ldb % strideUnit cb != 0 || d.ldc % strideUnit cc != 0
    || (d.np != 0 && (decide (2 < d.opnd) || d.gflags % 8 != 0))
  let groups := fun (c n : Nat) => (contBits c == 6 && n % 4 != 0) || (contBits c == 4 && n % 2 != 0)
  let zero := d.m == 0 || d.n == 0 || d.k == 0
  let len := zero || decide (256 < d.np) || (d.np != 0 && decide (d.np * d.pk < d.k)) || (d.np != 0 && decide (64 < d.ahead))
    || groups ca d.k || groups cb d.n
  let gate := d.np != 0 && decide (cmSize < d.gflags + 8 * d.np)
  let addr := if zero then stOK
    else if gate then stAddr else d.rngs.foldl (fun a r => stMerge a (ownPost t r.1 r.2)) stOK
  stMerge addr (stMerge (if fmt then stFmt else stOK) (if len then stLen else stOK))

/-! ### Values and accumulation (R145) -/

/-- Float operands accumulate in W40. -/
def MxeD.flt (d : MxeD) : Bool := isFloat (fmtCode d.fa)

/-- A value rounded to W40 under RNE. -/
def inW40 (v : Val) : Val := decodeFloat w40 (toW40 v)

/-- −0, which changes no sum it starts. -/
def Val.unit : Val := .fin true 0 0

/-- One product along K: exact run sums of 32, each rounded once to W40 and added; integers accumulate exactly. -/
def MxeAcc.step (d : MxeD) (k : Nat) (c : MxeAcc) (a b : Val) (bad : Bool) : MxeAcc :=
  let p := a.mul b
  if d.flt then
    let run := c.run.add p
    if (k + 1) % 32 = 0 ∨ k + 1 = d.k then ⟨inW40 (c.acc.add (inW40 run)), .unit, c.bad || bad⟩
    else ⟨c.acc, run, c.bad || bad⟩
  else ⟨c.acc.add p, c.run, c.bad || bad⟩

/-- What the MXE sees of one operand element: its value, and whether it or its scale is poisoned. -/
structure MxeEl where
  v   : Val
  bad : Bool

/-- R147: a byte of an operand reads poisoned: as it was read ahead where the MXE holds its line, as it reads now elsewhere. -/
def mxePsn (s : State) (t off : Nat) (fs : Finds) : Bool :=
  match (mxeHeldAt s t).find? (fun e => e.1 == off / 64) with
  | some e => e.2
  | none => ownPsn s t off fs 0

/-- Element i of the row that starts at an offset, with its scale byte at `soff`; `ws` are the ranges of C where they overlap the
operand (R161). -/
def mxeEl (s : State) (t row soff code : Nat) (mx : Bool) (i : Nat) (fs : Finds) (ws : List (Nat × Nat)) : MxeEl :=
  let f := elemFirst code i
  let l := elemLast code i
  let bs := mixBytes (s.free + row + f) (inRanges ws (row + f)) (ownRead s t (row + f) (l + 1 - f) []).bytes
  let raw := bitsOf (leNat bs) (contBits code * i % 8) (elemBits code)
  let sc := if mx then leNat (ownRead s t soff 1 []).bytes else 0
  ⟨if mx then mxValue code sc raw else decodeElem code raw,
    mxePsn s t (row + f) fs || mxePsn s t (row + l) fs || (mx && ownPsn s t soff fs 0)⟩

/-- A[m][k] and B[k][n]. -/
def MxeD.elA (d : MxeD) (s : State) (t m k : Nat) (fs : Finds) : MxeEl :=
  mxeEl s t (d.a + m * d.lda) (d.sa + m * d.kb + k / 32) (fmtCode d.fa) (fmtMx d.fa) k fs [d.rngC]
def MxeD.elB (d : MxeD) (s : State) (t k n : Nat) (fs : Finds) : MxeEl :=
  mxeEl s t (d.b + k * d.ldb) (d.sb + k / 32 * d.n + n) (fmtCode d.fb) (fmtMx d.fb) n fs [d.rngC]

/-- C as it starts: D, or zero. -/
def MxeD.start (d : MxeD) (s : State) (t : Nat) (fs : Finds) : List MxeAcc :=
  (List.range (d.m * d.n)).map (fun i =>
    if d.acc = 1 then
      let e := mxeEl s t (d.d + i / d.n * d.ldc) 0 (fmtCode d.fc) false (i % d.n) fs (if d.d = d.c then [] else [d.rngC])
      ⟨if d.flt then inW40 e.v else e.v, .unit, e.bad⟩
    else ⟨.zero, .unit, false⟩)

/-- The rows k0 to k1 − 1 of K are consumed in order. -/
def MxeD.consume (d : MxeD) (s : State) (t k0 k1 : Nat) (fs : Finds) (acc : List MxeAcc) : List MxeAcc :=
  acc.zipIdx.map (fun p =>
    (List.range (k1 - k0)).foldl (fun c j =>
      let a := d.elA s t (p.2 / d.n) (k0 + j) fs
      let b := d.elB s t (k0 + j) (p.2 % d.n) fs
      c.step d (k0 + j) a.v b.v (a.bad || b.bad)) p.1)

/-- The ranges of A (and of B) that the rows k0 to k1 − 1 of K read, with their scales. -/
def MxeD.readsA (d : MxeD) (k0 k1 : Nat) : List (Nat × Nat) :=
  let f := elemFirst (fmtCode d.fa) k0
  let l := elemLast (fmtCode d.fa) (k1 - 1)
  (List.range d.m).flatMap (fun m =>
    (d.a + m * d.lda + f, l + 1 - f) ::
    (if fmtMx d.fa then [(d.sa + m * d.kb + k0 / 32, (k1 - 1) / 32 - k0 / 32 + 1)] else []))
def MxeD.readsB (d : MxeD) (k0 k1 : Nat) : List (Nat × Nat) :=
  (List.range (k1 - k0)).map (fun j => (d.b + (k0 + j) * d.ldb, arrayBytes (fmtCode d.fb) d.n)) ++
  (if fmtMx d.fb then [(d.sb + k0 / 32 * d.n, ((k1 - 1) / 32 - k0 / 32 + 1) * d.n)] else [])

/-- R147: the lines of a range that the MXE does not hold are read; those it holds are consumed. -/
def mxeTouch (t req : Nat) (fs : Finds) (r : Nat × Nat) : Act := fun s =>
  eachA (lineStarts r.1 r.2) (fun l => fun s =>
    if (mxeHeldAt s t).any (fun e => e.1 == l / 64) then []
    else ownTouch t l (min (r.1 + r.2) ((l / 64 + 1) * 64) - l) req fs s) s

/-- R147: the lines that ranges cover, as own-tile offsets ÷ 64. -/
def rangeLines (rs : List (Nat × Nat)) : List Nat := (rs.flatMap (fun r => (lineStarts r.1 r.2).map (· / 64))).eraseDups

/-- R145: C is written from the accumulators and the descriptor's work is recorded. -/
def mxeWrite (t idx : Nat) (d : MxeD) (acc : List MxeAcc) : Act :=
  let rows := chunks d.n (d.m + 1) acc
  let cc := fmtCode d.fc
  let outs := rows.map (fun r => encodeArr cc false d.mode (r.map (·.acc)) (fun i => ((r.drop i).head?.map (·.bad)).getD false))
  localJob t 0 idx 26 [] [] (outs.zipIdx.map (fun p => ⟨d.c + p.2 * d.ldc, p.1.data, p.1.psn⟩)) (d.m * d.n)
    (outs.foldl (fun a o => a ||| o.flags) 0)

/-- R145, R164: the MXE reads and consumes the rows k0 to k1 − 1 of K: what the reads do, and C after them. -/
def mxeReads (t : Nat) (d : MxeD) (k0 k1 : Nat) (fs : Finds) : Act := seqA [
  eachA (d.readsA k0 k1) (mxeTouch t 24 fs), eachA (d.readsB k0 k1) (mxeTouch t 25 fs)]

/-! ### Arrival gates (R146) -/

/-- R146: the rows of K that piece i covers. -/
def MxeD.pieceLo (d : MxeD) (i : Nat) : Nat := min (i * d.pk) d.k
def MxeD.pieceHi (d : MxeD) (i : Nat) : Nat := min ((i + 1) * d.pk) d.k

/-- R146, R164: piece i is ready: it covers no rows, or its flag word, not poisoned, has reached GATE_VALUE. -/
def MxeD.ready (d : MxeD) (s : State) (t i : Nat) : Bool :=
  if d.pieceLo i = d.k then true
  else
    let r := ownRead s t (d.gflags + 8 * i) 8 []
    if inRanges [d.rngC] (d.gflags + 8 * i) 0 then Config.freeBit (s.free + i) else
    r.st == stOK && !r.psn && bitsOf (leNat r.bytes % 2 ^ 32 + 2 ^ 32 - d.gval) 31 1 == 0

/-- The gated lines from a piece onward, in K order. -/
def MxeD.aheadLines (d : MxeD) (piece : Nat) : List (Nat × Nat) :=
  let ps := (List.range (d.np - piece)).filter (fun i => d.pieceLo (piece + i) < d.pieceHi (piece + i))
  ps.flatMap (fun i =>
    let k0 := d.pieceLo (piece + i)
    let k1 := d.pieceHi (piece + i)
    (if d.opnd = 0 then [] else (rangeLines (d.readsA k0 k1)).map (fun l => (24, l))) ++
    (if d.opnd = 1 then [] else (rangeLines (d.readsB k0 k1)).map (fun l => (25, l))))

/-- R147, R148: a run-ahead read of one line: granted and counted; an uncorrectable error is recorded at the find. -/
def aheadRead (t : Nat) (fs : Finds) (e : Nat × Nat) : Act := fun s =>
  let off := e.2 * 64
  match ownPlace t off with
  | none => []
  | some p =>
    if memStatus s p ≠ stOK then []
    else
      let f := fs.at_ e.2
      let found : Act := fun s =>
        match p with
        | .cm _ o => cmLineRead t o f s
        | .vlt _ o =>
          let m := vltLnAt s (vltLineKey t o)
          if m.wr = false ∨ m.psn then []
          else match f with
            | .clean => []
            | .corr => vltCe t o s
            | .uncorr => vltUe t o 2 s
        | _ => []
      let held := mxeHeldAt s t
      let bad := ownPsn s t off fs 0
      seqA [found, bankGrants t p 64 e.1,
        effA [.putMxeHeld t (held ++ [(e.2, bad)]), .cnt (tk t .TILE_MXE_RA_READ) f_TILE_MXE_RA_READ_COUNT 1]] s

/-- R147: while the MXE waits for a piece it reads ahead up to `want` lines, holding at most RUNAHEAD. -/
def aheadA (t want : Nat) (fs : Finds) : Act := fun s =>
  match mxeAt s t with
  | none => []
  | some k =>
    let d := mxeD k.raw
    if d.ready s t k.piece then []
    else
      let held := mxeHeldAt s t
      let new := (d.aheadLines k.piece).filter (fun l => !held.any (fun e => e.1 == l.2))
      eachA (new.take (min want (d.ahead - held.length))) (aheadRead t fs) s

/-- R144 to R147: the MXE starts a descriptor: an ungated one runs at once, a gated one waits for its first piece. -/
def mxeRun (t idx : Nat) (bs : List Byte) (ahead : Nat) (fs : Finds) : Act := fun s =>
  let d := mxeD bs
  match firstBad s t d.rngs with
  | some (st, off) => modDesc t 0 idx (fun e => e.fail st (ownGlobal s t off)) s
  | none =>
    let acc := d.start s t fs
    let readD := whenA (d.acc == 1) (ownTouch t d.rngD.1 d.rngD.2 26 fs)
    if d.np = 0 then
      let c := d.consume s t 0 d.k fs acc
      seqA [readD, mxeReads t d 0 d.k fs, mxeWrite t idx d c, effA [.setFree (s.free + 2 ^ 33)]] s
    else seqA [readD, modDesc t 0 idx (fun e => { e with ext := .gate }), effA [.putMxe t (some ⟨idx, bs, 0, acc⟩)],
      aheadA t ahead fs] s

/-- R144: the MXE takes up its next descriptor, one at a time. -/
def mxeMatmulA (t ahead : Nat) (fs : Finds) : Act := fun s =>
  if (mxeAt s t).isSome then []
  else takeDesc t 0 0x10 (fun _ bs => mxeCheck t bs) (fun idx bs => mxeRun t idx bs ahead fs) s

/-- R149: a wait for a piece is counted. -/
def gateWaited (t waited : Nat) : Eff := .cnt (tk t .TILE_MXE_GATE_WAIT) f_TILE_MXE_GATE_WAIT_COUNT waited

/-- R146: the piece the MXE waits for is ready: it is consumed, and after the last one C is written. -/
def mxePieceA (t waited ahead : Nat) (fs : Finds) : Act := fun s =>
  match mxeAt s t with
  | none => []
  | some k =>
    let d := mxeD k.raw
    if !d.ready s t k.piece || engineStopped s t then []
    else
      let k0 := d.pieceLo k.piece
      let k1 := d.pieceHi k.piece
      let acc := if k0 < k1 then d.consume s t k0 k1 fs k.acc else k.acc
      let lines := if k0 < k1 then rangeLines (d.readsA k0 k1 ++ d.readsB k0 k1) else []
      seqA [
        effA [gateWaited t waited],
        whenA (decide (k0 < k1)) (mxeReads t d k0 k1 fs),
        fun s => [.putMxeHeld t ((mxeHeldAt s t).filter (fun e => !lines.contains e.1))],
        if k.piece + 1 < d.np then seqA [effA [.putMxe t (some { k with piece := k.piece + 1, acc := acc })], aheadA t ahead fs]
        else seqA [effA [.clrMxe [t]], cancelAllHeld t, modDesc t 0 k.idx (fun e => { e with ext := .none }),
          mxeWrite t k.idx d acc, effA [.setFree (s.free + 2 ^ 33)]]] s

/-- R149: the MXE has waited GATE_TIMEOUT × 1,024 CCLK on one piece. -/
def mxeTimeoutA (t : Nat) : Act := fun s =>
  match mxeAt s t with
  | none => []
  | some k =>
    let d := mxeD k.raw
    if d.tmo = 0 ∨ d.ready s t k.piece then []
    else seqA [effA [gateWaited t (d.tmo * 1024), .clrMxe [t]], cancelAllHeld t,
      modDesc t 0 k.idx (fun e => { e with status := stMerge e.status stGate, count := 0, ext := .none })] s

/-- R144: an MXE descriptor; `ahead` lines are read ahead while its first piece is awaited. -/
def execMxeMatmul (t : Tile) (ahead : Nat) (ecc : List (Nat × Ecc)) (s : State) : Host.Outcome State Fault Refusal :=
  runA (mxeMatmulA t ahead ecc) s

/-- R146: a gated piece becomes ready; the MXE waited `waited` CCLK for it and reads `ahead` lines ahead for the next. -/
def execMxePieceReady (t : Tile) (waited ahead : Nat) (ecc : List (Nat × Ecc)) (s : State) : Host.Outcome State Fault Refusal :=
  runA (mxePieceA t waited ahead ecc) s

/-- R149: a gate expires. -/
def execMxeGateTimeout (t : Tile) (s : State) : Host.Outcome State Fault Refusal := runA (mxeTimeoutA t) s

end Sys2Proof.Machine
end

