-- ==== Sys2Proof/Machine/Crypto.lean ====
section
/-!
DEFINITION. Sys2Proof/Machine/Crypto.lean: the algorithms that the spec names: SHA-256 and SHA-384, HMAC-SHA-256 (R622, R623), and the
check of an ECDSA P-384 signature (R677, R680). PRESUMED: their definitions come from FIPS 180-4, RFC 2104 and FIPS 186-4 (log 12).
-/
namespace Sys2Proof.Machine

/-! ### SHA-2 -/

/-- A number in `n` bytes, the most significant first. -/
def beBytes (n x : Nat) : List Byte := (leBytes n x).reverse

/-- The number that bytes spell, the most significant first. -/
def beNat (bs : List Byte) : Nat := leNat bs.reverse

/-- What one SHA-2 function fixes: the word width, the rotations of the four mixing functions (the last of the lower-case ones a shift),
and the round constants. -/
structure Sha where
  w   : Nat
  s0  : Nat × Nat × Nat
  s1  : Nat × Nat × Nat
  e0  : Nat × Nat × Nat
  e1  : Nat × Nat × Nat
  k   : List Nat
deriving DecidableEq, Repr

/-- A rotation to the right. -/
def Sha.rot (h : Sha) (x r : Nat) : Nat := x / 2 ^ r + x % 2 ^ r * 2 ^ (h.w - r)

/-- Three numbers combined bit by bit by exclusive or. -/
def xor3 (a b c : Nat) : Nat := Nat.xor (Nat.xor a b) c

/-- An upper-case mixing function. -/
def Sha.big (h : Sha) (r : Nat × Nat × Nat) (x : Nat) : Nat := xor3 (h.rot x r.1) (h.rot x r.2.1) (h.rot x r.2.2)

/-- A lower-case mixing function. -/
def Sha.small (h : Sha) (r : Nat × Nat × Nat) (x : Nat) : Nat := xor3 (h.rot x r.1) (h.rot x r.2.1) (x / 2 ^ r.2.2)

/-- One round on the eight working words; `x` is the round constant plus the schedule's word. -/
def Sha.round (h : Sha) (v : List Nat) (x : Nat) : List Nat :=
  match v with
  | [a, b, c, d, e, f, g, i] =>
    let t1 := i + h.big h.e1 e + Nat.xor (e &&& f) ((2 ^ h.w - 1 - e) &&& g) + x
    let t2 := h.big h.e0 a + xor3 (a &&& b) (a &&& c) (b &&& c)
    [(t1 + t2) % 2 ^ h.w, a, b, c, (d + t1) % 2 ^ h.w, e, f, g]
  | _ => v

/-- The message schedule of a block, newest word first. -/
def Sha.schedule (h : Sha) : Nat → List Nat → List Nat
  | 0, ws => ws
  | n + 1, ws =>
    h.schedule n ((h.small h.s1 (ws.getD 1 0) + ws.getD 6 0 + h.small h.s0 (ws.getD 14 0) + ws.getD 15 0) % 2 ^ h.w :: ws)

/-- One block. -/
def Sha.block (h : Sha) (v : List Nat) (blk : List Byte) : List Nat :=
  let ws := (h.schedule (h.k.length - 16) ((chunks (h.w / 8) 16 blk).map beNat).reverse).reverse
  let r := (List.zipWith (· + ·) h.k ws).foldl h.round v
  List.zipWith (fun a b => (a + b) % 2 ^ h.w) v r

/-- The padded message. -/
def Sha.pad (h : Sha) (bs : List Byte) : List Byte :=
  let b := h.w * 2
  let z := (2 * b - (bs.length + 1 + h.w / 4) % b) % b
  bs ++ [0x80] ++ List.replicate z 0 ++ beBytes (h.w / 4) (8 * bs.length)

/-- The hash of a message from initial words: the first `n` bytes. -/
def Sha.run (h : Sha) (v : List Nat) (n : Nat) (bs : List Byte) : List Byte :=
  let m := h.pad bs
  (((chunks (2 * h.w) (m.length / (2 * h.w)) m).foldl h.block v).flatMap (beBytes (h.w / 8))).take n

/-- SHA-256. -/
def sha256 : List Byte → List Byte :=
  Sha.run ⟨32, (7, 18, 3), (17, 19, 10), (2, 13, 22), (6, 11, 25),
  [0x428A2F98, 0x71374491, 0xB5C0FBCF, 0xE9B5DBA5, 0x3956C25B, 0x59F111F1, 0x923F82A4, 0xAB1C5ED5,
   0xD807AA98, 0x12835B01, 0x243185BE, 0x550C7DC3, 0x72BE5D74, 0x80DEB1FE, 0x9BDC06A7, 0xC19BF174,
   0xE49B69C1, 0xEFBE4786, 0x0FC19DC6, 0x240CA1CC, 0x2DE92C6F, 0x4A7484AA, 0x5CB0A9DC, 0x76F988DA,
   0x983E5152, 0xA831C66D, 0xB00327C8, 0xBF597FC7, 0xC6E00BF3, 0xD5A79147, 0x06CA6351, 0x14292967,
   0x27B70A85, 0x2E1B2138, 0x4D2C6DFC, 0x53380D13, 0x650A7354, 0x766A0ABB, 0x81C2C92E, 0x92722C85,
   0xA2BFE8A1, 0xA81A664B, 0xC24B8B70, 0xC76C51A3, 0xD192E819, 0xD6990624, 0xF40E3585, 0x106AA070,
   0x19A4C116, 0x1E376C08, 0x2748774C, 0x34B0BCB5, 0x391C0CB3, 0x4ED8AA4A, 0x5B9CCA4F, 0x682E6FF3,
   0x748F82EE, 0x78A5636F, 0x84C87814, 0x8CC70208, 0x90BEFFFA, 0xA4506CEB, 0xBEF9A3F7, 0xC67178F2]⟩
  [0x6A09E667, 0xBB67AE85, 0x3C6EF372, 0xA54FF53A, 0x510E527F, 0x9B05688C, 0x1F83D9AB, 0x5BE0CD19] 32

/-- SHA-384. -/
def sha384 : List Byte → List Byte :=
  Sha.run ⟨64, (1, 8, 7), (19, 61, 6), (28, 34, 39), (14, 18, 41),
  [0x428A2F98D728AE22, 0x7137449123EF65CD, 0xB5C0FBCFEC4D3B2F, 0xE9B5DBA58189DBBC,
   0x3956C25BF348B538, 0x59F111F1B605D019, 0x923F82A4AF194F9B, 0xAB1C5ED5DA6D8118,
   0xD807AA98A3030242, 0x12835B0145706FBE, 0x243185BE4EE4B28C, 0x550C7DC3D5FFB4E2,
   0x72BE5D74F27B896F, 0x80DEB1FE3B1696B1, 0x9BDC06A725C71235, 0xC19BF174CF692694,
   0xE49B69C19EF14AD2, 0xEFBE4786384F25E3, 0x0FC19DC68B8CD5B5, 0x240CA1CC77AC9C65,
   0x2DE92C6F592B0275, 0x4A7484AA6EA6E483, 0x5CB0A9DCBD41FBD4, 0x76F988DA831153B5,
   0x983E5152EE66DFAB, 0xA831C66D2DB43210, 0xB00327C898FB213F, 0xBF597FC7BEEF0EE4,
   0xC6E00BF33DA88FC2, 0xD5A79147930AA725, 0x06CA6351E003826F, 0x142929670A0E6E70,
   0x27B70A8546D22FFC, 0x2E1B21385C26C926, 0x4D2C6DFC5AC42AED, 0x53380D139D95B3DF,
   0x650A73548BAF63DE, 0x766A0ABB3C77B2A8, 0x81C2C92E47EDAEE6, 0x92722C851482353B,
   0xA2BFE8A14CF10364, 0xA81A664BBC423001, 0xC24B8B70D0F89791, 0xC76C51A30654BE30,
   0xD192E819D6EF5218, 0xD69906245565A910, 0xF40E35855771202A, 0x106AA07032BBD1B8,
   0x19A4C116B8D2D0C8, 0x1E376C085141AB53, 0x2748774CDF8EEB99, 0x34B0BCB5E19B48A8,
   0x391C0CB3C5C95A63, 0x4ED8AA4AE3418ACB, 0x5B9CCA4F7763E373, 0x682E6FF3D6B2B8A3,
   0x748F82EE5DEFB2FC, 0x78A5636F43172F60, 0x84C87814A1F0AB72, 0x8CC702081A6439EC,
   0x90BEFFFA23631E28, 0xA4506CEBDE82BDE9, 0xBEF9A3F7B2C67915, 0xC67178F2E372532B,
   0xCA273ECEEA26619C, 0xD186B8C721C0C207, 0xEADA7DD6CDE0EB1E, 0xF57D4F7FEE6ED178,
   0x06F067AA72176FBA, 0x0A637DC5A2C898A6, 0x113F9804BEF90DAE, 0x1B710B35131C471B,
   0x28DB77F523047D84, 0x32CAAB7B40C72493, 0x3C9EBE0A15C9BEBC, 0x431D67C49C100D4C,
   0x4CC5D4BECB3E42B6, 0x597F299CFC657E2A, 0x5FCB6FAB3AD6FAEC, 0x6C44198C4A475817]⟩
  [0xCBBB9D5DC1059ED8, 0x629A292A367CD507, 0x9159015A3070DD17, 0x152FECD8F70E5939,
   0x67332667FFC00B31, 0x8EB44A8768581511, 0xDB0C2E0D64F98FA7, 0x47B5481DBEFA4FA4] 48

/-- HMAC-SHA-256 with a key of at most 64 bytes. -/
def hmac256 (key msg : List Byte) : List Byte :=
  let k := key ++ List.replicate (64 - key.length) 0
  sha256 (k.map (· ^^^ 0x5C) ++ sha256 (k.map (· ^^^ 0x36) ++ msg))

/-! ### ECDSA on P-384 -/

/-- The prime of the field. -/
def p384 : Nat := 2 ^ 384 - 2 ^ 128 - 2 ^ 96 + 2 ^ 32 - 1

/-- The order of the base point. -/
def n384 : Nat := 0xFFFFFFFFFFFFFFFFFFFFFFFFFFFFFFFFFFFFFFFFFFFFFFFFC7634D81F4372DDF581A0DB248B0A77AECEC196ACCC52973

/-- The coefficient b of the curve. -/
def b384 : Nat := 0xB3312FA7E23EE7E4988E056BE3F82D19181D9C6EFE8141120314088F5013875AC656398D8A2ED19D2A85C8EDD3EC2AEF

/-- The base point. -/
def g384 : Nat × Nat :=
  (0xAA87CA22BE8B05378EB1C71EF320AD746E1D3B628BA79B9859F741E082542A385502F25DBF55296C3A545E3872760AB7,
   0x3617DE4A96262C6F5D9E98BF9292DC29F8F41DBD289A147CE9DA3113B5F0B8C00A60B1CE1D7E819D7A431D7C90EA0E5F)

/-- A power modulo m, by the low `n` bits of the exponent. -/
def powMod (m : Nat) : Nat → Nat → Nat → Nat
  | 0, _, _ => 1 % m
  | n + 1, b, e => powMod m n (b * b % m) (e / 2) * (if e % 2 = 1 then b else 1) % m

/-- The inverse modulo a prime of 384 bits. -/
def invMod (m a : Nat) : Nat := powMod m 384 (a % m) (m - 2)

/-- A point of the curve in Jacobian coordinates: (X, Y, Z) is (X/Z², Y/Z³), and Z = 0 the neutral point. -/
abbrev JacPt : Type := Nat × Nat × Nat

/-- Twice a point. -/
def ecDouble (a : JacPt) : JacPt :=
  forceNat (a.2.2 * a.2.2 % p384) fun d => forceNat (a.2.1 * a.2.1 % p384) fun g => forceNat (a.1 * g % p384) fun b =>
  forceNat (3 * (a.1 + p384 - d) * (a.1 + d) % p384) fun h => forceNat ((h * h + 8 * (p384 - b)) % p384) fun x =>
  forceNat ((h * (4 * b + p384 - x) + 8 * (p384 - g) * g) % p384) fun y => forceNat (2 * a.2.1 * a.2.2 % p384) fun z => (x, y, z)

/-- The sum of two points. -/
def ecAdd (a b : JacPt) : JacPt :=
  if a.2.2 = 0 then b else if b.2.2 = 0 then a
  else
    forceNat (a.2.2 * a.2.2 % p384) fun za => forceNat (b.2.2 * b.2.2 % p384) fun zb =>
    forceNat (a.1 * zb % p384) fun ua => forceNat ((b.1 * za + p384 - ua) % p384) fun h =>
    forceNat (a.2.1 * b.2.2 % p384 * zb % p384) fun sa => forceNat ((b.2.1 * a.2.2 % p384 * za + p384 - sa) % p384) fun r =>
    if h = 0 then (if r = 0 then ecDouble a else (1, 1, 0))
    else
      forceNat (h * h % p384) fun h2 => forceNat (ua * h2 % p384) fun v => forceNat (h * h2 % p384) fun h3 =>
      forceNat ((r * r + 3 * p384 - h3 - 2 * v) % p384) fun x =>
      forceNat ((r * (v + p384 - x) + sa * (p384 - h3)) % p384) fun y =>
      forceNat (h * a.2.2 % p384 * b.2.2 % p384) fun z => (x, y, z)

/-- A multiple of a point, by the low `n` bits of the factor, added to another point. -/
def ecMul : Nat → Nat → JacPt → JacPt → JacPt
  | 0, _, _, acc => acc
  | n + 1, k, a, acc => ecMul n (k / 2) (ecDouble a) (if k % 2 = 1 then ecAdd a acc else acc)

/-- A signature (r, s) of a message verifies under an uncompressed public key of 97 bytes. -/
def ecdsaOk (pub sig msg : List Byte) : Bool :=
  let x := beNat ((pub.drop 1).take 48)
  let y := beNat (pub.drop 49)
  let r := beNat (sig.take 48)
  let s := beNat (sig.drop 48)
  if pub.length ≠ 97 ∨ pub.take 1 ≠ [4] ∨ p384 ≤ x ∨ p384 ≤ y
      ∨ y * y % p384 ≠ (x * x % p384 * x + (p384 - 3) * x + b384) % p384 then false
  else if r = 0 ∨ n384 ≤ r ∨ s = 0 ∨ n384 ≤ s then false
  else
    let w := invMod n384 s
    let e := beNat (sha384 msg)
    let q := ecMul 384 (e * w % n384) (g384.1, g384.2, 1) (ecMul 384 (r * w % n384) (x, y, 1) (1, 1, 0))
    q.2.2 != 0 && q.1 * invMod p384 (q.2.2 * q.2.2) % p384 % n384 == r

end Sys2Proof.Machine
end

