-- ==== Sys2Proof/Machine/Nq.lean ====
section
/-!
DEFINITION. Sys2Proof/Machine/Nq.lean: the NIU queues: PUT and GET (R191 to R193, R204), rectangle multicast (R195 to R197, R205, R206)
and cross-chip multicast with its report (R491 to R495, R504).
-/
namespace Sys2Proof.Machine

/-- The queue number of NQn. -/
def nqQ (n : Nat) : Nat := 9 + n

/-! ### PUT and GET -/

/-- The transfer of a PUT or GET. -/
def putXfer (t q idx : Nat) (bs : List Byte) : Xfer :=
  ⟨t, q, idx, bitsOf (leAt bs 24 1) 0 2, bitsOf (leAt bs 25 1) 0 2, leAt bs 26 1, leAt bs 28 2, false⟩

/-- R193, R259: the post-time checks of a PUT (or a GET). -/
def putCheck (t : Nat) (get : Bool) (s : State) (bs : List Byte) : Nat :=
  let g := leAt bs 8 8
  let off := leAt bs 16 4
  let n := leAt bs 20 4
  let mode := leAt bs 26 1
  let fmt := decide (4 ≤ leAt bs 24 1) || decide (4 ≤ leAt bs 25 1) || leAt bs 27 1 != 0 || leAt bs 30 18 != 0
    || (get && (mode != 0 || leAt bs 28 2 != 0))
  let cm := if get then stOK
    else stMerge (cmodePost s t mode (leAt bs 28 2) (fun c => g % c == 0 && off % c == 0 && n % c == 0)) (cmodeDst s t mode g)
  let len := decide (4096 < n)
  let addr := if len then stOK else stMerge (rangeStatus s t g n) (ownPost t off n)
  stMerge addr (stMerge cm (stMerge (if fmt then stFmt else stOK) (if len then stLen else stOK)))

/-- R204: a PUT of no bytes sends one packet with only a header. -/
def emptyPut (x : Xfer) (g : Nat) : Act := fun s =>
  match encGlobal s (some x.t) g with
  | none => []
  | some (chip, dt, ad) => x.push (mkBn s x.t opWr x.tc x.rm chip dt ad 0 [] []) (.piece x.q x.idx g) s

/-- R192: PUT runs. -/
def putRun (t q idx : Nat) (bs : List Byte) (fs : Finds) : Act := fun s =>
  let x := putXfer t q idx bs
  let off := leAt bs 16 4
  let n := leAt bs 20 4
  if n = 0 then emptyPut x (leAt bs 8 8) s
  else
    let r := ownRead s t off n fs
    if r.st ≠ stOK then modDesc t q idx (fun d => d.fail r.st (ownGlobal s t off)) s
    else seqA [ownTouch t off n 35 fs, x.write (leAt bs 8 8) r.bytes (ownPsn s t off fs)] s

/-- R192: GET runs: read requests whose data lands at own-tile offsets. -/
def getRun (t q idx : Nat) (bs : List Byte) : Act := fun s =>
  let x := putXfer t q idx bs
  let g := leAt bs 8 8
  eachA (pieces s g (leAt bs 20 4)) (fun p => fun s =>
    match encGlobal s (some t) (g + p.1) with
    | none => modDesc t q idx (fun d => d.fail stAddr (g + p.1)) s
    | some (chip, dt, ad) =>
      x.push (mkBn s t opRdReq x.tc x.rm chip dt ad p.2 [] []) (.getTo q idx (leAt bs 16 4 + p.1) (g + p.1)) s) s

/-! ### Multicast -/

/-- The fields of an MCAST or XMCAST. -/
structure McD where
  inOff : Nat
  near  : Nat
  far   : Nat
  loc   : Nat
  len   : Nat
  tc    : Nat
  mode  : Nat
  tbl   : Nat
  skip  : Bool
  dflag : Bool
  foff  : Nat
  fval  : Nat
  rep   : Nat
  lo    : Nat
  hi    : Nat

/-- R192, R491: the descriptor's fields; an XMCAST where `x`. -/
def mcD (x : Bool) (bs : List Byte) : McD :=
  let fl := if x then leAt bs 23 1 else leAt bs 27 1
  { inOff := leAt bs 8 4, near := leAt bs 12 2 % 512, far := leAt bs 14 2 % 512, loc := leAt bs 16 4,
    len := if x then leAt bs 20 2 else leAt bs 20 4,
    tc := (if x then leAt bs 22 1 else leAt bs 24 1) % 4,
    mode := if x then 0 else leAt bs 26 1, tbl := if x then 0 else leAt bs 28 2,
    skip := bitOf fl 0, dflag := bitOf fl 1,
    foff := if x then leAt bs 24 4 else leAt bs 32 4, fval := leAt bs 40 8,
    rep := leAt bs 28 4, lo := leAt bs 32 4 % 2 ^ 17, hi := leAt bs 36 4 % 2 ^ 17 }

/-- R193, R492: the post-time checks that MCAST and XMCAST share. -/
def mcCommon (s : State) (t : Nat) (d : McD) (lim : Nat) : Nat :=
  let len := decide (lim < d.len)
  let w := decide (gridW s ≤ tileX d.near) || decide (gridW s ≤ tileX d.far)
  let addr := if w then stAddr
    else if len then stOK
    else stMerge (ownPost t d.inOff d.len) (stMerge (ownPost t d.loc d.len) (if d.dflag then ownPost t d.foff 8 else stOK))
  stMerge addr (stMerge (if d.dflag ∧ d.foff % 8 ≠ 0 then stFmt else stOK) (if len then stLen else stOK))

/-- R193, R259: the post-time checks of an MCAST. -/
def mcastCheck (t : Nat) (s : State) (bs : List Byte) : Nat :=
  let d := mcD false bs
  let fmt := decide (4 ≤ leAt bs 24 1) || leAt bs 25 1 != 0 || decide (4 ≤ leAt bs 27 1) || leAt bs 30 2 != 0 || leAt bs 36 4 != 0
  stMerge (mcCommon s t d 4096) (stMerge (if fmt then stFmt else stOK)
    (cmodePost s t d.mode d.tbl (fun c => d.inOff % c == 0 && d.loc % c == 0 && d.len % c == 0)))

/-- R492: the post-time checks of an XMCAST. -/
def xmcastCheck (t : Nat) (s : State) (bs : List Byte) : Nat :=
  let d := mcD true bs
  let fmt := d.rep % 32 != 0 || decide (cmSize < d.rep + 32)
  let ends := chipExists s d.lo && chipExists s d.hi
  let box := ends && !inBox s d.lo d.hi (chipId s)
  let big := ends && decide (256 < boxSize s d.lo d.hi)
  stMerge (mcCommon s t d 2032) (stMerge (if ends then stOK else stAddr)
    (stMerge (if fmt || box then stFmt else stOK) (if big then stLen else stOK)))

/-- R195: the rectangle of a multicast holds this tile. -/
def inRect (near far t : Nat) : Bool := (rectTiles near far).contains t

/-- R195, R206: whether the source tile is a target. -/
def McD.self (d : McD) (t : Nat) : Bool := !d.skip && inRect d.near d.far t

/-- The targets of a multicast on its own chip. -/
def McD.targets (d : McD) (t : Nat) : List Nat :=
  (rectTiles d.near d.far).filter (fun u => !(d.skip && u == t))

/-- The ADDR of an own-tile offset in every destination tile. -/
def offAddr (off : Nat) : Nat :=
  match ownPlace 0 off with
  | some (.vlt _ o) => 2 ^ 40 + o
  | some (.cm _ o) => o
  | _ => 0

/-- The pieces of a multicast: none crosses a 4 KiB boundary of the target. One of no bytes is one packet (R204). -/
def mcPieces (off n : Nat) : List (Nat × Nat) :=
  let a := min n (4096 - off % 4096)
  if n ≤ a then [(0, n)] else [(0, a), (a, n - a)]

/-- A multicast packet. -/
def mcPkt (s : State) (t : Nat) (d : McD) (cb : Bool) (addr : Nat) (bs : List Byte) (psn : List Bool) : BnPkt :=
  { mkBn s t (if cb then opMcWrCb else opMcWr) d.tc 0 (chipId s) d.near addr bs.length bs psn with
    schip := 0, far := BitVec.ofNat 9 d.far }

/-- R192, R195, R260: MCAST runs: its pieces join the NIU; the destination flag goes with the last. -/
def mcastRun (t q idx : Nat) (bs : List Byte) (fs : Finds) : Act := fun s =>
  let d := mcD false bs
  let n := (d.targets t).length
  if n = 0 then []
  else
    let st := ownStatus s t d.loc d.len
    if st ≠ stOK then modDesc t q idx (fun e => e.fail st (ownGlobal s t d.loc)) s
    else
      let data := if d.len = 0 then [] else (ownRead s t d.loc d.len fs).bytes
      let ps := mcPieces d.inOff d.len
      seqA [
        whenA (d.len != 0) (ownTouch t d.loc d.len 35 fs),
        modDesc t q idx (fun e => { e with ext := .mcast [] }),
        eachA ps (fun p => fun s =>
          let psn := fun (k : Nat) => ownPsn s t d.loc fs (p.1 + k)
          let w := wirePiece s t d.mode d.tbl ((data.drop p.1).take p.2) ((List.range p.2).any psn)
          let fl := flitsOf w.bytes.length (fun k => if w.cb then false else psn k)
          let fin := p.1 + p.2 = d.len
          seqA [effA w.eff,
            niuPush t ⟨mcPkt s t d w.cb (offAddr d.inOff + p.1) w.bytes fl, 24 + q,
              .mcast q idx ((d.targets t).map (fun u => chipId s * 512 + u)) (d.self t) (if d.dflag ∧ fin then some (d.foff, d.fval) else none)⟩,
            modDesc t q idx (fun e => { e with pend := e.pend + 1 })] s)] s

/-- R491: the targets of a cross-chip multicast, as chip × 512 + tile. -/
def xmTargets (s : State) (t : Nat) (d : McD) : List Nat :=
  (d.targets t).map (fun u => chipId s * 512 + u) ++
  ((List.range (machineSize s)).filter (fun c => inBox s d.lo d.hi c && c != chipId s)).flatMap (fun c =>
    (rectTiles d.near d.far).map (fun u => c * 512 + u))

/-- R491, R495: XMCAST runs: one packet, whose copies for other chips leave with it and share its tag. -/
def xmcastRun (t q idx : Nat) (bs : List Byte) (fs : Finds) : Act := fun s =>
  let d := mcD true bs
  let here := (d.targets t).length
  let n := here + (boxSize s d.lo d.hi - 1) * (rectTiles d.near d.far).length
  let st := ownStatus s t d.loc d.len
  if st ≠ stOK then modDesc t q idx (fun e => e.fail st (ownGlobal s t d.loc)) s
  else if n = 0 then modDesc t q idx (fun e => { e with ext := .mcast [] }) s
  else
    let data := if d.len = 0 then [] else (ownRead s t d.loc d.len fs).bytes
    seqA [
      whenA (d.len != 0) (ownTouch t d.loc d.len 35 fs),
      niuPush t ⟨mcPkt s t d false (offAddr d.inOff) data (flitsOf d.len (ownPsn s t d.loc fs)), 24 + q,
        .xmcast q idx (xmTargets s t d) d.lo d.hi (d.self t) (if d.dflag then some (d.foff, d.fval) else none)⟩,
      modDesc t q idx (fun e => { e with ext := .mcast [], pend := e.pend + 1 })] s

/-! ### The report of a multicast (R197, R495) -/

/-- A status that counts as delivered (R205). -/
def delivered (st : Nat) : Bool := st == stOK || st == stPoisoned

/-- An acknowledgement of a target is gathered: chip × 512 + tile, with the lowest non-zero of its statuses. -/
def gotAck (got : List (Nat × Nat)) (k st : Nat) : List (Nat × Nat) :=
  match got.find? (fun e => e.1 == k) with
  | some e => got.map (fun f => if f.1 = k then (k, stMerge e.2 st) else f)
  | none => got ++ [(k, st)]

/-- The least of a list of keys. -/
def leastKey : List Nat → Option Nat
  | [] => none
  | k :: ks => match leastKey ks with
    | none => some k
    | some m => some (min k m)

/-- R197: the global address of a multicast's target in a tile of a chip; a vault target takes the tile-local form. -/
def mcTarget (k off : Nat) : Nat :=
  k / 512 * 2 ^ 47 + (match ownPlace 0 off with
    | some (.vlt _ o) => k % 512 * vaultSize + o
    | some (.cm _ o) => 0x010000000000 + k % 512 * cmSize + o
    | _ => 0)

/-- R495: the eight lowest of a list of chips, and whether there are more. -/
def lowestChips : Nat → List Nat → List Nat
  | 0, _ => []
  | n + 1, l => match leastKey l with
    | none => []
    | some k => k :: lowestChips n (l.filter (· ≠ k))

/-- R495: the 32 B report. -/
def mcReport (missing : List Nat) (chips : Nat) : List Byte :=
  let e := (lowestChips 8 missing).flatMap (fun c => leBytes 3 (2 ^ 23 + c))
  sliceZ (leBytes 8 ((if 8 < missing.length then 2 ^ 63 else 0) + min missing.length 511 * 2 ^ 16 + chips % 512) ++ e) 0 32

/-- R197, R495: every acknowledgement of a multicast has come: COUNT, STATUS, FAIL_ADDR and, for XMCAST, the report. -/
def mcFinish (t q idx : Nat) : Act := fun s =>
  match descOf s t q idx with
  | none => []
  | some d =>
    match d.ext with
    | .mcast got' =>
      -- R524: excluded chips that an XMCAST of the runtime misses are not failures
      let got := if 65536 ≤ idx then
        got'.filter (fun e => !(colGrpAt s (t * 8 + (idx / 65536 - 1))).excl.contains (e.1 / 512)) else got'
      let x := d.op == 0x44
      let f := mcD x d.raw
      let bad := (got.filter (fun e => !delivered e.2)).map (·.1)
      let chips := (bad.map (· / 512)).eraseDups
      let st := got.foldl (fun a e => stMerge a e.2) stOK
      seqA [
        whenA x (memPut (.cm t f.rep) (mcReport chips (boxSize s f.lo f.hi))),
        modDesc t q idx (fun e =>
          { e with
            ext := .none, count := got.countP (fun g => delivered g.2), status := stMerge e.status st
            poison := e.poison || got.any (fun g => g.2 == stPoisoned)
            failAddr := match leastKey bad with | some k => mcTarget k f.inOff | none => e.failAddr })] s
    | _ => []

/-- R197, R495: an acknowledgement of a multicast has come for `k`; `last` says that its packet's last has. -/
def mcAcked (t q idx k st : Nat) (last : Bool) : Act := seqA [
  modDesc t q idx (fun d =>
    match d.ext with
    | .mcast got => { d with ext := .mcast (gotAck got k st), pend := d.pend - b2n last }
    | _ => d),
  fun s => match descOf s t q idx with
    | some d => if d.pend = 0 then mcFinish t q idx s else []
    | none => []]

/-- A cross-chip multicast that has no target writes its report at once. -/
def xmcastEmpty (t q idx : Nat) : Act := fun s =>
  match descOf s t q idx with
  | some d => if d.op = 0x44 ∧ d.pend = 0 ∧ d.ext ≠ .none then mcFinish t q idx s else []
  | none => []

/-! ### The commands -/

/-- R192: NQn takes up a PUT. -/
def execNqPut (t : Tile) (n : Fin 4) (ecc : List (Nat × Ecc)) (s : State) : Host.Outcome State Fault Refusal :=
  runA (takeDesc t (nqQ n) 0x40 (putCheck t false) (fun idx bs => putRun t (nqQ n) idx bs ecc)) s

/-- R192: NQn takes up a GET. -/
def execNqGet (t : Tile) (n : Fin 4) (s : State) : Host.Outcome State Fault Refusal :=
  runA (takeDesc t (nqQ n) 0x41 (putCheck t true) (fun idx bs => getRun t (nqQ n) idx bs)) s

/-- R195: NQn takes up an MCAST. -/
def execNqMcast (t : Tile) (n : Fin 4) (ecc : List (Nat × Ecc)) (s : State) : Host.Outcome State Fault Refusal :=
  runA (takeDesc t (nqQ n) 0x42 (mcastCheck t) (fun idx bs => mcastRun t (nqQ n) idx bs ecc)) s

/-- R491: NQn takes up an XMCAST. -/
def execNqXmcast (t : Tile) (n : Fin 4) (ecc : List (Nat × Ecc)) (s : State) : Host.Outcome State Fault Refusal :=
  runA (takeDesc t (nqQ n) 0x44 (xmcastCheck t)
    (fun idx bs => seqA [xmcastRun t (nqQ n) idx bs ecc, xmcastEmpty t (nqQ n) idx])) s

end Sys2Proof.Machine
end

