-- ==== Sys2Proof/Machine/Red.lean ====
section
/-!
DEFINITION. Sys2Proof/Machine/Red.lean: in-network reduction: contributions and their wire forms (R215 to R221), arming (R222, R223),
combining in routers (R224 to R226, R235, R237, R239, R240), residue checks (R228), accumulation, rounding and completion at the
destination (R229 to R233), NAKs (R241).
-/
namespace Sys2Proof.Machine

/-! ### Wire forms (R216) -/

/-- The wire form of a source format. -/
def wireForm (code : Nat) (mx : Bool) : Nat := if mx || code == 0 || code == 0xF then 0xF else code

/-- LEN of a packet of `cnt` elements in a wire form. -/
def wireLen (wf cnt : Nat) : Nat :=
  if wf = 0xF then 64 * ceilDiv cnt 12 else if wf = 0xE then 8 * cnt else arrayBytes wf cnt

/-- R216: a wire form that an operation carries. -/
def wireOk (op wf : Nat) : Bool :=
  if op = opRedF then (decide (1 ≤ wf) && decide (wf ≤ 8)) || wf == 0xF else decide (9 ≤ wf) && decide (wf ≤ 0xE)

/-- The data flits that element i of a wire form touches, first and last. -/
def wireFlits (wf i : Nat) : Nat × Nat :=
  if wf = 0xF then (i / 12, i / 12) else if wf = 0xE then (i / 8, i / 8) else (elemFirst wf i / 64, elemLast wf i / 64)

/-- An element of a packet as it is added: the 40 bits of a W40, or the 64 of an INT64. -/
def wireElem (p : BnPkt) (i : Nat) : Nat :=
  let wf := redWfmt p
  if wf = 0xF then leAt p.data (64 * (i / 12) + 5 * (i % 12)) 5
  else if wf = 0xE then leAt p.data (8 * i) 8
  else
    let v := decodeElem wf (rawElem wf p.data i)
    if wf ≤ 8 then toW40 v else ofSigned 64 v.toI

/-- The elements of a packet. -/
def wireElems (p : BnPkt) : List Nat := (List.range (redCnt p)).map (wireElem p)

/-- An element of a packet lies in a poisoned flit. -/
def wirePsn (p : BnPkt) (i : Nat) : Bool :=
  let f := wireFlits (redWfmt p) i
  (p.psn[f.1]?).getD false || (p.psn[f.2]?).getD false

/-- Elements in the W40 or INT64 wire form. -/
def wirePack (float : Bool) (es : List Nat) : List Byte :=
  if float then (chunks 12 (es.length + 1) es).flatMap (fun c => sliceZ (c.flatMap (leBytes 5)) 0 64) else es.flatMap (leBytes 8)

/-- The POISON of each flit of a packet, from the poison of each element. -/
def flitsBad (wf cnt : Nat) (bad : Nat → Bool) : List Bool :=
  (List.range (ceilDiv (wireLen wf cnt) 64)).map (fun f =>
    (List.range cnt).any (fun i => bad i && decide ((wireFlits wf i).1 ≤ f) && decide (f ≤ (wireFlits wf i).2)))

/-! ### Contributions (R219 to R221) -/

/-- The fields of a REDUCE descriptor. -/
structure RedD where
  dt    : Nat
  rid   : Nat
  off   : Nat
  start : Nat
  count : Nat
  tc    : Nat
  rm    : Nat
  fmt   : Nat
  gen   : Nat
  ord   : Bool
  jw    : Nat
  soff  : Nat

/-- R219: the descriptor's fields. -/
def redD (bs : List Byte) : RedD :=
  ⟨leAt bs 8 2 % 512, leAt bs 10 2 % 4096, leAt bs 12 4, leAt bs 16 4, leAt bs 20 4, leAt bs 24 1 % 4, leAt bs 25 1 % 4,
    leAt bs 26 1, leAt bs 27 1 % 2, bitOf (leAt bs 27 1) 1, leAt bs 28 1, leAt bs 32 4⟩

/-- R193, R220: the post-time checks of a REDUCE. -/
def redCheck (t : Nat) (s : State) (bs : List Byte) : Nat :=
  let d := redD bs
  let code := fmtCode d.fmt
  let len := d.count == 0 || d.start % 512 != 0 || decide (524288 < d.start + d.count)
  let fmt := decide (512 ≤ leAt bs 8 2) || decide (4096 ≤ leAt bs 10 2) || decide (4 ≤ leAt bs 24 1) || decide (4 ≤ leAt bs 25 1)
    || decide (4 ≤ leAt bs 27 1) || leAt bs 29 3 != 0 || leAt bs 36 12 != 0 || fmtBad d.fmt || (fmtMx d.fmt && code == 0xB)
    || (d.ord && d.rm == 1) || (d.ord && decide (15 < d.jw)) || decide (63 < d.jw) || !alignOk code d.off
  let addr := stMerge (if gridW s ≤ tileX d.dt then stAddr else stOK)
    (if len then stOK else stMerge (ownPost t d.off (arrayBytes code d.count))
      (if fmtMx d.fmt then ownPost t d.soff (ceilDiv d.count 32) else stOK))
  stMerge addr (stMerge (if fmt then stFmt else stOK) (if len then stLen else stOK))

/-- R215 to R217, R241: the packet of segment k of a contribution. -/
def redPacket (s : State) (t : Nat) (d : RedD) (a : Arr) (k : Nat) : BnPkt :=
  let code := fmtCode d.fmt
  let wf := wireForm code (fmtMx d.fmt)
  let cnt := min 512 (d.count - 512 * k)
  let float := isFloat code
  let data :=
    if wf = code && !fmtMx d.fmt && code != 0xF && code != 0xE then
      packElems code ((List.range cnt).map (fun i => a.raw (512 * k + i)))
    else wirePack float ((List.range cnt).map (fun i =>
      let v := a.val (512 * k + i)
      if float then toW40 v else ofSigned 64 v.toI))
  { mkBn s t (if float then opRedF else opRedI) d.tc d.rm (chipId s) d.dt 0 data.length data
      (flitsBad wf cnt (fun i => a.bad (512 * k + i))) with
    tag := 1, far := BitVec.ofNat 9 (cnt - 1), addr := redAddr wf (d.start / 512 + k) d.gen d.rid d.jw d.ord }

/-- R221: REDUCE runs: its packets join the NIU. -/
def reduceRun (t q idx : Nat) (bs : List Byte) (fs : Finds) : Act := fun s =>
  let d := redD bs
  let code := fmtCode d.fmt
  let n := arrayBytes code d.count
  let rngs := (d.off, n) :: (if fmtMx d.fmt then [(d.soff, ceilDiv d.count 32)] else [])
  match firstBad s t rngs with
  | some (st, off) => modDesc t q idx (fun e => e.fail st (ownGlobal s t off)) s
  | none =>
    let a := ownArr s t d.off d.soff code (fmtMx d.fmt) d.count fs
    let ps := (List.range (ceilDiv d.count 512)).map (redPacket s t d a)
    seqA [
      eachA rngs (fun r => ownTouch t r.1 r.2 35 fs),
      eachA ps (fun p => niuPush t ⟨p, 24 + q, .piece q idx 0⟩),
      modDesc t q idx (fun e => { e with pend := e.pend + ps.length })] s

/-! ### Records -/

/-- A _SEEN bit of RED_STATUS sets; with SEEN_IRQ its setting signals interrupt source 15. -/
def redSeen (t : Nat) (f : Fld) : Act := fun s =>
  let e := setBit (tk t .RED_STATUS) f
  e :: (if tfld s t .RED_STATUS f = 0 ∧ tfld s t .RED_CFG f_RED_CFG_SEEN_IRQ = 1 then irq t 15 (applyEff s e) else [])

/-- The layout of RED_BAD_INFO and RED_NAK_INFO. -/
def redInfo (reason st : Nat) (p : BnPkt) : W64 :=
  BitVec.ofNat 64 (2 ^ 63 + reason * 2 ^ 60 + st * 2 ^ 52 + redRid p * 2 ^ 40 + redGen p * 2 ^ 39 + redSegNo p * 2 ^ 29
    + redNcontrib p * 2 ^ 19 + p.stile.toNat)

/-- R228: residue checks that failed: `rs` names each element, and whether the repeat failed too. The output is 0 N to 4 local, 5
for the accumulation of the NIU. -/
def redResidue (t out : Nat) (rs : List (Nat × Bool)) : Act :=
  let rec1 : Act := fun s =>
    if dfld s .RED_DEV_STAT f_RED_DEV_STAT_VALID = 1 ∨ tfld s t .RED_STATUS f_RED_STATUS_RES_ERR = 1 then []
    else [.reg (dk .RED_DEV_STAT) (BitVec.ofNat 64 (2 ^ 63 + t))]
  seqA [
    effA [.cnt (tk t .RED_RES_RETRY_CNT) f_RED_RES_RETRY_CNT_COUNT rs.length],
    eachA (rs.filter (·.2)) (fun _ => seqA [
      effA [.cnt (tk t .RED_RES_ERR_CNT) f_RED_RES_ERR_CNT_COUNT 1], rec1,
      effA [setBit (tk t .RED_STATUS) f_RED_STATUS_RES_ERR], raiseErr 0x0208 1 out t 0])]

/-- An element whose repeated addition failed its check. -/
def resBad (rs : List (Nat × Bool)) (i : Nat) : Bool := rs.any (fun r => r.1 == i && r.2)

/-- R237: an ordered reduction is broken. -/
def ordBroken (t : Nat) : List Eff :=
  [.cnt (tk t .RED_ORD_BRK_CNT) f_RED_ORD_BRK_CNT_COUNT 1, setBit (tk t .RED_STATUS) f_RED_STATUS_ORD_BROKEN]

/-! ### Combining in routers -/

/-- R224, R235: two partials match, both default or both ordered; the output is compared apart. -/
def redMatch (p q : BnPkt) : Bool :=
  p.op == q.op && p.dtile == q.dtile && redRid p == redRid q && redGen p == redGen q && redSegNo p == redSegNo q
    && p.far == q.far && p.epoch == q.epoch && redOrd p == redOrd q && decide (redNcontrib p + redNcontrib q ≤ 1023)

/-- One element pair added: W40 under R115, or wrapping INT64. -/
def redAdd (float : Bool) (a b : Nat) : Nat := if float then addW40 a b else (a + b) % 2 ^ 64

/-- R225: one partial made of two: the held packet's header, the sum of NCONTRIB, and the elements added. -/
def redCombine (held p : BnPkt) (rs : List (Nat × Bool)) : BnPkt :=
  let float := held.op.toNat = opRedF
  let wf := if float then 0xF else 0xE
  let es := (List.range (redCnt held)).map (fun i => redAdd float (wireElem held i) (wireElem p i))
  let data := wirePack float es
  { held with
    len := BitVec.ofNat 13 data.length, data := data,
    psn := flitsBad wf (redCnt held) (fun i => wirePsn held i || wirePsn p i || resBad rs i),
    tag := BitVec.ofNat 10 (redNcontrib held + redNcontrib p),
    addr := redAddr wf (redSegNo held) (redGen held) (redRid held) (redJw held) (redOrd held) }

/-- The slots of a router take new contents. -/
def putSlots (t : Nat) (l : List RedSlot) : List Eff :=
  [.putRedSlot t l, .fld (tk t .RED_STATUS) f_RED_STATUS_SLOTS_HELD l.length]

/-- A partial leaves its router's combining stage by an output. -/
def redSend (t inp out : Nat) (p : BnPkt) : Act := fun s => [.setBn (s.bn ++ [⟨p, t, inp, false, none, some out⟩])]

/-- The outputs that a partial may take (R226): all allowed ones under adaptive routing, else its one output. -/
def redOuts (s : State) (t : Nat) (p : BnPkt) : List Nat :=
  let o := (unicastOut s t p.dtile.toNat 3 p).1
  let ad := p.rmode = 1 ∧ dfld s .BN_PLANE_CFG f_BN_PLANE_CFG_B_ADAPT_EN = 1
  if ad then o :: adaptiveOuts (planeYX s 1) t p.dtile.toNat else [o]

/-- R235: the input mask of an ordered packet's tree, in the bank of its epoch. -/
def treeMask (s : State) (t : Nat) (p : BnPkt) : Nat :=
  let k := redJw p % 16
  let w := if p.epoch = epochNow s then tk t .RED_OTREE_ACTIVE (k / 8) else tk t .RED_OTREE_SHADOW (k / 8)
  bitsOf (regOf s w).toNat (8 * (k % 8)) 5

/-- R225, R226, R239, R240: the default mode at header arrival. -/
def redDefault (t inp : Nat) (p : BnPkt) (rs : List (Nat × Bool)) : Act := fun s =>
  let slots := redSlotAt s t
  let outs := redOuts s t p
  let out := outs.headD 4
  let free := decide (slots.length < 8)
  let rsv := whenA free (effA [.cnt (tk t .RED_SLOT_RSV_CNT) f_RED_SLOT_RSV_CNT_COUNT 1])
  let cancel := whenA free (effA [.cnt (tk t .RED_SLOT_CANCEL_CNT) f_RED_SLOT_CANCEL_CNT_COUNT 1])
  match slots.find? (fun h => redMatch h.pkt p && outs.contains h.out) with
  | some h =>
    seqA [rsv, cancel, effA (putSlots t (slots.erase h)),
      effA [.cnt (tk t .RED_COMBINE_CNT) f_RED_COMBINE_CNT_COUNT 1], redResidue t h.out rs,
      redSend t inp h.out (redCombine h.pkt p rs)] s
  | none =>
    let want := out ≠ 4 ∧ 0 < redJw p ∧ tfld s t .RED_CFG f_RED_CFG_COMBINE_EN = 1
    if want ∧ free = true then seqA [rsv, effA (putSlots t (slots ++ [⟨p, out, inp⟩]))] s
    else
      seqA [rsv, cancel,
        whenA (decide want) (effA [.cnt (tk t .RED_SLOT_FULL_CNT) f_RED_SLOT_FULL_CNT_COUNT 1]),
        redSend t inp out p] s

/-- R235: the inputs of a mask in the order of addition: local, N, E, S, W. -/
def maskOrder (m : Nat) : List Nat := [4, 0, 1, 2, 3].filter (fun i => bitOf m i)

/-- R235: the ordered mode at header arrival. A packet whose router has no free slot is not taken up yet. -/
def redOrdered (t inp : Nat) (p : BnPkt) (rs : List (Nat × Bool)) : Act := fun s =>
  let slots := redSlotAt s t
  let m := treeMask s t p
  let out := (redOuts s t p).headD 4
  if !bitOf m inp then redSend t inp out p s
  else
    let mates := slots.filter (fun h => redMatch h.pkt p && h.out == out && redJw h.pkt == redJw p)
    let pick := fun (i : Nat) => if i = inp then some (RedSlot.mk p out inp) else mates.find? (fun h => h.inp == i)
    let got := (maskOrder m).filterMap pick
    if got.length = (maskOrder m).length then
      match got with
      | [] => []
      | h :: l =>
        let first := (mates.find? (fun x => got.contains x)).getD h
        let sum := l.foldl (fun a x => redCombine a x.pkt rs) h.pkt
        let sum := { sum with
          stile := first.pkt.stile, tc := first.pkt.tc, rmode := first.pkt.rmode }
        seqA [effA (putSlots t (slots.filter (fun x => !(mates.contains x && got.contains x)))),
          whenA (!l.isEmpty) (effA [.cnt (tk t .RED_COMBINE_CNT) f_RED_COMBINE_CNT_COUNT l.length]),
          redResidue t out rs, redSend t inp out sum] s
    else putSlots t (slots ++ [⟨p, out, inp⟩])

/-- A partial in an input buffer of a router is taken out of it. -/
def redTakeIn (t inp : Nat) (p : BnPkt) : Act := fun s =>
  match s.bn.find? (fun f => f.at_ == t && f.inp == inp && !f.ej && f.held == none && f.pkt == p) with
  | some f => [.setBn (s.bn.erase f)]
  | none => []

/-- R225, R235: a partial's header arrives at a router. -/
def redRouterA (t inp : Nat) (p : BnPkt) (err : LinkErr) (rs : List (Nat × Bool)) : Act := fun s =>
  let waits := redOrd p && bitOf (treeMask s t p) inp && decide (8 ≤ (redSlotAt s t).length)
  let p' := if err = .dataUe then poisonFlit p else p
  if !opRed p.op.toNat || waits then []
  else if err = .hdrUe then seqA [redTakeIn t inp p, bnLinkErr t 1 inp err] s
  else seqA [redTakeIn t inp p, bnLinkErr t 1 inp err,
    if redOrd p then redOrdered t inp p' rs else redDefault t inp p' rs] s

/-- R225: a held packet's window closes unmatched. -/
def redWindowA (t : Nat) (p : BnPkt) : Act := fun s =>
  let slots := redSlotAt s t
  match slots.find? (fun h => h.pkt == p && !redOrd h.pkt) with
  | some h => seqA [effA (putSlots t (slots.erase h)),
      effA [.cnt (tk t .RED_HOLD_EXP_CNT) f_RED_HOLD_EXP_CNT_COUNT 1], redSend t h.inp h.out p] s
  | none => []

/-- R237: a partial with ORD cleared. -/
def clearOrd (p : BnPkt) : BnPkt := { p with addr := p.addr &&& BitVec.ofNat 42 (2 ^ 33 - 1) }

/-- R237: an ordered hold ends: the packets that it holds leave with ORD cleared. -/
def redOrdTimeoutA (t : Nat) (p : BnPkt) : Act := fun s =>
  let slots := redSlotAt s t
  match slots.find? (fun h => h.pkt == p && redOrd h.pkt) with
  | some h =>
    if tfld s t .RED_CFG f_RED_CFG_ORD_TMO = 0 then []
    else
      let group := slots.filter (fun x => x == h || (redMatch x.pkt p && x.out == h.out && redJw x.pkt == redJw p))
      seqA [effA (putSlots t (slots.filter (fun x => !group.contains x))), effA (ordBroken t),
        eachA group (fun x => redSend t x.inp x.out (clearOrd x.pkt))] s
  | none => []

/-! ### Arming (R222, R223) -/

/-- The fields of a RED_ARM descriptor. -/
structure ArmD where
  rid    : Nat
  expect : Nat
  elems  : Nat
  acc    : Nat
  dst    : Nat
  fmt    : Nat
  mode   : Nat
  gen    : Nat
  ord    : Bool
  int    : Bool
  dsc    : Nat

/-- R222: the descriptor's fields. -/
def armD (bs : List Byte) : ArmD :=
  ⟨leAt bs 8 2 % 4096, leAt bs 10 2 % 1024, leAt bs 12 4, leAt bs 16 4, leAt bs 20 4, leAt bs 24 1, leAt bs 25 1,
    leAt bs 26 1 % 2, bitOf (leAt bs 26 1) 1, bitOf (leAt bs 26 1) 2, leAt bs 28 4⟩

/-- The context of a tile that holds a RID. -/
def ctxOfRid (s : State) (t rid : Nat) : Option Nat :=
  (List.range 16).find? (fun c => tfld s t .RED_CTX f_RED_CTX_VALID c == 1 && tfld s t .RED_CTX f_RED_CTX_RID c == rid)

/-- The context of a tile that holds a RID and generation. -/
def ctxOf (s : State) (t rid gen : Nat) : Option Nat :=
  (List.range 16).find? (fun c => tfld s t .RED_CTX f_RED_CTX_VALID c == 1 && tfld s t .RED_CTX f_RED_CTX_RID c == rid
    && tfld s t .RED_CTX f_RED_CTX_GEN c == gen)

/-- DONE_VALID and DONE_GEN of a RID. -/
def doneOf (s : State) (t rid : Nat) : Bool × Nat :=
  let w := (regOf s (tk t .RED_DONE (rid / 32))).toNat
  (bitOf w (2 * (rid % 32)), bitsOf w (2 * (rid % 32) + 1) 1)

/-- R223: the checks of an arm. -/
def armCheck (t : Nat) (s : State) (bs : List Byte) : Nat :=
  let d := armD bs
  let code := fmtCode d.fmt
  let len := d.expect == 0 || d.elems == 0 || decide (524288 < d.elems)
  let fmt := decide (4096 ≤ leAt bs 8 2) || decide (1024 ≤ leAt bs 10 2) || decide (8 ≤ leAt bs 26 1) || leAt bs 27 1 != 0
    || leAt bs 32 16 != 0 || fmtBad d.fmt || decide (16 ≤ d.mode) || modeBad d.mode || d.acc % 64 != 0 || !alignOk code d.dst
    || (code == 0xE && !d.int) || (code == 0xF && d.int) || (ctxOfRid s t d.rid).isSome
    || ((doneOf s t d.rid).1 && (doneOf s t d.rid).2 == d.gen)
  let addr := if len then stOK
    else stMerge (if cmSize < d.acc + 8 * d.elems then stAddr else stOK)
      (stMerge (ownPost t d.dst (arrayBytes code d.elems)) (if fmtMx d.fmt then ownPost t d.dsc (ceilDiv d.elems 32) else stOK))
  stMerge addr (stMerge (if fmt then stFmt else stOK) (if len then stLen else stOK))

/-- A free context, the lowest. -/
def freeCtx (s : State) (t : Nat) : Option Nat :=
  (List.range 16).find? (fun c => tfld s t .RED_CTX f_RED_CTX_VALID c == 0)

/-- An arm that waits starts in a free context. -/
def armStart (t idx : Nat) : Act := fun s =>
  match descOf s t 13 idx, freeCtx s t with
  | some d, some c =>
    let a := armD d.raw
    seqA [
      putDesc t 13 { d with ext := .redCtx c },
      effA [.reg (tk t .RED_CTX c) (BitVec.ofNat 64 (2 ^ 63 + b2n a.ord * 2 ^ 62 + a.gen * 2 ^ 61 + b2n a.int * 2 ^ 60
          + a.rid * 2 ^ 48 + d.tag)),
        .fld (tk t .RED_STATUS) f_RED_STATUS_CTX_ARMED (tfld s t .RED_STATUS f_RED_STATUS_CTX_ARMED + 2 ^ c)]] s
  | _, _ => []

/-- R223: an arm that has passed its checks waits for a context, or takes a free one. -/
def armRun (t idx : Nat) : Act := seqA [modDesc t 13 idx (fun d => { d with ext := .redCtx 16 }), armStart t idx]

/-- R223: the oldest arm that waits starts where a context is free. -/
def armNextA (t : Nat) : Act := fun s =>
  match (queueOf s t 13).run.find? (fun d => d.ext == .redCtx 16) with
  | some d => armStart t d.idx s
  | none => []

/-! ### Accumulation (R229 to R231) -/

/-- A discard at the destination: the counter, the _SEEN bit, the record, the cancelled reservation, and the event. -/
def redDiscard (t : Nat) (p : BnPkt) (reason : Nat) : Act := fun s =>
  let seen := if reason = 1 then f_RED_STATUS_LATE_SEEN else if reason = 2 then f_RED_STATUS_NOARM_SEEN
    else if reason = 3 then f_RED_STATUS_MISMATCH_SEEN else f_RED_STATUS_OVER_SEEN
  let cnt := if reason = 1 then TReg.RED_LATE_CNT else if reason = 2 then .RED_NOARM_CNT
    else if reason = 3 then .RED_MISMATCH_CNT else .RED_OVER_CNT
  seqA [
    effA [.cnt (tk t cnt) f_RED_LATE_CNT_COUNT 1, .cnt (tk t .RED_NIU_CANCEL_CNT) f_RED_NIU_CANCEL_CNT_COUNT 1],
    whenA (tfld s t .RED_STATUS seen == 0) (effA [.reg (tk t .RED_BAD_INFO) (redInfo reason 0 p)]),
    redSeen t seen,
    whenA (reason != 1) (fun s => raiseErr 0x0209 2 reason t (regOf s (tk t .RED_BAD_INFO)).toNat s)] s

/-- The descriptor that a context runs. -/
def ctxDesc (s : State) (t c : Nat) : Option Desc := (queueOf s t 13).run.find? (fun d => d.ext == .redCtx c)

def segKey (t c g : Nat) : Nat := (t * 16 + c) * 1024 + g

/-- R231: the flags of an operand or sum of a float context. -/
def accFlags (w : Nat) : Nat :=
  match decodeFloat w40 w with
  | .nan => flNV
  | .inf _ => flOF
  | _ => 0

/-- R229: the accumulator range of a packet: offset and bytes, cut at the end of the reduction. -/
def accRange (a : ArmD) (p : BnPkt) : Nat × Nat :=
  let g := redSegNo p
  (a.acc + 4096 * g, 8 * min (redCnt p) (a.elems - 512 * g))

/-- R230: a packet that has passed the checks is accumulated. -/
def redAccept (t c : Nat) (d : Desc) (p : BnPkt) (fs : Finds) (rs : List (Nat × Bool)) : Act := fun s =>
  let a := armD d.raw
  let k := segKey t c (redSegNo p)
  let g := redSegAt s k
  let r := accRange a p
  let old := memRead s (.cm t r.1) r.2 fs
  let es := wireElems p
  let new := es.zipIdx.map (fun e => if g.some_ then redAdd (!a.int) (leAt old.bytes (8 * e.2) 8 % 2 ^ (if a.int then 64 else 40)) e.1 else e.1)
  let fl := if a.int then 0 else
    (es ++ new ++ (if g.some_ then (List.range es.length).map (fun i => leAt old.bytes (8 * i) 5) else [])).foldl
      (fun x w => x ||| accFlags w) 0
  let bad := fun (b : Nat) => wirePsn p (b / 8) || resBad rs (b / 8) || (g.some_ && psnAt s (.cm t r.1) fs b)
  seqA [
    whenA g.some_ (seqA [effA old.eff, bankGrants t (.cm t r.1) r.2 34]),
    memStore (.cm t r.1) (new.flatMap (leBytes 8)) bad [] none, bankGrants t (.cm t r.1) r.2 34,
    redResidue t 5 rs,
    effA [.putRedSeg k { g with count := g.count + redNcontrib p, some_ := true }],
    whenA (a.ord && (!redOrd p || g.some_)) (effA (ordBroken t)),
    modDesc t 13 d.idx (fun e => { e with fp := e.fp ||| fl })] s

/-- R239, R240: the reads of a segment that has an arrival are issued before the checks end, and a discard cancels them. -/
def redSpecRead (t c : Nat) (d : Desc) (p : BnPkt) (fs : Finds) : Act := fun s =>
  let r := accRange (armD d.raw) p
  if (redSegAt s (segKey t c (redSegNo p))).some_ && r.2 != 0 then
    seqA [effA (memRead s (.cm t r.1) r.2 fs).eff, bankGrants t (.cm t r.1) r.2 34] s
  else []

/-- R229: a partial is ejected at its destination. -/
def redNiuA (t : Nat) (p : BnPkt) (fs : Finds) (rs : List (Nat × Bool)) : Act := fun s =>
  let spec := effA [.cnt (tk t .RED_NIU_SPEC_CNT) f_RED_NIU_SPEC_CNT_COUNT 1]
  if tileDown s t then redNak t p stDown s
  else if tileAsleep s t then redNak t p stAsleep s
  else
    let late := (doneOf s t (redRid p)).1 && (doneOf s t (redRid p)).2 == redGen p
    match ctxOf s t (redRid p) (redGen p) with
    | none => seqA [spec, redDiscard t p (if late then 1 else 2)] s
    | some c =>
      match ctxDesc s t c with
      | none => seqA [spec, redDiscard t p (if late then 1 else 2)] s
      | some d =>
        let a := armD d.raw
        let g := redSegNo p
        let op := p.op.toNat
        let bad := (op == opRedI) != a.int || decide (a.elems ≤ 512 * g) || redCnt p != min 512 (a.elems - 512 * g)
          || !wireOk op (redWfmt p) || p.data.length != wireLen (redWfmt p) (redCnt p)
        if bad then seqA [spec, redSpecRead t c d p fs, redDiscard t p 3] s
        else if a.expect < (redSegAt s (segKey t c g)).count + redNcontrib p then
          seqA [spec, redSpecRead t c d p fs, redDiscard t p 4] s
        else seqA [spec, redAccept t c d p fs rs] s

/-- A partial or a RED_NAK has been ejected at a tile: it leaves the fabric. -/
def bnGone (t : Nat) (p : BnPkt) : Act := fun s =>
  match s.bn.find? (fun f => f.at_ == t && f.ej && f.exit == none && f.pkt == p) with
  | some f => [.setBn (s.bn.erase f)]
  | none => []

/-! ### Rounding (R232, R233) -/

/-- R232: RCX rounds the accumulator of a segment that is complete. -/
def redRoundA (t c g : Nat) (fs : Finds) : Act := fun s =>
  match ctxDesc s t c with
  | none => []
  | some d =>
    let a := armD d.raw
    let k := redSegAt s (segKey t c g)
    let code := fmtCode a.fmt
    let cnt := min 512 (a.elems - 512 * g)
    if tfld s t .RED_CTX f_RED_CTX_VALID c = 0 ∨ k.count ≠ a.expect ∨ k.rounded ∨ a.elems ≤ 512 * g then []
    else
      let src := ownArr s t (a.acc + 4096 * g) 0 (if a.int then 0xE else 0xF) false cnt fs
      let o := convertArr src cnt code (fmtMx a.fmt) a.mode
      let out := ⟨a.dst + arrayBytes code (512 * g), o.data, o.psn⟩ ::
        (if fmtMx a.fmt then [JobOut.mk (a.dsc + 16 * g) o.scl o.spsn] else [])
      let done := tfld s t .RED_CTX f_RED_CTX_SEGS_DONE c + 1
      seqA [
        localJob t 13 d.idx 29 fs [(a.acc + 4096 * g, 8 * cnt)] out cnt o.flags,
        effA [.putRedSeg (segKey t c g) { k with rounded := true }, .fld (tk t .RED_CTX c) f_RED_CTX_SEGS_DONE done],
        whenA (done == ceilDiv a.elems 512) (modDesc t 13 d.idx (fun e => { e with ext := .redCtx (c + 32) }))] s

/-! ### NAKs (R241) and DONE_CLR -/

/-- R241: a source NIU receives a RED_NAK. -/
def redNakA (t : Nat) (p : BnPkt) : Act := fun s =>
  let st := p.far.toNat % 256
  seqA [
    effA [.cnt (tk t .RED_NAK_CNT) f_RED_NAK_CNT_COUNT 1],
    whenA (tfld s t .RED_STATUS f_RED_STATUS_NAK_SEEN == 0) (effA [.reg (tk t .RED_NAK_INFO) (redInfo 5 st p)]),
    redSeen t f_RED_STATUS_NAK_SEEN,
    fun s => raiseErr 0x020A 2 st t (regOf s (tk t .RED_NAK_INFO)).toNat s] s

/-- R233: DONE_CLR clears every DONE_VALID. -/
def doneClrA (t : Nat) : Act := fun s =>
  (List.range 128).map (fun i =>
    .reg (tk t .RED_DONE i) (regOf s (tk t .RED_DONE i) &&& BitVec.ofNat 64 0xAAAAAAAAAAAAAAAA))

/-! ### The commands -/

/-- R219: an NIU queue takes up a REDUCE. -/
def execNqReduce (t : Tile) (n : Fin 4) (ecc : List (Nat × Ecc)) (s : State) : Host.Outcome State Fault Refusal :=
  runA (takeDesc t (nqQ n) 0x43 (redCheck t) (fun idx bs => reduceRun t (nqQ n) idx bs ecc)) s

/-- R222: the RED queue takes up a RED_ARM. -/
def execRedArm (t : Tile) (s : State) : Host.Outcome State Fault Refusal :=
  runA (takeDesc t 13 0x50 (armCheck t) (fun idx _ => armRun t idx)) s

/-- R223: a waiting arm starts. -/
def execRedArmStart (t : Tile) (s : State) : Host.Outcome State Fault Refusal := runA (armNextA t) s

/-- R225, R235: a partial arrives at a router. -/
def execRedRouterArrival (t : Tile) (inp : Fin 5) (p : BnPkt) (err : LinkErr) (res : List (Nat × Bool)) (s : State) :
    Host.Outcome State Fault Refusal :=
  runA (redRouterA t inp p err res) s

/-- R225: a join window closes. -/
def execRedJoinWindowClose (t : Tile) (p : BnPkt) (s : State) : Host.Outcome State Fault Refusal := runA (redWindowA t p) s

/-- R237: an ordered hold times out. -/
def execRedOrderedTimeout (t : Tile) (p : BnPkt) (s : State) : Host.Outcome State Fault Refusal := runA (redOrdTimeoutA t p) s

/-- The updates of `execRedNiuArrival`. -/
def redNiuArrivalAct (t : Tile) (p : BnPkt) (ecc : List (Nat × Ecc)) (res : List (Nat × Bool)) : Act := fun s =>
  if !opRed p.op.toNat || cmWaits s (.cm t 0) then [] else seqA [bnGone t p, redNiuA t p ecc res] s

/-- R229: a partial is ejected at its destination NIU. -/
def execRedNiuArrival (t : Tile) (p : BnPkt) (ecc : List (Nat × Ecc)) (res : List (Nat × Bool)) (s : State) : Host.Outcome State Fault Refusal :=
  runA (redNiuArrivalAct t p ecc res) s

/-- R232: a segment is rounded. -/
def execRedSegmentRound (t : Tile) (c : Fin 16) (seg : BitVec 10) (ecc : List (Nat × Ecc)) (s : State) :
    Host.Outcome State Fault Refusal :=
  runA (redRoundA t c seg.toNat ecc) s

/-- R241: a RED_NAK is ejected at its source. -/
def execRedNakReceive (t : Tile) (p : BnPkt) (s : State) : Host.Outcome State Fault Refusal :=
  runA (if p.op.toNat = opRedNak then seqA [bnGone t p, redNakA t p] else noA) s

/-- R233: RED_CFG.DONE_CLR is written. -/
def execRedDoneClr (t : Tile) (s : State) : Host.Outcome State Fault Refusal := runA (doneClrA t) s

end Sys2Proof.Machine
end

