-- ==== Sys2Proof/Machine/Col.lean ====
section
/-!
DEFINITION. Sys2Proof/Machine/Col.lean: collectives (R508 to R539): groups, the entries that the runtime on core 23 runs, its chunk
pipeline over the staging area, the on-chip phase, and opening, closing and re-forming a group. The runtime's own descriptors are
records of the queues DMV3, NQ3 and RED with indices from 65,536 × (slot + 1): the spec places no rings for them.
-/
namespace Sys2Proof.Machine

/-! ### Groups (R508, R509, R517) -/

/-- A group's configuration. -/
def gLo (s : State) (t g : Nat) : Nat := tfld s t .COL_GCFG0 f_COL_GCFG0_LO_CHIP g
def gHi (s : State) (t g : Nat) : Nat := tfld s t .COL_GCFG0 f_COL_GCFG0_HI_CHIP g
def gNear (s : State) (t g : Nat) : Nat := tfld s t .COL_GCFG1 f_COL_GCFG1_NEAR g
def gFar (s : State) (t g : Nat) : Nat := tfld s t .COL_GCFG1 f_COL_GCFG1_FAR g
def gForm (s : State) (t g : Nat) : Nat := tfld s t .COL_GSTAT f_COL_GSTAT_FORM g
def gState (s : State) (t g : Nat) : Nat := tfld s t .COL_GSTAT f_COL_GSTAT_STATE g
def gChunk (s : State) (t g : Nat) : Nat := 2 ^ tfld s t .COL_GCFG2 f_COL_GCFG2_CHUNK_LOG2 g
def gSlots (s : State) (t g : Nat) : Nat := 2 ^ tfld s t .COL_GCFG2 f_COL_GCFG2_NSLOT_LOG2 g
def gStg (s : State) (t g : Nat) : Nat := tfld s t .COL_GCFG2 f_COL_GCFG2_STG_OFF g
def colG (s : State) (t g : Nat) : ColGrp := colGrpAt s (t * 8 + g)

/-- The axes of the box (R508). -/
def gAxes (s : State) (t g : Nat) : List Nat := (List.range 6).filter (fun d => coord s (gLo s t g) d != coord s (gHi s t g) d)

/-- R509: a group with excluded chips runs as a flat ring. -/
def gFlat (s : State) (t g : Nat) : Bool := !(colG s t g).excl.isEmpty

/-- R509: the members of a flat ring, in ascending chip ID order. -/
def gFlatMembers (s : State) (t g : Nat) : List Nat :=
  (List.range (machineSize s)).filter (fun c => inBox s (gLo s t g) (gHi s t g) c && !(colG s t g).excl.contains c)

/-- R509: a chip's rank on an axis of the box, and the axis's size. -/
def axisMin (s : State) (t g d : Nat) : Nat := min (coord s (gLo s t g) d) (coord s (gHi s t g) d)
def axisK (s : State) (t g d : Nat) : Nat := max (coord s (gLo s t g) d) (coord s (gHi s t g) d) - axisMin s t g d + 1
def axisR (s : State) (t g d chip : Nat) : Nat := coord s chip d - axisMin s t g d

/-- R509: NAX. -/
def gNax (s : State) (t g : Nat) : Nat := if gFlat s t g then 1 else (gAxes s t g).length

/-- R509: the size of ring a and this chip's rank on it. -/
def ringK (s : State) (t g a : Nat) : Nat :=
  if gFlat s t g then (gFlatMembers s t g).length else axisK s t g ((gAxes s t g).getD a 0)
def ringR (s : State) (t g a : Nat) : Nat :=
  if gFlat s t g then (gFlatMembers s t g).idxOf (chipId s) else axisR s t g ((gAxes s t g).getD a 0) (chipId s)

/-- R509: the member count. -/
def gN (s : State) (t g : Nat) : Nat := (List.range (gNax s t g)).foldl (fun n a => n * ringK s t g a) 1

/-- R509: a chip's position. -/
def gPos (s : State) (t g chip : Nat) : Nat :=
  if gFlat s t g then (gFlatMembers s t g).idxOf chip
  else (gAxes s t g).foldl (fun q d => q * axisK s t g d + axisR s t g d chip) 0

/-- The chip at a position: the digits of the position give its ranks, the last axis least significant. -/
def gChipAt (s : State) (t g p : Nat) : Nat :=
  if gFlat s t g then (gFlatMembers s t g).getD p (chipId s)
  else ((gAxes s t g).reverse.foldl (fun (a : Nat × Nat) d =>
    (chipWith s a.1 d (axisMin s t g d + a.2 % axisK s t g d), a.2 / axisK s t g d)) (chipId s, p)).1

/-- R517: the neighbour of this chip on ring a. -/
def ringNext (s : State) (t g a : Nat) (plus : Bool) : Nat :=
  let k := ringK s t g a
  let r := if plus then (ringR s t g a + 1) % k else (ringR s t g a + k - 1) % k
  if gFlat s t g then (gFlatMembers s t g).getD r (chipId s)
  else chipWith s (chipId s) ((gAxes s t g).getD a 0) (axisMin s t g ((gAxes s t g).getD a 0) + r)

/-- A chip is a member. -/
def gMember (s : State) (t g chip : Nat) : Bool :=
  chipExists s chip && inBox s (gLo s t g) (gHi s t g) chip && !(colG s t g).excl.contains chip

/-! ### The staging area (R515) -/

def stgFlags (s : State) (t g : Nat) : Nat := gStg s t g + 2 * gNax s t g * gSlots s t g * gChunk s t g
def slotOff (s : State) (t g i j : Nat) : Nat := gStg s t g + (i * gSlots s t g + j) * gChunk s t g
def flagOff (s : State) (t g i j : Nat) : Nat := stgFlags s t g + 8 * (16 * i + j)
def creditOff (s : State) (t g k : Nat) : Nat := stgFlags s t g + 0x600 + 8 * k
def stgBytes (s : State) (t g : Nat) : Nat := stgFlags s t g + 2048 - gStg s t g

/-- 8 B of the home tile's CM. -/
def cm8 (s : State) (t off : Nat) : Nat := leNat (memRead s (.cm t off) 8 []).bytes

/-- The global address of a CM offset of the home tile on a chip, and of an own-tile offset there. -/
def chipCm (s : State) (t chip off : Nat) : Nat := chip * 2 ^ 47 + cmGlobal s t off % 2 ^ 47
def chipOwn (s : State) (t chip off : Nat) : Nat := chip * 2 ^ 47 + ownGlobal s t off % 2 ^ 47

/-! ### Entries (R513, R514) -/

/-- The fields of a collective entry. -/
structure ColD where
  op    : Nat
  src   : Nat
  dst   : Nat
  count : Nat
  cap   : Nat
  fmt   : Nat
  mode  : Nat
  chip  : Bool
  cmode : Nat
  tbl   : Nat
  root  : Nat
  slen  : Nat
  rlen  : Nat
  gflag : Nat

/-- R513: the entry's fields. -/
def colD (bs : List Byte) : ColD :=
  ⟨leAt bs 0 1, leAt bs 8 4, leAt bs 12 4, leAt bs 16 4, leAt bs 20 4, leAt bs 24 1, leAt bs 25 1 % 16, bitOf (leAt bs 25 1) 4,
    leAt bs 26 1, leAt bs 28 2, leAt bs 32 4 % 2 ^ 17, leAt bs 36 4, leAt bs 40 4, leAt bs 44 4⟩

/-- R513: bytes of one element. -/
def colEsz (d : ColD) : Nat := contAlign (fmtCode d.fmt)

/-- R525: the bytes of an ALLTOALL's packed source, by its table of lengths. -/
def slenSum (s : State) (t n : Nat) (d : ColD) : Nat :=
  (List.range n).foldl (fun a i => a + leNat (ownRead s t (d.slen + 4 * i) 4 []).bytes) 0

/-- The own-tile ranges of an entry. -/
def colRanges (s : State) (t g : Nat) (d : ColD) : List (Nat × Nat) :=
  let n := gN s t g
  match d.op with
  | 0x70 => [(d.src, d.count * colEsz d), (d.dst, d.count * colEsz d)]
  | 0x71 => [(d.src, d.count * colEsz d), (d.dst, d.count * colEsz d)]
  | 0x72 => [(d.src, d.count), (d.dst, n * d.cap), (d.rlen, 8 * n)] ++ (if d.gflag = 0 then [] else [(d.gflag, 8 * n)])
  | 0x73 => [(d.src, if d.root = chipId s then d.count else 0), (d.dst, d.count), (d.gflag, 8 * ceilDiv d.count 2032)]
  | 0x74 => [(d.slen, 4 * n), (d.src, slenSum s t n d), (d.dst, n * d.cap), (d.rlen, 8 * n)] ++ (if d.gflag = 0 then [] else [(d.gflag, 8 * n)])
  | _ => []

/-- A range lies in the tile's CM or vault and clear of the staging area. -/
def colRangeOk (s : State) (t g : Nat) (r : Nat × Nat) : Bool :=
  r.2 == 0 || (ownRangeOk t r.1 r.2 && (match ownPlace t r.1 with
    | some (.cm _ o) => decide (o + r.2 ≤ gStg s t g) || decide (gStg s t g + stgBytes s t g ≤ o)
    | _ => true))

/-- R514: the checks of an entry. -/
def colCheck (t g : Nat) (s : State) (bs : List Byte) : Nat :=
  let d := colD bs
  let red := d.op = 0x70 ∨ d.op = 0x71
  let fmt := bitOf (leAt bs 1 1) 1 || bitsOf (leAt bs 25 1) 5 3 != 0 || leAt bs 27 1 != 0 || leAt bs 30 2 != 0
    || !([0, 1, 2, 3, 9, 0xE].contains d.fmt) || modeBad d.mode || decide (4 < d.cmode)
    || (d.chip && (d.op == 0x74 || d.op == 0x75 || tfld s t .COL_GCFG1 f_COL_GCFG1_ONCHIP_EN g == 0))
    || (d.op == 0x73 && (d.gflag == 0 || !gMember s t g d.root))
  let len := (decide red && (d.count == 0 || d.count % (2 * gN s t g * (64 / colEsz d)) != 0))
    || (d.chip && decide (524288 < d.count))
    || ((d.op == 0x72 || d.op == 0x74) && (d.cap == 0 || d.cap % 64 != 0))
    || (d.op == 0x73 && (d.count == 0 || decide (2032 * 4096 < d.count)))
  let acc := tfld s t .COL_GCFG3 f_COL_GCFG3_ACC_OFF g
  let addr := !(colRanges s t g d).all (colRangeOk s t g) || (d.chip && decide (cmSize < acc + 8 * d.count))
  stMerge (if addr then stAddr else stOK) (stMerge (if fmt then stFmt else stOK) (if len then stLen else stOK))

/-! ### Stages -/

/-- The stages of an entry (R518, R524, R526): the on-chip sum, reduce-scatter and all-gather on an axis, gathering blocks on an axis,
broadcasting, exchanging blocks, ring steps with no data, and the distribution and its flag. -/
inductive ColStage where
  | arm
  | rs (a : Nat)
  | ag (a : Nat)
  | gat (a : Nat)
  | bcast
  | a2a
  | bar (a : Nat)
  | dist
  | distFlag
deriving DecidableEq, Repr

/-- R524: the stages of an entry, in order. -/
def colStages (s : State) (t g : Nat) (d : ColD) : List ColStage :=
  let ax := List.range (gNax s t g)
  let dist := if d.chip then [ColStage.dist, ColStage.distFlag] else []
  match d.op with
  | 0x70 => (if d.chip then [ColStage.arm] else []) ++ ax.map .rs ++ ax.reverse.map .ag ++ dist
  | 0x71 => (if d.chip then [ColStage.arm] else []) ++ ax.map .rs
  | 0x72 => ax.map .gat ++ dist
  | 0x73 => [.bcast]
  | 0x74 => [.a2a]
  | _ => ax.map .bar ++ ax.reverse.map .bar

/-- R518: the region of a half that axis a works on: its first element and its length. -/
def region (s : State) (t g : Nat) (d : ColD) (h : Nat) : Nat → Nat × Nat
  | 0 => (h * (d.count / 2), d.count / 2)
  | a + 1 =>
    let r := region s t g d h a
    let n := r.2 / ringK s t g a
    (r.1 + ringR s t g a * n, n)

/-- One step of a chunk: where it lies in the own tile, and its bytes. -/
structure ColChunk where
  off : Nat
  n   : Nat

/-- The chunks of a shard of a region. -/
def shardChunks (s : State) (t g : Nat) (d : ColD) (h a : Nat) : Nat :=
  ceilDiv ((region s t g d h a).2 / ringK s t g a * colEsz d) (gChunk s t g)

/-- Chunk x of a shard of a region. -/
def shardChunk (s : State) (t g : Nat) (d : ColD) (h a shard x : Nat) : ColChunk :=
  let r := region s t g d h a
  let n := r.2 / ringK s t g a
  ⟨d.dst + (r.1 + shard * n) * colEsz d + x * gChunk s t g, min (gChunk s t g) (n * colEsz d - x * gChunk s t g)⟩

/-- R518: the shard that step j sends (or, with `rcv`, receives) on the + ring (d 0) or the − ring (d 1); `lag` is 1 in reduce-scatter
and 0 in all-gather. -/
def ringShard (k r j d lag : Nat) (rcv : Bool) : Nat :=
  let m := j + lag + b2n rcv
  if d = 0 then (r + 2 * k - m % (2 * k)) % k else (r + m) % k

/-- The positions whose blocks form shard `sh` when axis a gathers (R524): they have that rank on it, this chip's ranks on later
axes, and any rank on earlier ones. -/
def gatBlocks (s : State) (t g a sh : Nat) : List Nat :=
  if gFlat s t g then [sh]
  else
    let ks := (List.range (gNax s t g)).map (ringK s t g)
    let rank := fun (p x : Nat) => p / ((ks.drop (x + 1)).foldl (· * ·) 1) % (ks.getD x 1)
    (List.range (gN s t g)).filter (fun p =>
      (List.range (gNax s t g)).all (fun x =>
        if x < a then true else if x = a then rank p x == sh else rank p x == ringR s t g x))

/-- R524: the chunks in which a ring moves its half of a block: the bytes, and then the length entry. -/
def gatPer (s : State) (t g : Nat) (d : ColD) : Nat := ceilDiv (d.cap / 2) (gChunk s t g) + 1

/-- Blocks in a shard of a gathering axis. -/
def gatCount (s : State) (t g a : Nat) : Nat := (gatBlocks s t g a 0).length

/-- The length entry of a position at RLEN_OFF. -/
def lenEntry (s : State) (t : Nat) (d : ColD) (p : Nat) : Nat := leNat (ownRead s t (d.rlen + 8 * p) 8 []).bytes

/-- The chunks that each ring of a stage moves. -/
def stageTotal (s : State) (t g : Nat) (d : ColD) (dir : Nat) : ColStage → Nat
  | .rs a => (ringK s t g a - 1) * shardChunks s t g d dir a
  | .ag a => (ringK s t g a - 1) * shardChunks s t g d dir a
  | .gat a => (ringK s t g a - 1) * gatCount s t g a * gatPer s t g d
  | .bar a => ringK s t g a - 1
  | .bcast => if dir = 0 then ceilDiv d.count 2032 else 0
  | .a2a => if dir = 0 then gN s t g - 1 else 0
  | .dist => if dir = 0 then ceilDiv (if d.op = 0x72 then gN s t g * d.cap else d.count * colEsz d) 4096 else 0
  | .distFlag => if dir = 0 then 1 else 0
  | .arm => 0

/-- The chunks that each ring of a stage waits for. -/
def stageWaits (s : State) (t g : Nat) (d : ColD) (dir : Nat) (st : ColStage) : Nat :=
  match st with
  | .bcast => if dir = 0 ∧ d.root ≠ chipId s then ceilDiv d.count 2032 else 0
  | .dist => 0
  | .distFlag => 0
  | st => stageTotal s t g d dir st

/-- The chunks that each ring of a stage sends: only the root sends a broadcast. -/
def stageSends (s : State) (t g : Nat) (d : ColD) (dir : Nat) (st : ColStage) : Nat :=
  if st = .bcast ∧ d.root ≠ chipId s then 0 else stageTotal s t g d dir st

/-- The chunks that make one ring step of a stage. -/
def stepChunks (s : State) (t g : Nat) (d : ColD) (dir : Nat) : ColStage → Nat
  | .rs a => shardChunks s t g d dir a
  | .ag a => shardChunks s t g d dir a
  | .gat a => gatCount s t g a * gatPer s t g d
  | _ => 1

/-- The axis of a ring stage. -/
def stageAxis : ColStage → Option Nat
  | .rs a => some a
  | .ag a => some a
  | .gat a => some a
  | .bar a => some a
  | _ => none

/-- The bytes of half `dir` of a block of which `n` bytes travel (R524). -/
def halfBytes (d : ColD) (dir n : Nat) : Nat × Nat :=
  if dir = 0 then (0, min n (d.cap / 2)) else (d.cap / 2, n - min n (d.cap / 2))

/-- The chunk that a ring stage sends (or, with `rcv`, receives) as its m-th: where it lies here. -/
def ringChunk (s : State) (t g : Nat) (d : ColD) (dir m : Nat) (rcv : Bool) (st : ColStage) : ColChunk :=
  let c := max 1 (stepChunks s t g d dir st)
  let j := m / c
  match st with
  | .rs a => shardChunk s t g d dir a (ringShard (ringK s t g a) (ringR s t g a) j dir 1 rcv) (m % c)
  | .ag a => shardChunk s t g d dir a (ringShard (ringK s t g a) (ringR s t g a) j dir 0 rcv) (m % c)
  | .gat a =>
    let per := gatPer s t g d
    let p := (gatBlocks s t g a (ringShard (ringK s t g a) (ringR s t g a) j dir 0 rcv)).getD (m % c / per) 0
    let x := m % per
    if x + 1 = per then ⟨d.rlen + 8 * p, 8⟩
    else
      let h := halfBytes d dir (lenEntry s t d p % 2 ^ 31)
      ⟨d.dst + p * d.cap + h.1 + x * gChunk s t g, min (gChunk s t g) (h.2 - x * gChunk s t g)⟩
  | _ => ⟨0, 0⟩

/-! ### The runtime's descriptors -/

/-- The record of a descriptor that the runtime posts for slot g and the entry of index `tag`. -/
def childDesc (g num tag op : Nat) (raw : List Byte) (flagAddr flagVal : Nat) : Desc :=
  { idx := 65536 * (g + 1) + num % 65536, tag := tag, op := op, flags := 0, flagAddr := flagAddr, flagVal := flagVal, status := 0,
    count := 0, failAddr := 0, poison := false, fp := 0, pend := 0, refused := false, flagSt := 0, raw := raw, ext := .none }

/-- The lowest number that no descriptor of the runtime for slot g has among those that a queue runs. -/
def childNum (g : Nat) (run : List Desc) : Nat :=
  ((List.range (run.length + 1)).find? (fun n => !run.any (fun e => e.idx == 65536 * (g + 1) + n))).getD 0

/-- The state of an entry that runs changes. -/
def colMod (t g : Nat) (f : ColX → ColX) : Act := fun s =>
  match colEntry s t g with
  | some e => (match e.ext with
    | .col x => putDesc t (14 + g) { e with ext := .col (f x) } s
    | _ => [])
  | none => []

/-- R511: the runtime posts a descriptor on a queue and it runs; the entry waits for it. -/
def spawn (t g q op : Nat) (raw : List Byte) (flagAddr flagVal : Nat) (run : Nat → Act) : Act := fun s =>
  match colEntry s t g with
  | some e => (match e.ext with
    | .col _ =>
      let k := queueOf s t q
      let d := childDesc g (childNum g k.run) e.idx op raw flagAddr flagVal
      seqA [
        effA [.putQueues (queueKey t q) { k with run := k.run ++ [d] }],
        putDesc t (14 + g) { e with pend := e.pend + 1 },
        run d.idx] s
    | _ => [])
  | none => []

/-- A transfer of DMV3 under an entry (R511, R520). -/
def colXfer (t idx : Nat) (d : ColD) : Xfer := ⟨t, 7, idx, 2, 0, d.cmode, d.tbl, true⟩

/-- How far an own-tile range runs before a stripe ends (R60). -/
def ownLeft (s : State) (t off n : Nat) : Nat :=
  match ownPlace t off with
  | some (.vlt _ o) => if striped s then min n (stripeSize s - o % stripeSize s) else n
  | _ => n

/-- The runs of a copy of own-tile ranges: none crosses a stripe of its source, or of its destination where that is an own-tile
offset of a chip; `k` bounds their number. -/
def ownCuts (s : State) (t src : Nat) (dst : Option Nat) : Nat → Nat → Nat → List (Nat × Nat)
  | 0, _, _ => []
  | k + 1, o, n =>
    if n = 0 then []
    else
      let z := min (ownLeft s t (src + o) n) (match dst with
        | some d => ownLeft s t (d + o) n
        | none => n)
      (o, z) :: ownCuts s t src dst k (o + z) (n - z)

/-- Where a copy of the runtime goes: a CM range of the tile in a chip, or an own-tile offset applied there. -/
inductive ColTo where
  | cm (chip off : Nat)
  | own (chip off : Nat)

/-- The own-tile offset of a destination. -/
def ColTo.off : ColTo → Option Nat
  | .cm _ _ => none
  | .own _ o => some o

/-- The global address of the byte at a distance of `o` in a destination. -/
def ColTo.at_ (s : State) (t : Nat) (o : Nat) : ColTo → Nat
  | .cm c f => chipCm s t c f + o
  | .own c f => chipOwn s t c (f + o)

/-- R520: a COPY on DMV3 from the own tile, with its flag write. -/
def colCopy (t g : Nat) (d : ColD) (src : Nat) (dst : ColTo) (n flagAddr flagVal : Nat) (fs : Finds) : Act := fun s =>
  spawn t g 7 1 [] flagAddr flagVal (fun idx =>
    eachA (ownCuts s t src dst.off n 0 n) (fun c =>
      (colXfer t idx d).copyRow (ownGlobal s t (src + c.1)) (dst.at_ s t c.1) c.2 fs (fun _ => false))) s

/-- A multicast descriptor of the runtime (R192, R491), in the rectangle of the group. -/
def mcRaw (s : State) (t g op inOff loc len skip dflag foff fval rep : Nat) : List Byte :=
  let x := op = 0x44
  leBytes 8 op ++ leBytes 4 inOff ++ leBytes 2 (gNear s t g) ++ leBytes 2 (gFar s t g) ++ leBytes 4 loc
  ++ (if x then leBytes 2 len ++ leBytes 1 2 ++ leBytes 1 (skip + 2 * dflag) ++ leBytes 4 foff ++ leBytes 4 rep
        ++ leBytes 4 (gLo s t g) ++ leBytes 4 (gHi s t g)
      else leBytes 4 len ++ leBytes 1 2 ++ leBytes 2 0 ++ leBytes 1 (skip + 2 * dflag) ++ leBytes 4 0 ++ leBytes 4 foff ++ leBytes 4 0)
  ++ leBytes 8 fval ++ leBytes 16 0

/-- R524, R526: an MCAST on NQ3 in the group's rectangle. -/
def colMcast (t g inOff loc len skip dflag foff fval : Nat) (fs : Finds) : Act := fun s =>
  let raw := mcRaw s t g 0x42 inOff loc len skip dflag foff fval 0
  spawn t g 12 0x42 raw 0 0 (fun idx => mcastRun t 12 idx raw fs) s

/-! ### Ending, starting and moving on -/

/-- R529: the entry ends early and the group is BROKEN. -/
def colFail (t g st cause chip tile : Nat) : Act := fun s =>
  match colEntry s t g with
  | some e => seqA [colBreak t g cause chip tile, putDesc t (14 + g) { (e.fail st 0) with ext := .none }] s
  | none => []

/-- R526: the on-chip sum is armed: the RED_ARM, and then the arm flag in every tile of the rectangle. -/
def colArm (t g : Nat) (d : ColD) (num : Nat) (fs : Finds) : Act := fun s =>
  let c1 := tk t .COL_GCFG1 g
  let gen := (colG s t g).gen
  let raw := leBytes 8 0x50 ++ leBytes 2 (fld s c1 f_COL_GCFG1_RID) ++ leBytes 2 (rectTiles (gNear s t g) (gFar s t g)).length
    ++ leBytes 4 d.count ++ leBytes 4 (tfld s t .COL_GCFG3 f_COL_GCFG3_ACC_OFF g) ++ leBytes 4 d.dst ++ leBytes 1 d.fmt
    ++ leBytes 1 d.mode ++ leBytes 1 (gen + 2 * fld s c1 f_COL_GCFG1_ORD + 4 * b2n (fmtCode d.fmt == 0xE))
    ++ List.replicate 37 0
  let st := armCheck t s raw
  let down := (rectTiles (gNear s t g) (gFar s t g)).filter (tileDown s)
  if down ≠ [] then seqA [colFail t g stDown 7 (chipId s) (down.foldl min 511), abortA (.core (Fin.ofNat 512 t) 23) t 13] s
  else if st ≠ stOK then
    (match colEntry s t g with
     | some e => putDesc t (14 + g) { (e.fail st 0) with ext := .none } s
     | none => [])
  else seqA [
    spawn t g 13 0x50 raw 0 0 (fun idx => armRun t idx),
    effA [.putColGrp (t * 8 + g) { colG s t g with gen := 1 - gen }],
    colMcast t g 0 0 0 0 1 (tfld s t .COL_GCFG3 f_COL_GCFG3_ARMFLAG_OFF g) (num * 2 ^ 32 + gen) fs] s

/-- R528: a gate flag takes the entry number. -/
def gateFlag (t : Nat) (d : ColD) (num p : Nat) : Act :=
  if d.gflag = 0 then noA else ownWrite t (d.gflag + 8 * p) (leBytes 8 num) (fun _ => false) 23 []

/-- R525, R528: the block of a position is complete: it is padded to CAP, and its gate flag is written. -/
def blockDone (t : Nat) (d : ColD) (num p : Nat) : Act := fun s =>
  let n := lenEntry s t d p % 2 ^ 31
  seqA [
    whenA (decide (n < d.cap)) (ownWrite t (d.dst + p * d.cap + n) (List.replicate (d.cap - n) 0) (fun _ => false) 23 []),
    gateFlag t d num p] s

/-- R525: bytes that do not fit are dropped and counted; the length entry of a contribution of L bytes. -/
def overflow (t g : Nat) (d : ColD) (l : Nat) : Act :=
  if l ≤ d.cap then noA
  else effA [.cnt (tk t .COL_OVF_CNT g) f_COL_OVF_CNT_COUNT 1, .cnt (tk t .COL_OVF_BYTES g) f_COL_OVF_BYTES_COUNT (l - d.cap)]
def lenWord (d : ColD) (num l : Nat) : Nat := num * 2 ^ 32 + (if d.cap < l then 2 ^ 31 else 0) + min l d.cap

/-- The source offset and length of the block for a position in an ALLTOALL (R525). -/
def a2aBlock (s : State) (t : Nat) (d : ColD) (p : Nat) : Nat × Nat :=
  let len := fun (i : Nat) => leNat (ownRead s t (d.slen + 4 * i) 4 []).bytes
  (d.src + (List.range p).foldl (fun a i => a + len i) 0, len p)

/-- The own block of an ALLGATHER or ALLTOALL is put in place. -/
def ownBlock (t g : Nat) (d : ColD) (num src l : Nat) (fs : Finds) : Act := fun s =>
  let q := gPos s t g (chipId s)
  let n := min l d.cap
  seqA [
    ownWrite t (d.dst + q * d.cap) ((ownRead s t src n fs).bytes) (ownPsn s t src fs) 23 [],
    ownWrite t (d.rlen + 8 * q) (leBytes 8 (lenWord d num l)) (fun _ => false) 23 [],
    overflow t g d l,
    blockDone t d num q] s

/-- R516, R524: a checked entry starts. -/
def colStart (t g : Nat) (bs : List Byte) (num : Nat) (fs : Finds) : Act := fun s =>
  let d := colD bs
  let q := gPos s t g (chipId s)
  match d.op with
  | 0x72 => ownBlock t g d num d.src d.count fs s
  | 0x74 => let b := a2aBlock s t d q
            ownBlock t g d num b.1 b.2 fs s
  | 0x73 => []
  | 0x75 => []
  | _ =>
    if d.chip then colArm t g d num fs s
    else if d.src = d.dst then []
    else
      let n := d.count * colEsz d
      ownWrite t d.dst ((ownRead s t d.src n fs).bytes) (ownPsn s t d.src fs) 23 [] s

/-- R512: the COUNT of an entry's completion: elements reduced, or bytes written to DST. -/
def colCount (s : State) (t g : Nat) (d : ColD) : Nat :=
  match d.op with
  | 0x72 => gN s t g * d.cap
  | 0x74 => gN s t g * d.cap
  | 0x75 => 0
  | _ => d.count

/-- A stage is over: all its chunks have been sent and received, and what it posted is done where the next stage needs that. -/
def stageOver (s : State) (t g : Nat) (d : ColD) (e : Desc) (x : ColX) (st : ColStage) : Bool :=
  decide (stageSends s t g d 0 st ≤ x.s0) && decide (stageSends s t g d 1 st ≤ x.s1)
    && decide (stageWaits s t g d 0 st ≤ x.r0) && decide (stageWaits s t g d 1 st ≤ x.r1)
    && (match st with
      | .arm => e.pend == 0
      | .dist => e.pend == 0
      | _ => true)

/-- The entry moves on past the stages that are over; after the last one it has only its descriptors to wait for. `k` bounds the
stages. -/
def colMove (t g : Nat) : Nat → Act
  | 0 => noA
  | k + 1 => fun s =>
    match colEntry s t g with
    | none => []
    | some e => match e.ext with
      | .col x =>
        let d := colD e.raw
        (match (colStages s t g d)[x.stage]? with
         | none => putDesc t (14 + g) { e with ext := .none, count := colCount s t g d } s
         | some st =>
           if stageOver s t g d e x st then
             seqA [colMod t g (fun x => { x with stage := x.stage + 1, s0 := 0, s1 := 0, r0 := 0, r1 := 0 }), colMove t g k] s
           else [])
      | _ => []

/-- R516: a group takes up its next entry, of opcode `op`; refused or not, it takes an entry number. -/
def colTake (t g op : Nat) (fs : Finds) : Act := fun s =>
  let q := 14 + g
  let k := queueOf s t q
  let st := gState s t g
  if st = 0 ∨ k.run ≠ [] then []
  else
    let num := (tfld s t .COL_GSTAT f_COL_GSTAT_ENTRY g + 1) % 2 ^ 32
    let a : Act := if st = 2 then
        (if k.next = qPI s t q then noA
         else pushDesc t q { descRecord k.next (nextDesc s t q).1 with status := stAborted, refused := true })
      else takeDesc t q op (colCheck t g) (fun idx bs => seqA [
        modDesc t q idx (fun e => { e with ext := .col ⟨num, 0, 0, 0, 0, 0⟩ }), colStart t g bs num fs, colMove t g 40])
    let es := a s
    if es = [] then [] else .fld (tk t .COL_GSTAT g) f_COL_GSTAT_ENTRY num :: es

/-! ### Chunks (R520 to R522) -/

/-- A list with one entry raised. -/
def bump (l : List Nat) (i : Nat) : List Nat := l.modify i (· + 1)

/-- R515: a slot flag. -/
def slotWord (form num count : Nat) : Nat := form * 2 ^ 56 + num % 2 ^ 24 * 2 ^ 32 + count % 2 ^ 32

/-- R520, R525: chunk m of a ring stage may be sent: what it carries has been received, where it takes a slot a credit covers it, and a
length entry goes when what was sent before it has been acknowledged. -/
def ringReady (s : State) (t g : Nat) (d : ColD) (x : ColX) (pend dir a : Nat) (st : ColStage) : Bool :=
  let m := if dir = 0 then x.s0 else x.s1
  let r := if dir = 0 then x.r0 else x.r1
  let c := max 1 (stepChunks s t g d dir st)
  let i := 2 * a + dir
  let w := cm8 s t (creditOff s t g i)
  let f := if w / 2 ^ 56 = gForm s t g then w % 2 ^ 32 else 0
  decide (m < stageSends s t g d dir st) && (decide (m < c) || decide (m - c < r))
    && (match st with
      | .rs _ => decide ((colG s t g).slots.getD i 0 + 1 ≤ f + gSlots s t g)
      | .gat _ => decide ((m + 1) % gatPer s t g d ≠ 0) || pend == 0
      | _ => true)

/-- R520: the runtime sends the next chunk of a ring stage into section i of its neighbour. -/
def sendRing (t g dir a : Nat) (d : ColD) (x : ColX) (st : ColStage) (fs : Finds) : Act := fun s =>
  let i := 2 * a + dir
  let k := colG s t g
  let n := k.sent.getD i 0 + 1
  let m := if dir = 0 then x.s0 else x.s1
  let c := ringChunk s t g d dir m false st
  let nxt := ringNext s t g a (dir == 0)
  let j := (n - 1) % gSlots s t g
  let slot := match st with
    | .rs _ => true
    | _ => false
  let dst : ColTo := if slot then .cm nxt (slotOff s t g i j) else .own nxt c.off
  seqA [
    effA [.putColGrp (t * 8 + g) { k with sent := bump k.sent i, slots := if slot then bump k.slots i else k.slots },
      .cnt (tk t .COL_TX_BYTES g) f_COL_TX_BYTES_COUNT c.n],
    colMod t g (fun x => if dir = 0 then { x with s0 := x.s0 + 1 } else { x with s1 := x.s1 + 1 }),
    colCopy t g d c.off dst c.n (chipCm s t nxt (flagOff s t g i j)) (slotWord (gForm s t g) x.num n) fs] s

/-- R524, R525: the runtime sends the next piece of a broadcast, block of an exchange, or piece of the distribution. -/
def sendOther (t g : Nat) (d : ColD) (x : ColX) (st : ColStage) (fs : Finds) : Act := fun s =>
  let m := x.s0
  let sent := colMod t g (fun x => { x with s0 := x.s0 + 1 })
  match st with
  | .bcast =>
    let n := min 2032 (d.count - 2032 * m)
    let rep := stgFlags s t g + 2048 - 32
    let raw := mcRaw s t g 0x44 (d.dst + 2032 * m) (d.src + 2032 * m) n 0 1 (d.gflag + 8 * m) x.num rep
    -- R524: the box's rectangle under ONCHIP, otherwise the home tile
    let raw := if d.chip then raw else raw.take 12 ++ leBytes 2 t ++ leBytes 2 t ++ raw.drop 16
    seqA [effA [.cnt (tk t .COL_TX_BYTES g) f_COL_TX_BYTES_COUNT n],
      spawn t g 12 0x44 raw 0 0 (fun idx => xmcastRun t 12 idx raw fs), sent] s
  | .a2a =>
    let q := gPos s t g (chipId s)
    let p := (q + m + 1) % gN s t g
    let b := a2aBlock s t d p
    let n := min b.2 d.cap
    let nxt := gChipAt s t g p
    seqA [effA [.cnt (tk t .COL_TX_BYTES g) f_COL_TX_BYTES_COUNT n], overflow t g d b.2,
      colCopy t g d b.1 (.own nxt (d.dst + q * d.cap)) n (chipOwn s t nxt (d.rlen + 8 * q)) (lenWord d x.num b.2) fs, sent] s
  | .dist =>
    let total := if d.op = 0x72 then gN s t g * d.cap else d.count * colEsz d
    seqA [colMcast t g (d.dst + 4096 * m) (d.dst + 4096 * m) (min 4096 (total - 4096 * m)) 1 0 0 0 fs, sent] s
  | .distFlag => seqA [colMcast t g 0 0 0 0 1 (tfld s t .COL_GCFG3 f_COL_GCFG3_ARMFLAG_OFF g + 8) x.num fs, sent] s
  | _ => []

/-- R520, R524: the runtime sends the next chunk on a ring of the stage that the entry is in (`dir` 0 for + and 1 for −), or the next
piece of a stage that has no rings. -/
def chunkSendA (t g dir : Nat) (fs : Finds) : Act := fun s =>
  match colEntry s t g with
  | none => []
  | some e => match e.ext with
    | .col x =>
      let d := colD e.raw
      (match (colStages s t g d)[x.stage]? with
       | none => colMove t g 40 s
       | some st => match stageAxis st with
         | some a => if ringReady s t g d x e.pend dir a st then seqA [sendRing t g dir a d x st fs, colMove t g 40] s else colMove t g 40 s
         | none =>
           if dir = 0 ∧ x.s0 < stageSends s t g d 0 st then seqA [sendOther t g d x st fs, colMove t g 40] s
           else colMove t g 40 s)
    | _ => []

/-- R521: RCX sums a slot with the matching chunk of DST into DST under the entry's MODE. -/
def chunkSum (t g : Nat) (d : ColD) (c : ColChunk) (slot : Nat) (fs : Finds) : Act := fun s =>
  let n := c.n / colEsz d
  let code := fmtCode d.fmt
  let r : RcxD := ⟨slot, c.off, n, 0, 2, d.fmt, d.fmt, d.mode, 0, 0, 0⟩
  let o := rcxOut r [ownArr s t slot 0 code false n fs, ownArr s t c.off 0 code false n fs]
  match colEntry s t g with
  | some e => seqA [
      localJob t (14 + g) e.idx 29 fs [(slot, c.n), (c.off, c.n)] [⟨c.off, o.data, o.psn⟩] 0 o.flags,
      fun s => [.fld (tk t .TILE_FPFLAGS) f_TILE_FPFLAGS_RCX (tfld s t .TILE_FPFLAGS f_TILE_FPFLAGS_RCX ||| o.flags)]] s
  | none => []

/-- R521: the sender of a chunk has its credit word written. -/
def creditBack (t g a dir : Nat) (d : ColD) : Act := fun s =>
  let i := 2 * a + dir
  let k := colG s t g
  let fr := bump k.freed i
  seqA [
    effA [.putColGrp (t * 8 + g) { k with freed := fr }],
    colCopy t g d 0 (.cm 0 0) 0 (chipCm s t (ringNext s t g a (dir == 1)) (creditOff s t g i))
      (gForm s t g * 2 ^ 56 + fr.getD i 0 % 2 ^ 32) []] s

/-- R525: the blocks of a gathering stage that the m-th chunk of each ring has brought whole. -/
def gatDone (s : State) (t g : Nat) (d : ColD) (a : Nat) (x : ColX) : List Nat :=
  let n := gatCount s t g a
  (List.range ((ringK s t g a - 1) * n)).filterMap (fun i =>
    let p0 := (gatBlocks s t g a (ringShard (ringK s t g a) (ringR s t g a) (i / n) 0 0 true)).getD (i % n) 0
    let at1 := (List.range ((ringK s t g a - 1) * n)).find? (fun i' =>
      (gatBlocks s t g a (ringShard (ringK s t g a) (ringR s t g a) (i' / n) 1 0 true)).getD (i' % n) 0 == p0)
    match at1 with
    | some i' => if (i + 1) * gatPer s t g d ≤ x.r0 ∧ (i' + 1) * gatPer s t g d ≤ x.r1 then some p0 else none
    | none => none)

/-- R521: a chunk of a ring stage has come. -/
def takeRing (t g dir a : Nat) (d : ColD) (x : ColX) (st : ColStage) (fs : Finds) : Act := fun s =>
  let i := 2 * a + dir
  let k := colG s t g
  let n := k.took.getD i 0
  let m := if dir = 0 then x.r0 else x.r1
  let c := ringChunk s t g d dir m true st
  let x' := if dir = 0 then { x with r0 := x.r0 + 1 } else { x with r1 := x.r1 + 1 }
  seqA [
    effA [.putColGrp (t * 8 + g) { k with took := bump k.took i }, .cnt (tk t .COL_RX_BYTES g) f_COL_RX_BYTES_COUNT (match st with
      | .gat _ => 0
      | _ => c.n)],
    colMod t g (fun _ => x'),
    (match st with
     | .rs _ => seqA [chunkSum t g d c (slotOff s t g i (n % gSlots s t g)) fs, creditBack t g a dir d]
     | .gat _ => fun s => eachA ((gatDone s t g d a x').filter (fun p => !(gatDone s t g d a x).contains p)) (fun p => fun s =>
         seqA [effA [.cnt (tk t .COL_RX_BYTES g) f_COL_RX_BYTES_COUNT (lenEntry s t d p % 2 ^ 31)], blockDone t d x.num p] s) s
     | _ => noA)] s

/-- R522: a slot flag of the section that the ring `dir` of the stage fills. Chunks that take no slot arrive in order, so a later count
shows that an earlier one has come too. -/
def slotFlagRing (t g dir a : Nat) (d : ColD) (x : ColX) (st : ColStage) (fs : Finds) : Act := fun s =>
  let i := 2 * a + dir
  let n := (colG s t g).took.getD i 0 + 1
  let w := cm8 s t (flagOff s t g i ((n - 1) % gSlots s t g))
  let age := (w / 2 ^ 56 + 256 - gForm s t g) % 256
  let cnt := w % 2 ^ 32
  let ahead := match st with
    | .rs _ => decide (cnt = n % 2 ^ 32)
    | _ => decide ((cnt + 2 ^ 32 - n % 2 ^ 32) % 2 ^ 32 < 2 ^ 31)
  if (if dir = 0 then x.r0 else x.r1) ≥ stageWaits s t g d dir st then []
  else if age ≠ 0 then (if 128 ≤ age then [.cnt (tk t .COL_STALE_CNT g) f_COL_STALE_CNT_COUNT 1] else [])
  else if !ahead then []
  else if cnt = n % 2 ^ 32 ∧ bitsOf w 32 24 ≠ x.num % 2 ^ 24 then colFail t g stFmt 6 (ringNext s t g a (dir == 1)) 0 s
  else takeRing t g dir a d x st fs s

/-- R524, R525: a piece flag of a broadcast, or a length entry of an exchange, that holds the entry number. -/
def otherSeen (t g : Nat) (d : ColD) (x : ColX) (st : ColStage) : Act := fun s =>
  let got := colMod t g (fun x => { x with r0 := x.r0 + 1 })
  if stageWaits s t g d 0 st ≤ x.r0 then []
  else match st with
    | .bcast =>
      if leNat (ownRead s t (d.gflag + 8 * x.r0) 8 []).bytes % 2 ^ 32 = x.num then
        seqA [effA [.cnt (tk t .COL_RX_BYTES g) f_COL_RX_BYTES_COUNT (min 2032 (d.count - 2032 * x.r0))], got] s
      else []
    | .a2a =>
      let p := (gPos s t g (chipId s) + gN s t g - (x.r0 + 1)) % gN s t g
      let w := lenEntry s t d p
      if w / 2 ^ 32 = x.num then
        seqA [effA [.cnt (tk t .COL_RX_BYTES g) f_COL_RX_BYTES_COUNT (w % 2 ^ 31)], blockDone t d x.num p, got] s
      else []
    | _ => []

/-- R521: the runtime sees the next slot flag of a ring, or the next flag of a stage that has no rings. -/
def slotFlagA (t g dir : Nat) (fs : Finds) : Act := fun s =>
  match colEntry s t g with
  | none => []
  | some e => match e.ext with
    | .col x =>
      let d := colD e.raw
      (match (colStages s t g d)[x.stage]? with
       | none => colMove t g 40 s
       | some st => match stageAxis st with
         | some a => seqA [slotFlagRing t g dir a d x st fs, colMove t g 40] s
         | none => seqA [otherSeen t g d x st, colMove t g 40] s)
    | _ => []

/-- R529: a wait exceeds TMO. -/
def colTimeoutA (t g : Nat) : Act := fun s =>
  match colEntry s t g with
  | none => []
  | some e => match e.ext with
    | .col x =>
      if tfld s t .COL_GCFG1 f_COL_GCFG1_TMO g = 0 then []
      else
        let d := colD e.raw
        let st := (colStages s t g d)[x.stage]?
        let chip := match st.bind stageAxis with
          | some a => ringNext s t g a (decide (stageWaits s t g d 0 (st.getD .arm) ≤ x.r0))
          | none => chipId s
        seqA [effA [.cnt (tk t .COL_TMO_CNT g) f_COL_TMO_CNT_COUNT 1],
          colFail t g stDown 5 chip 0,
          whenA (st == some .arm) (abortA (.core (Fin.ofNat 512 t) 23) t 13)] s
    | _ => []

/-! ### Opening, closing and re-forming (R530, R531) -/

/-- Two CM ranges overlap. -/
def rngMeet (a b : Nat × Nat) : Bool := decide (a.1 < b.1 + b.2) && decide (b.1 < a.1 + a.2) && a.2 != 0 && b.2 != 0

/-- R531: the exclusions that COL_EXCL holds. -/
def exclNow (s : State) (t g : Nat) : List Nat :=
  (List.range 8).filterMap (fun k =>
    if tfld s t .COL_EXCL f_COL_EXCL_VALID (8 * g + k) = 1 then some (tfld s t .COL_EXCL f_COL_EXCL_CHIP (8 * g + k)) else none)

/-- R531: the configuration is not one that a group can open with. -/
def gBad (s : State) (t g : Nat) : Bool :=
  let lo := gLo s t g
  let hi := gHi s t g
  let q := 14 + g
  let me := chipId s
  let ns := tfld s t .COL_GCFG2 f_COL_GCFG2_NSLOT_LOG2 g
  let cl := tfld s t .COL_GCFG2 f_COL_GCFG2_CHUNK_LOG2 g
  let acc := tfld s t .COL_GCFG3 f_COL_GCFG3_ACC_OFF g
  let lg := tfld s t .Q_DESC f_Q_DESC_LOG2_SIZE q
  let nax := if (exclNow s t g).isEmpty then (gAxes s t g).length else 1
  let stg := (gStg s t g, 2 * nax * gSlots s t g * gChunk s t g + 2048)
  let dring := (tfld s t .Q_DESC f_Q_DESC_BASE q * 64, 2 ^ lg * 64)
  let cring := (tfld s t .Q_CPL f_Q_CPL_BASE q * 64, 2 ^ lg * 16)
  let accR := (acc, if tfld s t .COL_GCFG1 f_COL_GCFG1_ONCHIP_EN g = 1 then 64 else 0)
  let rs := [stg, dring, cring, accR]
  !chipExists s lo || !chipExists s hi || !inBox s lo hi me
    || decide (gridW s ≤ tileX (gNear s t g)) || decide (gridW s ≤ tileX (gFar s t g)) || !inRect (gNear s t g) (gFar s t g) t
    || (exclNow s t g).any (fun c => !chipExists s c || !inBox s lo hi c || c == me)
    || decide (ns < 1) || decide (4 < ns) || decide (cl < 12) || decide (16 < cl) || gStg s t g % 4096 != 0
    || rs.any (fun r => decide (cmSize < r.1 + r.2))
    || (List.range 4).any (fun i => (List.range 4).any (fun j => decide (i < j) && rngMeet (rs.getD i (0, 0)) (rs.getD j (0, 0))))
    || tfld s t .Q_DESC f_Q_DESC_ENABLE q == 0 || decide (lg < 4) || decide (12 < lg)

/-- R531: another open group of the tile may use ONCHIP, or the RID is in use. -/
def onchipBusy (s : State) (t g : Nat) : Bool :=
  tfld s t .COL_GCFG1 f_COL_GCFG1_ONCHIP_EN g == 1 &&
    ((List.range 8).any (fun h => h != g && gState s t h != 0 && tfld s t .COL_GCFG1 f_COL_GCFG1_ONCHIP_EN h == 1)
      || (ctxOfRid s t (tfld s t .COL_GCFG1 f_COL_GCFG1_RID g)).isSome)

/-- The lowest free device group number. -/
def freeGid (s : State) : Option Nat := (List.range 64).find? (fun i => dfld s .COL_DEV_GRP f_COL_DEV_GRP_VALID i == 0)

/-- A GCTRL request that the slot's state does not allow (R531). -/
def gctrlBad (t g : Nat) : Act := effA [setBit (tk t .Q_STAT (14 + g)) f_Q_STAT_CFG_ERR]

/-- R531: OPEN. -/
def gOpenA (t g : Nat) : Act := fun s =>
  let cause := fun (c : Nat) => [Eff.fld (tk t .COL_GSTAT g) f_COL_GSTAT_CAUSE c]
  let rid := tfld s t .COL_GCFG1 f_COL_GCFG1_RID g
  if gState s t g ≠ 0 then gctrlBad t g s
  else if tfld s t .TILE_CORE_CTRL f_TILE_CORE_CTRL_COMM_RSV = 0 ∨ tfld s t .COL_RT_STAT f_COL_RT_STAT_RUNNING = 0 then cause 1
  else match freeGid s with
    | none => setBit (dk .COL_DEV_STAT) f_COL_DEV_STAT_LIMIT :: cause 2
    | some gid =>
      if gBad s t g then cause 3
      else if onchipBusy s t g then cause 4
      else seqA [
        effA [.putColGrp (t * 8 + g) { ColGrp.init with
            excl := exclNow s t g
            gen := if (doneOf s t rid).1 then 1 - (doneOf s t rid).2 else 0 },
          .reg (tk t .COL_GSTAT g) (BitVec.ofNat 64 (2 ^ 62 + gid * 2 ^ 52)), .reg (tk t .COL_GFAIL g) 0,
          .reg (dk .COL_DEV_GRP gid) (BitVec.ofNat 64 (2 ^ 63 + t * 2 ^ 48 + g * 2 ^ 40)),
          .fld (dk .COL_DEV_STAT) f_COL_DEV_STAT_ACTIVE (dfld s .COL_DEV_STAT f_COL_DEV_STAT_ACTIVE + 1)],
        fun s => seqA [effA [.fld (tk t .COL_GSTAT g) f_COL_GSTAT_NAX (gNax s t g)],
          memPut (.cm t (stgFlags s t g)) (List.replicate 2048 0)] s] s

/-- The group's number is free again. -/
def gFree (t g : Nat) : Act := fun s =>
  if gState s t g = 0 then []
  else [.reg (dk .COL_DEV_GRP (tfld s t .COL_GSTAT f_COL_GSTAT_GID g)) 0,
    .fld (dk .COL_DEV_STAT) f_COL_DEV_STAT_ACTIVE (dfld s .COL_DEV_STAT f_COL_DEV_STAT_ACTIVE - 1),
    .fld (tk t .COL_GSTAT g) f_COL_GSTAT_STATE 0, .clrColGrp [t * 8 + g]]

/-- R531: CLOSE. -/
def gCloseA (t g : Nat) : Act := fun s =>
  if gState s t g = 0 then [] else seqA [gFree t g, abortA (.core (Fin.ofNat 512 t) 23) t (14 + g)] s

/-- R530: REFORM. -/
def gReformA (t g : Nat) : Act := fun s =>
  let form := (gForm s t g + 1) % 256
  if gState s t g = 0 then gctrlBad t g s
  else seqA [
    (match colEntry s t g with
     | some e => putDesc t (14 + g) { (e.fail stAborted 0) with pend := 0, ext := .none }
     | none => noA),
    effA [.putColGrp (t * 8 + g) { ColGrp.init with excl := exclNow s t g, gen := (colG s t g).gen },
      .fld (tk t .COL_GSTAT g) f_COL_GSTAT_FORM form, .fld (tk t .COL_GSTAT g) f_COL_GSTAT_STATE 1,
      .fld (tk t .COL_GSTAT g) f_COL_GSTAT_CAUSE 0, .reg (tk t .COL_GFAIL g) 0],
    fun s => seqA [
      effA [.fld (tk t .COL_GSTAT g) f_COL_GSTAT_NAX (gNax s t g)],
      eachA (List.range (2 * gNax s t g)) (fun k => memPut (.cm t (creditOff s t g k)) (leBytes 8 (form * 2 ^ 56))),
      eachA (List.range (2 * gNax s t g * 16)) (fun w => fun s =>
        if 128 ≤ (cm8 s t (stgFlags s t g + 8 * w) / 2 ^ 56 + 256 - form) % 256 then
          memPut (.cm t (stgFlags s t g + 8 * w)) (leBytes 8 0) s
        else [])] s] s

/-- A write to COL_GCTRL. -/
def gctrlA (t g v : Nat) : Act := seqA [
  whenA (bitOf v 0) (gOpenA t g), whenA (bitOf v 1) (gCloseA t g), whenA (bitOf v 2) (gReformA t g)]

/-- A write to COL_GCFG0 to 3 of a group that is not CLOSED is ignored. -/
def gcfgWr (t g : Nat) (k : RKey) (v en : W64) : Act := fun s =>
  if gState s t g ≠ 0 then gctrlBad t g s else [.reg k (accWrite (regFields k) (regOf s k) v en)]

/-- R532: every group that a tile homes closes without completions. -/
def groupsClose (t : Nat) : Act := eachA (List.range 8) (gFree t)

/-! ### The commands -/

/-- R524: the runtime takes up an ALLREDUCE. -/
def execColAllreduce (t : Tile) (g : Fin 8) (ecc : List (Nat × Ecc)) (s : State) : Host.Outcome State Fault Refusal :=
  runA (colTake t g 0x70 ecc) s

/-- R524: the runtime takes up a REDUCE_SCATTER. -/
def execColReduceScatter (t : Tile) (g : Fin 8) (ecc : List (Nat × Ecc)) (s : State) : Host.Outcome State Fault Refusal :=
  runA (colTake t g 0x71 ecc) s

/-- R525: the runtime takes up an ALLGATHER. -/
def execColAllgather (t : Tile) (g : Fin 8) (ecc : List (Nat × Ecc)) (s : State) : Host.Outcome State Fault Refusal :=
  runA (colTake t g 0x72 ecc) s

/-- R524: the runtime takes up a BROADCAST. -/
def execColBroadcast (t : Tile) (g : Fin 8) (ecc : List (Nat × Ecc)) (s : State) : Host.Outcome State Fault Refusal :=
  runA (colTake t g 0x73 ecc) s

/-- R525: the runtime takes up an ALLTOALL. -/
def execColAlltoall (t : Tile) (g : Fin 8) (ecc : List (Nat × Ecc)) (s : State) : Host.Outcome State Fault Refusal :=
  runA (colTake t g 0x74 ecc) s

/-- R524: the runtime takes up a BARRIER. -/
def execColBarrier (t : Tile) (g : Fin 8) (ecc : List (Nat × Ecc)) (s : State) : Host.Outcome State Fault Refusal :=
  runA (colTake t g 0x75 ecc) s

/-- R520: the runtime sends a chunk on the + ring (`dir` 0) or the − ring (1). -/
def execColChunkSend (t : Tile) (g : Fin 8) (dir : Fin 2) (ecc : List (Nat × Ecc)) (s : State) : Host.Outcome State Fault Refusal :=
  runA (chunkSendA t g dir ecc) s

/-- R521: the runtime sees a slot flag. -/
def execColSlotFlagSeen (t : Tile) (g : Fin 8) (dir : Fin 2) (ecc : List (Nat × Ecc)) (s : State) :
    Host.Outcome State Fault Refusal := runA (slotFlagA t g dir ecc) s

/-- R529: a wait exceeds TMO. -/
def execColWaitTimeout (t : Tile) (g : Fin 8) (s : State) : Host.Outcome State Fault Refusal := runA (colTimeoutA t g) s

/-- R531: GCTRL.OPEN. -/
def execColGctrlOpen (t : Tile) (g : Fin 8) (s : State) : Host.Outcome State Fault Refusal := runA (gOpenA t g) s

/-- R531: GCTRL.CLOSE. -/
def execColGctrlClose (t : Tile) (g : Fin 8) (s : State) : Host.Outcome State Fault Refusal := runA (gCloseA t g) s

/-- R530: GCTRL.REFORM. -/
def execColGctrlReform (t : Tile) (g : Fin 8) (s : State) : Host.Outcome State Fault Refusal := runA (gReformA t g) s

end Sys2Proof.Machine
end

