-- ==== Sys2Proof/Machine/Ember.lean ====
section
/-!
DEFINITION. Sys2Proof/Machine/Ember.lean: the Ember log (R714 to R722): its entries, merging, the freeze, and the copy-out to flash; the
state of the Glovos plane as other blocks see it.
-/
namespace Sys2Proof.Machine

/-! ### The Glovos plane, as other blocks see it -/

/-- R604: a bit of GLV_ALERT_SRC sets; a rising edge is a wake event (R584). -/
def alertA (b : Nat) : Act := fun s =>
  if bitOf (regOf s (dk .GLV_ALERT_SRC)).toNat b then []
  else .reg (dk .GLV_ALERT_SRC) (regOf s (dk .GLV_ALERT_SRC) ||| BitVec.ofNat 64 (2 ^ b)) :: glvWake s

/-- R583, R589, R654: the plane enters HALTED. -/
def glvHalt : Act := fun s =>
  if glvState s = 4 then []
  else seqA [
    effA [.fld (dk .GLV_STAT) f_GLV_STAT_STATE 4, setBit (dk .GLV_STAT) f_GLV_STAT_HALTED, .fld (dk .GLV_STAT) f_GLV_STAT_RESTARTING 0],
    alertA 4, raiseErr 0x0602 2 0 0 0] s

/-! ### Flash (R676) -/

/-- Bytes of the flash from an address. -/
def flashRead (s : State) (a n : Nat) : List Byte := smRead 0xFF s.flash a n

/-- Bytes programmed into the flash. -/
def flashWrite (a : Nat) (bs : List Byte) : Act := effA [.runFlash a bs]

/-- Erased bytes of the flash. -/
def flashErase (a n : Nat) : Act := effA [.wipeFlash a (a + n)]

/-! ### Entries (R714) -/

/-- ESEQ of the next entry. -/
def embNext (s : State) : Nat := dfld s .EMB_STAT f_EMB_STAT_NEXT

/-- The bytes of an entry but for its CRC. -/
def embBody (e : EmbEvt) (eseq count : Nat) : List Byte :=
  leBytes 8 e.pilot ++ leBytes 4 eseq ++ leBytes 2 e.kind ++ leBytes 1 (e.cls + 4 * b2n e.info) ++ leBytes 1 e.sub
    ++ leBytes 8 e.data ++ leBytes 2 e.loc ++ leBytes 2 count

/-- The bytes of an entry. -/
def embSeal (body : List Byte) : List Byte := body ++ leBytes 4 (crc32c body)

/-- The entry in the slot of an entry number. -/
def embEntry (s : State) (eseq : Nat) : List Byte :=
  (List.range 4).flatMap (fun w => leBytes 8 (regOf s (dk .EMB_RAM (4 * (eseq % 4096) + w))).toNat)

/-- The slot of an entry number takes an entry. -/
def embStore (eseq : Nat) (bs : List Byte) : Act := effA
  ((List.range 4).map (fun w => .reg (dk .EMB_RAM (4 * (eseq % 4096) + w)) (BitVec.ofNat 64 (leAt bs (8 * w) 8))))

/-- R718, R720: the log freezes, which makes a copy-out due. -/
def embFreeze : Act := seqA [
  effA [setBit (dk .EMB_STAT) f_EMB_STAT_FROZEN, .fld (dk .EMB_STAT) f_EMB_STAT_COPIED 0,
    setBit (dk .EMB_STAT) f_EMB_STAT_COPY_BUSY], glvWake]

/-- R714, R718: an event takes a new entry. -/
def embAppend (e : EmbEvt) : Act := fun s =>
  let n := embNext s
  seqA [embStore n (embSeal (embBody e n 1)),
    effA [.fld (dk .EMB_STAT) f_EMB_STAT_NEXT ((n + 1) % 2 ^ 32),
      .fld (dk .EMB_STAT) f_EMB_STAT_COUNT (min 4096 (dfld s .EMB_STAT f_EMB_STAT_COUNT + 1))],
    whenA (e.cls == 3) embFreeze] s

/-- R717: a corrected event merges into the newest entry. -/
def embMerges (s : State) (e : EmbEvt) : Bool :=
  let n := embNext s
  let old := embEntry s (n + 2 ^ 32 - 1)
  dfld s .EMB_CFG f_EMB_CFG_MERGE_EN == 1 && e.cls == 0 && !e.info && dfld s .EMB_STAT f_EMB_STAT_COUNT != 0
    && leAt old 12 4 == e.kind + e.sub * 2 ^ 24 && leAt old 24 2 == e.loc
    && decide (e.pilot - leAt old 0 8 < 25000000) && dfld s .EMB_COPY f_EMB_COPY_NEXT_COPY != n
    && decide (leAt old 26 2 < 65535)

/-- R717: COUNT of the newest entry rises. -/
def embMerge : Act := fun s =>
  let n := embNext s + 2 ^ 32 - 1
  let old := embEntry s n
  seqA [embStore n (embSeal (old.take 26 ++ leBytes 2 (leAt old 26 2 + 1))),
    effA [.cnt (dk .EMB_MERGE_CNT) f_EMB_MERGE_CNT_COUNT 1]] s

/-- R716 to R718: the log takes the oldest event of its queue. -/
def embQueueA : Act := fun s =>
  match s.embQ with
  | [] => []
  | e :: q =>
    seqA [effA [.setEmbQ q],
      (if dfld s .EMB_STAT f_EMB_STAT_FROZEN = 1 then effA [.cnt (dk .EMB_LOST) f_EMB_LOST_COUNT 1]
       else if embMerges s e then embMerge else embAppend e)] s

/-- R718: a write of UNFREEZE. -/
def embUnfreezeA : Act := fun s =>
  if dfld s .EMB_STAT f_EMB_STAT_FROZEN = 1 ∧ dfld s .EMB_STAT f_EMB_STAT_COPIED = 1 then
    seqA [effA [.fld (dk .EMB_STAT) f_EMB_STAT_FROZEN 0],
      raiseInfo 0x0F02 0 0 (dfld s .EMB_LOST f_EMB_LOST_COUNT)] s
  else []

/-! ### Copy-out (R720, R721) -/

/-- A copy-out starts. -/
def embCopyStart : Act := seqA [effA [setBit (dk .EMB_STAT) f_EMB_STAT_COPY_BUSY], glvWake]

/-- Where block BSEQ of the copy-out begins. -/
def embBlock (bseq : Nat) : Nat := 0x7000000 + bseq % 128 * 0x10000

/-- R721: a new block: erased, with its header. -/
def embOpenBlock (eseq : Nat) : Act := fun s =>
  let b := s.embBseq
  let hdr := leBytes 4 0x4D424D45 ++ leBytes 4 b ++ leBytes 4 s.bootCnt ++ leBytes 4 eseq ++ List.replicate 44 0
  seqA [flashErase (embBlock b) 0x10000, flashWrite (embBlock b) (hdr ++ leBytes 4 (crc32c hdr)),
    effA [.setEmbOpen (some (b, 0)), .setEmbBseq ((b + 1) % 2 ^ 32)]] s

/-- R721: one entry enters the next slot of the open block, or of a new one. -/
def embCopyEntry (eseq : Nat) : Act := fun s =>
  let full := match s.embOpen with
    | some (_, n) => decide (2046 ≤ n)
    | none => true
  seqA [whenA full (embOpenBlock eseq),
    (fun s => match s.embOpen with
      | some (b, n) => .setEmbOpen (some (b, n + 1)) :: flashWrite (embBlock b + 64 + 32 * n) (embEntry s eseq) s
      | none => []),
    effA [.fld (dk .EMB_COPY) f_EMB_COPY_NEXT_COPY ((eseq + 1) % 2 ^ 32)]] s

/-- R720: the entries from NEXT_COPY up to NEXT − 1 are copied; those already overwritten are skipped and counted. -/
def embCopyAll : Act := fun s =>
  let n := embNext s
  let c := dfld s .EMB_COPY f_EMB_COPY_NEXT_COPY
  let d := (n + 2 ^ 32 - c) % 2 ^ 32
  let skip := d - 4096
  seqA [effA [.cnt (dk .EMB_OVWR) f_EMB_OVWR_COUNT skip],
    eachA (List.range (d - skip)) (fun i => embCopyEntry ((c + skip + i) % 2 ^ 32))] s

/-- R720: the copy-out ends; COPIED sets when it has taken in the freezing entry. -/
def embCopied : Act := seqA [embCopyAll,
  fun s => .fld (dk .EMB_STAT) f_EMB_STAT_COPY_BUSY 0 ::
    (if dfld s .EMB_STAT f_EMB_STAT_FROZEN = 1 then [setBit (dk .EMB_STAT) f_EMB_STAT_COPIED] else [])]

/-- R720: a copy-out that is running ends, unless the plane is restarting or halted, which pauses it (R582). -/
def embCopyDone : Act := fun s =>
  if dfld s .EMB_STAT f_EMB_STAT_COPY_BUSY = 1 ∧ glvAwake s then embCopied s else []

/-- EMB_SW: the SUB that names a requester. -/
def swSub : Requester → Nat
  | .core _ c => c
  | .host => 28
  | .glovos => 29
  | .engine _ => 30
  | .remote _ => 31

/-- A write to EMB_SW. -/
def embSwA (who : Requester) (v : Nat) : Act := raiseInfo 0x0F01 (swSub who) 0 v

/-- A write to EMB_CTRL. -/
def embCtrlA (v : Nat) : Act := seqA [whenA (bitOf v 1) embUnfreezeA, whenA (bitOf v 0) embCopyStart]

/-! ### The commands -/

/-- R716: the log writes or merges the next queued event. -/
def execEmbQueueWrite (s : State) : Host.Outcome State Fault Refusal := runA embQueueA s

/-- R718: a write of EMB_CTRL.UNFREEZE. -/
def execEmbUnfreeze (s : State) : Host.Outcome State Fault Refusal := runA embUnfreezeA s

/-- R720: a write of EMB_CTRL.COPY_NOW. -/
def execEmbCopyNow (s : State) : Host.Outcome State Fault Refusal := runA embCopyStart s

/-- R720: EMB_COPY_S seconds have passed, and a copy-out is due. -/
def execEmbCopyTimer (s : State) : Host.Outcome State Fault Refusal := runA embCopyStart s

/-- R720: a copy-out has written every entry. -/
def execEmbCopyComplete (s : State) : Host.Outcome State Fault Refusal := runA embCopyDone s

/-- R715: a write to EMB_SW. -/
def execEmbSwWrite (who : Requester) (v : W64) (s : State) : Host.Outcome State Fault Refusal := runA (embSwA who v.toNat) s

end Sys2Proof.Machine
end

