-- ==== Sys2Proof/Machine/HifBase.lean ====
section
/-!
DEFINITION. Sys2Proof/Machine/HifBase.lean: the host port's errors, MSI-X (R568 to R570), the host memory window (R563, R564, R566, R575)
and the resets and power states of the port (R571).
-/
namespace Sys2Proof.Machine

/-! ### Errors -/

/-- An error of the host port: its bit of HIF_STAT, the first one in HIF_ERR_INFO, and its event. -/
def hifErr (bit : Fld) (cause bar addr : Nat) : Act := seqA [
  effA [setBit (dk .HIF_STAT) bit],
  (fun s => if dfld s .HIF_ERR_INFO f_HIF_ERR_INFO_VALID = 1 then []
    else [.reg (dk .HIF_ERR_INFO) (BitVec.ofNat 64 (2 ^ 63 + cause * 2 ^ 59 + bar * 2 ^ 48 + addr % 2 ^ 47))]),
  fun s => raiseErr 0x0701 2 cause 0 (regOf s (dk .HIF_ERR_INFO)).toNat s]

/-- R559, R560: an error of an access to BAR0 or BAR2. -/
def barErr (bar off : Nat) : Act := seqA [
  effA [.cnt (dk .HIF_BAR_ERR_CNT) f_HIF_BAR_ERR_CNT_COUNT 1], hifErr f_HIF_STAT_BAR_ERR 5 bar off]

/-- R562: a doorbell error on a page. -/
def dbErr (page : Nat) : Act := seqA [
  effA [.cnt (dk .HIF_DB_ERR_CNT) f_HIF_DB_ERR_CNT_COUNT 1], hifErr f_HIF_STAT_DB_ERR 6 4 page]

/-- A write of software to HIF_STAT: the VALID of HIF_ERR_INFO clears when every W1C bit is clear. -/
def hifStatW1c (v en : W64) : Act := fun s =>
  let w := accWrite (regFields (dk .HIF_STAT)) (regOf s (dk .HIF_STAT)) v en
  .reg (dk .HIF_STAT) w :: (if bitsOf w.toNat 0 4 = 0 then [.fld (dk .HIF_ERR_INFO) f_HIF_ERR_INFO_VALID 0] else [])

/-- A write to a HIF_DB_MAP entry: one that breaks its alignment, or names a tile with x ≥ W, is ignored and sets DB_ERR. -/
def dbMapWr (d : Nat) (v en : W64) : Act := fun s =>
  let k := dk .HIF_DB_MAP d
  let w := accWrite (regFields k) (regOf s k) v en
  let align := if fget w f_HIF_DB_MAP_W32 = 1 then 4 else 8
  if fget w f_HIF_DB_MAP_OFFSET % align ≠ 0 ∨ (fget w f_HIF_DB_MAP_DEV = 0 ∧ nTiles s ≤ fget w f_HIF_DB_MAP_TILE) then
    [setBit (dk .HIF_STAT) f_HIF_STAT_DB_ERR]
  else [.reg k w]

/-! ### MSI-X (R568) -/

/-- A write to HIF_MSIX_TRIG, or any other raise of a vector: it becomes pending. -/
def msixRaise (v : Nat) : Act := fun s => [.setMsixPend (s.msixPend ||| 2 ^ (v % 256))]

/-- The link is up, the function is in D0, and Bus Master Enable is 1. -/
def hostBusOk (s : State) : Bool :=
  dfld s .HIF_STAT f_HIF_STAT_LINK_UP == 1 && dfld s .HIF_STAT f_HIF_STAT_BME == 1 && dfld s .HIF_STAT f_HIF_STAT_D3HOT == 0

/-- The Mask bit of a vector is 0. -/
def msixUnmasked (s : State) (v : Nat) : Bool := bitOf (msixTblAt s (2 * v + 1)).toNat 32

/-- R568, R570: a pending vector's message is sent. -/
def msixSendA (v : Nat) : Act := fun s =>
  if bitOf s.msixPend v ∧ s.pci.msixEn ∧ !s.pci.fmask ∧ msixUnmasked s v ∧ hostBusOk s then
    [.setMsixPend (s.msixPend &&& (2 ^ 256 - 1 - 2 ^ v)), .cnt (dk .HIF_MSIX_CNT) f_HIF_MSIX_CNT_COUNT 1,
     .setTlpOut [⟨true, (msixTblAt s (2 * v)).toNat, 4, leBytes 4 ((msixTblAt s (2 * v + 1)).toNat % 2 ^ 32), false, false, false⟩]]
  else []

/-! ### The host memory window (R563, R564) -/

/-- The packet of a flight that a gate hands to the host port. -/
def hostFlight (s : State) (p : BnPkt) : Option BnFlight :=
  s.bn.find? (fun f => f.ej && (f.exit == some 16 || f.exit == some 17) && f.pkt == p)

/-- Where a length falls into pieces of at most `m` bytes that do not cross 4 KiB. -/
def tlpCuts (m : Nat) : Nat → Nat → Nat → List (Nat × Nat)
  | 0, _, _ => []
  | _, _, 0 => []
  | k + 1, a, n => 
    let c := min n (min m (4096 - a % 4096))
    (a, c) :: tlpCuts m k (a + c) (n - c)

/-- The offset in the host memory window of a packet's address. -/
def hostOff (p : BnPkt) : Nat := p.addr.toNat % 2 ^ 40

/-- R564: how a host-window access ends that is not performed: cause 1 down, 2 an invalid entry, 3 UR or CA, 4 a timeout. -/
def hwinEnd (gate : Nat) (p : BnPkt) (cause : Nat) : Act := seqA [
  effA [match cause with
    | 1 => .cnt (dk .HIF_HWIN_DOWN_CNT) f_HIF_HWIN_DOWN_CNT_COUNT 1
    | 2 => .cnt (dk .HIF_HWIN_INV_CNT) f_HIF_HWIN_INV_CNT_COUNT 1
    | 3 => .cnt (dk .HIF_HWIN_ERR_CNT) f_HIF_HWIN_ERR_CNT_COUNT 1
    | _ => .cnt (dk .HIF_HWIN_TMO_CNT) f_HIF_HWIN_TMO_CNT_COUNT 1],
  hifErr f_HIF_STAT_HWIN_ERR cause 0 (0x040000000000 + hostOff p),
  bnAnswer gate p (if cause = 2 ∨ cause = 3 then stAddr else stDown) [] []]

/-- The POISON sideband of a byte of a packet's data. -/
def flitBad (psn : List Bool) (off : Nat) : Bool := psn.getD (off / 64) false

/-- R563, R564: the gate takes a host-window packet. -/
def hostWindowA (p : BnPkt) : Act := fun s =>
  match hostFlight s p with
  | none => []
  | some f =>
    let off := hostOff p
    let e := regOf s (dk .HIF_HWIN (off / 2 ^ 30))
    let op := p.op.toNat
    let take := effA [.setBn (s.bn.erase f)]
    if !hostBusOk s then seqA [take, hwinEnd f.at_ p 1] s
    else if fget e f_HIF_HWIN_VALID = 0 then seqA [take, hwinEnd f.at_ p 2] s
    else
      let base := fget e f_HIF_HWIN_HADDR * 2 ^ 30 + off % 2 ^ 30
      let ro := fget e f_HIF_HWIN_RO == 1
      let ns := fget e f_HIF_HWIN_NS == 1
      if op = opRdReq then
        let n := p.len.toNat
        let cuts := tlpCuts s.pci.mrrs n base n
        seqA [take, effA [
          .setTlpOut (cuts.map (fun c => ⟨false, c.1, c.2, [], false, ro, ns⟩)),
          .setHostRd (s.hostRd ++ [⟨p, f.at_, cuts.map (fun c => (c.1 - base, c.2)), stOK, List.replicate n 0,
            List.replicate (ceilDiv n 64) false⟩])]] s
      else if op = opWr then
        let cuts := tlpCuts s.pci.mps p.data.length base p.data.length
        seqA [take, effA [
          .setTlpOut (cuts.map (fun c => ⟨true, c.1, c.2, (p.data.drop (c.1 - base)).take c.2,
            (List.range c.2).any (fun i => flitBad p.psn (c.1 - base + i)), ro, ns⟩))],
          bnAnswer f.at_ p stOK [] []] s
      else seqA [take, bnAnswer f.at_ p stAddr [] []] s

/-- A read at the host ends with its RD_RSP once every Memory Read of it has been answered. -/
def hostRdEnd (r : HostRd) : Act := fun s =>
  if r.left ≠ [] then [.setHostRd (s.hostRd ++ [r])]
  else if r.st = stOK ∨ r.st = stPoisoned then bnAnswer r.gate r.pkt r.st r.got r.psn s
  else bnAnswer r.gate r.pkt r.st [] [] s

/-- The read in progress `k` and the length of its Memory Read at an offset. -/
def hostRdAt (s : State) (k off : Nat) : Option (HostRd × Nat) :=
  match s.hostRd[k]? with
  | none => none
  | some r => (r.left.find? (fun c => c.1 == off)).map (fun c => (r, c.2))

/-- R564: a completion for a Memory Read of the device. -/
def hostCplA (k off : Nat) (e : HostEnd) (data : List Byte) : Act := fun s =>
  match hostRdAt s k off with
  | none => []
  | some (r, n) =>
    let left := r.left.filter (fun c => c.1 != off)
    let got := r.got.take off ++ sliceZ data 0 n ++ r.got.drop (off + n)
    let flits := (List.range r.psn.length).map (fun i => r.psn.getD i false
      || (e == .ep && decide (off < 64 * (i + 1) ∧ 64 * i < off + n)))
    seqA [effA [.setHostRd (s.hostRd.eraseIdx k)],
      (match e with
       | .data => hostRdEnd { r with left := left, got := got }
       | .ep => seqA [effA [.cnt (dk .HIF_HWIN_PSN_CNT) f_HIF_HWIN_PSN_CNT_COUNT 1],
          (fun s => raiseErr 0x0701 1 0 0 (regOf s (dk .HIF_ERR_INFO)).toNat s),
          hostRdEnd { r with left := left, got := got, psn := flits, st := stMerge r.st stPoisoned }]
       | .refused => hwinEnd r.gate r.pkt 3)] s

/-- R566: a Memory Read of the device gets no completion in time. -/
def hostTmoA (k off : Nat) : Act := fun s =>
  match hostRdAt s k off with
  | none => []
  | some (r, _) => if s.pci.ctoDis then [] else seqA [effA [.setHostRd (s.hostRd.eraseIdx k)], hwinEnd r.gate r.pkt 4] s

/-! ### Resets and power states (R571) -/

/-- R571, R575: host-window reads in flight end with DEST_DOWN. -/
def hostReadsEnd : Act := fun s => seqA [effA [.setHostRd []], eachA s.hostRd (fun r => hwinEnd r.gate r.pkt 1)] s

/-- The registers of the host port. `all` is false for PERST_N, which leaves HIF_HWIN, HIF_DB_MAP, HIF_EVT_VEC and HIF_CFG. -/
def hifRegs (s : State) (all : Bool) : List Nat :=
  let keep : List DReg := if all then [] else [.HIF_HWIN, .HIF_DB_MAP, .HIF_EVT_VEC, .HIF_CFG]
  let rs : List DReg := [.HIF_CFG, .HIF_STAT, .HIF_BAR2_VBASE, .HIF_ERR_INFO, .HIF_MSIX_TRIG, .HIF_HWIN_DOWN_CNT, .HIF_HWIN_INV_CNT,
    .HIF_HWIN_ERR_CNT, .HIF_HWIN_TMO_CNT, .HIF_HWIN_PSN_CNT, .HIF_BAR_ERR_CNT, .HIF_DB_CNT, .HIF_DB_ERR_CNT, .HIF_CPL_WD_CNT,
    .HIF_MSIX_CNT, .HIF_DB_MAP, .HIF_EVT_VEC, .HIF_HWIN]
  let idxs := (rs.filter (fun r => !keep.contains r)).map DReg.ctorIdx
  (s.regs.filter (fun e => idxs.contains (e.1 / 65536))).map (·.1)

/-- R571: the host port returns to reset. What the device has begun for a host request carries on, and its answer is discarded. -/
def hifReset (all : Bool) : Act := seqA [
  (fun s => [.regsClr (hifRegs s all), .setMsixPend 0, .clrMsixTbl (s.msixTbl.map (·.1)), .setPci PciCfg.init,
    .setHostQ ((s.hostQ.filter (·.taken)).map (fun r => { r with dead := true })),
    .setDoe none, .setDoeAns none]),
  hostReadsEnd]

/-- R571: the host port is reset or its link goes down. -/
def hostDown (all : Bool) : Act := fun s =>
  seqA [whenA (dfld s .HIF_STAT f_HIF_STAT_LINK_UP == 1) (raiseErr 0x0702 2 0 0 0), hifReset all] s

/-! ### The commands -/

/-- R564: the gate takes a host-window packet. -/
def execHostWindowRequest (p : BnPkt) (s : State) : Host.Outcome State Fault Refusal := runA (hostWindowA p) s

/-- R564: a completion arrives for the Memory Read at an offset of the read in progress `k`. -/
def execHostCompletionReceive (k off : Nat) (st : HostEnd) (data : List Byte) (s : State) : Host.Outcome State Fault Refusal :=
  runA (hostCplA k off st data) s

/-- R566: a Memory Read gets no completion in time. -/
def execHostCplTimeout (k off : Nat) (s : State) : Host.Outcome State Fault Refusal := runA (hostTmoA k off) s

/-- R568: a pending vector is sent. -/
def execMsixSend (v : BitVec 8) (s : State) : Host.Outcome State Fault Refusal := runA (msixSendA v.toNat) s

/-- R569: a write to HIF_MSIX_TRIG. -/
def execHifMsixTrigWrite (v : BitVec 8) (s : State) : Host.Outcome State Fault Refusal := runA (msixRaise v.toNat) s

/-- R571: PERST_N, or a hot reset. -/
def execPerstNAssert (_hot : Bool) (s : State) : Host.Outcome State Fault Refusal := runA (hostDown false) s

/-- R571: the host link goes down. -/
def execHostLinkDown (s : State) : Host.Outcome State Fault Refusal := runA (hostDown false) s

/-- R571: D3hot; host-window accesses end with DEST_DOWN. -/
def execD3hotEnter (s : State) : Host.Outcome State Fault Refusal :=
  runA (seqA [effA [setBit (dk .HIF_STAT) f_HIF_STAT_D3HOT], hostReadsEnd]) s

/-- R571: the function returns to D0. -/
def execD3hotExit (s : State) : Host.Outcome State Fault Refusal :=
  runA (effA [.fld (dk .HIF_STAT) f_HIF_STAT_D3HOT 0]) s

/-- R571: the link completes training; `bme` and `cfg` are what the host then sets in the function's configuration space. -/
def execHostLinkUp (flit : Bool) (speed : BitVec 3) (width : BitVec 5) (bme : Bool) (cfg : PciCfg) (s : State) :
    Host.Outcome State Fault Refusal :=
  runA (effA [setBit (dk .HIF_STAT) f_HIF_STAT_LINK_UP, .fld (dk .HIF_STAT) f_HIF_STAT_FLIT (b2n flit),
    .fld (dk .HIF_STAT) f_HIF_STAT_SPEED speed.toNat, .fld (dk .HIF_STAT) f_HIF_STAT_WIDTH width.toNat,
    .fld (dk .HIF_STAT) f_HIF_STAT_BME (b2n bme), .setPci cfg]) s

/-- The updates of `execBar2Resize`. -/
def bar2ResizeAct (log2 : BitVec 6) : Act := fun s =>
  if s.pci.mse = false ∧ 30 ≤ log2.toNat ∧ log2.toNat ≤ 37 then [.setPci { s.pci with bar2 := log2.toNat }] else []

/-- R556, R574: the size of BAR2 changes only while Memory Space Enable is 0, to a power of two from 1 GiB to 128 GiB. -/
def execBar2Resize (log2 : BitVec 6) (s : State) : Host.Outcome State Fault Refusal :=
  runA (bar2ResizeAct log2) s

end Sys2Proof.Machine
end

