-- ==== Sys2Proof/Machine/Rst.lean ====
section
/-!
DEFINITION. Sys2Proof/Machine/Rst.lean: what a reset of one tile does (R687 and the rules that its chapters add), and the scrubs of CM and
vault (R82 to R85).
-/
namespace Sys2Proof.Machine

/-! ### Scrubs -/

/-- R83: the CM of a tile is scrubbed: zeros, no poison, and no reservation or held line over it. -/
def cmScrub (t : Nat) : Act := fun s =>
  [.wipeCm (cmKey t 0) (cmKey t 0 + 2 ^ 23), .clrCmPsn ((s.cmPsn.filter (fun e => e.1 / 2 ^ 17 = t)).map (·.1))]

/-- R82: the vault of a tile is scrubbed: zeros, never written, no poison. -/
def vltScrub (t : Nat) : Act := fun s =>
  [.wipeVlt (vltKey t 0) (vltKey t 0 + 2 ^ 28), .clrVltLn ((s.vltLn.filter (fun e => e.1 / 2 ^ 22 = t)).map (·.1))]

/-- R85, R682: TILE_MEM_STAT counts the logical tiles whose vault scrub is done, and is done when every tile with power is. At boot,
STAGE 4 follows. -/
def memStatA : Act := fun s =>
  let ds := (allTiles s).filter (fun t => tfld s t .TILE_VLT_STAT f_TILE_VLT_STAT_SCRUB_DONE == 1)
  let on := (allTiles s).filter (fun t => dfld s .IVR_STAT f_IVR_STAT_STATE (tileDomain s t) == 2)
  let done := on.all ds.contains
  [.fld (dk .TILE_MEM_STAT) f_TILE_MEM_STAT_SCRUB_TILES ds.length,
   .fld (dk .TILE_MEM_STAT) f_TILE_MEM_STAT_SCRUB_DONE (b2n done)]
  ++ (if done && dfld s .BOOT_STAT f_BOOT_STAT_STAGE == 3 then [.fld (dk .BOOT_STAT) f_BOOT_STAT_STAGE 4] else [])

/-! ### The parts of a tile -/

/-- R128: the cores of a tile are stopped and keep nothing; no collective runtime runs on core 23. -/
def coresClear (t : Nat) : Act := fun s =>
  [.clrCores ((s.cores.filter (fun e => e.1 / 24 = t)).map (·.1)), .reg (tk t .TILE_CORE_RUN) 0,
   .fld (tk t .TILE_CORE_STAT) f_TILE_CORE_STAT_STOPPED (2 ^ 24 - 1), .fld (tk t .TILE_CORE_STAT) f_TILE_CORE_STAT_WFI 0,
   .fld (tk t .COL_RT_STAT) f_COL_RT_STAT_RUNNING 0]

/-- The keys of a sparse map whose tile part is `t`. -/
def keysOf {α : Type} (m : List (Nat × α)) (w t : Nat) : List Nat := (m.filter (fun e => e.1 / w = t)).map (·.1)

/-- R168: the engines and queues of a tile hold nothing. An outstanding NIU tag stays out, but nobody waits for its answer. -/
def enginesClear (t : Nat) : Act := fun s =>
  [.clrQueues (keysOf s.queues 22 t), .clrMxe [t], .clrMxeHeld [t], .clrCdxReq [t], .clrCdxMark (keysOf s.cdxMark 22 t), .clrCdxLast [t],
   .clrSrcBuf (keysOf s.srcBuf (22 * 65536) t), .clrRedSeg (keysOf s.redSeg (16 * 1024) t), .clrNiuq [t], .clrCnq [t],
   .clrAmqGo (keysOf s.amqGo 24 t), .clrAmqNaks (keysOf s.amqNaks 64 t), .clrAmqTc (keysOf s.amqTc 64 t),
   .clrAmqNext (keysOf s.amqNext 64 t), .clrAqDisc (keysOf s.aqDisc 8 t)]
  ++ s.tags.filterMap (fun e =>
      match e.2 with
      | .out _ p => if e.1 / 1024 = t then some (.putTags e.1 (.out .none p)) else none
      | _ => none)

/-- The tile gives up the Beacon buses that its transfers hold, and every tap that listens to them forgets them. -/
def beaconClear (t : Nat) : Act := fun s =>
  let ds := (List.range 4).flatMap (fun ch => (queueOf s t (4 + ch)).run)
  let held := ds.flatMap (fun d => match d.ext with
    | .beacon b => b.held
    | _ => [])
  seqA [busFree held, effA (.clrBcnTap [2 * t, 2 * t + 1] ::
    [.clrBcnTap ((s.bcnTap.filter (fun e => match e.2 with
      | some k => k.src == t
      | none => false)).map (·.1))])] s

/-- R302: a member of a Taper chain that is reset drops its beats, breaks the chain upstream and accepts nothing more. -/
def taperClear (t : Nat) : Act := fun s =>
  if cfgEn (tprWord s t) then seqA [portBreak t (tprWord s t), tprSet t f_TPR_STAT_BROKEN] s else [.clrTprIn [t]]

/-- The registers at TILE_BASE but for the vault's. TILE_ID holds what the map gives it, and TILE_ERR_SUM is a live view. -/
def tileRegs : List TReg := [.TILE_FPFLAGS, .TILE_IRQ_PEND, .TILE_IRQ_ROUTE, .TILE_CORE_CTRL, .TILE_CORE_RUN, .TILE_CORE_STAT, .TILE_MSIP,
  .TILE_BOOT_PC, .TILE_MTIMECMP, .TILE_PWR_CTRL, .TILE_PWR_STAT, .TILE_MXE_GATE_WAIT, .TILE_MXE_RA_READ, .TILE_MXE_RA_CANCEL,
  .Q_DESC, .Q_CPL, .Q_PI, .Q_CI, .Q_CQ_PI, .Q_CQ_CI, .Q_CTRL, .Q_STAT, .Q_DONE_CNT, .Q_ERR_CNT]

/-- The CM registers. -/
def cmRegs : List TReg := [.CM_STAT, .CM_CE_CNT, .CM_UE_CNT, .CM_UE_ADDR]

/-- R258, R278: the registers that describe the CDX table store. -/
def storeRegs : List TReg := [.CDX_SLOT]

/-- R343: the channel records, and the indices of the receive queues. -/
def amqRegs : List TReg := [.AMQ_CHAN_CFG, .AMQ_CHAN_STAT, .AMQ_SEND_STAT, .AQ_PI, .AQ_CI]

/-- R368: the Wick registers that a tile reset clears. -/
def wickRegs : List TReg := [.WICK_LAND, .WICK_WATCH, .WICK_REL_PEND, .WICK_STAT]

/-- R421: the shaper registers of a tile. -/
def shpRegs : List TReg := [.SHP_NIU_SHADOW, .SHP_NIU_ACTIVE, .SHP_RST, .SHP_DIRTY, .SHP_HELD_CNT, .SHP_BYTES]

/-- The codes of registers of a tile that hold other than their reset values. -/
def heldOf (s : State) (t : Nat) (rs : List TReg) : List Nat := heldTile s t (fun _ => true) rs

/-- R392: the codes of the arbitration registers of a tile's points from `lo` up to `hi`, in both banks, with their counters. -/
def arbCodes (s : State) (t lo hi : Nat) : List Nat :=
  let point := [TReg.ARB_CFG_SHADOW, .ARB_CFG_ACTIVE, .SNF_CFG, .SNF_BITE_CNT]
  let reqs := [TReg.ARB_REQ_SHADOW, .ARB_REQ_ACTIVE, .ARB_CNT_GRANTS, .ARB_CNT_WAIT, .ARB_CNT_LONGEST]
  (heldOf s t point).filter (fun c => lo ≤ c % 65536 ∧ c % 65536 < hi)
  ++ (heldOf s t reqs).filter (fun c => lo ≤ c % 65536 / 512 ∧ c % 65536 / 512 < hi)

/-- R392: the points of a tile from `lo` up to `hi` return to reset. -/
def arbClear (t lo hi : Nat) : Act := fun s =>
  [.regsClr (arbCodes s t lo hi), .clrArb ((s.arb.filter (fun e => e.1 / 128 = t ∧ lo ≤ e.1 % 128 ∧ e.1 % 128 < hi)).map (·.1))]

/-- R687: a tile returns to reset. Its CM registers show no scrub done; the vault is left as it is. -/
def tileClear (t : Nat) : Act := seqA [
  groupsClose t, beaconClear t, taperClear t, coresClear t, enginesClear t, cmScrub t,
  (fun s => .clrCdxTbl (keysOf s.cdxTbl 16 t) :: (List.range 8).map (fun q => .fld (tk t .AQ_CFG q) f_AQ_CFG_ENABLE 0)),
  (fun s => [.regsClr (heldOf s t (tileRegs ++ cmRegs ++ storeRegs ++ amqRegs ++ wickRegs ++ shpRegs ++ [.RED_DONE, .RED_CTX])),
    .fld (tk t .RED_STATUS) f_RED_STATUS_CTX_ARMED 0, .reg (dk .ERR_CORE_BUS t) 0,
    .clrTok (keysOf s.tok 4 t), .clrTileLeave [t]]),
  (fun s => (List.range 4).map (fun c =>
    .putTok (4 * t + c) ((fget (regOf s (tk t .SHP_NIU_ACTIVE c)) f_SHP_NIU_ACTIVE_BURST : Int) * 256))),
  arbClear t 0 33, wickAbsent]

/-- R687: a tile reset, with its CM scrub done. -/
def tileResetA (t : Nat) : Act := seqA [tileClear t, effA [setBit (tk t .CM_STAT) f_CM_STAT_SCRUB_DONE]]

end Sys2Proof.Machine
end

