-- ==== Sys2Proof/Machine/Power.lean ====
section
/-!
DEFINITION. Sys2Proof/Machine/Power.lean: power and thermal (chapter 21): the regulators (R649 to R654), the cap in force and the power loop
(R655, R656), the brake (R657, R658), the voltage loops and stretch (R659, R660), the thermal levels (R661, R662), supply faults (R663)
and the checked registers (R665).
-/
namespace Sys2Proof.Machine

/-! ### The cap in force and the brake -/

/-- A field of PWR_STAT. -/
def pst (s : State) (f : Fld) : Nat := dfld s .PWR_STAT f

/-- PWR_CLK_STAT: CCLK and FCLK in units of 25 MHz, and the duty in sixteenths. -/
def cclk (s : State) : Nat := dfld s .PWR_CLK_STAT f_PWR_CLK_STAT_CCLK
def fclk (s : State) : Nat := dfld s .PWR_CLK_STAT f_PWR_CLK_STAT_FCLK
def duty (s : State) : Nat := dfld s .PWR_CLK_STAT f_PWR_CLK_STAT_DUTY

/-- The clocks and the duty take new settings. -/
def clkSet (c f d : Nat) : Act := effA [.fld (dk .PWR_CLK_STAT) f_PWR_CLK_STAT_CCLK c, .fld (dk .PWR_CLK_STAT) f_PWR_CLK_STAT_FCLK f,
  .fld (dk .PWR_CLK_STAT) f_PWR_CLK_STAT_DUTY d]

/-- A field of PWR_CLK_CFG and of PWR_BRAKE_CFG. -/
def clkCfg (s : State) (f : Fld) : Nat := dfld s .PWR_CLK_CFG f
def brakeCfg (s : State) (f : Fld) : Nat := dfld s .PWR_BRAKE_CFG f

/-- R655, R666: the terms of the cap in force, each with its SOURCE, in ascending SOURCE. -/
def capTerms (s : State) : List (Nat × Nat) :=
  let h := dfld s .PWR_HOST_CAP f_PWR_HOST_CAP_CAP
  (dfld s .PWR_CAP_LATCH f_PWR_CAP_LATCH_DICT_CAP, 1) ::
  ((if h = 0 then [] else [(h, 2)])
  ++ (if pst s f_PWR_STAT_BRAKE = 1 then [(dfld s .PWR_CAP_LATCH f_PWR_CAP_LATCH_BRAKE_LEVEL, 3)] else []))

/-- R655, R666: the smallest term; of equal ones, that of the lowest SOURCE. -/
def capPick : List (Nat × Nat) → Nat × Nat
  | [] => (0, 0)
  | [a] => a
  | a :: l => let b := capPick l; if b.1 < a.1 then b else a

/-- R655: IN_FORCE and SOURCE follow a change of a term. -/
def capA : Act := fun s =>
  let c := capPick (capTerms s)
  [.fld (dk .PWR_CAP_LATCH) f_PWR_CAP_LATCH_IN_FORCE c.1, .fld (dk .PWR_CAP_LATCH) f_PWR_CAP_LATCH_SOURCE c.2]

/-- The cap in force. -/
def capNow (s : State) : Nat := dfld s .PWR_CAP_LATCH f_PWR_CAP_LATCH_IN_FORCE

/-- R657: what makes a brake: PWRBRAKE_N, an input undervoltage, or an excursion hold. -/
def brakeNow (s : State) : Bool :=
  dfld s .GLV_FAST f_GLV_FAST_PWRBRAKE == 1 || pst s f_PWR_STAT_VIN_UV == 1 || s.excHold

/-- R657: the brake preset: clocks and duty drop to it, or stay where they are lower. -/
def brakePreset : Act := fun s =>
  clkSet (min (cclk s) (brakeCfg s f_PWR_BRAKE_CFG_BRAKE_CCLK)) (min (fclk s) (brakeCfg s f_PWR_BRAKE_CFG_BRAKE_FCLK))
    (min (duty s) (brakeCfg s f_PWR_BRAKE_CFG_BRAKE_DUTY)) s

/-- R661: the clocks that the thermal warning lets rise no faster than R661 says, or not at all. -/
def warmed (s : State) : Bool := pst s f_PWR_STAT_WARN == 1 || s.warnTail.isSome

/-- R656, R661: boost may act. -/
def boosts (s : State) : Bool := clkCfg s f_PWR_CLK_CFG_BOOST_EN == 1 && !warmed s

/-- The upper bounds of CCLK, FCLK and duty (R656, R657, R664, R668). -/
def cclkBound (s : State) : Nat :=
  let b := if boosts s then clkCfg s f_PWR_CLK_CFG_CCLK_MAX else clkCfg s f_PWR_CLK_CFG_CCLK_NOM
  if pst s f_PWR_STAT_BRAKE = 1 then min b (brakeCfg s f_PWR_BRAKE_CFG_BRAKE_CCLK) else b
def fclkBound (s : State) : Nat :=
  let b := if boosts s then clkCfg s f_PWR_CLK_CFG_FCLK_MAX else clkCfg s f_PWR_CLK_CFG_FCLK_NOM
  if pst s f_PWR_STAT_BRAKE = 1 then min b (brakeCfg s f_PWR_BRAKE_CFG_BRAKE_FCLK) else b
def dutyBound (s : State) : Nat :=
  if pst s f_PWR_STAT_BRAKE = 1 then min 16 (brakeCfg s f_PWR_BRAKE_CFG_BRAKE_DUTY) else 16

/-- Some setting is below the NOM of the bounds of software. -/
def belowNom (s : State) : Bool :=
  decide (cclk s < clkCfg s f_PWR_CLK_CFG_CCLK_NOM) || decide (fclk s < clkCfg s f_PWR_CLK_CFG_FCLK_NOM) || decide (duty s < 16)

/-- Some setting is below its MAX. -/
def belowMax (s : State) : Bool :=
  decide (cclk s < clkCfg s f_PWR_CLK_CFG_CCLK_MAX) || decide (fclk s < clkCfg s f_PWR_CLK_CFG_FCLK_MAX) || decide (duty s < 16)

/-- R664: LIMITER, the highest-ranked limit that holds clocks below MAX. -/
def limiter (s : State) : Nat :=
  if !belowMax s then 0
  else if tripped s then 6
  else if s.excHold then 5
  else if pst s f_PWR_STAT_BRAKE = 1 then 4
  else if s.capHold then 3
  else if warmed s then 2
  else if (cclk s == cclkBound s && decide (cclk s < clkCfg s f_PWR_CLK_CFG_CCLK_MAX))
    || (fclk s == fclkBound s && decide (fclk s < clkCfg s f_PWR_CLK_CFG_FCLK_MAX)) then 1
  else 0

/-- R604, R656, R664: LIMITER, CAP_ACTIVE and CAP_SHORT follow the settings; a rise of CAP_ACTIVE sets the CAP alert. -/
def limitA : Act := seqA [
  (fun s => [.setCapHold (s.capHold && belowNom s)]),
  (fun s =>
    let act := s.capHold
    let rise := act && pst s f_PWR_STAT_CAP_ACTIVE == 0
    seqA [effA [.fld (dk .PWR_STAT) f_PWR_STAT_LIMITER (limiter s), .fld (dk .PWR_STAT) f_PWR_STAT_CAP_ACTIVE (b2n act),
        .fld (dk .PWR_STAT) f_PWR_STAT_CAP_SHORT (b2n (act && decide (duty s < 16)))],
      whenA rise (alertA 1)] s)]

/-- R657, R667: a brake begins or ends as its sources say. Under a trip the preset waits for the clear, and so does the end. -/
def brakeA : Act := fun s =>
  let was := pst s f_PWR_STAT_BRAKE == 1
  let now := brakeNow s
  if now && !was then
    seqA [effA [setBit (dk .PWR_STAT) f_PWR_STAT_BRAKE, .cnt (dk .PWR_BRAKE_CNT) f_PWR_BRAKE_CNT_COUNT 1], capA,
      whenA (!tripped s) brakePreset, limitA] s
  else if !now && was && !tripped s then
    seqA [effA [.fld (dk .PWR_STAT) f_PWR_STAT_BRAKE 0], capA, limitA] s
  else limitA s

/-- R603: PWRBRAKE_N is seen low. -/
def pwrbrakeOnA : Act := fun s =>
  if dfld s .GLV_FAST f_GLV_FAST_PWRBRAKE = 1 then []
  else seqA [effA [setBit (dk .GLV_FAST) f_GLV_FAST_PWRBRAKE], alertA 7, raiseInfo 0x050B 1 0 0, brakeA] s

/-- R603: PWRBRAKE_N is seen high. -/
def pwrbrakeOffA : Act := seqA [effA [.fld (dk .GLV_FAST) f_GLV_FAST_PWRBRAKE 0], brakeA]

/-- R663: the input has stayed below 40.0 V for 100 µs. -/
def vinUvA : Act := fun s =>
  if pst s f_PWR_STAT_VIN_UV = 1 then []
  else seqA [effA [setBit (dk .PWR_STAT) f_PWR_STAT_VIN_UV], raiseErr 0x050A 2 0 0 (regOf s (dk .PWR_VIN)).toNat,
    raiseInfo 0x050B 2 0 0, brakeA] s

/-- R663: the input has stayed at or above 41.0 V for 1 ms. -/
def vinUvClearA : Act := seqA [effA [.fld (dk .PWR_STAT) f_PWR_STAT_VIN_UV 0], brakeA]

/-- R658: P10 exceeds 1,900 W: an excursion hold begins. -/
def excursionA (p10 : Nat) : Act := fun s =>
  if p10 ≤ 1900 ∨ s.excHold then []
  else seqA [effA [.setExcHold true, setBit (dk .PWR_STAT) f_PWR_STAT_EXC_SEEN, .cnt (dk .PWR_EXC_CNT) f_PWR_EXC_CNT_COUNT 1],
    raiseErr 0x0504 0 0 0 p10, brakeA] s

/-- R658: the excursion hold of 1 ms ends. -/
def excHoldEndA : Act := seqA [effA [.setExcHold false], brakeA]

/-! ### Regulators (R644, R649 to R654) -/

/-- A field of IVR_STAT. -/
def ivr (s : State) (i : Nat) (f : Fld) : Nat := dfld s .IVR_STAT f i

/-- STATE of a regulator: 0 off, 1 ramp, 2 on, 3 wait, 4 latched. -/
def ivrState (s : State) (i : Nat) : Nat := ivr s i f_IVR_STAT_STATE

/-- The logical tiles that a regulator's loss takes: of its tile domain, or of its fabric domain's rows. -/
def ivrTiles (s : State) (i : Nat) : List Nat :=
  if i < 68 then (allTiles s).filter (fun t => tileDomain s t == i)
  else if i < 72 then (allTiles s).filter (fun t => tileY t / 4 == i - 68)
  else []

/-- R44: TILE_DOWN_MAP shows tiles as down, or as no longer down. -/
def downSet (ts : List Nat) (down : Bool) : Act := eachA ts (fun t => fun s =>
  let k := dk .TILE_DOWN_MAP (t / 64)
  let b : W64 := BitVec.ofNat 64 (2 ^ (t % 64))
  [.reg k (if down then regOf s k ||| b else regOf s k &&& ~~~b)])

/-- R44, R85, R357: the tiles of a domain that has lost power are down, and their vaults and CMs hold nothing. -/
def tilesLost (ts : List Nat) : Act := seqA [
  downSet ts true,
  effA (ts.flatMap (fun t => [.fld (tk t .TILE_VLT_STAT) f_TILE_VLT_STAT_SCRUB_DONE 0, .fld (tk t .CM_STAT) f_CM_STAT_SCRUB_DONE 0])),
  memStatA, whenA (ts != []) wickAbsent]

/-- R38, R45, R56: the sets of accepted and of failed tile domains. -/
def domSets (s : State) : Nat :=
  (regOf s (dk .TILE_DOM_ACCEPT0)).toNat + (regOf s (dk .TILE_DOM_ACCEPT1)).toNat % 16 * 2 ^ 64
    + ((regOf s (dk .TILE_DOM_FAIL0)).toNat + (regOf s (dk .TILE_DOM_FAIL1)).toNat % 16 * 2 ^ 64) * 2 ^ 68

/-- TILE_MAP_STAT.PENDING: the accepted or failed domains differ from those in the applied map. -/
def pendingA : Act := fun s => [.fld (dk .TILE_MAP_STAT) f_TILE_MAP_STAT_PENDING (b2n (domSets s != s.mapDoms))]

/-- A tile domain that the installer has accepted as dark. -/
def domAccepted (s : State) (d : Nat) : Bool := decide (d < 68) && bitOf (domSets s) d

/-- A bit of a device register of more than 64 flags, set. -/
def flagBit (r0 r1 : DReg) (i : Nat) : Act := fun s =>
  let k := if i < 64 then dk r0 else dk r1
  [.reg k (regOf s k ||| BitVec.ofNat 64 (2 ^ (i % 64)))]

/-- R653: a regulator outside an accepted domain has latched off: DEGRADED. -/
def degrade : Act := fun s =>
  if pst s f_PWR_STAT_DEGRADED = 1 then [] else seqA [effA [setBit (dk .PWR_STAT) f_PWR_STAT_DEGRADED], alertA 0] s

/-- R654, R663: the ports of a SerDes regulator go OFF, and with IVR 72 the host port goes down. -/
def serdesLost (i : Nat) : Act := seqA [
  eachA ((List.range 8).map (fun k => 8 * (i - 72) + k)) (fun n => fun s =>
    if portState s n = 0 then [] else seqA [wlpFlush n 3, wlpGo n 0 0] s),
  whenA (i == 72) (hostDown false)]

/-- R652 to R654: a regulator latches off. -/
def ivrLatch (i : Nat) : Act := fun s => seqA [
  effA [.fld (dk .IVR_STAT i) f_IVR_STAT_STATE 4],
  flagBit .IVR_FAIL0 .IVR_FAIL1 i,
  whenA (decide (i < 68)) (seqA [flagBit .TILE_DOM_FAIL0 .TILE_DOM_FAIL1 i, pendingA]),
  raiseErr 0x0502 (if 68 ≤ i ∧ i < 72 then 3 else 2) (ivr s i f_IVR_STAT_FAULT) i 0,
  glvWake,
  whenA (!domAccepted s i) degrade,
  (if i < 68 then noA
   else if i < 72 then tilesLost (ivrTiles s i)
   else if i < 74 then serdesLost i
   else glvHalt)] s

/-- R649, R650: a fault switches a regulator off and counts one failed attempt; the fourth latches it. -/
def ivrFault (i code : Nat) : Act := fun s =>
  let n := ivr s i f_IVR_STAT_ATTEMPTS + 1
  seqA [
    effA [.fld (dk .IVR_STAT i) f_IVR_STAT_STATE 3, .fld (dk .IVR_STAT i) f_IVR_STAT_ATTEMPTS n,
      .fld (dk .IVR_STAT i) f_IVR_STAT_FAULT code, .fld (dk .IVR_STAT i) f_IVR_STAT_IOUT 0, .fld (dk .IVR_STAT i) f_IVR_STAT_VOUT 0,
      .putStretchOn i false],
    whenA (decide (i < 68)) (tilesLost (ivrTiles s i)),
    raiseErr 0x0501 2 code i n,
    whenA (decide (4 ≤ n)) (ivrLatch i)] s

/-- PWR_VMAX's ceiling for a regulator's class, in units of 0.25 mV. -/
def ceiling (s : State) (i : Nat) : Nat :=
  4 * (if i < 68 then dfld s .PWR_VMAX f_PWR_VMAX_VMAX_T else dfld s .PWR_VMAX f_PWR_VMAX_VMAX_F)

/-- R659: a voltage loop takes a target, which IVR_STAT.VTARGET shows. -/
def targetSet (i v : Nat) : Act := effA [.putVTgt i v, .fld (dk .IVR_STAT i) f_IVR_STAT_VTARGET (v / 4)]

/-- R649, R659: a regulator whose target has not been set takes its first one. That of a logic output lies between 600 mV and its ceiling;
the spec gives no value (assumption 4). A fixed output has 800 mV. -/
def ivrTarget (i : Nat) : Act := fun s =>
  let hi := ceiling s i
  let v := if 72 ≤ i then 3200 else 2400 + (Config.freeWord s.free).toNat % (hi - 2400 + 1)
  whenA (vTgtAt s i == 0) (seqA [targetSet i v, effA [.setFree (s.free + 1)]]) s

/-- R649: a soft start begins. -/
def ivrStart (i : Nat) : Act := seqA [effA [.fld (dk .IVR_STAT i) f_IVR_STAT_STATE 1], ivrTarget i]

/-- R651: the regulators of each group of the start order. -/
def ivrGroup (g : Nat) : List Nat :=
  match g with
  | 0 => [74]
  | 1 => [68, 69, 70, 71, 72, 73]
  | g + 2 => if g < 4 then (List.range 17).map (fun k => 17 * g + k) else []

/-- R651: the next group starts; a regulator that runs already is left alone. -/
def ivrGroupA : Act := fun s =>
  seqA [effA [.setIvrNext (min 6 (s.ivrNext + 1))],
    eachA (ivrGroup s.ivrNext) (fun i => fun s => if ivrState s i = 0 ∧ !railsOff s ∧ !s.testMode then ivrStart i s else [])] s

/-- R652: a regulator's retry has succeeded: its tiles take a tile reset and their vaults a scrub, and stay down until both scrubs are
done. -/
def ivrRecovered (i : Nat) : Act := fun s => seqA [
  effA [setBit (dk .IVR_STAT i) f_IVR_STAT_RECOVERED],
  raiseErr 0x0503 2 0 i 0,
  whenA (decide (i < 68)) (eachA (ivrTiles s i) (fun t => seqA [tileClear t, vltScrub t]))] s

/-- R649: the check at 100 µs, or at 250 µs when `late`, judges a ramp. -/
def softstartA (i : Nat) (late bad : Bool) : Act := fun s =>
  if ivrState s i ≠ 1 then []
  else if bad then ivrFault i (if late then 2 else 1) s
  else if !late then []
  else seqA [effA [.fld (dk .IVR_STAT i) f_IVR_STAT_STATE 2, .fld (dk .IVR_STAT i) f_IVR_STAT_ATTEMPTS 0],
    whenA (ivr s i f_IVR_STAT_ATTEMPTS != 0) (ivrRecovered i), whenA (decide (i < 68)) memStatA] s

/-- R649: a running regulator meets an overcurrent, or an overvoltage. -/
def ivrRunFaultA (i : Nat) (ov : Bool) : Act := fun s => if ivrState s i = 2 then ivrFault i (if ov then 4 else 3) s else []

/-- R650: a regulator starts again. -/
def ivrRetryA (i : Nat) : Act := fun s => if ivrState s i = 3 then ivrStart i s else []

/-! ### Critical shutdown (R663) -/

/-- R663, R694: IVRs 0 to 73 switch off. -/
def ivrsOff : Act := seqA [
  effA ((List.range 74).flatMap (fun i => [.fld (dk .IVR_STAT i) f_IVR_STAT_STATE 0, .fld (dk .IVR_STAT i) f_IVR_STAT_IOUT 0,
    .fld (dk .IVR_STAT i) f_IVR_STAT_VOUT 0])),
  serdesLost 72, serdesLost 73,
  fun s => tilesLost (allTiles s) s]

/-- R663: a critical shutdown. `cause` is 1 temperature, 2 the input low, 3 the input high. -/
def criticalA (cause sensor reading : Nat) : Act := fun s =>
  if s.critical then []
  else seqA [ivrsOff, effA [.setCritical true], raiseErr 0x0508 3 cause sensor reading] s

/-! ### The power loop (R646, R656, R668) -/

/-- R646: the averages after a sample. -/
def avgStep (a : PwrAvg) (p : Nat) : PwrAvg × Option (Nat × Nat × Nat) :=
  let sum := a.sum + p
  if a.n + 1 < 1000 then (⟨a.n + 1, sum, a.ms, a.sec, a.peak, a.secs⟩, none)
  else
    let peak := max a.peak (sum / 1000)
    let sec := a.sec + sum
    if a.ms + 1 < 1000 then (⟨0, 0, a.ms + 1, sec, peak, a.secs⟩, none)
    else
      let one := sec / 1000000
      let secs := (one :: a.secs).take 10
      (⟨0, 0, 0, 0, 0, secs⟩, some (peak, one, (secs.foldl (· + ·) 0) / secs.length))

/-- R646: a sample of the front end. -/
def measureA (p vin iin v5 : Nat) : Act := fun s =>
  let r := avgStep s.pwrAvg p
  [.setPwrHist ((p :: s.pwrHist).take 10), .setPwrAvg r.1, .fld (dk .PWR_MEAS) f_PWR_MEAS_P_NOW p]
  ++ (match r.2 with
      | some (peak, one, ten) => [.fld (dk .PWR_MEAS) f_PWR_MEAS_PEAK_1MS peak, .fld (dk .PWR_MEAS) f_PWR_MEAS_AVG_1S one,
          .fld (dk .PWR_MEAS) f_PWR_MEAS_AVG_10S ten]
      | none => [])
  ++ [.reg (dk .PWR_VIN) (BitVec.ofNat 64 (v5 * 2 ^ 32 + iin * 2 ^ 16 + vin)), .fld (dk .PWR_STAT) f_PWR_STAT_VIN_OV (b2n (decide (6000 < vin)))]

/-- P10: the average of the last ten samples. -/
def p10 (s : State) : Nat := s.pwrHist.foldl (· + ·) 0 / 10

/-- A clock above its bound comes down by 50 MHz (R668). -/
def stepDown (x lo : Nat) : Nat := if x ≤ lo then x else max lo (x - 2)

/-- R656: the settings one step lower, in the order CCLK, FCLK, duty. -/
def lowerA : Act := fun s =>
  let c := cclk s
  let f := fclk s
  let d := duty s
  let cm := clkCfg s f_PWR_CLK_CFG_CCLK_MIN
  let fm := clkCfg s f_PWR_CLK_CFG_FCLK_MIN
  if cm < c then seqA [clkSet (stepDown c cm) f d, effA [.setCapHold true]] s
  else if fm < f then seqA [clkSet c (stepDown f fm) d, effA [.setCapHold true]] s
  else if 1 < d then seqA [clkSet c f (d - 1), effA [.setCapHold true]] s
  else [.setCapHold true]

/-- R661: the time after a warning in which CCLK rises by at most 25 MHz per ms moves on by 1 µs. -/
def tailTick : Act := fun s => [.setWarnTail (s.warnTail.map (fun n => min 1000 (n + 1)))]

/-- R656, R659, R661: the settings one step higher, in the order duty, FCLK, CCLK; a clock waits for margin. -/
def raiseA (margin : Bool) : Act := fun s =>
  let c := cclk s
  let f := fclk s
  let d := duty s
  if d < dutyBound s then clkSet c f (d + 1) s
  else if f < fclkBound s then (if margin then clkSet c (f + 1) d s else [])
  else if c < cclkBound s then
    if pst s f_PWR_STAT_WARN = 1 ∨ !margin then []
    else match s.warnTail with
      | none => clkSet (c + 1) f d s
      | some n => if n < 1000 then [] else seqA [clkSet (c + 1) f d, effA [.setWarnTail (some 0)]] s
  else [.setWarnTail none]

/-- R656, R668, R671: what the power loop does in one µs. -/
def loopA (margin : Bool) : Act := fun s =>
  let p := dfld s .PWR_MEAS f_PWR_MEAS_P_NOW
  if tripped s then []
  else if cclkBound s < cclk s ∨ fclkBound s < fclk s then
    clkSet (stepDown (cclk s) (min (cclk s) (cclkBound s))) (stepDown (fclk s) (min (fclk s) (fclkBound s))) (duty s) s
  else if capNow s < p then seqA [lowerA, effA [.setWarnTail none]] s
  else if 100 * p < 97 * capNow s then raiseA margin s
  else [.setCapHold (s.capHold || belowNom s), .setWarnTail none]

/-- The µs counters of the loop. -/
def usCounts : Act := fun s =>
  (if pst s f_PWR_STAT_LIMITER = 3 then [.cnt (dk .PWR_CAP_US) f_PWR_CAP_US_COUNT 1] else [])
  ++ (if pst s f_PWR_STAT_WARN = 1 then [.cnt (dk .PWR_WARN_US) f_PWR_WARN_US_COUNT 1] else [])
  ++ (if pst s f_PWR_STAT_FSTRETCH = 1 then [.cnt (dk .PWR_FSTRETCH_US) f_PWR_FSTRETCH_US_COUNT 1] else [])

/-- R646, R656, R658: one µs of the power loop. -/
def powerTickA (p vin iin v5 : Nat) (margin : Bool) : Act := seqA [
  measureA p vin iin v5,
  (fun s => excursionA (p10 s) s),
  tailTick, loopA margin, limitA, usCounts]

/-! ### Voltage and stretch (R659, R660, R669) -/

/-- R660: FSTRETCH reads 1 while a fabric domain stretches FCLK. -/
def fstretchA : Act := fun s =>
  [.fld (dk .PWR_STAT) f_PWR_STAT_FSTRETCH (b2n ((List.range 4).any (fun f => stretchOnAt s (68 + f))))]

/-- R659, R660: one µs of the voltage loop of a domain; `vout` and `iout` are what its output then measures. -/
def voltageTickA (i : Nat) (m : Margin) (vout iout : Nat) : Act := fun s =>
  if ivrState s i ≠ 2 then []
  else
    let hi := ceiling s i
    let v := min (vTgtAt s i) hi
    let v' := match m with
      | .short => min hi (v + 20)
      | .enough => v
      | .excess => max (min v 2400) (v - 1)
    let stretch := m == .short && v == hi
    seqA [targetSet i v',
      effA [.fld (dk .IVR_STAT i) f_IVR_STAT_VOUT vout, .fld (dk .IVR_STAT i) f_IVR_STAT_IOUT iout, .putStretchOn i stretch],
      whenA (stretch && decide (i < 68)) (effA [setBit (dk .IVR_STAT i) f_IVR_STAT_STRETCH,
        .cnt (dk .IVR_STRETCH_CNT i) f_IVR_STRETCH_CNT_COUNT 1]),
      fstretchA] s

/-- R669: a lower ceiling applies at once to every target above it. -/
def ceilingsA : Act := fun s =>
  eachA (s.vTgt.filter (fun e => decide (e.1 < 72 ∧ ceiling s e.1 < e.2))) (fun e => targetSet e.1 (ceiling s e.1)) s

/-! ### Temperatures (R647, R661) -/

/-- A signed 1/16 °C value of 16 bits. -/
def temp16 (x : Nat) : Int := toSigned 16 x

/-- The valid reading of a sensor, 1 to 16. -/
def tempOf (s : State) (n : Nat) : Option Int :=
  if dfld s .PWR_TEMP f_PWR_TEMP_VALID (n - 1) = 1 then some (temp16 (dfld s .PWR_TEMP f_PWR_TEMP_TEMP (n - 1))) else none

/-- The numbers of the sensors. -/
def sensors : List Nat := (List.range 16).map (· + 1)

/-- WARN_T and TRIP_T in force. -/
def warnT (s : State) : Int := temp16 (dfld s .PWR_THERM_CFG f_PWR_THERM_CFG_WARN_T)
def tripT (s : State) : Int := temp16 (dfld s .PWR_THERM_CFG f_PWR_THERM_CFG_TRIP_T)

/-- The first sensor whose valid reading is at or above a level. -/
def sensorAt (s : State) (lvl : Int) : Option Nat :=
  sensors.find? (fun n => match tempOf s n with
    | some x => decide (lvl ≤ x)
    | none => false)

/-- R647: 2 or more of sensors 1 to 12 are invalid. -/
def manyInvalid (s : State) : Bool := decide (2 ≤ ((sensors.take 12).filter (fun n => (tempOf s n).isNone)).length)

/-- R647: one sensor's sample. -/
def sensorA (n : Nat) (r : TempReading) : Act := fun s =>
  let k := dk .PWR_TEMP (n - 1)
  match r with
  | some x =>
    let m := temp16 (dfld s .PWR_TEMP f_PWR_TEMP_MAX (n - 1))
    [.putTempFail n 0, .fld k f_PWR_TEMP_VALID 1, .fld k f_PWR_TEMP_TEMP x.toNat,
     .fld k f_PWR_TEMP_MAX (ofSigned 16 (max m (temp16 x.toNat)))]
  | none =>
    let c := tempFailAt s n + 1
    if c < 3 then [.putTempFail n c]
    else
      let was := dfld s .PWR_TEMP f_PWR_TEMP_VALID (n - 1) = 1
      seqA [effA [.putTempFail n 3, .fld k f_PWR_TEMP_VALID 0, .fld k f_PWR_TEMP_TEMP 0x8000],
        whenA (decide was) (seqA [effA [setBit (dk .PWR_STAT) f_PWR_STAT_SENSOR_FAIL], raiseErr 0x0509 0 0 n 0])] s

/-- R661: a warning begins or ends. -/
def warnA : Act := fun s =>
  let was := pst s f_PWR_STAT_WARN == 1
  let hot := sensorAt s (warnT s)
  let bad := manyInvalid s
  if !was && (hot.isSome || bad) then
    let n := hot.getD ((sensors.find? (fun n => (tempOf s n).isNone)).getD 1)
    seqA [effA [setBit (dk .PWR_STAT) f_PWR_STAT_WARN, .setWarnTail none], alertA 2,
      raiseErr 0x0505 0 0 n (dfld s .PWR_TEMP f_PWR_TEMP_TEMP (n - 1))] s
  else if was && !bad && (sensorAt s (warnT s - 48)).isNone then
    seqA [effA [.fld (dk .PWR_STAT) f_PWR_STAT_WARN 0, .setWarnTail (some 0)], raiseInfo 0x0507 1 0 0] s
  else []

/-- R661: a trip begins. -/
def tripA : Act := fun s =>
  match sensorAt s (tripT s) with
  | none => []
  | some n =>
    if tripped s then []
    else seqA [effA [setBit (dk .PWR_STAT) f_PWR_STAT_TRIP, setBit (dk .GLV_FAST) f_GLV_FAST_THERM,
        .cnt (dk .PWR_TRIP_CNT) f_PWR_TRIP_CNT_COUNT 1],
      clkSet 20 40 (duty s), raiseErr 0x0506 2 0 n (dfld s .PWR_TEMP f_PWR_TEMP_TEMP (n - 1))] s

/-- R661: a sensor is at the critical level. -/
def critTempA : Act := fun s =>
  match sensorAt s (tripT s + 240) with
  | none => []
  | some n => criticalA 1 n (dfld s .PWR_TEMP f_PWR_TEMP_TEMP (n - 1)) s

/-- R647, R661: the sensors are sampled and judged. -/
def tempSampleA (rs : List TempReading) : Act := seqA [
  eachA (sensors.zip rs) (fun e => sensorA e.1 e.2), warnA, tripA, critTempA, limitA]

/-- R661: 100 µs under a warning: CCLK drops by 25 MHz, not below CCLK MIN. -/
def warnThrottleA : Act := fun s =>
  if pst s f_PWR_STAT_WARN = 1 ∧ !tripped s ∧ clkCfg s f_PWR_CLK_CFG_CCLK_MIN < cclk s then
    seqA [clkSet (cclk s - 1) (fclk s) (duty s), limitA] s
  else []

/-- R661, R667: every sensor has read below TRIP_T − 10 °C for 1 ms: the trip clears. -/
def tripClearA : Act := fun s =>
  if tripped s ∧ (sensorAt s (tripT s - 160)).isNone then
    seqA [effA [.fld (dk .PWR_STAT) f_PWR_STAT_TRIP 0, .fld (dk .GLV_FAST) f_GLV_FAST_THERM 0], raiseInfo 0x0507 2 0 0,
      (fun s => if brakeNow s then brakePreset s else []), brakeA] s
  else []

/-! ### Checked registers (R665) -/

/-- R665: a write is refused whole. -/
def pwrRefuse (code off : Nat) : Act := fun s =>
  (if pst s f_PWR_STAT_CFG_ERR = 1 then []
   else [.reg (dk .PWR_ERR_INFO) (BitVec.ofNat 64 (2 ^ 63 + code * 2 ^ 56 + off))])
  ++ [setBit (dk .PWR_STAT) f_PWR_STAT_CFG_ERR]

/-- The word that a register would hold after a write of software. -/
def wouldBe (s : State) (k : RKey) (v en : W64) : W64 := accWrite (regFields k) (regOf s k) v en

/-- A checked register takes a write, or refuses it with the first code that `bad` gives. -/
def pwrWr (r : DReg) (off : Nat) (bad : W64 → Option Nat) (v en : W64) : Act := fun s =>
  let w := wouldBe s (dk r) v en
  match bad w with
  | some c => pwrRefuse c off s
  | none => [.reg (dk r) w]

/-- A value out of a range. -/
def outside (x lo hi : Nat) : Bool := decide (x < lo) || decide (hi < x)

/-- R665, codes 1 and 2, on a word of PWR_CLK_CFG. -/
def clkBad (w : W64) : Option Nat :=
  let g := fun f => fget w f
  let cs := [g f_PWR_CLK_CFG_CCLK_MIN, g f_PWR_CLK_CFG_CCLK_NOM, g f_PWR_CLK_CFG_CCLK_MAX]
  let fs := [g f_PWR_CLK_CFG_FCLK_MIN, g f_PWR_CLK_CFG_FCLK_NOM, g f_PWR_CLK_CFG_FCLK_MAX]
  let ordered := fun (l : List Nat) => decide (l.getD 0 0 ≤ l.getD 1 0 ∧ l.getD 1 0 ≤ l.getD 2 0)
  if cs.any (outside · 20 104) || fs.any (outside · 40 88) then some 1
  else if !ordered cs || !ordered fs then some 2
  else none

/-- R648, R668: a write to PWR_CLK_CFG. -/
def pwrClkCfgWr (v en : W64) : Act := seqA [pwrWr .PWR_CLK_CFG 0x18 clkBad v en, limitA]

/-- R665, code 3: a write to PWR_VMAX. -/
def pwrVmaxWr (v en : W64) : Act := seqA [
  pwrWr .PWR_VMAX 0x20 (fun w =>
    if outside (fget w f_PWR_VMAX_VMAX_F) 600 950 || outside (fget w f_PWR_VMAX_VMAX_T) 600 950 then some 3 else none) v en,
  ceilingsA]

/-- R665, code 7: a write to PWR_BRAKE_CFG. -/
def pwrBrakeCfgWr (v en : W64) : Act := pwrWr .PWR_BRAKE_CFG 0x28 (fun w =>
  if outside (fget w f_PWR_BRAKE_CFG_BRAKE_CCLK) 20 104 || outside (fget w f_PWR_BRAKE_CFG_BRAKE_FCLK) 40 88
    || outside (fget w f_PWR_BRAKE_CFG_BRAKE_DUTY) 1 16 then some 7 else none) v en

/-- R655, R665, code 6: a write to PWR_HOST_CAP. -/
def pwrHostCapWr (v en : W64) : Act := seqA [
  pwrWr .PWR_HOST_CAP 0x10 (fun w =>
    let x := fget w f_PWR_HOST_CAP_CAP
    if x != 0 && outside x 400 1500 then some 6 else none) v en,
  capA]

/-- R655, R665, codes 4 and 6: a write to PWR_CAP_LATCH. -/
def pwrCapLatchWr (who : Requester) (v en : W64) : Act := seqA [
  pwrWr .PWR_CAP_LATCH 0x08 (fun w =>
    if who ≠ .glovos then some 4
    else if outside (fget w f_PWR_CAP_LATCH_DICT_CAP) 400 1500 || outside (fget w f_PWR_CAP_LATCH_BRAKE_LEVEL) 400 1500 then some 6
    else none) v en,
  capA]

/-- R665, codes 4 and 5: a write to PWR_THERM_CFG. -/
def pwrThermWr (who : Requester) (v en : W64) : Act := pwrWr .PWR_THERM_CFG 0x80 (fun w =>
  let warn := temp16 (fget w f_PWR_THERM_CFG_WARN_T)
  let trip := temp16 (fget w f_PWR_THERM_CFG_TRIP_T)
  if who ≠ .glovos then some 4 else if trip ≤ warn || 1920 < trip then some 5 else none) v en

/-- A write of software to PWR_STAT: the VALID of PWR_ERR_INFO clears when CFG_ERR is cleared. -/
def pwrStatW1c (v en : W64) : Act := fun s =>
  let w := wouldBe s (dk .PWR_STAT) v en
  .reg (dk .PWR_STAT) w ::
    (if pst s f_PWR_STAT_CFG_ERR = 1 ∧ fget w f_PWR_STAT_CFG_ERR = 0 then [.fld (dk .PWR_ERR_INFO) f_PWR_ERR_INFO_VALID 0] else [])

/-! ### The commands -/

/-- R651: the next group of the start order begins soft start. -/
def execIvrGroupStart (s : State) : Host.Outcome State Fault Refusal := runA ivrGroupA s

/-- R649: a soft-start check; `late` is the one at 250 µs, and `bad` says that it finds the fault of its row. -/
def execIvrSoftstartCheck (i : Fin 75) (late bad : Bool) (s : State) : Host.Outcome State Fault Refusal := runA (softstartA i late bad) s

/-- R649: a fault in operation; `over` is the overvoltage. -/
def execIvrFaultInOperation (i : Fin 75) (ov : Bool) (s : State) : Host.Outcome State Fault Refusal := runA (ivrRunFaultA i ov) s

/-- R650: 10 ms after a failed attempt. -/
def execIvrRetryStart (i : Fin 75) (s : State) : Host.Outcome State Fault Refusal := runA (ivrRetryA i) s

/-- R603, R657: PWRBRAKE_N is seen low. -/
def execPwrbrakeNAssert (s : State) : Host.Outcome State Fault Refusal := runA pwrbrakeOnA s

/-- R603, R657: PWRBRAKE_N is seen high. -/
def execPwrbrakeNRelease (s : State) : Host.Outcome State Fault Refusal := runA pwrbrakeOffA s

/-- R646, R656: one µs of the power loop: the sample in watts, the input in 10 mV and 10 mA, the intermediate rail in mV, and whether
every domain that a raise of frequency would affect reports margin for it. -/
def execPowerLoopTick (p vin iin v5 : BitVec 16) (margin : Bool) (s : State) : Host.Outcome State Fault Refusal :=
  runA (powerTickA p.toNat vin.toNat iin.toNat v5.toNat margin) s

/-- R658: the excursion hold ends. -/
def execExcursionHoldEnd (s : State) : Host.Outcome State Fault Refusal := runA excHoldEndA s

/-- R659: one µs of a domain's voltage loop. -/
def execVoltageLoopTick (i : Fin 72) (m : Margin) (vout : BitVec 10) (iout : BitVec 16) (s : State) :
    Host.Outcome State Fault Refusal := runA (voltageTickA i m vout.toNat iout.toNat) s

/-- R647: a sample of the 16 sensors, in their order. -/
def execTempSample (rs : Vector TempReading 16) (s : State) : Host.Outcome State Fault Refusal := runA (tempSampleA rs.toList) s

/-- R661: 100 µs under a warning. -/
def execThermWarnThrottle (s : State) : Host.Outcome State Fault Refusal := runA warnThrottleA s

/-- R661: the trip clears. -/
def execThermTripClear (s : State) : Host.Outcome State Fault Refusal := runA tripClearA s

/-- R663: an input undervoltage. -/
def execVinUndervoltage (s : State) : Host.Outcome State Fault Refusal := runA vinUvA s

/-- R663: the undervoltage ends. -/
def execVinUvClear (s : State) : Host.Outcome State Fault Refusal := runA vinUvClearA s

/-- R663: the input is below 36.0 V, or with `high` above 62.0 V, for 10 µs; `vin` is its reading. -/
def execCriticalShutdown (high : Bool) (vin : BitVec 16) (s : State) : Host.Outcome State Fault Refusal :=
  runA (criticalA (if high then 3 else 2) 0 vin.toNat) s

/-- R655: a write to PWR_HOST_CAP. -/
def execPwrHostCapWrite (v : W64) (s : State) : Host.Outcome State Fault Refusal := runA (pwrHostCapWr v allBits) s

/-- R655: a write to PWR_CAP_LATCH. -/
def execPwrCapLatchWrite (who : Requester) (v : W64) (s : State) : Host.Outcome State Fault Refusal :=
  runA (pwrCapLatchWr who v allBits) s

/-- R668: a write to PWR_CLK_CFG. -/
def execPwrClkCfgWrite (v : W64) (s : State) : Host.Outcome State Fault Refusal := runA (pwrClkCfgWr v allBits) s

/-- R669: a write to PWR_VMAX. -/
def execPwrVmaxWrite (v : W64) (s : State) : Host.Outcome State Fault Refusal := runA (pwrVmaxWr v allBits) s

end Sys2Proof.Machine
end

