-- ==== Sys2Proof/Machine/Snuffer.lean ====
section
/-!
DEFINITION. Sys2Proof/Machine/Snuffer.lean: the windows of arbitration points (R374, R376, R383), their counters (R391), and the Snuffer
(R385 to R390).
-/
namespace Sys2Proof.Machine

/-! ### Windows and counters -/

/-- R371: the requesters of a point. -/
def arbCount (s : State) (u p : Nat) : Nat :=
  if u < 512 then (if p < 33 then 39 else 5)
  else if p < 16 then 8 else if p < 48 then 2 else if p < 64 then 33 else if p = 96 then 512 else if p < 64 + gridW s then 16 else 0

/-- The epoch of the head packet of a requester at a router output; none where it has no packet there. -/
def headEpoch (s : State) (u p r : Nat) : Option Bool :=
  if !isRouterPoint u p then none
  else if p < 53 then
    let plane := (p - 33) / 10
    let o := (p - 33) % 10 / 2
    ((rivals s u o (2 * plane + (p - 33) % 2)).find? (fun q => q.idx == r)).map (·.ep)
  else
    let o := (p - 53) / 2
    let vc := (p - 53) % 2
    (s.cn.find? (fun f => f.at_ == u && f.inp == r && !f.ej && cnVc f.pkt.op.toNat == some vc && cnOut u f.pkt vc == o)).map
      (·.pkt.epoch)

/-- R374, R376, R383: a window boundary: the point takes the bank in force, every WS counter is refilled from its bank, and the
class counts clear. -/
def windowA (u p : Nat) : Act := fun s =>
  let k := arbOf s u p
  let weight := fun (r : Nat) =>
    max 1 (bitsOf (arbReq s u p r ((headEpoch s u p r).getD (epochNow s))).toNat 0 16)
  [.putArb (arbKey u p)
    { k with
      ws := (List.range (arbCount s u p)).map (fun r => (r, (weight r : Int))), g2 := 0, g3 := 0, tc2 := 0, old := false }]

/-- R391: CNT_CLR of the selected point. -/
def arbClrA (u : Nat) : Act := fun s =>
  let p := if u < 512 then tfld s u .ARB_SEL f_ARB_SEL_POINT % 64 else dfld s .ARB_DEV_SEL f_ARB_DEV_SEL_POINT
  if (u < 512 ∧ p = 63) ∨ 97 ≤ p then []
  else
    [.regsClr ((List.range (arbCount s u p)).flatMap (fun r =>
      [(arbGrantsK u p r).code, (arbWaitK u p r).code, (arbLongestK u p r).code]))]

/-! ### Cut packets -/

/-- R388: a discarded response, acknowledgement, RED_NAK, CRED, CTL or INTR is recorded. -/
def cutRsp (t p r : Nat) : Act := seqA [
  effA [if t < 512 then setBit (tk t .SNF_STAT) f_SNF_STAT_CUT_RSP else setBit (dk .SNF_DEV_STAT) f_SNF_DEV_STAT_CUT_RSP],
  raiseErr 0x0210 2 p (if t < 512 then t else 0xFFFF) r]

/-- R388: the router of tile t answers a discarded BN packet; `targets` are those of a cut multicast branch, by chip and tile. -/
def cutAnswer (t p r : Nat) (k : BnPkt) (targets : List (Nat × Nat)) : Act :=
  let op := k.op.toNat
  let zeros := fun (n : Nat) => bnAnswer t k stPoisoned (List.replicate n 0) (List.replicate (ceilDiv n 64) true)
  if op = opRdReq then zeros k.len.toNat
  else if op = opAmo then zeros 8
  else if op = opWr ∨ op = opWrCb then bnAnswer t k stPoisoned [] []
  else if op = opMcWr ∨ op = opMcWrCb then
    eachA targets (fun cd => fun s =>
      niuPush t ⟨{ answerPkt s cd.2 (mcSource s k) stPoisoned [] [] with schip := BitVec.ofNat 17 cd.1 }, 47, .none⟩ s)
  else if opRed op then redNak t k stPoisoned
  else cutRsp t p r

/-- R387, R388: a router discards a packet that has not left it by an output; a multicast goes on by its other outputs. -/
def cutBn (t p r : Nat) (f : BnFlight) (o : Nat) : Act := fun s =>
  let vc := (opVc f.pkt.op.toNat).getD 0
  let others := ((flightOuts s f).1).filter (fun x => x ≠ o)
  seqA [effA [.setBn (s.bn.erase f)], eachA others (fun x => moveOut f x vc), cutAnswer t p r f.pkt (cutTargets s f o)] s

/-- R387, R389: a packet whose header had left is closed after `sent` data flits: the rest of its bytes arrive poisoned. -/
def closeBn (k : BnPkt) (sent : Nat) : BnPkt :=
  let n := bnFlits k
  { k with
    data := k.data.take (64 * sent) ++ List.replicate (k.data.length - 64 * sent) 0
    psn := (List.range n).map (fun i => decide (sent ≤ i) || k.psn.getD i false) }

/-- R388: the answer to a discarded CN packet. -/
def cutCn (t p r : Nat) (k : CnPkt) : Act :=
  match k.op.toNat with
  | 0 => fun s => cnSend t { mkCn t (cnSrc k) 8 k.tc.toNat k.len.toNat (cnFld k 25 5 * 2 ^ 25 + stPoisoned)
      (List.replicate k.len.toNat 0) with psn := true } s
  | 1 => rrsp t k stPoisoned []
  | 2 => cred t k 4
  | _ => cutRsp t p r

/-! ### Bites -/

/-- R387: what a RELEASE bite at point p does to the owner's transfer. -/
def bittenA (u p r : Nat) : Bitten → Act
  | .none => noA
  | .bn k inp out => fun s =>
    match s.bn.find? (fun f => f.at_ == u && f.inp == inp.val && !f.ej && f.pkt == k) with
    | some f => cutBn u p r f out s
    | none => []
  | .bnSent k out sent => fun s =>
    let hit := fun (f : BnFlight) =>
      f.pkt == k && (if out.val = 4 then f.at_ == u && f.ej
        else !f.ej && some f.at_ == neighTile s u out && f.inp == opposite out)
    match s.bn.find? hit with
    | some f =>
      if out.val = 4 then seqA [effA [.setBn (s.bn.erase f)], cutAnswer u p r k [(chipId s, u)]] s
      else [.setBn (s.bn.map (fun g => if g = f then { f with pkt := closeBn k sent } else g))]
    | none => []
  | .cn k inp _ => fun s =>
    match s.cn.find? (fun f => f.at_ == u && f.inp == inp.val && !f.ej && f.pkt == k) with
    | some f => seqA [effA [.setCn (s.cn.erase f)], cutCn u p r k] s
    | none => []
  | .cnSent k out => fun s =>
    let hit := fun (f : CnFlight) =>
      f.pkt == k && (if out.val = 4 then f.at_ == u && f.ej else !f.ej && some (f.at_, f.inp) == cnNext s u out)
    match s.cn.find? hit with
    | some f =>
      if out.val = 4 then seqA [effA [.setCn (s.cn.erase f)], cutCn u p r k] s
      else [.setCn (s.cn.map (fun g => if g = f then { f with pkt := { k with psn := true } } else g))]
    | none => []
  | .egress n q => fun s =>
    match eqOf s n q with
    | f :: fs => seqA [effA (putEq n q fs), frameFail n 5 f] s
    | [] => []
  | .ring n q => fun s =>
    match poolOf s n q with
    | f :: _ => seqA [poolTake n q, failPath (gateTile s n) 5 n { innerPkt f with dchip := f.dchip }
        (if frameMc f then some (treeChips s (frameLo f) (frameHi f) (chipId s) (portDim s n) (!portPlus s n)) else none)] s
    | [] => []
  | .beacon t ch => fun s =>
    eachA ((queueOf s t (4 + ch.val)).run.filter (fun d => match d.ext with
        | .beacon b => b.started
        | _ => false))
      (fun d => match d.ext with
        | .beacon b => bcnPut t ch d { b with cut := true }
        | _ => noA) s

/-- R385, R386, R390: the Snuffer of a point bites its owner. -/
def biteA (u p r : Nat) (what : Bitten) : Act := fun s =>
  let tile := decide (u < 512)
  let cfg := if tile then tk u .SNF_CFG p else dk .SNF_DEV_CFG p
  let stat := if tile then tk u .SNF_STAT else dk .SNF_DEV_STAT
  let cnt := if tile then tk u .SNF_BITE_CNT p else dk .SNF_DEV_BITE_CNT p
  if fld s cfg f_SNF_CFG_EN = 0 then []
  else seqA [
    effA [.cnt cnt f_SNF_BITE_CNT_COUNT 1],
    whenA (fld s stat f_SNF_STAT_VALID == 0) (effA [.fld stat f_SNF_STAT_VALID 1, .fld stat f_SNF_STAT_FIRST_REQ r,
      .fld stat f_SNF_STAT_FIRST_POINT p]),
    effA [setBit stat f_SNF_STAT_BITE],
    raiseErr 0x020F 2 p (if tile then u else 0xFFFF) r,
    whenA (fld s cfg f_SNF_CFG_ACTION == 1) (seqA [
      fun s => [.putArb (arbKey u p) { arbOf s u p with owner := none, parked := false }],
      bittenA u p r what])] s

/-! ### The commands -/

/-- R376: a window boundary of a point of a tile, or of the device. -/
def execArbWindowBoundary (t : Option Tile) (p : Fin 128) (s : State) : Host.Outcome State Fault Refusal :=
  runA (windowA (match t with
    | some t => t
    | none => 512) p) s

/-- R391: CNT_CLR. -/
def execArbCntClr (t : Option Tile) (s : State) : Host.Outcome State Fault Refusal :=
  runA (arbClrA (match t with
    | some t => t
    | none => 512)) s

/-- R385: the Snuffer of a point bites the owner with index r. -/
def execSnufferBite (t : Option Tile) (p : Fin 128) (r : Fin 512) (what : Bitten) (s : State) : Host.Outcome State Fault Refusal :=
  runA (biteA (match t with
    | some t => t
    | none => 512) p r what) s

end Sys2Proof.Machine
end

