-- ==== Sys2Proof/Machine/TileMap.lean ====
section
/-!
DEFINITION. Sys2Proof/Machine/TileMap.lean: forming and applying the tile map (R34 to R49, R52 to R56, R754), the memory modes (R91), the
patrol scrub (R86) and the end of a scrub (R82 to R85).
-/
namespace Sys2Proof.Machine

/-! ### Fuses (R48, R49) -/

/-- The fuse words of the tile map: copy A of row y, and copy B. -/
def fuseRowA (y : Nat) : Nat := y
def fuseRowB (y : Nat) : Nat := 16 + y

/-- One bit of a CRC-8 with polynomial 0x07, eight times over. -/
def crc8Bits : Nat → Nat → Nat
  | 0, r => r
  | k + 1, r => crc8Bits k (if r < 128 then 2 * r else Nat.xor (2 * r) 0x107)

/-- R48: CRC-8 of a list of bytes. -/
def crc8 (bs : List Nat) : Nat := bs.foldl (fun r b => crc8Bits 8 (Nat.xor r b)) 0

/-- The number of 1 bits below bit n. -/
def ones (n x : Nat) : Nat := ((List.range n).filter (fun i => bitOf x i)).length

/-- R48, R49: a row word checks. -/
def rowChecks (w : Nat) : Bool :=
  bitsOf w 48 16 == 0 && bitsOf w 40 8 == crc8 ((List.range 5).map (fun i => bitsOf w (8 * i) 8))
    && bitsOf w 34 6 == ones 34 w

/-- R49: the FAIL set of a row, from the copy that is used; none where neither copy checks. -/
def rowFail (s : State) (y : Nat) : Option Nat :=
  let a := (fuseAt s (fuseRowA y)).toNat
  let b := (fuseAt s (fuseRowB y)).toNat
  if rowChecks a then some (bitsOf a 0 34) else if rowChecks b then some (bitsOf b 0 34) else none

/-- The rows that use copy B. -/
def rowUsesB (s : State) (y : Nat) : Bool :=
  !rowChecks (fuseAt s (fuseRowA y)).toNat && rowChecks (fuseAt s (fuseRowB y)).toNat

/-! ### Forming a map (R34, R37, R38, R754) -/

/-- All 34 columns of a row. -/
def allPx : Nat := 2 ^ 34 - 1

/-- R33: the columns of a row that a set of tile domains covers. -/
def domCols (doms y : Nat) : Nat :=
  (List.range 17).foldl (fun m c => if bitOf doms (y / 4 * 17 + c) then m + 3 * 2 ^ (2 * c) else m) 0

/-- TILE_ROW_FAIL of a row: its failed tiles and those of accepted domains; all 34 where no copy of its fuses checks. -/
def failCols (s : State) (acc y : Nat) : Nat :=
  match rowFail s y with
  | some f => f ||| domCols acc y
  | none => allPx

/-- W of a grade code; 0 for a code that is not issued. -/
def gradeW (code : Nat) : Nat := if code = 1 then 32 else if code = 2 then 30 else if code = 3 then 28 else 0

/-- R37, R52, R55: the grade in force for a set of accepted domains; `bad` are the domains that failed soft start and are not accepted. -/
def gradeFor (s : State) (acc : Nat) : Nat :=
  let marked := s.fuseGrade % 256
  let rows := (List.range 16).map (fun y => ones 34 (failCols s acc y))
  let fits := fun (c : Nat) => decide (marked ≤ c ∧ marked ≠ 0) && rows.all (fun n => decide (n ≤ 34 - gradeW c))
  let bad := (List.range 68).any (fun d => bitOf s.softFail d && !bitOf acc d)
  let fabric := bitsOf (regOf s (dk .IVR_FAIL1)).toNat 4 4 != 0
  if bad || fabric then 0 else (([1, 2, 3] : List Nat).find? fits).getD 0

/-- The easternmost good columns of a row made dark until `n` columns are: from column px − 1 westward. -/
def darken (n : Nat) : Nat → Nat → Nat
  | 0, m => m
  | px + 1, m => if ones 34 m < n ∧ !bitOf m px then darken n px (m + 2 ^ px) else darken n px m

/-- R34: the dark set of a row under a width; every column where the width is 0. -/
def darkCols (s : State) (acc w y : Nat) : Nat := if w = 0 then allPx else darken (34 - w) 34 (failCols s acc y)

/-- The columns that carry a row's logical columns, from west to east. -/
def goodCols (dark : Nat) : List Nat := (List.range 34).filter (fun px => !bitOf dark px)

/-- A map: its grade code and width, and the columns of each row. -/
structure TMap where
  grade : Nat
  rows  : List (List Nat)

/-- The map that a set of accepted domains gives. -/
def formMap (s : State) (acc : Nat) : TMap :=
  let g := gradeFor s acc
  ⟨g, (List.range 16).map (fun y => goodCols (darkCols s acc (gradeW g) y))⟩

/-- The column of a logical tile under a map; none where its ID names no tile. -/
def TMap.px (m : TMap) (t : Nat) : Option Nat := (m.rows.getD (tileY t) [])[tileX t]?

/-- A word of TILE_L2P. -/
def l2pWord (m : TMap) (i : Nat) : Nat :=
  (List.range 8).foldl (fun a n => a + (m.px (8 * i + n)).getD 255 * 2 ^ (8 * n)) 0

/-- The TILE_ registers that a map sets. -/
def mapRegs (m : TMap) (acc : Nat) : Act := fun s =>
  let w := gradeW m.grade
  [.fld (dk .TILE_GRID) f_TILE_GRID_GRADE m.grade, .fld (dk .TILE_GRID) f_TILE_GRID_WIDTH w,
   .fld (dk .TILE_GRID) f_TILE_GRID_DARK_PER_ROW (if w = 0 then 0 else 34 - w),
   .fld (dk .TILE_MAP_STAT) f_TILE_MAP_STAT_NO_GRADE (b2n (m.grade == 0))]
  ++ (List.range 16).flatMap (fun y => [.reg (dk .TILE_ROW_DARK y) (BitVec.ofNat 64 (darkCols s acc w y)),
    .reg (dk .TILE_ROW_FAIL y) (BitVec.ofNat 64 (failCols s acc y))])
  ++ (List.range 64).map (fun i => .reg (dk .TILE_L2P i) (BitVec.ofNat 64 (l2pWord m i)))

/-- The accepted domains of a pair of sets. -/
def accOf (doms : Nat) : Nat := doms % 2 ^ 68

/-- R44: a tile of the map in force has no power, or its row has stopped. -/
def unpowered (s : State) (t : Nat) : Bool := ivrState s (tileDomain s t) != 2 || rowStopped s t

/-- The number under which a physical tile's contents are kept while it is dark. -/
def darkNo (px y : Nat) : Nat := 1024 + 16 * px + y

/-- R47: how tile numbers move from the map in force to a new one: what a physical tile holds stays with it. -/
def mapMoves (s : State) (m : TMap) : List (Nat × Nat) :=
  let was := fun (px y : Nat) => (allTiles s).find? (fun t => tileY t == y && tilePx s t == px)
  let is := fun (px y : Nat) => ((List.range 34).find? (fun x => m.px (tileAt x y) == some px)).map (fun x => tileAt x y)
  (List.range 16).flatMap (fun y => (List.range 34).filterMap (fun px =>
    let a := (was px y).getD (darkNo px y)
    let b := (is px y).getD (darkNo px y)
    if a = b then none else some (a, b)))

/-- R38: the device forms the map at a reset: it reads the fuses, and takes in what is accepted and what failed soft start. What a physical
tile's vault has kept through a warm reset (R83) goes with it. A map with no tile, or none whose regulator could still start, has nothing
to scrub (R682). -/
def mapFormA : Act := seqA [
  (fun s => [.setSoftFail ((regOf s (dk .TILE_DOM_FAIL0)).toNat + (regOf s (dk .TILE_DOM_FAIL1)).toNat % 16 * 2 ^ 64),
    .setMapDoms (domSets s),
    .fld (dk .TILE_GRID) f_TILE_GRID_OPTION (bitsOf s.fuseGrade 8 4), .fld (dk .TILE_GRID) f_TILE_GRID_MARKED (s.fuseGrade % 256),
    .fld (dk .TILE_MAP_STAT) f_TILE_MAP_STAT_FUSE_B_USED (b2n ((List.range 16).any (rowUsesB s)))]),
  (fun s => eachA ((List.range 16).filter (fun y => (rowFail s y).isNone)) (fun y => raiseErr 0x0407 2 0 y 0) s),
  (fun s => .relabel (mapMoves s (formMap s (accOf s.mapDoms))) :: mapRegs (formMap s (accOf s.mapDoms)) (accOf s.mapDoms) s),
  (fun s => downSet ((allTiles s).filter (unpowered s)) true s),
  pendingA, memStatA,
  fun s => if dfld s .BOOT_STAT f_BOOT_STAT_STAGE ≤ 2 then
    [.fld (dk .BOOT_STAT) f_BOOT_STAT_STAGE (if (allTiles s).all (fun t => ivrState s (tileDomain s t) == 4) then 4 else 3)] else []]

/-! ### Applying a changed map (R45 to R47, R56) -/

/-- R45, R418: a write of TILE_MAP_CTRL.APPLY. -/
def mapApplyA : Act := fun s =>
  if dfld s .TILE_MAP_STAT f_TILE_MAP_STAT_APPLYING = 1 then []
  else if !isQuiesced s then nqRefuse 0x10 s
  else [.fld (dk .TILE_MAP_STAT) f_TILE_MAP_STAT_APPLYING 1, .setApplyDoms (domSets s)]

/-- R35, R169: a tile that becomes dark is held asleep, its cores stopped and its vault in self-refresh. -/
def goDark (t : Nat) : Act := seqA [coresClear t, enginesClear t,
  effA [.fld (tk t .TILE_PWR_STAT) f_TILE_PWR_STAT_STATE 2, setBit (tk t .TILE_VLT_STAT) f_TILE_VLT_STAT_SELF_REFRESH]]

/-- R35: a tile that was dark and is given a logical ID is asleep; a tile with power has been scrubbed. -/
def goLit (t : Nat) : Act := fun s =>
  let on := b2n (!unpowered s t)
  [.fld (tk t .TILE_PWR_STAT) f_TILE_PWR_STAT_STATE 2, setBit (tk t .TILE_VLT_STAT) f_TILE_VLT_STAT_SELF_REFRESH,
   .fld (tk t .TILE_VLT_STAT) f_TILE_VLT_STAT_SCRUB_DONE on, .fld (tk t .CM_STAT) f_CM_STAT_SCRUB_DONE on]

/-- R44: TILE_DOWN_MAP after the numbers have moved: tiles without power, and those that were down and wait for their scrubs. -/
def downAgain (was : List Nat) : Act := fun s => seqA [
  effA ((List.range 8).map (fun i => .reg (dk .TILE_DOWN_MAP i) 0)),
  downSet ((allTiles s).filter (fun t => unpowered s t || was.contains t)) true] s

/-- R46, R47, R56: an apply completes: once no CN packet is in a router, the new map takes effect at once. -/
def mapApplyDoneA : Act := fun s =>
  if dfld s .TILE_MAP_STAT f_TILE_MAP_STAT_APPLYING = 0 ∨ s.cn.any (fun f => !f.ej)
    ∨ dfld s .BOOT_RST_STAT f_BOOT_RST_STAT_TILE_BUSY = 1 then []
  else
    let acc := accOf s.applyDoms
    let m := formMap s acc
    let moves := mapMoves s m
    let dark := (moves.filter (fun p => 1024 ≤ p.2)).map (·.1)
    let was := ((allTiles s).filter (tileDown s)).map (moved moves)
    let lit := (moves.filter (fun p => 1024 ≤ p.1)).map (·.2)
    seqA [
      eachA dark goDark,
      effA [.relabel moves],
      mapRegs m acc,
      effA [.setMapDoms s.applyDoms, .fld (dk .TILE_MAP_STAT) f_TILE_MAP_STAT_APPLYING 0,
        .fld (dk .TILE_MAP_STAT) f_TILE_MAP_STAT_MAP_SEQ ((dfld s .TILE_MAP_STAT f_TILE_MAP_STAT_MAP_SEQ + 1) % 65536)],
      eachA lit goLit, downAgain was, pendingA, memStatA,
      (fun s => raiseInfo 0x0406 m.grade 0 (dfld s .TILE_MAP_STAT f_TILE_MAP_STAT_MAP_SEQ) s),
      admWithdraw, wickBreakPending,
      (fun s => if dfld s .EPC_QUIESCE f_EPC_QUIESCE_REQ = 0 then resumeA s else [])] s

/-- R56: a CN packet that a router still holds late in an apply is discarded, and answered as a bite answers it. -/
def applyDiscardA (t inp : Nat) (p : CnPkt) : Act := fun s =>
  match s.cn.find? (fun f => f.at_ == t && f.inp == inp && !f.ej && f.pkt == p) with
  | some f =>
    if dfld s .TILE_MAP_STAT f_TILE_MAP_STAT_APPLYING = 1 then
      let vc := (cnVc p.op.toNat).getD 0
      seqA [effA [.setCn (s.cn.erase f)], cutCn t (cnPoint (cnOut t p vc) vc) inp p] s
    else []
  | none => []

/-! ### Memory modes and scrubs -/

/-- R91: a write to TILE_MEM_CFG, field by field. -/
def memCfgWr (v en : W64) : Act := fun s =>
  let k := dk .TILE_MEM_CFG
  let old := regOf s k
  let new := accWrite (regFields k) old v en
  let badV := decide (2 ≤ fget new f_TILE_MEM_CFG_VAULT_MODE)
  let badN := fget new f_TILE_MEM_CFG_NWR_MODE == 3
  let new := if badV then fset new f_TILE_MEM_CFG_VAULT_MODE (fget old f_TILE_MEM_CFG_VAULT_MODE) else new
  let new := if badN then fset new f_TILE_MEM_CFG_NWR_MODE (fget old f_TILE_MEM_CFG_NWR_MODE) else new
  let modes : List Fld := [f_TILE_MEM_CFG_VAULT_MODE, f_TILE_MEM_CFG_STRIPE, f_TILE_MEM_CFG_CM_HASH]
  let locked := dfld s .BOOT_ADM_STAT f_BOOT_ADM_STAT_ADMITTED = 1
  let change := modes.any (fun f => fget new f != fget old f)
  let kept := if locked then modes.foldl (fun w f => fset w f (fget old f)) new else new
  .reg k kept
    :: ((if badV || badN then [setBit (dk .TILE_MEM_STAT) f_TILE_MEM_STAT_CFG_ERR] else [])
    ++ (if locked ∧ change then [setBit (dk .TILE_MEM_STAT) f_TILE_MEM_STAT_MODE_LOCKED] else []))

/-- The lines of a vault (R86). -/
def vaultLines : Nat := 3145728

/-- R86, R94: the patrol visits the next line of a tile's vault; `ecc` is what the check of the line finds. -/
def patrolA (t : Nat) (ecc : Ecc) : Act := fun s =>
  if dfld s .TILE_MEM_CFG f_TILE_MEM_CFG_SCRUB_HOURS = 0 ∨ nTiles s ≤ t ∨ tileDown s t
      ∨ tfld s t .TILE_VLT_STAT f_TILE_VLT_STAT_SELF_REFRESH = 1 ∨ tfld s t .TILE_VLT_STAT f_TILE_VLT_STAT_SCRUB_DONE = 0 then []
  else
    let n := tfld s t .TILE_VLT_PATROL f_TILE_VLT_PATROL_NEXT_LINE
    let m := vltLnAt s (vltLineKey t (64 * n))
    seqA [
      (if !m.wr || m.psn then noA
       else match ecc with
         | .clean => noA
         | .corr => vltCe t (64 * n)
         | .uncorr => vltUe t (64 * n) 1),
      effA [.fld (tk t .TILE_VLT_PATROL) f_TILE_VLT_PATROL_NEXT_LINE (if n + 1 < vaultLines then n + 1 else 0),
        .fld (tk t .TILE_VLT_PATROL) f_TILE_VLT_PATROL_PASSES
          (tfld s t .TILE_VLT_PATROL f_TILE_VLT_PATROL_PASSES + if n + 1 < vaultLines then 0 else 1)]] s

/-- R82, R84, R85, R652: the scrubs of a tile that has power complete; a tile that waited for them leaves the down state. At boot, STAGE 4
follows the last. -/
def scrubDoneA (t : Nat) : Act := fun s =>
  if nTiles s ≤ t ∨ unpowered s t then []
  else seqA [
    effA [setBit (tk t .TILE_VLT_STAT) f_TILE_VLT_STAT_SCRUB_DONE, setBit (tk t .CM_STAT) f_CM_STAT_SCRUB_DONE],
    whenA (!s.rstReq.any (fun r => r.rank == 4 && r.tile == t)) (downSet [t] false), memStatA] s

/-! ### The commands -/

/-- R38: the device forms the map at a reset. -/
def execMapForm (s : State) : Host.Outcome State Fault Refusal := runA mapFormA s

/-- R45: a write of APPLY. -/
def execTileMapApply (s : State) : Host.Outcome State Fault Refusal := runA mapApplyA s

/-- R46: an apply completes. -/
def execMapApplyComplete (s : State) : Host.Outcome State Fault Refusal := runA mapApplyDoneA s

/-- R56: a CN packet still in a router 4,000 FCLK after APPLYING set is discarded. -/
def execApplyCnDiscard (t : Tile) (inp : Fin 5) (p : CnPkt) (s : State) : Host.Outcome State Fault Refusal :=
  runA (applyDiscardA t inp p) s

/-- R91: a write to TILE_MEM_CFG. -/
def execTileMemCfgWrite (v : W64) (s : State) : Host.Outcome State Fault Refusal := runA (memCfgWr v allBits) s

/-- R86: the patrol of a tile visits its next line. -/
def execPatrolVisit (t : Tile) (ecc : Ecc) (s : State) : Host.Outcome State Fault Refusal := runA (patrolA t ecc) s

end Sys2Proof.Machine
end

