-- ==== Sys2Proof/Machine/Img.lean ====
section
/-!
DEFINITION. Sys2Proof/Machine/Img.lean: image slots and how an image is verified (R676 to R681), and the fuse words beside those of the
tile map (R633, R634, R680).
-/
namespace Sys2Proof.Machine

/-! ### Fuses -/

/-- The fuse words of ROOT_KEY_HASH[k]: 48 bytes in six words, little-endian. -/
def fuseRoot (k i : Nat) : Nat := 32 + 6 * k + i
/-- FUSE_KEY_REVOKE: bit k revokes entry k. -/
def fuseRevoke : Nat := 56
/-- The lock fuses: bit 0 MAKER_LOCK, bit 1 DBG_LOCK. -/
def fuseLocks : Nat := 57
/-- The serial number: two words. -/
def fuseSerial (i : Nat) : Nat := 58 + i
/-- FUSE_GRADE. -/
def fuseGradeNo : Nat := 60

/-- The bytes of ROOT_KEY_HASH[k]. -/
def rootHash (s : State) (k : Nat) : List Byte := (List.range 6).flatMap (fun i => leBytes 8 (fuseAt s (fuseRoot k i)).toNat)

/-- The entry of ROOT_KEY_HASH is revoked. -/
def keyRevoked (s : State) (k : Nat) : Bool := bitOf (fuseAt s fuseRevoke).toNat k

/-- R633, R634: MAKER_LOCK and DBG_LOCK read 1. -/
def makerLock (s : State) : Bool := bitOf (fuseAt s fuseLocks).toNat 0
def dbgLock (s : State) : Bool := bitOf (fuseAt s fuseLocks).toNat 1

/-- R747: the instructions of the TAP; those of the debug access port as one. -/
inductive TapInstr where
  | extest | samplePreload | bypass | idcode | debug
deriving DecidableEq, Repr

/-- R634, R747: what an instruction of the TAP acts as. -/
def tapActs (s : State) (i : TapInstr) : TapInstr := if i = .debug ∧ dbgLock s then .bypass else i

/-- R747: what IDCODE reads. -/
def tapIdcode : BitVec 32 := Config.stepping ++ 0x5120C59#28

/-- A fuse word is programmed: bits go from 0 to 1 alone. -/
def fuseBurn (n : Nat) (v : Nat) : Act := fun s =>
  if n = fuseGradeNo then [.setFuseGrade (Nat.lor s.fuseGrade v)]
  else [.putFuse n (fuseAt s n ||| BitVec.ofNat 64 v)]

/-! ### Slots (R676, R679) -/

/-- 2^25: the bytes of a slot, 32 MiB. -/
def slotSize : Nat := 0x2000000

/-- Where a slot begins: 0 GOLDEN, 1 A, 2 B. -/
def slotBase (k : Nat) : Nat := k * slotSize

/-- Bytes of a slot. -/
def slotRead (s : State) (k off n : Nat) : List Byte := flashRead s (slotBase k + off) n

/-- The slot begins with MAGIC. -/
def slotMagic (s : State) (k : Nat) : Bool := leNat (slotRead s k 0 4) == 0x4D49464E

/-- R679: a slot's status. The store keeps 1, 2 and 3, and 5 for one that an interruption has left WRITING (R696); a slot that holds 0
there is EMPTY or UNCHECKED as its MAGIC says. -/
def slotStatus (s : State) (k : Nat) : Nat :=
  let x := slotStAt s k
  if x = 5 then 3 else if x ≠ 0 then x else if slotMagic s k then 4 else 0

/-- A slot's status in the store. -/
def slotPut (k x : Nat) : Act := effA [.putSlotSt k x]

/-! ### Headers and sections (R677, R678) -/

/-- All bytes of a list are 0. -/
def allZero (bs : List Byte) : Bool := bs.all (fun b => b == 0)

/-- A section entry. -/
structure Section where
  ty     : Nat
  form   : Nat
  mbz    : Nat
  off    : Nat
  stored : Nat
  ulen   : Nat
  digest : List Byte
deriving DecidableEq, Repr

/-- Section entry `i` of a header. -/
def sectionOf (h : List Byte) (i : Nat) : Section :=
  let b := 256 + 64 * i
  ⟨leAt h b 1, leAt h (b + 1) 1, leAt h (b + 2) 2, leAt h (b + 4) 4, leAt h (b + 8) 4, leAt h (b + 12) 4, sliceZ h (b + 16) 48⟩

/-- The sections of a header. -/
def sectionsOf (h : List Byte) : List Section := (List.range (leAt h 7 1)).map (sectionOf h)

/-- R678: the greatest ULEN of a section type. -/
def ulenMax (ty : Nat) : Nat := match ty with
  | 1 => 448 * 1024
  | 5 => 64 * 1024
  | 3 => 32 * 1024 * 1024
  | _ => 1024 * 1024

/-- R678: a section keeps its own limits, and lies inside STORED_LEN (R680). -/
def sectionOk (stored : Nat) (x : Section) : Bool :=
  decide (1 ≤ x.ty ∧ x.ty ≤ 5) && decide (x.form ≤ 1) && (x.form == 0 || (x.ty != 1 && x.ty != 5)) && x.mbz == 0
    && x.off % 4096 == 0 && decide (4096 ≤ x.off) && decide (x.ulen ≤ ulenMax x.ty) && (x.form == 1 || x.stored == x.ulen)
    && decide (x.off + x.stored ≤ stored)

/-- Two sections overlap. -/
def sectionsMeet (a b : Section) : Bool := decide (a.off < b.off + b.stored ∧ b.off < a.off + a.stored)

/-- Some two of a list of sections overlap. -/
def anyMeet : List Section → Bool
  | [] => false
  | a :: l => l.any (sectionsMeet a) || anyMeet l

/-- The sections of a type. -/
def ofType (xs : List Section) (ty : Nat) : List Section := xs.filter (fun x => x.ty == ty)

/-- R680: FORMAT. -/
def imgFormat (h : List Byte) : Bool :=
  let stored := leAt h 12 4
  let n := leAt h 7 1
  let xs := sectionsOf h
  leAt h 0 4 == 0x4D49464E && leAt h 4 2 == 1 && decide (leAt h 6 1 ≤ 3) && decide (1 ≤ n ∧ n ≤ 32)
    && decide (4096 ≤ stored ∧ stored ≤ slotSize)
    && allZero (sliceZ h 24 104) && allZero (sliceZ h 225 31) && allZero (sliceZ h 2304 1664) && allZero (sliceZ h 4064 32)
    && xs.all (sectionOk stored) && (ofType xs 1).length == 1
    && [2, 3, 4, 5].all (fun ty => decide ((ofType xs ty).length ≤ 1)) && !anyMeet xs

/-- R680: KEY. -/
def imgKey (s : State) (h : List Byte) : Bool :=
  let k := leAt h 6 1
  sha384 (sliceZ h 128 97) == rootHash s k && !keyRevoked s k

/-- R680: SIGNATURE: the key, the signature and what it signs. -/
def imgSig (h : List Byte) : Bool := ecdsaOk (sliceZ h 128 97) (sliceZ h 3968 96) (h.take 3968)

/-- R256, R678: the table images of a TABLES section, back to back, as far as they check; `k` bounds their number. -/
def tablesOf : Nat → List Byte → List Tbl
  | 0, _ => []
  | k + 1, bs =>
    let t := tblOf bs
    let n := imgLen t.np
    let img := bs.take n
    if bs.length < 16 ∨ img.length < n ∨ imgSum img ≠ t.sum ∨ tblFieldsOk t = false then []
    else t :: tablesOf k (bs.drop n)

/-- R266, R678: a codeblock stream decoded; `k` bounds the number of its blocks; none where a block fails a check of R263. -/
def streamOf (store : List Tbl) : Nat → List Byte → Option (List Byte)
  | 0, bs => if bs = [] then some [] else none
  | k + 1, bs =>
    if bs = [] then some []
    else
      let n := ceilDiv (hdrOf bs).clen 16 * 16
      match decodeBlock store none bs with
      | .bad _ => none
      | .ok out => (streamOf store k (bs.drop n)).map (out ++ ·)

/-- The decoded bytes of a section. -/
def sectionBytes (s : State) (slot : Nat) (store : List Tbl) (x : Section) : Option (List Byte) :=
  let raw := slotRead s slot x.off x.stored
  if x.form = 0 then some raw else streamOf store (x.stored / 16 + 1) raw

/-- The tables of an image. -/
def imgTables (s : State) (slot : Nat) (xs : List Section) : List Tbl :=
  match ofType xs 5 with
  | [] => []
  | x :: _ => tablesOf (x.ulen / 16 + 1) (slotRead s slot x.off x.stored)

/-- R680: DIGEST, of one section. -/
def digestOk (s : State) (slot : Nat) (store : List Tbl) (x : Section) : Bool :=
  match sectionBytes s slot store x with
  | some bs => bs.length == x.ulen && sha384 bs == x.digest
  | none => false

/-- The decoded bytes of the section of a type; none where the image has none. -/
def imgSection (s : State) (slot ty : Nat) : Option (List Byte) :=
  let xs := sectionsOf (slotRead s slot 0 4096)
  match ofType xs ty with
  | [] => none
  | x :: _ => sectionBytes s slot (imgTables s slot xs) x

/-- R678: the records of a FABRIC section: an address and a value. -/
def fabricRecs (bs : List Byte) : List (Nat × Nat) :=
  (List.range (bs.length / 16)).map (fun i => (leAt bs (16 * i) 8, leAt bs (16 * i + 8) 8))

/-- A load record of a CLUSTER section. -/
structure LoadRec where
  near : Nat
  far  : Nat
  off  : Nat
  data : List Byte

/-- R678: the load records after the header; none where they break the layout. `k` bounds their number. -/
def loadRecs : Nat → List Byte → Option (List LoadRec)
  | 0, bs => if bs = [] then some [] else none
  | k + 1, bs =>
    if bs = [] then some []
    else
      let n := leAt bs 8 4
      let p := 16 + ceilDiv n 16 * 16
      if bs.length < p ∨ leAt bs 12 4 ≠ 0 then none
      else (loadRecs k (bs.drop p)).map (⟨leAt bs 0 2, leAt bs 2 2, leAt bs 4 4, (bs.drop 16).take n⟩ :: ·)

/-- The load records of a CLUSTER section. -/
def clusterRecs (bs : List Byte) : Option (List LoadRec) := loadRecs (bs.length / 16 + 1) (bs.drop 16)

/-- The register that a local register address names, where its tile or block exists. -/
def regPlace (s : State) (a : Nat) : Option (Option RKey) :=
  match mapLocal s none a with
  | .treg t o => some (if o % 8 = 0 then (tileRegAt o).map (fun r => tk t r.1 r.2) else none)
  | .dreg o => some (if o % 8 = 0 then (devRegAt o).map (fun r => dk r.1 r.2) else none)
  | _ => none

/-- A register that software cannot write. -/
def readOnlyReg (k : RKey) : Bool := (regFields k).all (fun f => f.acc == .ro || f.acc == .rc)

/-- R680: CONTENT, of a FABRIC record. -/
def fabricRecOk (s : State) (r : Nat × Nat) : Bool :=
  match regPlace s r.1 with
  | some (some k) => !readOnlyReg k
  | some none => true
  | none => false

/-- R680: CONTENT, of a load record: its rectangle and range lie in the grid and the CM in force. -/
def loadRecOk (s : State) (r : LoadRec) : Bool :=
  decide (tileX r.near ≤ tileX r.far ∧ tileY r.near ≤ tileY r.far ∧ r.far < nTiles s ∧ r.off + r.data.length ≤ cmSize)

/-- R680: CONTENT, of an image. -/
def imgContent (s : State) (slot : Nat) : Bool :=
  (match imgSection s slot 2 with
   | some bs => (fabricRecs bs).all (fabricRecOk s)
   | none => true)
  && (match imgSection s slot 3 with
      | some bs => (match clusterRecs bs with
        | some rs => decide (16 ≤ bs.length) && rs.all (loadRecOk s)
        | none => false)
      | none => true)

/-- R679, R680: the failure code of a slot, 0 where every check passes; `err` says that the flash controller reports a read error. -/
def verifySlot (s : State) (slot : Nat) (err : Bool) : Nat :=
  let h := slotRead s slot 0 4096
  let xs := sectionsOf h
  if !imgFormat h then 1
  else if !imgKey s h then 2
  else if !imgSig h then 3
  else if !xs.all (digestOk s slot (imgTables s slot xs)) then 4
  else if !imgContent s slot then 5
  else if err then 6
  else 0

/-- R587, R682: the header and the GLV_FW section of a slot are good. -/
def firmwareOk (s : State) (slot : Nat) : Bool :=
  let h := slotRead s slot 0 4096
  imgFormat h && imgKey s h && imgSig h && (ofType (sectionsOf h) 1).all (digestOk s slot [])

/-- R690: the sections but for GLV_FW have equal DIGESTs in two slots. -/
def sameFabric (s : State) (a b : Nat) : Bool :=
  let xs := sectionsOf (slotRead s a 0 4096)
  let ys := sectionsOf (slotRead s b 0 4096)
  [2, 3, 4, 5].all (fun ty => (ofType xs ty).map (·.digest) == (ofType ys ty).map (·.digest))

/-- BOOT_STAT.RUNNING. -/
def runningSlot (s : State) : Nat := dfld s .BOOT_STAT f_BOOT_STAT_RUNNING

/-- The field of BOOT_STAT that gives a slot's failure code. -/
def failField (slot : Nat) : Fld :=
  if slot = 0 then f_BOOT_STAT_FAIL_G else if slot = 1 then f_BOOT_STAT_FAIL_A else f_BOOT_STAT_FAIL_B

/-- R681, R688: a slot's check has ended with a failure code. R696: a slot that an interruption left WRITING is BAD. -/
def slotJudged (slot code : Nat) : Act := fun s =>
  [.putSlotSt slot (if code = 0 ∧ slotStAt s slot ≠ 5 then 1 else 2), .fld (dk .BOOT_STAT) (failField slot) code]

/-- R696: a slot in the state WRITING is left so. -/
def slotsCut : Act := fun s => ([0, 1, 2].filter (fun k => slotStAt s k == 3)).map (fun k => .putSlotSt k 5)

end Sys2Proof.Machine
end

