-- ==== Sys2Proof/Machine/Obj.lean ====
section
/-!
DEFINITION. Sys2Proof/Machine/Obj.lean: the objects of the dictionary (R613, R614, R627): their types, rights, defaults and values, the
rules of those that have some (R628 to R634, R688 to R690), what a write of each does, and the journal (R626).
-/
namespace Sys2Proof.Machine

/-! ### The object index (R613, R627) -/

/-- How an object is kept: in flash, until a cold or warm reset, or derived from hardware at each read. -/
inductive Keep where
  | p | v | d
deriving DecidableEq, Repr

/-- A row of the object index: the first index and how many rows alike follow it, the first subindex and how many follow it, the length
in bytes (0 for a DOMAIN), the read and the write right (0 N, 1 operator, 2 installer, 3 maker, 4 never), and the keeping. -/
structure ObjRow where
  idx  : Nat
  idxs : Nat
  sub  : Nat
  subs : Nat
  len  : Nat
  rd   : Nat
  wr   : Nat
  keep : Keep

/-- Identity, power, maps and temperatures. -/
def objRowsA : List ObjRow := [
  ⟨0x1000, 1, 1, 2, 2, 0, 4, .d⟩, ⟨0x1000, 1, 3, 3, 1, 0, 4, .d⟩, ⟨0x1000, 1, 6, 1, 16, 0, 4, .d⟩, ⟨0x1000, 1, 7, 1, 1, 0, 4, .d⟩,
  ⟨0x1000, 1, 8, 1, 4, 0, 4, .d⟩, ⟨0x1000, 1, 9, 1, 1, 0, 4, .d⟩, ⟨0x1000, 1, 10, 1, 8, 1, 4, .d⟩,
  ⟨0x2000, 1, 1, 1, 2, 1, 2, .p⟩, ⟨0x2000, 1, 2, 1, 2, 1, 1, .v⟩, ⟨0x2000, 1, 3, 1, 2, 1, 4, .d⟩, ⟨0x2000, 1, 4, 1, 2, 1, 2, .p⟩,
  ⟨0x2010, 1, 1, 3, 2, 1, 4, .d⟩, ⟨0x2020, 1, 1, 1, 1, 1, 4, .d⟩,
  ⟨0x2040, 1, 1, 1, 9, 1, 2, .p⟩, ⟨0x2040, 1, 2, 1, 9, 1, 4, .d⟩,
  ⟨0x3000, 1, 1, 16, 2, 1, 4, .d⟩, ⟨0x3010, 1, 1, 1, 2, 1, 2, .p⟩, ⟨0x3010, 1, 2, 1, 2, 1, 3, .p⟩]

/-- Topology, ports and images. -/
def objRowsB : List ObjRow := [
  ⟨0x4000, 1, 1, 1, 4, 1, 2, .p⟩, ⟨0x4000, 1, 2, 4, 8, 1, 2, .p⟩, ⟨0x4010, 1, 1, 1, 1, 1, 2, .p⟩,
  ⟨0x4020, 16, 1, 1, 2, 1, 2, .p⟩, ⟨0x4020, 16, 2, 1, 8, 1, 2, .p⟩, ⟨0x4020, 16, 3, 1, 1, 1, 4, .d⟩, ⟨0x4020, 16, 4, 1, 8, 1, 4, .v⟩,
  ⟨0x4030, 1, 1, 1, 1, 1, 2, .p⟩, ⟨0x5000, 1, 1, 1, 1, 1, 2, .p⟩, ⟨0x5000, 1, 2, 1, 1, 1, 4, .d⟩,
  ⟨0x5010, 3, 1, 1, 1, 1, 4, .d⟩, ⟨0x5010, 3, 2, 1, 4, 1, 4, .d⟩, ⟨0x5010, 3, 3, 1, 48, 1, 4, .d⟩,
  ⟨0x5020, 1, 1, 1, 1, 2, 2, .v⟩, ⟨0x5020, 1, 2, 1, 4, 2, 2, .v⟩, ⟨0x5020, 1, 3, 1, 0, 4, 2, .v⟩, ⟨0x5020, 1, 4, 1, 1, 4, 2, .v⟩,
  ⟨0x5030, 1, 1, 1, 1, 1, 4, .d⟩]

/-- Keys, sessions, the journal, the log, calibration, fuses and locks. R633 and R634 give the locks their write: they are derived, and a
write burns the fuse. -/
def objRowsC : List ObjRow := [
  ⟨0x6000, 1, 1, 4, 32, 4, 2, .p⟩, ⟨0x6001, 1, 1, 1, 32, 4, 2, .p⟩, ⟨0x6002, 1, 1, 1, 32, 4, 3, .p⟩,
  ⟨0x6010, 1, 1, 2, 2, 1, 2, .p⟩, ⟨0x6010, 1, 3, 1, 1, 1, 2, .p⟩, ⟨0x6011, 1, 1, 8, 8, 1, 4, .d⟩,
  ⟨0x6020, 1, 1, 1, 4, 2, 4, .d⟩, ⟨0x6020, 1, 2, 1, 4, 2, 2, .v⟩, ⟨0x6020, 1, 3, 1, 48, 2, 4, .d⟩, ⟨0x6030, 1, 1, 3, 4, 2, 4, .v⟩,
  ⟨0x7000, 1, 1, 1, 4, 1, 4, .d⟩, ⟨0x7000, 1, 2, 1, 2, 1, 1, .v⟩, ⟨0x7000, 1, 3, 1, 32, 1, 4, .d⟩, ⟨0x7000, 1, 4, 1, 2, 1, 2, .p⟩,
  ⟨0x8000, 1, 1, 1, 0, 2, 3, .p⟩, ⟨0x8010, 1, 1, 1, 2, 3, 3, .v⟩, ⟨0x8010, 1, 2, 1, 8, 3, 3, .v⟩, ⟨0x8020, 1, 1, 2, 4, 0, 3, .d⟩]

/-- R627: the object index. -/
def objRows : List ObjRow := objRowsA ++ objRowsB ++ objRowsC

/-- A row holds an index. -/
def rowHasIdx (r : ObjRow) (idx : Nat) : Bool := decide (r.idx ≤ idx ∧ idx < r.idx + r.idxs)

/-- The index is in the dictionary. -/
def objHasIdx (idx : Nat) : Bool := objRows.any (rowHasIdx · idx)

/-- The row of an object. -/
def objRow (idx sub : Nat) : Option ObjRow :=
  objRows.find? (fun r => rowHasIdx r idx && decide (r.sub ≤ sub ∧ sub < r.sub + r.subs))

/-- The key of an object in the store: 0x2000.02 is 0x200002. -/
def objKey (idx sub : Nat) : Nat := idx * 256 + sub

def okVENDOR : Nat := 0x100001
def okCAP_CEILING : Nat := 0x200001
def okCAP_OPER : Nat := 0x200002
def okBRAKE_LEVEL : Nat := 0x200004
def okDOM_ACCEPT : Nat := 0x204001
def okWARN_T : Nat := 0x301001
def okTRIP_T : Nat := 0x301002
def okCHIP_ID : Nat := 0x400001
def okCAN_NODE : Nat := 0x401001
def okHELLO_S : Nat := 0x403001
def okACTIVE_SLOT : Nat := 0x500001
def okTARGET : Nat := 0x502001
def okOFFSET : Nat := 0x502002
def okDATA : Nat := 0x502003
def okCOMMIT : Nat := 0x502004
def okOPER_KEY (k : Nat) : Nat := 0x600001 + k
def okINSTALLER_KEY : Nat := 0x600101
def okMAKER_KEY : Nat := 0x600201
def okSESS_IDLE_S : Nat := 0x601001
def okLOCKOUT_S : Nat := 0x601002
def okFAIL_LIMIT : Nat := 0x601003
def okJRN_READ : Nat := 0x602002
def okJRN_ENTRY : Nat := 0x602003
def okREFUSED_CNT : Nat := 0x603001
def okMBX_DISCARD : Nat := 0x603002
def okRSP_DROP : Nat := 0x603003
def okEMB_READ : Nat := 0x700002
def okEMB_ENTRY : Nat := 0x700003
def okEMB_COPY_S : Nat := 0x700004
def okFUSE_ADDR : Nat := 0x801001
def okFUSE_DATA : Nat := 0x801002
def okMAKER_LOCK : Nat := 0x802001
def okDBG_LOCK : Nat := 0x802002

/-- 0x4020+n.02 and 0x4020+n.04. -/
def okREJOIN (n : Nat) : Nat := 0x402001 + 256 * n
def okEXPECT (n : Nat) : Nat := 0x402002 + 256 * n
def okHELLO (n : Nat) : Nat := 0x402004 + 256 * n

/-! ### Values -/

/-- The defaults other than zeros. -/
def objDefaults : List (Nat × List Byte) :=
  [(okCAP_CEILING, leBytes 2 1500), (okBRAKE_LEVEL, leBytes 2 750), (okWARN_T, leBytes 2 1520), (okTRIP_T, leBytes 2 1760),
   (okACTIVE_SLOT, [1]), (okINSTALLER_KEY, leBytes 32 Config.installerKey.toNat), (okMAKER_KEY, leBytes 32 Config.makerKey.toNat),
   (okSESS_IDLE_S, leBytes 2 60), (okLOCKOUT_S, leBytes 2 60), (okFAIL_LIMIT, [8]), (okEMB_COPY_S, leBytes 2 10),
   (0x800001, Config.calRecord.take 1024)]
  ++ (List.range 16).map (fun n => (okREJOIN n, leBytes 2 50))

/-- The length of an object's value where its row fixes one. -/
def objLen (k : Nat) : Nat :=
  match objRow (k / 256) (k % 256) with
  | some r => r.len
  | none => 0

/-- The default of an object. -/
def objDefault (k : Nat) : List Byte :=
  match objDefaults.find? (fun e => e.1 == k) with
  | some e => e.2
  | none => List.replicate (objLen k) 0

/-- The value that a P or V object holds. CAP_OPER's default is CAP_CEILING. -/
def objStored (s : State) (k : Nat) : List Byte :=
  match objAt s k with
  | some v => v
  | none => if k = okCAP_OPER then (objAt s okCAP_CEILING).getD (objDefault okCAP_CEILING) else objDefault k

/-- An object's value as a number. -/
def objNat (s : State) (k : Nat) : Nat := leNat (objStored s k)

/-- An object takes a value. -/
def objPut (k : Nat) (v : List Byte) : Act := effA [.putObj k (some v)]

/-- R618, R627: a counter object of 32 bits rises by 1, and saturates. -/
def objCount (k : Nat) : Act := fun s => objPut k (leBytes 4 (min (2 ^ 32 - 1) (objNat s k + 1))) s

/-- R632: the number of the Ember entry held in SRAM whose ESEQ has the low 16 bits `x`. -/
def embHeld (s : State) (x : Nat) : Option Nat :=
  let n := embNext s
  let d := (n + 65536 - 1 - x) % 65536
  if d < dfld s .EMB_STAT f_EMB_STAT_COUNT then some ((n + 2 ^ 32 - 1 - d) % 2 ^ 32) else none

/-- R632, R640: the journal entry of a number, where it is held. -/
def jrnHeld (s : State) (x : Nat) : Option (List Byte) := s.jrn[(s.jseq + 2 ^ 32 - 1 - x) % 2 ^ 32]?

/-- Bytes that the spec leaves open: `n` words of eight. -/
def freeBytes (s : State) (n : Nat) : List Byte := (List.range n).flatMap (fun i => leBytes 8 (Config.freeWord (s.free + i)).toNat)

/-- R627: SESSION[sid]. -/
def sessWord (s : State) (sid : Nat) : Nat :=
  match s.sess.find? (fun x => x.sid == sid) with
  | some x => 2 ^ 63 + x.role * 2 ^ 61 + x.port * 2 ^ 56 + x.src * 2 ^ 48 + (pilotNow s - x.last) / 25000000 % 65536 * 2 ^ 32 + x.seq
  | none => 0

/-- The Device ID of a marked grade. -/
def deviceId (marked : Nat) : Nat :=
  if marked = 1 then 0x0512 else if marked = 2 then 0x0480 else if marked = 3 then 0x0448 else Config.unmarkedDeviceId.toNat

/-- The derived objects that stand alone. -/
def objDerivedA : List (Nat × (State → List Byte)) := [
  (0x100001, fun _ => leBytes 2 0x1F2C),
  (0x100002, fun s => leBytes 2 (deviceId (dfld s .TILE_GRID f_TILE_GRID_MARKED))),
  (0x100003, fun s => leBytes 1 (dfld s .TILE_GRID f_TILE_GRID_GRADE)),
  (0x100004, fun s => leBytes 1 (dfld s .TILE_GRID f_TILE_GRID_MARKED)),
  (0x100005, fun s => leBytes 1 (dfld s .TILE_GRID f_TILE_GRID_OPTION)),
  (0x100006, fun s => leBytes 8 (fuseAt s (fuseSerial 0)).toNat ++ leBytes 8 (fuseAt s (fuseSerial 1)).toNat),
  (0x100007, fun _ => leBytes 1 Config.stepping.toNat),
  (0x100008, fun s => slotRead s (runningSlot s) 8 4),
  (0x100009, fun s => leBytes 1 (b2n (makerLock s) + 2 * b2n (dbgLock s))),
  (0x10000A, fun s => leBytes 8 (pilotNow s)),
  (0x200003, fun s => leBytes 2 (capNow s)),
  (0x201001, fun s => leBytes 2 (dfld s .PWR_MEAS f_PWR_MEAS_PEAK_1MS)),
  (0x201002, fun s => leBytes 2 (dfld s .PWR_MEAS f_PWR_MEAS_AVG_1S)),
  (0x201003, fun s => leBytes 2 (dfld s .PWR_MEAS f_PWR_MEAS_AVG_10S)),
  (0x202001, fun s => leBytes 1 (pst s f_PWR_STAT_DEGRADED)),
  (0x204002, fun s => leBytes 8 (regOf s (dk .TILE_DOM_FAIL0)).toNat ++ leBytes 1 (regOf s (dk .TILE_DOM_FAIL1)).toNat),
  (0x500002, fun s => leBytes 1 (runningSlot s)),
  (0x503001, fun s => leBytes 1 (b2n s.strapKeeper)),
  (0x602001, fun s => leBytes 4 s.jseq),
  (okJRN_ENTRY, fun s => (jrnHeld s (objNat s okJRN_READ)).getD (freeBytes s 6)),
  (0x700001, fun s => leBytes 4 (dfld s .EMB_STAT f_EMB_STAT_COUNT)),
  (okEMB_ENTRY, fun s => match embHeld s (objNat s okEMB_READ) with
    | some n => embEntry s n
    | none => freeBytes s 4),
  (okMAKER_LOCK, fun s => leBytes 4 (b2n (makerLock s))),
  (okDBG_LOCK, fun s => leBytes 4 (b2n (dbgLock s)))]

/-- The derived objects that come in rows. -/
def objDerivedB : List (Nat × (State → List Byte)) :=
  (List.range 16).map (fun n => (0x300001 + n, fun s => leBytes 2 (dfld s .PWR_TEMP f_PWR_TEMP_TEMP n)))
  ++ (List.range 16).map (fun n => (0x402003 + 256 * n, fun s => leBytes 1 (dfld s .WLP_STAT f_WLP_STAT_STATE n)))
  ++ (List.range 3).map (fun k => (0x501001 + 256 * k, fun s => leBytes 1 (slotStatus s k)))
  ++ (List.range 3).map (fun k => (0x501002 + 256 * k, fun s => slotRead s k 8 4))
  ++ (List.range 3).map (fun k => (0x501003 + 256 * k, fun s => sha384 (slotRead s k 0 4096)))
  ++ (List.range 8).map (fun i => (0x601101 + i, fun s => leBytes 8 (sessWord s (i + 1))))

/-- The value that a READ of an object returns. -/
def objRead (s : State) (k : Nat) : List Byte :=
  match (objDerivedA ++ objDerivedB).find? (fun e => e.1 == k) with
  | some e => e.2 s
  | none => objStored s k

/-- R632: a READ of an entry that is not held returns bytes that the spec does not state (assumption 4): how many words it draws. -/
def objDraws (s : State) (k : Nat) : Nat :=
  if k = okJRN_ENTRY ∧ (jrnHeld s (objNat s okJRN_READ)).isNone then 6
  else if k = okEMB_ENTRY ∧ (embHeld s (objNat s okEMB_READ)).isNone then 4
  else 0

/-! ### The journal (R626) -/

/-- Eight bytes that stand for a value in a journal entry. -/
def jrnValue (v : List Byte) : List Byte := if 8 < v.length then (sha256 v).take 8 else sliceZ v 0 8

/-- Who a journal entry names: role, port, CAN FD source and operator key slot. -/
structure JrnWho where
  role : Nat
  port : Nat
  src  : Nat
  slot : Nat

/-- R626: the device itself. -/
def jrnDevice : JrnWho := ⟨4, 3, 0, 0⟩

/-- A key object. -/
def isKeyObj (k : Nat) : Bool := decide (0x6000 ≤ k / 256 ∧ k / 256 ≤ 0x6002)

/-- The bytes of a journal entry but for its CRC. -/
def jrnBody (s : State) (w : JrnWho) (status k : Nat) (old new : List Byte) : List Byte :=
  let secret := isKeyObj k
  let digest := !secret && (decide (8 < old.length) || decide (8 < new.length))
  leBytes 4 s.jseq ++ leBytes 8 (pilotNow s) ++ leBytes 1 w.role ++ leBytes 1 w.port ++ leBytes 1 w.src ++ leBytes 1 status
    ++ leBytes 2 (k / 256) ++ leBytes 1 (k % 256) ++ leBytes 1 (b2n digest + 2 * b2n secret) ++ leBytes 1 w.slot ++ List.replicate 3 0
    ++ (if secret then List.replicate 16 0 else jrnValue old ++ jrnValue new) ++ List.replicate 4 0

/-- R626, R640: one entry, the oldest making room. -/
def jrnAdd (w : JrnWho) (status k : Nat) (old new : List Byte) : Act := fun s =>
  let b := jrnBody s w status k old new
  [.setJrn (((b ++ leBytes 4 (crc32c b)) :: s.jrn).take 1024), .setJseq ((s.jseq + 1) % 2 ^ 32)]

/-- R626: the writes that are not journaled: OFFSET, DATA, JRN_READ and EMB_READ. -/
def jrnExempt (k : Nat) : Bool := k == okOFFSET || k == okDATA || k == okJRN_READ || k == okEMB_READ

/-- R626: the device itself changes an object. -/
def objDevice (k : Nat) (v : List Byte) : Act := fun s =>
  let old := objStored s k
  if old = v then [] else seqA [objPut k v, jrnAdd jrnDevice 0 k old v] s

/-! ### The registers that objects load (R614, R655) -/

/-- A field of a register takes an object's value, by the register's own rule. -/
def capLatchObj (lo x : Nat) : Act :=
  pwrCapLatchWr .glovos (BitVec.ofNat 64 (x * 2 ^ lo)) (BitVec.ofNat 64 (0xFFFF * 2 ^ lo))

/-- PWR_THERM_CFG as it would be with the warning or the trip level replaced. -/
def thermWith (s : State) (k : Nat) (x : Nat) : W64 :=
  let f := if k = okWARN_T then f_PWR_THERM_CFG_WARN_T else f_PWR_THERM_CFG_TRIP_T
  fset (regOf s (dk .PWR_THERM_CFG)) f x

/-- R629: the register of 0x4000.sub: SYS_CHIP, SYS_SHAPE0, SYS_SHAPE1, SYS_PORT_MAP0 and 1, and its offset among the device registers. -/
def sysObjReg (sub : Nat) : RKey × Nat :=
  match sub with
  | 1 => (dk .SYS_CHIP, 0xC00000)
  | 2 => (dk .SYS_SHAPE0, 0xC00008)
  | 3 => (dk .SYS_SHAPE1, 0xC00010)
  | 4 => (dk .SYS_PORT_MAP 0, 0xC00018)
  | _ => (dk .SYS_PORT_MAP 1, 0xC00020)

/-- The object is one of 0x4000.01 to .05. -/
def isSysObj (k : Nat) : Bool := k / 256 == 0x4000

/-- What an object's value does to the register that its description names. -/
def objLoad (k : Nat) (v : List Byte) : Act := fun s =>
  let x := leNat v
  let n := k / 256 - 0x4020
  if k = okCAP_OPER then capLatchObj 0 x s
  else if k = okBRAKE_LEVEL then capLatchObj 48 x s
  else if k = okWARN_T ∨ k = okTRIP_T then pwrThermWr .glovos (thermWith s k x) allBits s
  else if k = okDOM_ACCEPT then
    seqA [effA [.reg (dk .TILE_DOM_ACCEPT0) (BitVec.ofNat 64 x), .reg (dk .TILE_DOM_ACCEPT1) (BitVec.ofNat 64 (x / 2 ^ 64))], pendingA] s
  else if isSysObj k then
    let r := sysObjReg (k % 256)
    nqWrite r.1 r.2 (BitVec.ofNat 64 x) allBits s
  else if k = okCAN_NODE then [.fld (dk .GLV_CAN_CFG) f_GLV_CAN_CFG_NODE x]
  else if k = okHELLO_S then [.fld (dk .GLV_CFG) f_GLV_CFG_HELLO_S x]
  else if k = okREJOIN n then [.fld (dk .WLP_CFG n) f_WLP_CFG_REJOIN_MS x]
  else if k = okEXPECT n then wlpExpectA n (BitVec.ofNat 64 x) allBits s
  else []

/-- R655: the plane's registers are written again from their objects. -/
def objRestore : Act := fun s =>
  eachA [okCAP_OPER, okBRAKE_LEVEL] (fun k s => objLoad k (objStored s k) s) s

/-- The plane writes both thermal levels together. -/
def thermRestore : Act := fun s =>
  let w := fset (fset (regOf s (dk .PWR_THERM_CFG)) f_PWR_THERM_CFG_WARN_T (objNat s okWARN_T)) f_PWR_THERM_CFG_TRIP_T (objNat s okTRIP_T)
  pwrThermWr .glovos w allBits s

/-! ### The objects' own rules (R628 to R634, R688 to R690) -/

def dsOK : Nat := 0x00
def dsNO_OBJECT : Nat := 0x01
def dsNO_SUB : Nat := 0x02
def dsACCESS : Nat := 0x03
def dsRIGHTS : Nat := 0x04
def dsLENGTH : Nat := 0x05
def dsRANGE : Nat := 0x06
def dsLIMIT : Nat := 0x07
def dsQUIESCE : Nat := 0x08
def dsAUTH : Nat := 0x09
def dsSEQ : Nat := 0x0A
def dsLOCKED : Nat := 0x0B
def dsBUSY : Nat := 0x0C
def dsLOCKOUT : Nat := 0x0D
def dsFLASH : Nat := 0x0E
def dsFORMAT : Nat := 0x0F
def dsNO_SESSION : Nat := 0x10

/-- R633, R634: the value that burns a lock. -/
def lockWord : Nat := 0x4C4F434B

/-- R688: the slot that TARGET names. -/
def dlTarget (s : State) : Nat := objNat s okTARGET

/-- R690: COMMIT 2 is accepted. -/
def switchOk (s : State) : Bool :=
  let k := dlTarget s
  slotStatus s k == 1 && sameFabric s k (runningSlot s) && k != 0

/-- R688: the outcome that the rules of DATA give. -/
def dataRule (s : State) (v : List Byte) : Nat :=
  let off := objNat s okOFFSET
  if slotSize < off + v.length ∨ slotStatus s (dlTarget s) ≠ 3 then dsRANGE
  else if s.imgErased ≤ (off + v.length - 1) / 65536 then dsBUSY
  else dsOK

/-- R630: a DOM_ACCEPT write names a domain that is neither failed nor accepted, or a bit that is none. -/
def domAcceptBad (s : State) (x : Nat) : Bool :=
  x / 2 ^ 68 != 0 || (List.range 68).any (fun d => bitOf x d && !bitOf (domSets s) d && !bitOf (domSets s) (68 + d))

/-- Orders 9 and 10 of R620 for a write of a value of the right length. -/
def objRule (s : State) (k : Nat) (v : List Byte) : Nat :=
  let x := leNat v
  let range := fun (ok : Bool) => if ok then dsOK else dsRANGE
  if k = okCAP_OPER then (if x < 400 then dsRANGE else if objNat s okCAP_CEILING < x then dsLIMIT else dsOK)
  else if k = okCAP_CEILING ∨ k = okBRAKE_LEVEL then range (!outside x 400 1500)
  else if k = okWARN_T ∨ k = okTRIP_T then
    let w := thermWith s k x
    let warn := temp16 (fget w f_PWR_THERM_CFG_WARN_T)
    let trip := temp16 (fget w f_PWR_THERM_CFG_TRIP_T)
    range (!(decide (trip ≤ warn) || decide (1920 < trip)))
  else if k = okDOM_ACCEPT then range (!domAcceptBad s x)
  else if isSysObj k then
    let r := (sysObjReg (k % 256)).1
    if wouldBe s r (BitVec.ofNat 64 x) allBits = regOf s r ∨ isQuiesced s then dsOK else dsQUIESCE
  else if k = okCAN_NODE then range (decide (x ≤ 126))
  else if k = okACTIVE_SLOT then range ((x == 1 || x == 2) && slotStatus s x == 1)
  else if k = okTARGET then range (decide (x ≤ 2) && x != runningSlot s)
  else if k = okOFFSET then range (x % 4 == 0 && decide (x < slotSize))
  else if k = okDATA then dataRule s v
  else if k = okCOMMIT then
    (if x ≠ 1 ∧ x ≠ 2 then dsRANGE
     else if s.imgCheck.isSome then dsBUSY
     else range (x == 1 || switchOk s))
  else if k = okJRN_READ then range (jrnHeld s x).isSome
  else if k = okEMB_READ then range (embHeld s x).isSome
  else if k = okMAKER_LOCK ∨ k = okDBG_LOCK then range (x == lockWord)
  else dsOK

/-- R633: the writes that MAKER_LOCK bars. -/
def lockBars (k : Nat) (v : List Byte) : Bool :=
  k / 256 / 4096 == 8 || k == okMAKER_KEY || k == okTRIP_T || (k == okTARGET && v == [0])

/-- R627, R688: the role that a write needs. -/
def writeRight (r : ObjRow) (k : Nat) (v : List Byte) : Nat := if k = okTARGET ∧ v = [0] then 3 else r.wr

/-- R613, R688: a value's length fits the type. -/
def lengthOk (r : ObjRow) (k : Nat) (v : List Byte) : Bool :=
  if r.len = 0 then decide (v.length ≤ 1024) && (k != okDATA || v != []) else v.length == r.len

/-- R676: the flash controller refuses to write GOLDEN: no maker session is open, or MAKER_LOCK reads 1. -/
def goldenShut (s : State) : Bool := makerLock s || !s.sess.any (fun x => x.open_ && x.role == 3)

/-- Order 11 of R620: the write reaches the flash, and fails there. -/
def flashRefuses (s : State) (r : ObjRow) (k : Nat) (v : List Byte) (fail : Bool) : Bool :=
  (fail && (r.keep == .p || k == okDATA || k == okTARGET))
    || (goldenShut s && ((k == okDATA && dlTarget s == 0) || (k == okTARGET && v == [0])))

/-! ### What a write does -/

/-- R697: a slot left WRITING by an abandoned download becomes BAD. -/
def abandonOthers (k : Nat) : Act := fun s =>
  ([0, 1, 2].filter (fun j => j != k && slotStatus s j == 3)).map (fun j => .putSlotSt j 2)

/-- R688: a write of TARGET. -/
def targetA (k : Nat) : Act := seqA [abandonOthers k, slotPut k 3, effA [.setImgErased 0], objPut okTARGET [BitVec.ofNat 8 k],
  objPut okOFFSET (leBytes 4 0)]

/-- R688: a write of DATA. -/
def dataA (v : List Byte) : Act := fun s =>
  let off := objNat s okOFFSET
  seqA [flashWrite (slotBase (dlTarget s) + off) v, objPut okOFFSET (leBytes 4 (off + v.length))] s

/-- R688, R690: a write of COMMIT: the check starts, or the slot becomes the running slot. -/
def commitObjA (x : Nat) : Act := fun s =>
  if x = 1 then [.setImgCheck (some (dlTarget s))] else [.fld (dk .BOOT_STAT) f_BOOT_STAT_RUNNING (dlTarget s)]

/-- R628: a write of CAP_CEILING; CAP_OPER follows it down, and keeps its value otherwise. -/
def ceilingA (v : List Byte) : Act := fun s =>
  let oper := objStored s okCAP_OPER
  if leNat v < leNat oper then
    seqA [objPut okCAP_CEILING v, objPut okCAP_OPER v, jrnAdd jrnDevice 0 okCAP_OPER oper v, capLatchObj 0 (leNat v)] s
  else seqA [objPut okCAP_CEILING v, objPut okCAP_OPER oper] s

/-- What a write that is answered OK does; its own journal entry has been made. CAN_NODE's register follows the response (R631). -/
def objApply (k : Nat) (v : List Byte) : Act := fun s =>
  let x := leNat v
  if k = okCAP_CEILING then ceilingA v s
  else if k = okTARGET then targetA x s
  else if k = okDATA then dataA v s
  else if k = okCOMMIT then commitObjA x s
  else if k = okFUSE_DATA then seqA [objPut k v, fuseBurn (objNat s okFUSE_ADDR) x] s
  else if k = okMAKER_LOCK then fuseBurn fuseLocks 1 s
  else if k = okDBG_LOCK then fuseBurn fuseLocks 2 s
  else seqA [objPut k v, whenA (k != okCAN_NODE) (objLoad k v)] s

end Sys2Proof.Machine
end

