-- ==== Sys2Proof/Machine/Doe.lean ====
section
/-!
DEFINITION. Sys2Proof/Machine/Doe.lean: the DOE mailbox (R572, R573): what the plane answers, Busy, and an Abort.
-/
namespace Sys2Proof.Machine

/-- The firmware runs on an awake plane; in RECOVERY the boot ROM runs instead, and serves only re-flash frames (R691). -/
def fwRuns (s : State) : Bool := glvAwake s && dfld s .BOOT_STAT f_BOOT_STAT_STAGE != 7

/-! ### Answers (R572, R573) -/

/-- The digest of the running image's section of a type; of an absent one, that of no bytes. -/
def sectionDigest (s : State) (ty : Nat) : List Byte :=
  match ofType (sectionsOf (slotRead s (runningSlot s) 0 4096)) ty with
  | x :: _ => x.digest
  | [] => sha384 []

/-- R573: the runtime is loaded. -/
def runtimeLoaded (s : State) : Bool :=
  dfld s .BOOT_CFG f_BOOT_CFG_RT_EN == 1 && !(ofType (sectionsOf (slotRead s (runningSlot s) 0 4096)) 4).isEmpty

/-- R573: a measurement; none for an index that is none. Those whose contents have no given encoding are left open (assumption 4). -/
def measure (s : State) (i : Nat) : Option (List Byte) :=
  match i with
  | 1 => some (sectionDigest s 1)
  | 2 => some (sectionDigest s 2)
  | 3 => some (sectionDigest s 3)
  | 4 => some (if runtimeLoaded s then sectionDigest s 4 else List.replicate 48 0)
  | 5 => some (leBytes 48 (Config.measureDigest 5 (leBytes 1 (runningSlot s) ++ leBytes 1 (b2n (makerLock s) + 2 * b2n (dbgLock s))
      ++ (List.range 4).flatMap (rootHash s))).toNat)
  | 6 => some (leBytes 48 (Config.measureDigest 6 (leBytes 1 (dfld s .TILE_GRID f_TILE_GRID_MARKED)
      ++ leBytes 1 (dfld s .TILE_GRID f_TILE_GRID_GRADE) ++ leBytes 1 (dfld s .TILE_GRID f_TILE_GRID_OPTION))).toNat)
  | _ => none

/-- The blocks that GET_MEASUREMENTS names: one, or with 255 all of them. -/
def measureBlocks (s : State) (i : Nat) : List (Nat × List Byte) :=
  ((List.range 6).map (· + 1)).filterMap (fun k => if i = k ∨ i = 255 then (measure s k).map (fun d => (k, d)) else none)

/-- A signature by the device's key, whose value is left open (assumption 4): 96 bytes. -/
def doeSign (s : State) : List Byte := freeBytes s 12

/-- R572: the chain of a certificate slot; only slot 0 holds one. -/
def certOf (slot : Nat) : Option (List Byte) := if slot = 0 then some Config.certChain else none

/-- R572: the answer to a request. -/
def doeAnswer (s : State) (r : DoeReq) : DoeAns :=
  match r with
  | .discovery i => if i = 0 then .discovery 0 1 else if i = 1 then .discovery 1 0 else .unsupported
  | .getVersion => .version 1 2
  | .getCapabilities => .capabilities true true true
  | .negotiateAlgorithms => .algorithms true true
  | .getDigests => .digests [(0, sha384 Config.certChain)]
  | .getCertificate slot off len =>
    match certOf slot with
    | some c => .certificate ((c.drop off).take len) (c.length - off - len)
    | none => .unsupported
  | .challenge slot nonce =>
    match certOf slot with
    | some c => .challengeAuth (sha384 c) nonce (doeSign s)
    | none => .unsupported
  | .getMeasurements i sign slot _ =>
    if sign ∧ (certOf slot).isNone then .unsupported
    else .measurements (measureBlocks s i) (if sign then some (doeSign s) else none)
  | .other => .unsupported

/-- R573: the firmware answers the request that waits. -/
def doeServe : Act := fun s =>
  match s.doe with
  | none => []
  | some r => [.setDoe none, .setDoeAns (some (doeAnswer s r)), .setFree (s.free + 12)]

/-- R572: a request is written; while DOE Busy reads set, the mailbox takes none. -/
def doeRequestA (r : DoeReq) : Act := fun s =>
  if s.doe.isSome then []
  else seqA [effA [.setDoe (some r), .setDoeAns none], fun s => if fwRuns s then doeServe s else []] s

/-! ### The commands -/

/-- R572: a DOE request. -/
def execDoeRequest (r : DoeReq) (s : State) : Host.Outcome State Fault Refusal := runA (doeRequestA r) s

/-- R573: a DOE Abort. -/
def execDoeAbort (s : State) : Host.Outcome State Fault Refusal := runA (effA [.setDoe none, .setDoeAns none]) s

end Sys2Proof.Machine
end

