-- ==== Sys2Proof/Machine/GlvPort.lean ====
section
/-!
DEFINITION. Sys2Proof/Machine/GlvPort.lean: how requests and responses travel (R616 to R619): the frame, CAN FD segments (R601, R602, R617),
the SPI mailbox (R599, R618), the PCIe mailbox (R635); what the firmware does as soon as it runs; HELLO words (R605).
-/
namespace Sys2Proof.Machine

/-- R737: the pilot domain is out of its power-on reset. -/
def pilotOn (s : State) : Bool := dfld s .GLV_FAST f_GLV_FAST_PRSNT == 1

/-- The pilot domain is out of its power-on reset, in normal operation or in test mode (R736, R743, R750). -/
def pilotRuns (s : State) : Bool := pilotOn s || s.testMode

/-- The plane is RESTARTING or HALTED (R590). -/
def glvDeaf (s : State) : Bool := decide (3 ≤ glvState s)

/-! ### The frame (R616) -/

def frVer (bs : List Byte) : Nat := leAt bs 0 1 / 16
def frOp (bs : List Byte) : Nat := leAt bs 0 1 % 16
def frSid (bs : List Byte) : Nat := leAt bs 1 1
def frLen (bs : List Byte) : Nat := leAt bs 2 2
def frIdx (bs : List Byte) : Nat := leAt bs 4 2
def frSub (bs : List Byte) : Nat := leAt bs 6 1
def frSeq (bs : List Byte) : Nat := leAt bs 8 4
def frPayload (bs : List Byte) : List Byte := sliceZ bs 16 (frLen bs)
def frMac (bs : List Byte) : List Byte := sliceZ bs (16 + frLen bs) 16

/-- R616: the size that a header declares. -/
def frSize (bs : List Byte) : Nat := 16 + frLen bs + (if frSid bs ≠ 0 ∧ frOp bs ≠ 4 then 16 else 0)

/-- R618, R620: the part of order 1 that a header alone decides. -/
def frHeadOk (bs : List Byte) : Bool := frVer bs == 1 && decide (1 ≤ frOp bs ∧ frOp bs ≤ 5) && decide (frLen bs ≤ 1024)

/-- R617, R620: the frame has the size that it declares. On CAN FD its last segment may be padded. -/
def frSizeOk (q : DictReq) : Bool :=
  let n := q.bytes.length
  if q.port = 0 then decide (frSize q.bytes ≤ n ∧ n ≤ ceilDiv (frSize q.bytes) 64 * 64) else n == frSize q.bytes

/-- Order 1 of R620. -/
def frOk (q : DictReq) : Bool := decide (16 ≤ q.bytes.length) && frHeadOk q.bytes && frSizeOk q

/-- R616: a response without its MAC; a status of AUTH or FORMAT carries SID 0 (R620). -/
def frAnswer (bs : List Byte) (sid status : Nat) (payload : List Byte) : List Byte :=
  leBytes 1 (16 + (8 + frOp bs) % 16) ++ leBytes 1 (if status = dsAUTH ∨ status = dsFORMAT then 0 else sid) ++ leBytes 2 payload.length
    ++ sliceZ bs 4 3 ++ leBytes 1 status ++ sliceZ bs 8 8 ++ payload

/-! ### CAN FD (R600 to R602, R617) -/

/-- The node's own number. -/
def canNode (s : State) : Nat := dfld s .GLV_CAN_CFG f_GLV_CAN_CFG_NODE

/-- The controller is bus-off. -/
def canOff (s : State) : Bool := dfld s .GLV_CAN_STAT f_GLV_CAN_STAT_ERRSTATE == 2

/-- What the last command sent on CAN FD is forgotten. -/
def canFresh : Act := effA [.setCanOut []]

/-- Frames are sent, or wait for the end of bus-off; node 0 sends nothing (R601). -/
def canSend (fs : List CanFrame) : Act := fun s =>
  if canNode s = 0 then []
  else if canOff s then [.setCanWait (s.canWait ++ fs)]
  else [.setCanOut (s.canOut ++ fs), .cnt (dk .GLV_CAN_TX_CNT) f_GLV_CAN_TX_CNT_COUNT fs.length]

/-- R600: a data field of 64 B. -/
def canFrame (prio dst src seg xid : Nat) (bs : List Byte) : CanFrame :=
  ⟨BitVec.ofNat 3 prio, BitVec.ofNat 7 dst, BitVec.ofNat 7 src, BitVec.ofNat 3 seg, BitVec.ofNat 9 xid, sliceZ bs 0 64⟩

/-- R617: the segments of a response. -/
def canSegments (s : State) (q : DictReq) (bs : List Byte) : List CanFrame :=
  let n := ceilDiv bs.length 64
  (List.range n).map (fun i =>
    let seg := if n = 1 then 0 else if i = 0 then 1 else if i + 1 = n then 3 else 2
    canFrame q.prio q.src (canNode s) seg q.xid (bs.drop (64 * i)))

/-- R602: an error of reassembly. -/
def canAsmErr : Act := effA [.cnt (dk .GLV_CAN_REASM_ERR_CNT) f_GLV_CAN_REASM_ERR_CNT_COUNT 1]

/-- The open reassembly of a source and transaction number. -/
def canOpen (s : State) (src xid : Nat) : Option CanAsm := s.canAsm.find? (fun a => a.src == src && a.xid == xid)

/-- The reassemblies but for one. -/
def canOthers (s : State) (src xid : Nat) : List CanAsm := s.canAsm.filter (fun a => !(a.src == src && a.xid == xid))

/-- A request takes its place behind those that wait (R620). -/
def dictPush (q : DictReq) : Act := fun s => [.setDictQ (s.dictQ ++ [q])]

/-- R602, R692: the plane takes one frame: a re-flash frame waits for its own handling, and the rest are joined. -/
def canJoin (f : CanFrame) : Act := fun s =>
  let src := f.src.toNat
  let xid := f.xid.toNat
  let prio := f.prio.toNat
  if xid = 0x1FF ∧ f.seg.toNat = 0 then (if outside (leAt f.data 0 1) 0x51 0x55 then [] else [.setRflQ (s.rflQ ++ [f])])
  else if !fwRuns s then []
  else match f.seg.toNat with
    | 0 => dictPush ⟨0, src, prio, xid, f.data⟩ s
    | 1 => seqA [whenA (canOpen s src xid).isSome canAsmErr, effA [.setCanAsm (canOthers s src xid ++ [⟨prio, src, xid, f.data⟩])]] s
    | 2 => match canOpen s src xid with
      | none => canAsmErr s
      | some a => [.setCanAsm (canOthers s src xid ++ [⟨a.prio, src, xid, a.data ++ f.data⟩])]
    | 3 => match canOpen s src xid with
      | none => canAsmErr s
      | some a => seqA [effA [.setCanAsm (canOthers s src xid)], dictPush ⟨0, src, a.prio, xid, a.data ++ f.data⟩] s
    | _ => canAsmErr s

/-- The plane takes every frame of the receive buffer. -/
def canDrain : Act := fun s => seqA [effA [.setCanRx []], eachA s.canRx canJoin] s

/-! ### The SPI mailbox (R599, R618) -/

/-- The words in a direction's FIFO: 4 KiB. -/
def mbxWords : Nat := 1024

/-- The words of the board-to-plane mailbox; breaks take no room. -/
def spiRxWords (s : State) : Nat := (s.spiRx.filter (·.isSome)).length

/-- R618: bytes in words, the first byte at the top. -/
def toWords (bs : List Byte) : List Nat :=
  (List.range (ceilDiv bs.length 4)).map (fun i => beNat (sliceZ bs (4 * i) 4))

/-- R604, R618: the responses that find room enter the plane-to-board mailbox, whole and in order; `k` bounds their number. -/
def spiPump : Nat → Act
  | 0 => noA
  | k + 1 => fun s =>
    match s.spiRsp with
    | [] => []
    | r :: l =>
      if mbxWords < s.spiTx.length + ceilDiv r.length 4 then []
      else seqA [effA [.setSpiRsp l, .setSpiTx (s.spiTx ++ toWords r)], whenA s.spiTx.isEmpty (alertA 6), spiPump k] s

/-- A response goes to the SPI mailbox. -/
def spiAnswer (bs : List Byte) : Act := fun s =>
  seqA [effA [.setSpiRsp (s.spiRsp ++ [bs])], spiPump (s.spiRsp.length + 1)] s

/-- What parsing the board-to-plane stream yields: what stays, whether words are skipped, the frames, and the frames discarded. -/
structure SpiParse where
  rest : List (Option Nat)
  skip : Bool
  reqs : List DictReq
  bad  : Nat

/-- The stream up to its first break, and whether there is one. -/
def beforeBreak : List (Option Nat) → List Nat × Bool
  | [] => ([], false)
  | none :: _ => ([], true)
  | some w :: l => ((w :: (beforeBreak l).1), (beforeBreak l).2)

/-- R618: the stream is cut into frames; `k` bounds the steps. -/
def spiParse : Nat → SpiParse → SpiParse
  | 0, p => p
  | k + 1, p =>
    match p.rest with
    | [] => p
    | none :: l => spiParse k { p with rest := l, skip := false }
    | some _ :: l =>
      if p.skip then spiParse k { p with rest := l }
      else
        let run := beforeBreak p.rest
        let hd := (run.1.take 4).flatMap (beBytes 4)
        let need := ceilDiv (frSize hd) 4
        if run.1.length < 4 ∨ (frHeadOk hd ∧ run.1.length < need) then
          if run.2 then spiParse k { p with rest := p.rest.drop run.1.length, bad := p.bad + 1 } else p
        else if !frHeadOk hd then
          spiParse k { p with rest := p.rest.drop 4, skip := true, reqs := p.reqs ++ [⟨1, 0, 0, 0, hd⟩] }
        else
          let bs := ((run.1.take need).flatMap (beBytes 4)).take (frSize hd)
          spiParse k { p with rest := p.rest.drop need, reqs := p.reqs ++ [⟨1, 0, 0, 0, bs⟩] }

/-- The plane takes the complete frames out of the board-to-plane mailbox. -/
def spiTake : Act := fun s =>
  let p := spiParse (s.spiRx.length + 1) ⟨s.spiRx, s.spiSkip, [], 0⟩
  seqA [effA [.setSpiRx p.rest, .setSpiSkip p.skip, .setDictQ (s.dictQ ++ p.reqs)],
    eachA (List.range p.bad) (fun _ => objCount okMBX_DISCARD)] s

/-! ### The PCIe mailbox (R635) -/

/-- A response is written to the PCIe mailbox. -/
def mbxAnswer (bs : List Byte) : Act := seqA [
  effA ((List.range (ceilDiv bs.length 8)).map (fun i => .reg (dk .GLV_MBX_RSP i) (BitVec.ofNat 64 (leNat (sliceZ bs (8 * i) 8))))),
  effA [.fld (dk .GLV_MBX_STAT) f_GLV_MBX_STAT_BUSY 0, .fld (dk .GLV_MBX_STAT) f_GLV_MBX_STAT_RSP_LEN bs.length,
    setBit (dk .GLV_MBX_STAT) f_GLV_MBX_STAT_DONE],
  hostEvt 0xF1]

/-- R617 to R619: a response goes back to where its request came from. -/
def dictAnswer (q : DictReq) (bs : List Byte) : Act := fun s =>
  if q.port = 0 then canSend (canSegments s q bs) s
  else if q.port = 1 then spiAnswer bs s
  else mbxAnswer bs s

/-- R620: requests at the front whose OP names no operation are answered FORMAT; `k` bounds their number. -/
def dictBad : Nat → Act
  | 0 => noA
  | k + 1 => fun s =>
    match s.dictQ with
    | [] => []
    | q :: l =>
      if fwRuns s ∧ (frOp q.bytes = 0 ∨ 5 < frOp q.bytes) then
        seqA [effA [.setDictQ l], dictAnswer q (frAnswer q.bytes 0 dsFORMAT []), dictBad k] s
      else []

/-- The requests that no row of the table handles are cleared from the front. -/
def dictClear : Act := fun s => dictBad s.dictQ.length s

/-! ### HELLO words (R605) -/

/-- A HELLO word of a port. -/
def helloWord (s : State) (n : Nat) : W64 :=
  BitVec.ofNat 64 (2 ^ 60 + n * 2 ^ 56 + dfld s .TILE_GRID f_TILE_GRID_GRADE * 2 ^ 48 + dfld s .TILE_GRID f_TILE_GRID_OPTION * 2 ^ 44
    + glvState s * 2 ^ 41 + chipId s * 2 ^ 24)

/-- A HELLO word on every ACTIVE port. -/
def helloSend : Act := seqA [
  effA [.setHelloDue false],
  eachA (List.range 16) (fun n => fun s => if portState s n = 2 then wlpMgmtTxA n (helloWord s n) s else [])]

/-! ### What the plane does as soon as it runs -/

/-- The plane takes what has come for it, and sends the HELLO words that are due. -/
def glvServe : Act := seqA [
  canDrain,
  (fun s => if fwRuns s then seqA [spiTake, dictClear, whenA s.helloDue helloSend, doeServe] s else [])]

end Sys2Proof.Machine
end

