-- ==== Sys2Proof/Machine/Glv.lean ====
section
/-!
DEFINITION. Sys2Proof/Machine/Glv.lean: the Glovos management plane: sleep and wake (R583 to R585), restarts (R586 to R590, R606), the
watchdog, the alert (R604) and management words (R605).
-/
namespace Sys2Proof.Machine

/-! ### Restart (R586 to R589) -/

/-- R586: what STATE a cause can arise in: the cores run for 1 to 4, and a watchdog and firmware need them awake or restarting. -/
def causeArises (s : State) (cause : Nat) : Bool :=
  let st := glvState s
  match cause with
  | 1 => decide (1 ≤ st ∧ st ≤ 3)
  | 2 => st == 2
  | 3 => decide (1 ≤ st ∧ st ≤ 3)
  | 4 => st == 2 || st == 3
  | _ => st != 3

/-- R589: this cause would start the fourth restart whose cause falls within 10 s of the first of them. -/
def fourthCause (s : State) : Bool :=
  match s.glvRst[2]? with
  | some t => decide (pilotNow s - t ≤ 250000000)
  | none => false

/-- R587, R635: what a restart clears: the mailboxes, the reassembly, and what Glovos SRAM held. A PCIe request is LOST. -/
def restartClear : Act := seqA [
  effA [.setSpiRx [], .setSpiTx [], .setSpiSkip false, .setSpiRsp [], .setCanAsm [], .setDictQ [], .setSess [], .setImgCheck none,
    .setRflQ [], .setRfl ⟨0, 0, 0, 0, 0, []⟩, .setGlvWdog 0, .fld (dk .BOOT_RFL_STAT) f_BOOT_RFL_STAT_STATE 0],
  slotsCut,
  (fun s => if dfld s .GLV_MBX_STAT f_GLV_MBX_STAT_BUSY = 1 then
      [.fld (dk .GLV_MBX_STAT) f_GLV_MBX_STAT_BUSY 0, setBit (dk .GLV_MBX_STAT) f_GLV_MBX_STAT_LOST]
    else [])]

/-- R587: a restart begins. -/
def restartBegin (cause : Nat) : Act := fun s => seqA [
  effA [.fld (dk .GLV_STAT) f_GLV_STAT_STATE 3, setBit (dk .GLV_STAT) f_GLV_STAT_RESTARTING, .fld (dk .GLV_STAT) f_GLV_STAT_HALTED 0,
    .fld (dk .GLV_STAT) f_GLV_STAT_LAST_CAUSE cause, .cnt (dk .GLV_STAT) f_GLV_STAT_RESTARTS 1,
    .setGlvCauseAt (pilotNow s), .setGlvRst ((pilotNow s :: s.glvRst).take 3)],
  restartClear, alertA 3] s

/-- R586, R589: a restart cause arises. HALTED is left only by a write of GLV_CTRL.RESTART, which clears the count of restarts. -/
def restartA (cause : Nat) : Act := fun s =>
  if !causeArises s cause then []
  else if glvState s = 4 then seqA [effA [.setGlvRst []], restartBegin cause] s
  else if fourthCause s then
    seqA [effA [.fld (dk .GLV_STAT) f_GLV_STAT_LAST_CAUSE cause], restartClear, glvHalt] s
  else restartBegin cause s

/-- R587, R588, R655: the restart ends: the firmware has restored its state, or its slot fails and the plane halts. -/
def restartDone : Act := fun s =>
  let k := runningSlot s
  if glvState s ≠ 3 then []
  else if !firmwareOk s k then glvHalt s
  else seqA [
    objRestore, thermRestore,
    (fun s => [.fld (dk .GLV_STAT) f_GLV_STAT_STATE 2, .fld (dk .GLV_STAT) f_GLV_STAT_RESTARTING 0, .setGlvWakeReq false, .setGlvWdog 0,
      .fld (dk .GLV_GAP_LAST) f_GLV_GAP_LAST_TICKS ((pilotNow s - s.glvCauseAt) % 2 ^ 32)]),
    (fun s => raiseErr 0x0601 2 (dfld s .GLV_STAT f_GLV_STAT_LAST_CAUSE) 0 s.glvCauseAt s),
    glvServe] s

/-! ### Sleep and wake (R583 to R585) -/

/-- R583, R584: a wake event starts an asleep plane. -/
def wakeEventA : Act := fun s =>
  if s.glvWakeReq ∧ glvState s = 0 then
    [.fld (dk .GLV_STAT) f_GLV_STAT_STATE 1, .cnt (dk .GLV_WAKE_CNT) f_GLV_WAKE_CNT_COUNT 1]
  else []

/-- R583: the first instruction runs. -/
def glvWakeDoneA : Act := fun s =>
  if glvState s = 1 then seqA [effA [.fld (dk .GLV_STAT) f_GLV_STAT_STATE 2, .setGlvWakeReq false], glvServe] s else []

/-- R585: what may put the plane to sleep: both cores wait, so nothing is left for the firmware to do. -/
def mayGlvSleep (s : State) : Bool :=
  fwRuns s && dfld s .GLV_CFG f_GLV_CFG_SLEEP_EN == 1 && !s.glvWakeReq && s.dictQ.isEmpty && s.rflQ.isEmpty && s.canRx.isEmpty
    && s.imgCheck.isNone && s.doe.isNone && dfld s .EMB_STAT f_EMB_STAT_COPY_BUSY == 0 && dfld s .BOOT_RFL_STAT f_BOOT_RFL_STAT_STATE == 0
    && s.wlp.all (fun e => e.2.mRxq.isEmpty)

/-- R585: the idle conditions have held for IDLE_US. -/
def glvSleepA : Act := fun s => if mayGlvSleep s then [.fld (dk .GLV_STAT) f_GLV_STAT_STATE 0] else []

/-- R586: the ticks that the watchdog allows; 0 ms acts as 1. -/
def wdogLimit (s : State) : Nat := max 1 (dfld s .GLV_CFG f_GLV_CFG_WDOG_MS) * 25000

/-- R586: the watchdog expires. -/
def watchdogA : Act := fun s => if wdogLimit s ≤ s.glvWdog then restartA 2 s else []

/-- R584, R586, R589: a write to GLV_CTRL. -/
def glvCtrlA (v : Nat) : Act := seqA [whenA (bitOf v 0) glvWake, whenA (bitOf v 1) (restartA 5)]

/-- R604: a write to GLV_ALERT_SET. -/
def alertSetA (v : Nat) : Act := whenA (bitOf v 8) (alertA 8)

/-- R605: the HELLO timer. -/
def helloTimerA : Act := fun s =>
  if dfld s .GLV_CFG f_GLV_CFG_HELLO_S = 0 then [] else if fwRuns s then helloSend s else .setHelloDue true :: glvWake s

/-- R605: the plane reads one management word of a port. -/
def mgmtWordA (n : Nat) : Act := fun s =>
  if !fwRuns s ∨ (wlp s n).mRxq = [] then []
  else
    let w := wlpMgmtHead s n
    seqA [wlpMgmtPop n,
      (if w.toNat / 2 ^ 60 = 1 then objDevice (okHELLO n) (leBytes 8 w.toNat)
       else effA [.cnt (dk .GLV_MGMT_BAD_CNT) f_GLV_MGMT_BAD_CNT_COUNT 1])] s

/-- R579, R586: one tick of PCLK: the pilot counter rises, and while the plane is awake the count of its watchdog (assumption 3). -/
def pilotTickA : Act := fun s =>
  if pilotRuns s then
    .fld (dk .GLV_PILOT) f_GLV_PILOT_TICKS (pilotNow s + 1) :: (if glvAwake s then [.setGlvWdog (s.glvWdog + 1)] else [])
  else []

/-- R579: what the block does while no command waits. -/
def pilotTick (s : State) : Host.Outcome State Fault Refusal := runA pilotTickA s

/-! ### The commands -/

/-- R584: a wake event starts GCLK. -/
def execGlvWakeEvent (s : State) : Host.Outcome State Fault Refusal := runA wakeEventA s

/-- R583: the plane is AWAKE. -/
def execGlvWakeComplete (s : State) : Host.Outcome State Fault Refusal := runA (seqA [canFresh, glvWakeDoneA]) s

/-- R585: the plane enters ASLEEP. -/
def execGlvSleepEnter (s : State) : Host.Outcome State Fault Refusal := runA glvSleepA s

/-- R580: the comparator finds the cores' outputs to differ. -/
def execGlvLockstepMismatch (s : State) : Host.Outcome State Fault Refusal := runA (restartA 1) s

/-- R586: no kick within WDOG_MS. -/
def execGlvWatchdogExpire (s : State) : Host.Outcome State Fault Refusal := runA watchdogA s

/-- R581: an uncorrectable error of Glovos SRAM. -/
def execGlvSramUe (s : State) : Host.Outcome State Fault Refusal := runA (restartA 3) s

/-- R586, R690: the firmware requests a restart. -/
def execGlvFirmwareRestart (s : State) : Host.Outcome State Fault Refusal := runA (restartA 4) s

/-- R589: a write of GLV_CTRL.RESTART. -/
def execGlvCtrlRestart (s : State) : Host.Outcome State Fault Refusal := runA (glvCtrlA 2) s

/-- R584: a write of GLV_CTRL.WAKE. -/
def execGlvCtrlWake (s : State) : Host.Outcome State Fault Refusal := runA (glvCtrlA 1) s

/-- R587: the restart ends. -/
def execGlvRestartComplete (s : State) : Host.Outcome State Fault Refusal := runA (seqA [canFresh, restartDone]) s

/-- R586: a write to GLV_WDOG_KICK. -/
def execGlvWdogKick (s : State) : Host.Outcome State Fault Refusal := runA (effA [.setGlvWdog 0]) s

/-- R604: a write to GLV_ALERT_SET. -/
def execGlvAlertSetWrite (v : W64) (s : State) : Host.Outcome State Fault Refusal := runA (alertSetA v.toNat) s

/-- R605: HELLO_S seconds have passed. -/
def execHelloTimer (s : State) : Host.Outcome State Fault Refusal := runA helloTimerA s

/-- R605: the plane reads a received management word of a port. -/
def execMgmtWordReceive (n : Port) (s : State) : Host.Outcome State Fault Refusal := runA (mgmtWordA n.val) s

end Sys2Proof.Machine
end

