-- ==== Sys2Proof/Machine/Can.lean ====
section
/-!
DEFINITION. Sys2Proof/Machine/Can.lean: the CAN FD port (R600 to R602): receiving frames, the error counts and bus-off. PRESUMED: the changes
of REC and TEC come from ISO 11898-1, which R600 names (log 13).
-/
namespace Sys2Proof.Machine

/-- A field of GLV_CAN_STAT. -/
def canStat (s : State) (f : Fld) : Nat := dfld s .GLV_CAN_STAT f

/-- The error counts take new values, with the state that follows from them. -/
def canErrSet (rec_ tec : Nat) : Act := effA [
  .fld (dk .GLV_CAN_STAT) f_GLV_CAN_STAT_REC (min 255 rec_), .fld (dk .GLV_CAN_STAT) f_GLV_CAN_STAT_TEC (min 255 tec),
  .fld (dk .GLV_CAN_STAT) f_GLV_CAN_STAT_ERRSTATE (if 255 < tec then 2 else if 127 < tec ∨ 127 < rec_ then 1 else 0)]

/-- A frame has been received without error: REC falls by 1, or from above 127 to a value from 119 to 127 that is left open
(assumption 4). -/
def canRecDown : Act := fun s =>
  let r := canStat s f_GLV_CAN_STAT_REC
  if r = 0 then []
  else if r ≤ 127 then canErrSet (r - 1) (canStat s f_GLV_CAN_STAT_TEC) s
  else seqA [canErrSet (119 + (Config.freeWord s.free).toNat % 9) (canStat s f_GLV_CAN_STAT_TEC), effA [.setFree (s.free + 1)]] s

/-- R693: a keeper sees the START of another keeper for a target that it was to serve. -/
def startSeen (f : CanFrame) : Act := fun s =>
  if f.xid.toNat = 0x1FF ∧ f.seg.toNat = 0 ∧ leAt f.data 0 1 = 0x52 then
    [.setRfl { s.rfl with wait := s.rfl.wait.filter (fun e => e.1 != f.dst.toNat) }]
  else []

/-- R590, R600, R601: a frame that the node accepts. -/
def canAccept (f : CanFrame) : Act := fun s =>
  if glvDeaf s ∨ 32 ≤ s.canRx.length then [.cnt (dk .GLV_CAN_DROP_CNT) f_GLV_CAN_DROP_CNT_COUNT 1]
  else seqA [effA [.cnt (dk .GLV_CAN_RX_CNT) f_GLV_CAN_RX_CNT_COUNT 1, .setCanRx (s.canRx ++ [f])], glvWake,
    (fun s => if glvAwake s then glvServe s else [])] s

/-- R600, R601: a frame on the bus; `classic` marks a classical or a remote frame. -/
def canReceiveA (f : CanFrame) (classic : Bool) : Act := fun s =>
  let d := f.dst.toNat
  if !pilotOn s ∨ canOff s then []
  else seqA [canRecDown,
    (if classic then effA [.cnt (dk .GLV_CAN_CLASSIC_CNT) f_GLV_CAN_CLASSIC_CNT_COUNT 1]
     else if canNode s ≠ 0 ∧ (d = canNode s ∨ d = 127) then canAccept f
     else startSeen f)] s

/-- R602: 100 ms without a segment. -/
def canTimeoutA (src xid : Nat) : Act := fun s =>
  if (canOpen s src xid).isSome then seqA [effA [.setCanAsm (canOthers s src xid)], canAsmErr] s else []

/-- R600: an error on the bus: a transmitter's TEC rises by 8; a receiver's REC by 8 where it is the cause, and by 1 otherwise. -/
def canErrorA (tx primary : Bool) : Act := fun s =>
  let r := canStat s f_GLV_CAN_STAT_REC
  let t := canStat s f_GLV_CAN_STAT_TEC
  if !pilotOn s ∨ canOff s then []
  else if tx then canErrSet r (t + 8) s
  else canErrSet (r + (if primary then 8 else 1)) t s

/-- R600: the end of bus-off: the counts clear, a written GLV_CAN_BT comes into force, and what waited is sent. -/
def canRecoverA : Act := fun s =>
  if !canOff s then []
  else seqA [canErrSet 0 0, effA [.setCanBt none, .setCanWait []], canSend s.canWait] s

/-- R600: a write to GLV_CAN_BT takes effect at the next bus integration. -/
def canBtWr (v en : W64) : Act := fun s =>
  seqA [whenA s.canBt.isNone (effA [.setCanBt (some (regOf s (dk .GLV_CAN_BT)))]), regWr (dk .GLV_CAN_BT) v en] s

/-! ### The commands -/

/-- R602: a CAN FD frame arrives. -/
def execCanFrameReceive (f : CanFrame) (classic : Bool) (s : State) : Host.Outcome State Fault Refusal :=
  runA (seqA [canFresh, canReceiveA f classic]) s

/-- R602: a reassembly has had no segment for 100 ms. -/
def execCanReassemblyTimeout (src : BitVec 7) (xid : BitVec 9) (s : State) : Host.Outcome State Fault Refusal :=
  runA (canTimeoutA src.toNat xid.toNat) s

/-- R600: an error on the bus. -/
def execCanBusError (tx primary : Bool) (s : State) : Host.Outcome State Fault Refusal := runA (canErrorA tx primary) s

/-- R600: 128 occurrences of 11 recessive bits. -/
def execCanBusOffRecovery (s : State) : Host.Outcome State Fault Refusal := runA (seqA [canFresh, canRecoverA]) s

end Sys2Proof.Machine
end

