-- ==== Sys2Proof/Machine/Dict.lean ====
section
/-!
DEFINITION. Sys2Proof/Machine/Dict.lean: how the plane judges a request (R620), sessions (R622 to R624), and the PCIe mailbox's GO (R635).
-/
namespace Sys2Proof.Machine

/-! ### Sessions (R622 to R624) -/

/-- ASCII "NFA1", "NFA2" and "NFS1". -/
def strNFA1 : List Byte := [0x4E, 0x46, 0x41, 0x31]
def strNFA2 : List Byte := [0x4E, 0x46, 0x41, 0x32]
def strNFS1 : List Byte := [0x4E, 0x46, 0x53, 0x31]

/-- R622: the role's key. -/
def roleKey (s : State) (role slot : Nat) : List Byte :=
  if role = 1 then objStored s (okOPER_KEY slot) else if role = 2 then objStored s okINSTALLER_KEY else objStored s okMAKER_KEY

/-- R622: ROLE, PORT and SID as the proofs take them. -/
def sessTail (x : Sess) : List Byte := leBytes 1 (x.role + 16 * x.slot) ++ leBytes 1 x.port ++ leBytes 1 x.sid

/-- R622: what the requester must send. -/
def sessPC (x : Sess) (key : List Byte) : List Byte := hmac256 key (strNFA1 ++ x.nd ++ x.nc ++ sessTail x)

/-- R622: what the plane answers. -/
def sessPD (x : Sess) (key : List Byte) : List Byte := hmac256 key (strNFA2 ++ x.nc ++ x.nd ++ sessTail x)

/-- R623: KS. -/
def sessKS (x : Sess) : List Byte := hmac256 x.key (strNFS1 ++ x.nd ++ x.nc)

/-- R623: the MAC of a frame's header and payload. -/
def sessMac (x : Sess) (bs : List Byte) : List Byte := (hmac256 (sessKS x) bs).take 16

/-- The session that a request names: of its port, and on CAN FD of its source. -/
def sessOf (s : State) (q : DictReq) : Option Sess :=
  s.sess.find? (fun x => x.sid == frSid q.bytes && x.port == q.port && (q.port != 0 || x.src == q.src))

/-- The sessions but for one. -/
def sessDrop (sid : Nat) : Act := fun s => [.setSess (s.sess.filter (fun x => x.sid != sid))]

/-- A session takes its place by SID. -/
def sessIns (x : Sess) : List Sess → List Sess
  | [] => [x]
  | y :: l => if x.sid ≤ y.sid then x :: y :: l else y :: sessIns x l

/-- A session changes. -/
def sessPut (x : Sess) : Act := seqA [sessDrop x.sid, fun s => [.setSess (sessIns x s.sess)]]

/-- R622: the lowest free SID. -/
def freeSid (s : State) : Option Nat := ((List.range 8).map (· + 1)).find? (fun i => s.sess.all (fun x => x.sid != i))

/-- R624: the port, or on CAN FD the node, that failures are counted for. -/
def failKey (q : DictReq) : Nat := if q.port = 0 then q.src else 127 + q.port

/-- R633, R641: once MAKER_LOCK reads 1, a maker session closes as soon as no request of it waits. -/
def makersClose : Act := fun s =>
  if makerLock s then
    [.setSess (s.sess.filter (fun x => x.role != 3
      || s.dictQ.any (fun q => frSid q.bytes == x.sid && q.port == x.port && (q.port != 0 || q.src == x.src))))]
  else []

/-! ### Answers -/

/-- A response in a session carries a MAC (R620), and becomes the stored response of its SEQ where the request used that up. -/
def dictReply (q : DictReq) (x : Option Sess) (used : Bool) (status : Nat) (payload : List Byte) : Act := fun s =>
  let body := frAnswer q.bytes (frSid q.bytes) status payload
  match x with
  | none => dictAnswer q body s
  | some x =>
    let bs := body ++ sessMac x body
    seqA [whenA used (sessPut { x with seq := frSeq q.bytes, resp := bs, last := pilotNow s }), dictAnswer q bs] s

/-- What orders 1 to 3 of R620 find for a READ, WRITE or CLOSE. -/
inductive Pre where
  | bad (status : Nat)
  | badSeq (x : Sess)
  | again (x : Sess)
  | go (x : Option Sess)

/-- Orders 1 to 3 of R620. A CLOSE needs a session. -/
def dictPre (s : State) (q : DictReq) : Pre :=
  let bs := q.bytes
  if !frOk q then .bad dsFORMAT
  else if frSid bs = 0 then (if frOp bs = 5 then .bad dsAUTH else .go none)
  else match sessOf s q with
    | none => .bad dsAUTH
    | some x =>
      if !x.open_ ∨ frMac bs ≠ sessMac x (bs.take (16 + frLen bs)) then .bad dsAUTH
      else if frSeq bs = x.seq then .again x
      else if frSeq bs = (x.seq + 1) % 2 ^ 32 then .go (some x)
      else .badSeq x

/-- R620: the stored response of the session's last SEQ is sent again. -/
def dictAgain (q : DictReq) (x : Sess) : Act := fun s => seqA [sessPut { x with last := pilotNow s }, dictAnswer q x.resp] s

/-- The role that a request holds. -/
def roleOf (x : Option Sess) : Nat :=
  match x with
  | some x => x.role
  | none => 0

/-! ### READ (R613, R620) -/

/-- Orders 4 to 6 of R620 for a READ. -/
def readStatus (role idx sub : Nat) : Nat :=
  if !objHasIdx idx then dsNO_OBJECT
  else match objRow idx sub with
    | none => dsNO_SUB
    | some r => if r.rd = 4 then dsACCESS else if role < r.rd then dsRIGHTS else dsOK

/-- A READ is judged and answered. -/
def dictReadA (q : DictReq) : Act := fun s =>
  match dictPre s q with
  | .bad st => dictReply q none false st [] s
  | .badSeq x => dictReply q (some x) false dsSEQ [] s
  | .again x => dictAgain q x s
  | .go x =>
    let k := objKey (frIdx q.bytes) (frSub q.bytes)
    let st := readStatus (roleOf x) (frIdx q.bytes) (frSub q.bytes)
    if st = dsOK then seqA [effA [.setFree (s.free + objDraws s k)], dictReply q x true dsOK (objRead s k)] s
    else dictReply q x true st [] s

/-! ### WRITE (R620, R625, R626) -/

/-- Orders 4 to 11 of R620 for a WRITE. -/
def writeStatus (s : State) (role idx sub : Nat) (v : List Byte) (flashFail : Bool) : Nat :=
  let k := objKey idx sub
  if !objHasIdx idx then dsNO_OBJECT
  else match objRow idx sub with
    | none => dsNO_SUB
    | some r =>
      if r.wr = 4 then dsACCESS
      else if role < writeRight r k v then dsRIGHTS
      else if makerLock s ∧ lockBars k v then dsLOCKED
      else if !lengthOk r k v then dsLENGTH
      else if objRule s k v ≠ dsOK then objRule s k v
      else if flashRefuses s r k v flashFail then dsFLASH
      else dsOK

/-- The value of an object before a WRITE, for the journal. -/
def oldValue (s : State) (k : Nat) : List Byte := if (objRow (k / 256) (k % 256)).isSome then objRead s k else []

/-- R626: the journal entry of a WRITE, and the count of refused ones. -/
def writeLog (q : DictReq) (x : Option Sess) (st : Nat) : Act := fun s =>
  let k := objKey (frIdx q.bytes) (frSub q.bytes)
  let slot := match x with
    | some x => if x.role = 1 then x.slot else 0
    | none => 0
  seqA [whenA (!jrnExempt k) (jrnAdd ⟨roleOf x, q.port, if q.port = 0 then q.src else 0, slot⟩ st k (oldValue s k) (frPayload q.bytes)),
    whenA (st != dsOK) (objCount okREFUSED_CNT)] s

/-- R631: the sessions that a key write closes, once its response has been sent. -/
def keySessions (s : State) (k : Nat) (x : Sess) : Bool :=
  x.open_ && ((x.role == 1 && k == okOPER_KEY x.slot && x.key == roleKey s 1 x.slot)
    || (x.role == 2 && k == okINSTALLER_KEY && x.key == roleKey s 2 0) || (x.role == 3 && k == okMAKER_KEY && x.key == roleKey s 3 0))

/-- What follows a WRITE's response: R631. -/
def afterWrite (k : Nat) (v : List Byte) (closing : List Nat) : Act := seqA [
  whenA (k == okCAN_NODE) (objLoad k v), eachA closing sessDrop]

/-- A WRITE is judged, committed with its journal entry, and answered. -/
def dictWriteA (q : DictReq) (flashFail : Bool) : Act := fun s =>
  match dictPre s q with
  | .bad st => dictReply q none false st [] s
  | .badSeq x => seqA [writeLog q (some x) dsSEQ, dictReply q (some x) false dsSEQ []] s
  | .again x => dictAgain q x s
  | .go x =>
    let v := frPayload q.bytes
    let k := objKey (frIdx q.bytes) (frSub q.bytes)
    let st := writeStatus s (roleOf x) (frIdx q.bytes) (frSub q.bytes) v flashFail
    let closing := if st = dsOK then (s.sess.filter (keySessions s k)).map (·.sid) else []
    seqA [writeLog q x st,
      whenA (st == dsQUIESCE) (nqRefuse (sysObjReg (k % 256)).2),
      whenA (st == dsOK) (objApply k v),
      dictReply q x true st [],
      whenA (st == dsOK) (afterWrite k v closing)] s

/-! ### OPEN, AUTH and CLOSE (R622 to R624) -/

/-- The outcome of an OPEN; none where a session is created. -/
def openStatus (s : State) (q : DictReq) : Option Nat :=
  let p := frPayload q.bytes
  let role := leAt p 0 1 % 4
  if !frOk q then some dsFORMAT
  else if frSid q.bytes ≠ 0 then some dsAUTH
  else if (lockoutAt s (failKey q)).isSome then some dsLOCKOUT
  else if p.length ≠ 33 then some dsLENGTH
  else if role = 0 then some dsRANGE
  else if role = 3 ∧ makerLock s then some dsLOCKED
  else if (freeSid s).isNone then some dsNO_SESSION
  else none

/-- R622: an OPEN. ND comes from the device's entropy source (assumption 4). -/
def dictOpenA (q : DictReq) : Act := fun s =>
  let p := frPayload q.bytes
  match openStatus s q, freeSid s with
  | none, some sid =>
    let nd := freeBytes s 4
    let x : Sess := ⟨sid, leAt p 0 1 % 4, leAt p 0 1 / 16 % 4, q.port, if q.port = 0 then q.src else 0, false, p.drop 1, nd, [], 0, [], pilotNow s⟩
    seqA [effA [.setFree (s.free + 4)], sessPut x, dictAnswer q (frAnswer q.bytes sid dsOK nd)] s
  | some st, _ => dictAnswer q (frAnswer q.bytes 0 st []) s
  | none, none => dictAnswer q (frAnswer q.bytes 0 dsNO_SESSION []) s

/-- R624: an AUTH has failed: the session closes, and the failure may begin a lockout. -/
def authFailed (q : DictReq) (x : Sess) : Act := fun s =>
  let k := failKey q
  let n := authFailAt s k + 1
  seqA [sessDrop x.sid, effA [.putAuthFail k n],
    whenA (decide (max 1 (objNat s okFAIL_LIMIT) ≤ n)) (effA [.putLockout k (some (pilotNow s))])] s

/-- R622: an AUTH. -/
def dictAuthA (q : DictReq) : Act := fun s =>
  let answer := fun (st : Nat) (p : List Byte) => dictAnswer q (frAnswer q.bytes (frSid q.bytes) st p)
  if !frOk q then answer dsFORMAT [] s
  else match sessOf s q with
    | none => answer dsAUTH [] s
    | some x =>
      if x.open_ then answer dsAUTH [] s
      else if frSeq q.bytes ≠ 0 then answer dsSEQ [] s
      else if x.role = 3 ∧ makerLock s then seqA [sessDrop x.sid, answer dsLOCKED []] s
      else
        let key := roleKey s x.role x.slot
        if allZero key ∨ frPayload q.bytes ≠ sessPC x key then seqA [authFailed q x, answer dsAUTH []] s
        else
          let pd := sessPD x key
          let r := frAnswer q.bytes x.sid dsOK pd
          seqA [sessPut { x with open_ := true, key := key, seq := 0, resp := r, last := pilotNow s },
            effA [.putAuthFail (failKey q) 0], answer dsOK pd] s

/-- R623: a CLOSE. -/
def dictCloseA (q : DictReq) : Act := fun s =>
  match dictPre s q with
  | .bad st => dictReply q none false st [] s
  | .badSeq x => dictReply q (some x) false dsSEQ [] s
  | .again x => dictAgain q x s
  | .go none => dictReply q none false dsAUTH [] s
  | .go (some x) => seqA [dictReply q (some x) true dsOK [], sessDrop x.sid] s

/-- R620: the plane takes the request at the front, where its OP is this one. -/
def dictTake (op : Nat) (judge : DictReq → Act) : Act := seqA [canFresh, fun s =>
  match s.dictQ with
  | [] => []
  | q :: l =>
    if fwRuns s ∧ frOp q.bytes = op then seqA [effA [.setDictQ l], judge q, makersClose, dictClear] s else []]

/-! ### Timers -/

/-- A request of a session has arrived and waits (R639). -/
def sessBusy (s : State) (x : Sess) : Bool :=
  s.dictQ.any (fun q => frSid q.bytes == x.sid && q.port == x.port && (q.port != 0 || q.src == x.src))

/-- R624: a session closes after its time: `open_` says which kind. -/
def sessExpire (sid : Nat) (open_ : Bool) : Act := fun s =>
  match s.sess.find? (fun x => x.sid == sid && x.open_ == open_) with
  | none => []
  | some x =>
    let ticks := if open_ then max 1 (objNat s okSESS_IDLE_S) * 25000000 else 25000000
    if x.last + ticks ≤ pilotNow s ∧ !(open_ && sessBusy s x) then sessDrop sid s else []

/-- R624: a lockout ends. -/
def lockoutEndA (k : Nat) : Act := fun s =>
  match lockoutAt s k with
  | none => []
  | some t => if t + max 1 (objNat s okLOCKOUT_S) * 25000000 ≤ pilotNow s then [.clrLockout [k]] else []

/-- R618: the response at the front has found no room within 100 ms. -/
def rspDropA : Act := fun s =>
  match s.spiRsp with
  | [] => []
  | _ :: l => seqA [effA [.setSpiRsp l], objCount okRSP_DROP, spiPump l.length] s

/-! ### The PCIe mailbox (R635) -/

/-- A field of GLV_MBX_STAT. -/
def mbxStat (s : State) (f : Fld) : Nat := dfld s .GLV_MBX_STAT f

/-- The frame in GLV_MBX_REQ. -/
def mbxFrame (s : State) (n : Nat) : List Byte :=
  ((List.range (ceilDiv n 8)).flatMap (fun i => leBytes 8 (regOf s (dk .GLV_MBX_REQ i)).toNat)).take n

/-- R635: a GO. -/
def mbxGoA : Act := fun s =>
  let n := dfld s .GLV_MBX_CTRL f_GLV_MBX_CTRL_LEN
  if mbxStat s f_GLV_MBX_STAT_BUSY = 1 ∨ outside n 16 1056 ∨ glvDeaf s then [setBit (dk .GLV_MBX_STAT) f_GLV_MBX_STAT_DROP]
  else seqA [effA [setBit (dk .GLV_MBX_STAT) f_GLV_MBX_STAT_BUSY], dictPush ⟨2, 0, 0, 0, mbxFrame s n⟩, glvWake, dictClear] s

/-- A write to GLV_MBX_CTRL. -/
def mbxCtrlWr (v en : W64) : Act := seqA [regWr (dk .GLV_MBX_CTRL) v en, whenA (bitOf (v &&& en).toNat 63) mbxGoA]

/-- R635: a write to GLV_MBX_REQ. -/
def mbxReqWr (i : Nat) (v en : W64) : Act := fun s =>
  if mbxStat s f_GLV_MBX_STAT_BUSY = 1 then [setBit (dk .GLV_MBX_STAT) f_GLV_MBX_STAT_DROP] else regWr (dk .GLV_MBX_REQ i) v en s

/-! ### The commands -/

/-- R620: a READ request. -/
def execDictRead (s : State) : Host.Outcome State Fault Refusal := runA (dictTake 1 dictReadA) s

/-- R620, R625: a WRITE request; `flashFail` says that the flash commit fails. -/
def execDictWrite (flashFail : Bool) (s : State) : Host.Outcome State Fault Refusal := runA (dictTake 2 (dictWriteA · flashFail)) s

/-- R622: an OPEN request. -/
def execDictOpen (s : State) : Host.Outcome State Fault Refusal := runA (dictTake 3 dictOpenA) s

/-- R622: an AUTH request. -/
def execDictAuth (s : State) : Host.Outcome State Fault Refusal := runA (dictTake 4 dictAuthA) s

/-- R623: a CLOSE request. -/
def execDictClose (s : State) : Host.Outcome State Fault Refusal := runA (dictTake 5 dictCloseA) s

/-- R635: a write to GLV_MBX_CTRL. -/
def execGlvMbxGo (v : W64) (s : State) : Host.Outcome State Fault Refusal := runA (seqA [canFresh, mbxCtrlWr v allBits]) s

/-- R624: 1 s after the OPEN response. -/
def execSessionPendingTimeout (sid : BitVec 4) (s : State) : Host.Outcome State Fault Refusal := runA (sessExpire sid.toNat false) s

/-- R624: SESS_IDLE_S seconds without a valid request. -/
def execSessionIdleTimeout (sid : BitVec 4) (s : State) : Host.Outcome State Fault Refusal := runA (sessExpire sid.toNat true) s

/-- R624: a lockout ends: of a CAN FD node, or with 128 of SPI and with 129 of PCIe. -/
def execLockoutExpire (k : Fin 130) (s : State) : Host.Outcome State Fault Refusal := runA (lockoutEndA k.val) s

/-- R618: a response is dropped. -/
def execMbxResponseDrop (s : State) : Host.Outcome State Fault Refusal := runA rspDropA s

end Sys2Proof.Machine
end

