-- ==== Sys2Proof/Machine/Reflash.lean ====
section
/-!
DEFINITION. Sys2Proof/Machine/Reflash.lean: the download of an image (R688, R696), the re-flash of a device by a tray keeper (R691 to R693),
and module service (R694, R701).
-/
namespace Sys2Proof.Machine

/-! ### Download (R688) -/

/-- R688: the check that COMMIT started ends. -/
def verifyDoneA (readErr : Bool) : Act := fun s =>
  match s.imgCheck with
  | none => []
  | some k => if fwRuns s then seqA [slotJudged k (verifySlot s k readErr), effA [.setImgCheck none]] s else []

/-- R688: the erase of the next block of the download slot ends. -/
def eraseDoneA : Act := fun s =>
  let k := dlTarget s
  if slotStatus s k = 3 ∧ s.imgErased < 512 then
    seqA [flashErase (slotBase k + s.imgErased * 65536) 65536, effA [.setImgErased (s.imgErased + 1)]] s
  else []

/-! ### Re-flash frames (R692) -/

/-- A field of BOOT_RFL_STAT. -/
def rflStat (s : State) (f : Fld) : Nat := dfld s .BOOT_RFL_STAT f

/-- A re-flash frame to a node. -/
def rflFrame (s : State) (dst op : Nat) (rest : List Byte) : CanFrame :=
  canFrame Config.reflashPrio.toNat dst (canNode s) 0 0x1FF (leBytes 1 op ++ rest)

/-- The re-flash state shows what it is doing. -/
def rflShow (state slots frame : Nat) : Act := effA [.fld (dk .BOOT_RFL_STAT) f_BOOT_RFL_STAT_STATE state,
  .fld (dk .BOOT_RFL_STAT) f_BOOT_RFL_STAT_SLOTS slots, .fld (dk .BOOT_RFL_STAT) f_BOOT_RFL_STAT_FRAME frame]

/-- Bits 1 and 2 of a byte that names slots: A and B. -/
def slotBits (x : Nat) : Nat := x &&& 6

/-- The slots of a set. -/
def slotList (x : Nat) : List Nat := [1, 2].filter (fun k => bitOf x k)

/-- R692: the slots that are BAD or EMPTY. -/
def wantedSlots (s : State) : Nat :=
  (if slotStatus s 1 = 2 ∨ slotStatus s 1 = 0 then 2 else 0) + (if slotStatus s 2 = 2 ∨ slotStatus s 2 = 0 then 4 else 0)

/-- R691: a REQ to every node. -/
def reqSend : Act := fun s => canSend [rflFrame s 127 0x51 (leBytes 1 (wantedSlots s))] s

/-- R691: in RECOVERY, a REQ every second. -/
def reqTimerA : Act := fun s => if dfld s .BOOT_STAT f_BOOT_STAT_STAGE = 7 ∧ glvAwake s then reqSend s else []

/-- The plane acts on the re-flash frame at the front, where its OP is this one. -/
def rflTake (op : Nat) (act : CanFrame → Act) : Act := seqA [canFresh, fun s =>
  match s.rflQ with
  | [] => []
  | f :: l => if glvAwake s ∧ leAt f.data 0 1 = op then seqA [effA [.setRflQ l], act f] s else []]

/-! ### The keeper (R692, R693) -/

/-- R693: the device serves: it is strapped a keeper and its GOLDEN is VALID. -/
def keeperServes (s : State) : Bool := s.strapKeeper && slotStatus s 0 == 1

/-- STORED_LEN of GOLDEN, and the DATA frames that carry it. -/
def goldenLen (s : State) : Nat := leNat (slotRead s 0 12 4)
def goldenFrames (s : State) : Nat := ceilDiv (goldenLen s) 60

/-- R693: a REQ takes its place, unless its target waits already or is being served. -/
def reflashReqA (f : CanFrame) : Act := fun s =>
  let n := f.src.toNat
  let serving := rflStat s f_BOOT_RFL_STAT_STATE == 1 && s.rfl.peer == n
  if !keeperServes s ∨ serving ∨ s.rfl.wait.any (fun e => e.1 == n) then []
  else [.setRfl { s.rfl with wait := s.rfl.wait ++ [(n, slotBits (leAt f.data 1 1))] }]

/-- R692: DATA frame n. -/
def dataFrame (s : State) (n : Nat) : CanFrame :=
  rflFrame s s.rfl.peer 0x53 (leBytes 3 n ++ slotRead s 0 (60 * n) (min 60 (goldenLen s - 60 * n)))

/-- R692: the DATA frames from n up to the next ACK, and after the last of all of them END. -/
def sendFrom (n : Nat) : Act := fun s =>
  let total := goldenFrames s
  let m := min 256 (total - n)
  let last := decide (total - n < 256)
  seqA [effA [.setRfl { s.rfl with acked := n, since := b2n last }, .fld (dk .BOOT_RFL_STAT) f_BOOT_RFL_STAT_FRAME (n + m)],
    canSend ((List.range m).map (fun i => dataFrame s (n + i)) ++ (if last then [rflFrame s s.rfl.peer 0x54 []] else []))] s

/-- R693: the keeper's delay ends with no START seen: it answers the REQ that waits longest. -/
def keeperAnswerA : Act := fun s =>
  match s.rfl.wait with
  | [] => []
  | (n, slots) :: l =>
    if !keeperServes s ∨ !glvAwake s ∨ rflStat s f_BOOT_RFL_STAT_STATE ≠ 0 then []
    else seqA [effA [.setRfl ⟨n, slots, 0, goldenLen s, 0, l⟩], rflShow 1 slots 0,
      canSend [rflFrame s n 0x52 (leBytes 1 slots ++ [0, 0] ++ leBytes 4 (goldenLen s))], sendFrom 0] s

/-- The keeper has done with its target. -/
def keeperDone (ok : Bool) : Act := fun s => seqA [
  effA [.setRfl ⟨0, 0, 0, 0, 0, s.rfl.wait⟩], rflShow 0 0 (rflStat s f_BOOT_RFL_STAT_FRAME),
  whenA ok (effA [.cnt (dk .BOOT_RFL_CNT) f_BOOT_RFL_CNT_COUNT 1])] s

/-- R692: an ACK from the target: the rest is sent from the frame it names. After END the target's verdict ends the re-flash. -/
def reflashAckA (f : CanFrame) : Act := fun s =>
  let n := leAt f.data 4 3
  let code := leAt f.data 1 1
  if rflStat s f_BOOT_RFL_STAT_STATE ≠ 1 ∨ f.src.toNat ≠ s.rfl.peer then []
  else if code = 1 then keeperDone false s
  else if code = 0 ∧ s.rfl.since = 1 ∧ goldenFrames s ≤ n then keeperDone true s
  else sendFrom n s

/-- R692: no ACK for 100 ms. -/
def ackTimeoutA : Act := fun s => if rflStat s f_BOOT_RFL_STAT_STATE = 1 ∧ glvAwake s then sendFrom s.rfl.acked s else []

/-! ### The target (R692) -/

/-- An ACK: 0 OK, 1 verification failed, 2 busy, and the next frame expected. -/
def ackSend (dst code frame : Nat) : Act := fun s =>
  canSend [rflFrame s dst 0x55 (leBytes 1 code ++ [0, 0] ++ leBytes 3 frame)] s

/-- R692: START: the slots are WRITING, and their blocks are erased ahead of the data. -/
def reflashStartA (f : CanFrame) : Act := fun s =>
  let slots := slotBits (leAt f.data 1 1)
  let len := leAt f.data 4 4
  let st := rflStat s f_BOOT_RFL_STAT_STATE
  if s.imgCheck.isSome ∨ st = 1 ∨ (st = 2 ∧ s.rfl.peer ≠ f.src.toNat) then ackSend f.src.toNat 2 0 s
  else seqA [
    eachA (slotList slots) (fun k => seqA [slotPut k 3, flashErase (slotBase k) (min slotSize (ceilDiv len 65536 * 65536))]),
    effA [.setRfl ⟨f.src.toNat, slots, 0, len, 0, s.rfl.wait⟩], rflShow 2 slots 0] s

/-- R692: DATA: the bytes of the frame expected are written; after every 256 frames an ACK names the next. -/
def reflashDataA (f : CanFrame) : Act := fun s =>
  let n := leAt f.data 1 3
  let want := rflStat s f_BOOT_RFL_STAT_FRAME
  if rflStat s f_BOOT_RFL_STAT_STATE ≠ 2 ∨ f.src.toNat ≠ s.rfl.peer then []
  else
    let ok := n == want && decide (60 * n < s.rfl.len ∧ 60 * n < slotSize)
    let bs := sliceZ f.data 4 (min 60 (min s.rfl.len slotSize - 60 * n))
    seqA [
      whenA ok (seqA [eachA (slotList s.rfl.slots) (fun k => flashWrite (slotBase k + 60 * n) bs),
        effA [.fld (dk .BOOT_RFL_STAT) f_BOOT_RFL_STAT_FRAME (want + 1)]]),
      effA [.setRfl { s.rfl with since := (s.rfl.since + 1) % 256 }],
      whenA (s.rfl.since == 255) (fun s => ackSend s.rfl.peer 0 (rflStat s f_BOOT_RFL_STAT_FRAME) s)] s

/-- R692: END: once every frame is there, the slots are verified; in RECOVERY a warm reset follows. -/
def reflashEndA (readErr : Bool) (f : CanFrame) : Act := fun s =>
  let frames := rflStat s f_BOOT_RFL_STAT_FRAME
  if rflStat s f_BOOT_RFL_STAT_STATE ≠ 2 ∨ f.src.toNat ≠ s.rfl.peer then []
  else if 60 * frames < s.rfl.len then ackSend s.rfl.peer 0 frames s
  else
    let codes := (slotList s.rfl.slots).map (fun k => (k, verifySlot s k readErr))
    let good := codes.all (fun e => e.2 == 0)
    seqA [
      eachA codes (fun e => slotJudged e.1 e.2),
      ackSend s.rfl.peer (b2n (!good)) frames,
      effA [.setRfl ⟨0, 0, 0, 0, 0, s.rfl.wait⟩], rflShow 0 0 frames,
      whenA good (seqA [effA [.cnt (dk .BOOT_RFL_CNT) f_BOOT_RFL_CNT_COUNT 1], raiseInfo 0x0606 s.rfl.slots 0 frames]),
      whenA (dfld s .BOOT_STAT f_BOOT_STAT_STAGE == 7) (effA [.setRstReq (s.rstReq ++ [⟨2, 0, false, .reflash⟩])])] s

/-! ### Module service (R694, R701) -/

/-- A field of BOOT_SVC_STAT. -/
def svcStat (s : State) (f : Fld) : Nat := dfld s .BOOT_SVC_STAT f

/-- R694: a write of PREPARE. -/
def prepareA : Act := fun s =>
  if svcStat s f_BOOT_SVC_STAT_STATE ≠ 0 then []
  else if dfld s .EPC_STAT f_EPC_STAT_QUIESCED = 0 then [setBit (dk .BOOT_SVC_STAT) f_BOOT_SVC_STAT_SVC_REFUSED]
  else seqA [effA [.fld (dk .BOOT_SVC_STAT) f_BOOT_SVC_STAT_STATE 1], embCopyStart] s

/-- R694: the preparation completes. -/
def serviceSafeA : Act := fun s =>
  if svcStat s f_BOOT_SVC_STAT_STATE ≠ 1 ∨ !glvAwake s then []
  else seqA [
    embCopied,
    eachA (List.range 16) (fun n => wlpCfgA n 0 1),
    hostDown false, ivrsOff,
    effA [.fld (dk .BOOT_SVC_STAT) f_BOOT_SVC_STAT_STATE 2],
    alertA 8] s

/-! ### The commands -/

/-- R688: the check started by COMMIT 1 ends; `readErr` is a read error that the flash controller reports. -/
def execImageVerifyComplete (readErr : Bool) (s : State) : Host.Outcome State Fault Refusal := runA (verifyDoneA readErr) s

/-- R688: a block of the download slot has been erased. -/
def execSlotEraseComplete (s : State) : Host.Outcome State Fault Refusal := runA eraseDoneA s

/-- R692, R693: a REQ. -/
def execReflashReq (s : State) : Host.Outcome State Fault Refusal := runA (rflTake 0x51 reflashReqA) s

/-- R692: a START. -/
def execReflashStart (s : State) : Host.Outcome State Fault Refusal := runA (rflTake 0x52 reflashStartA) s

/-- R692: a DATA frame. -/
def execReflashData (s : State) : Host.Outcome State Fault Refusal := runA (rflTake 0x53 reflashDataA) s

/-- R692: END; `readErr` is a read error of the flash while the slots are verified. -/
def execReflashEnd (readErr : Bool) (s : State) : Host.Outcome State Fault Refusal := runA (rflTake 0x54 (reflashEndA readErr)) s

/-- R692: an ACK. -/
def execReflashAck (s : State) : Host.Outcome State Fault Refusal := runA (rflTake 0x55 reflashAckA) s

/-- R691: a REQ is due. -/
def execReflashReqTimer (s : State) : Host.Outcome State Fault Refusal := runA (seqA [canFresh, reqTimerA]) s

/-- R692: no ACK for 100 ms. -/
def execReflashAckTimeout (s : State) : Host.Outcome State Fault Refusal := runA (seqA [canFresh, ackTimeoutA]) s

/-- R693: a keeper's delay ends. -/
def execKeeperAnswerDelay (s : State) : Host.Outcome State Fault Refusal := runA (seqA [canFresh, keeperAnswerA]) s

/-- R694: a write of BOOT_SVC_CTRL.PREPARE. -/
def execServicePrepare (s : State) : Host.Outcome State Fault Refusal := runA prepareA s

/-- R694: the module is SAFE. -/
def execServiceSafe (s : State) : Host.Outcome State Fault Refusal := runA serviceSafeA s

end Sys2Proof.Machine
end

