-- ==== Sys2Proof/Machine/ResetReq.lean ====
section
/-!
DEFINITION. Sys2Proof/Machine/ResetReq.lean: the resets that a write of BOOT_RST_CTRL asks for (R674, R675, R687).
-/
namespace Sys2Proof.Machine

/-- R675: a request of equal or higher rank is in progress. -/
def rstBusy (s : State) (rank : Nat) : Bool := s.rstReq.any (fun r => decide (r.rank ≤ rank))

/-- R675: a reset is asked for; it supersedes those of lower rank. The tile of a superseded tile reset is no longer down. -/
def rstAsk (rank tile : Nat) (reload : Bool) (src : ResetSource) : Act := fun s =>
  if rstBusy s rank then []
  else
    let gone := (s.rstReq.filter (fun r => r.rank == 4)).map (·.tile)
    seqA [effA [.setRstReq [⟨rank, tile, reload, src⟩]],
      whenA (gone != []) (seqA [downSet gone false, effA [.fld (dk .BOOT_RST_STAT) f_BOOT_RST_STAT_TILE_BUSY 0]])] s

/-- R687: a write of TILE is ignored for an ID that names no tile, and for a tile whose domain is latched off. -/
def rstTileBad (s : State) (t : Nat) : Bool := decide (nTiles s ≤ t) || ivrState s (tileDomain s t) == 4

/-- R687: a write of TILE: from then until the reset completes, the tile is down. -/
def rstTileA (t : Nat) (reload : Bool) : Act := fun s =>
  if rstTileBad s t then [setBit (dk .BOOT_RST_STAT) f_BOOT_RST_STAT_CFG_ERR]
  else if rstBusy s 4 then []
  else seqA [rstAsk 4 t reload .register, effA [setBit (dk .BOOT_RST_STAT) f_BOOT_RST_STAT_TILE_BUSY], downSet [t] true, wickAbsent] s

/-- A write to BOOT_RST_CTRL: the highest rank that it names goes first. -/
def rstCtrlA (v : Nat) : Act := seqA [
  whenA (bitOf v 0) (rstAsk 1 0 false .register), whenA (bitOf v 1) (rstAsk 2 0 false .register), whenA (bitOf v 2) (rstAsk 3 0 false .register),
  whenA (bitOf v 3) (rstTileA (bitsOf v 16 9) (bitOf v 5))]

/-! ### The commands -/

/-- R675: a write of COLD. -/
def execRstCtrlCold (s : State) : Host.Outcome State Fault Refusal := runA (rstCtrlA 1) s

/-- R675: a write of WARM. -/
def execRstCtrlWarm (s : State) : Host.Outcome State Fault Refusal := runA (rstCtrlA 2) s

/-- R675: a write of FABRIC. -/
def execRstCtrlFabric (s : State) : Host.Outcome State Fault Refusal := runA (rstCtrlA 4) s

/-- R687: a write of TILE. -/
def execRstCtrlTile (t : Tile) (reload : Bool) (s : State) : Host.Outcome State Fault Refusal := runA (rstTileA t reload) s

end Sys2Proof.Machine
end

