-- ==== Sys2Proof/Machine/Sleep.lean ====
section
/-!
DEFINITION. Sys2Proof/Machine/Sleep.lean: starting and stopping cores (R128), the reservation of core 23 (R129), doze (R156) and sleep
(R157, R166, R167).
-/
namespace Sys2Proof.Machine

/-! ### Cores start and stop (R128, R129) -/

/-- R511: the collective runtime starts on core 23: its VERSION is open, RUNNING is 1, and DMV3 has class 2 and routing mode 0. -/
def runtimeUp (t : Nat) : Act := fun s => [
  .fld (tk t .COL_RT_STAT) f_COL_RT_STAT_VERSION ((Config.freeWord s.free).toNat % 65536), .setFree (s.free + 1),
  .fld (tk t .COL_RT_STAT) f_COL_RT_STAT_RUNNING 1,
  .fld (tk t .NIU_CFG) f_NIU_CFG_DMV3_TC 2, .fld (tk t .NIU_CFG) f_NIU_CFG_DMV3_RMODE 0]

/-- R128: a core starts in M-mode at its TILE_BOOT_PC. What core 23 of a tile with COMM_RSV starts is the collective runtime. -/
def coreStart (t c : Nat) : Act := seqA [
  fun s => [
    .putCores (coreKey t c) { CoreSt.init with pc := regOf s (tk t .TILE_BOOT_PC c), outst := (coreOf s t c).outst },
    .fld (tk t .TILE_CORE_STAT) f_TILE_CORE_STAT_STOPPED (tfld s t .TILE_CORE_STAT f_TILE_CORE_STAT_STOPPED &&& (2 ^ 24 - 1 - 2 ^ c)),
    .fld (tk t .TILE_CORE_STAT) f_TILE_CORE_STAT_WFI (tfld s t .TILE_CORE_STAT f_TILE_CORE_STAT_WFI &&& (2 ^ 24 - 1 - 2 ^ c))],
  fun s => if c = 23 ∧ tfld s t .TILE_CORE_CTRL f_TILE_CORE_CTRL_COMM_RSV = 1 then runtimeUp t s else []]

/-- R129: a write of a register with a bit for each core, where the bit of core 23 is refused. -/
def rsvMasked (who : Requester) (t : Nat) (en : W64) (a : W64 → Act) : Act := fun s =>
  let b : W64 := BitVec.ofNat 64 (2 ^ 23)
  if rsvBlocks s t who ∧ en &&& b ≠ 0 then seqA [effA [rsvRefused t], a (en &&& ~~~b)] s else a en s

/-- R128: a write to TILE_CORE_RUN: each bit that rises starts its core; a bit that falls asks its core to stop. A sleeping tile does not
take it (R158). -/
def coreRunWr (who : Requester) (t : Nat) (v en : W64) : Act := rsvMasked who t en (fun en => fun s => if tileAsleep s t then [] else
  let k := tk t .TILE_CORE_RUN
  let old := fget (regOf s k) f_TILE_CORE_RUN_RUN
  let w := accWrite (regFields k) (regOf s k) v en
  let new := fget w f_TILE_CORE_RUN_RUN
  seqA [effA [.reg k w],
    eachA ((List.range 24).filter (fun c => bitOf new c && !bitOf old c)) (coreStart t)] s)

/-- R129: a write to TILE_MSIP. -/
def msipWr (who : Requester) (t : Nat) (v en : W64) : Act := rsvMasked who t en (fun en => regWr (tk t .TILE_MSIP) v en)

/-- R129: a write of a register of one core. -/
def coreRegWr (who : Requester) (t c : Nat) (k : RKey) (v en : W64) : Act := fun s =>
  if c = 23 ∧ rsvBlocks s t who then [rsvRefused t] else regWr k v en s

/-- R129: the bytes of TILE_IRQ_ROUTE that COMM_RSV protects: sources CDX1 (4), DMV3 (8) and COL (12). -/
def rsvRoutes (i : Nat) : W64 :=
  BitVec.ofNat 64 (if i = 0 then 0xFF * 2 ^ 32 else if i = 1 then 0xFF + 0xFF * 2 ^ 32 else 0)

/-- R129: a write to TILE_IRQ_ROUTE. -/
def routeWr (who : Requester) (t i : Nat) (v en : W64) : Act := fun s =>
  let m := rsvRoutes i
  if rsvBlocks s t who ∧ en &&& m ≠ 0 then seqA [effA [rsvRefused t], regWr (tk t .TILE_IRQ_ROUTE i) v (en &&& ~~~m)] s
  else regWr (tk t .TILE_IRQ_ROUTE i) v en s

/-- R128: a core that was asked to stop reaches an instruction boundary with no access outstanding. -/
def coreStopA (t c : Nat) : Act := fun s =>
  if bitOf (tfld s t .TILE_CORE_RUN f_TILE_CORE_RUN_RUN) c ∨ coreStopped s t c ∨ (coreOf s t c).outst.any (fun o => o.kind != .late) then []
  else [.putCores (coreKey t c) { CoreSt.init with outst := (coreOf s t c).outst },
    .fld (tk t .TILE_CORE_STAT) f_TILE_CORE_STAT_STOPPED (tfld s t .TILE_CORE_STAT f_TILE_CORE_STAT_STOPPED ||| 2 ^ c),
    .fld (tk t .TILE_CORE_STAT) f_TILE_CORE_STAT_WFI (tfld s t .TILE_CORE_STAT f_TILE_CORE_STAT_WFI &&& (2 ^ 24 - 1 - 2 ^ c))]
    ++ (if c = 23 then [.fld (tk t .COL_RT_STAT) f_COL_RT_STAT_RUNNING 0] else [])

/-- R129: COMM_RSV sets, as the runtime loads; where core 23 is already set running, it runs the runtime from here. -/
def commRsvA (t : Nat) : Act := fun s =>
  setBit (tk t .TILE_CORE_CTRL) f_TILE_CORE_CTRL_COMM_RSV
    :: (if tfld s t .TILE_CORE_CTRL f_TILE_CORE_CTRL_COMM_RSV = 0 ∧ bitOf (tfld s t .TILE_CORE_RUN f_TILE_CORE_RUN_RUN) 23 then runtimeUp t s
        else [])

/-! ### Sleep (R157, R166) -/

/-- R157: what sleep entry waits for. -/
def mayTileSleep (s : State) (t : Nat) : Bool :=
  tfld s t .TILE_CORE_STAT f_TILE_CORE_STAT_STOPPED == 2 ^ 24 - 1 && (List.range 22).all (fun q => qIdle s t q)
    && tfld s t .RED_STATUS f_RED_STATUS_CTX_ARMED == 0

/-- R157: a write of SLEEP. -/
def tileSleepA (t : Nat) : Act := fun s =>
  if 2 ≤ tilePwr s t then []
  else if mayTileSleep s t then
    seqA [effA [.fld (tk t .TILE_PWR_STAT) f_TILE_PWR_STAT_STATE 3, .putTileLeave t false], wickAbsent] s
  else [setBit (tk t .TILE_PWR_STAT) f_TILE_PWR_STAT_SLEEP_REFUSED]

/-- R157: the vault is in self-refresh. -/
def selfRefresh (s : State) (t : Nat) : Bool := tfld s t .TILE_VLT_STAT f_TILE_VLT_STAT_SELF_REFRESH == 1

/-- R157, R166: sleep entry completes; a WAKE written meanwhile takes effect then. -/
def sleepEntryA (t : Nat) : Act := fun s =>
  if tilePwr s t = 3 ∧ !selfRefresh s t then
    [setBit (tk t .TILE_VLT_STAT) f_TILE_VLT_STAT_SELF_REFRESH,
     .fld (tk t .TILE_PWR_STAT) f_TILE_PWR_STAT_STATE (if tileLeaveAt s t then 3 else 2)]
  else []

/-- R157, R166: a write of WAKE. -/
def tileWakeA (t : Nat) : Act := fun s =>
  if tilePwr s t = 2 then [.fld (tk t .TILE_PWR_STAT) f_TILE_PWR_STAT_STATE 3, .putTileLeave t true]
  else if tilePwr s t = 3 then [.putTileLeave t true]
  else []

/-- A completed wake: the tile runs, and WAKES counts it. -/
def wakes (t : Nat) : Act := fun s =>
  [.fld (tk t .TILE_PWR_STAT) f_TILE_PWR_STAT_STATE 0,
   .fld (tk t .TILE_PWR_STAT) f_TILE_PWR_STAT_WAKES (tfld s t .TILE_PWR_STAT f_TILE_PWR_STAT_WAKES + 1)]

/-- R157: a waking tile returns to the run state. -/
def wakeDoneA (t : Nat) : Act := fun s =>
  if tilePwr s t = 3 ∧ selfRefresh s t then
    seqA [wakes t, coresClear t, effA [.fld (tk t .TILE_VLT_STAT) f_TILE_VLT_STAT_SELF_REFRESH 0, .putTileLeave t false]] s
  else []

/-! ### Doze (R156) -/

/-- R156: what doze waits for. -/
def mayDoze (s : State) (t : Nat) : Bool :=
  tfld s t .TILE_PWR_CTRL f_TILE_PWR_CTRL_DOZE_EN == 1
    && (List.range 24).all (fun c => coreStopped s t c || coreWfi s t c) && (List.range 9).all (fun q => qIdle s t q)

/-- R156: the tile dozes. -/
def dozeA (t : Nat) : Act := fun s =>
  if tilePwr s t = 0 ∧ mayDoze s t then [.fld (tk t .TILE_PWR_STAT) f_TILE_PWR_STAT_STATE 1] else []

/-- R156: a dozing tile wakes. -/
def dozeWakeA (t : Nat) : Act := fun s => if tilePwr s t = 1 then wakes t s else []

/-- A write of software to TILE_PWR_CTRL. -/
def tilePwrCtrlWr (t : Nat) (v en : W64) : Act := seqA [
  regWr (tk t .TILE_PWR_CTRL) v en,
  (fun s => if tfld s t .TILE_PWR_CTRL f_TILE_PWR_CTRL_DOZE_EN = 0 then dozeWakeA t s else []),
  whenA (bitOf (v &&& en).toNat 1) (tileSleepA t), whenA (bitOf (v &&& en).toNat 2) (tileWakeA t)]

/-! ### The commands -/

/-- R128: a write to TILE_CORE_RUN. -/
def execTileCoreRunWrite (who : Requester) (t : Tile) (v : W64) (s : State) : Host.Outcome State Fault Refusal :=
  runA (coreRunWr who t v allBits) s

/-- R128: a stopping core stops. -/
def execCoreStopComplete (t : Tile) (c : CoreIx) (s : State) : Host.Outcome State Fault Refusal := runA (coreStopA t c) s

/-- R129: COMM_RSV sets. -/
def execCommRsvSet (t : Tile) (s : State) : Host.Outcome State Fault Refusal := runA (commRsvA t) s

/-- R157: a write of SLEEP. -/
def execTileSleep (t : Tile) (s : State) : Host.Outcome State Fault Refusal := runA (tileSleepA t) s

/-- R157: sleep entry completes. -/
def execSleepEntryComplete (t : Tile) (s : State) : Host.Outcome State Fault Refusal := runA (sleepEntryA t) s

/-- R157: a write of WAKE. -/
def execTileWake (t : Tile) (s : State) : Host.Outcome State Fault Refusal := runA (tileWakeA t) s

/-- R157: a waking tile runs. -/
def execWakeComplete (t : Tile) (s : State) : Host.Outcome State Fault Refusal := runA (wakeDoneA t) s

/-- R156: a tile dozes. -/
def execDozeEnter (t : Tile) (s : State) : Host.Outcome State Fault Refusal := runA (dozeA t) s

/-- R156: a dozing tile wakes. -/
def execDozeWake (t : Tile) (s : State) : Host.Outcome State Fault Refusal := runA (dozeWakeA t) s

end Sys2Proof.Machine
end

