-- ==== Sys2Proof/Machine/Spi.lean ====
section
/-!
DEFINITION. Sys2Proof/Machine/Spi.lean: the SPI target (R591 to R599, R607 to R609): the command and status words, the hardware window, the
mailbox, aborts and extra clocks.
-/
namespace Sys2Proof.Machine

/-! ### Words -/

/-- The exclusive or of the lowest `n` nibbles of a number. -/
def nibbleXor : Nat → Nat → Nat
  | 0, _ => 0
  | n + 1, x => Nat.xor (x % 16) (nibbleXor n (x / 16))

/-- R592: CHK of a command word: the nibbles of bits 31:20 and 15:0. -/
def spiChk (w : Nat) : Nat := Nat.xor (nibbleXor 4 (w % 65536)) (nibbleXor 3 (w / 2 ^ 20 % 4096))

def spiOp (w : Nat) : Nat := bitsOf w 30 2
def spiMbx (w : Nat) : Bool := bitOf w 29
def spiLen (w : Nat) : Nat := bitsOf w 20 9
def spiAddr (w : Nat) : Nat := bitsOf w 0 16

/-- R592: the command word with its CHK. -/
def spiCmd (op : Nat) (mbx : Bool) (len addr : Nat) : Nat :=
  let w := op * 2 ^ 30 + b2n mbx * 2 ^ 29 + len * 2 ^ 20 + addr
  w + spiChk w * 2 ^ 16

/-- R592: the command word is valid. -/
def spiValid (w : Nat) : Bool :=
  spiOp w != 3 && bitsOf w 16 4 == spiChk w && decide (spiLen w ≤ 256) && (spiOp w != 0 || spiLen w == 0) && (!spiMbx w || spiAddr w == 0)

/-- R592: D, the words of a transaction. -/
def spiWords (w : Nat) : Nat := 1 + b2n (spiOp w == 1) + spiLen w

/-- R604: ALERT_N is low. -/
def alertLow (s : State) : Bool := (regOf s (dk .GLV_ALERT_SRC) &&& regOf s (dk .GLV_ALERT_EN)) != 0

/-- R593: the status word. -/
def spiStatus (s : State) : Nat :=
  if glvState s = 3 then 0xB5B5B5B5
  else 0xA0000000 + glvState s * 2 ^ 25 + bitsOf s.spiPrev 0 1 * 2 ^ 24 + bitsOf s.spiPrev 1 1 * 2 ^ 23 + bitsOf s.spiPrev 2 1 * 2 ^ 22
    + b2n (!s.spiTx.isEmpty) * 2 ^ 21 + b2n (decide (spiRxWords s + 256 ≤ mbxWords)) * 2 ^ 20 + b2n (alertLow s) * 2 ^ 19
    + dfld s .GLV_FAST f_GLV_FAST_THERM * 2 ^ 18 + s.spiTxn % 65536

/-- R598: a word of the hardware window. -/
def spiWindow (s : State) (a : Nat) : Nat :=
  match a with
  | 0 => dfld s .TILE_GRID f_TILE_GRID_GRADE * 2 ^ 24 + dfld s .TILE_GRID f_TILE_GRID_OPTION * 2 ^ 20 + chipId s
  | 1 => glvState s + dfld s .GLV_STAT f_GLV_STAT_RESTARTS % 256 * 2 ^ 8
  | 2 => pilotNow s % 2 ^ 32
  | 3 => pilotNow s / 2 ^ 32
  | 4 => dfld s .GLV_FAST f_GLV_FAST_PWRBRAKE * 8 + b2n (alertLow s) * 4 + dfld s .GLV_FAST f_GLV_FAST_THERM * 2
      + dfld s .GLV_FAST f_GLV_FAST_PRSNT
  | 5 => s.spiTx.length * 2 ^ 16 + (mbxWords - spiRxWords s)
  | 6 => capNow s
  | 8 => (regOf s (dk .SPT_STAT)).toNat % 2 ^ 32
  | 9 => dfld s .SPT_XTRA f_SPT_XTRA_CLOCKS % 2 ^ 32
  | 10 => (regOf s (dk .GLV_ALERT_SRC)).toNat % 2 ^ 32
  | 11 => (regOf s (dk .GLV_ALERT_EN)).toNat % 2 ^ 32
  | _ => 0

/-! ### The mailbox (R599) -/

/-- A word that the mailbox does not take. -/
def mbxDrop : Act := effA [setBit (dk .SPT_STAT) f_SPT_STAT_MBX_DROP]

/-- The board writes a word to the mailbox. -/
def mbxWriteWord (w : Nat) : Act := fun s =>
  if glvDeaf s ∨ mbxWords ≤ spiRxWords s then mbxDrop s else [.setSpiRx (s.spiRx ++ [some w])]

/-- R618: a break in the board-to-plane stream. -/
def mbxBreak : Act := fun s => if glvDeaf s then [] else [.setSpiRx (s.spiRx ++ [none])]

/-- R584, R599: the plane sees what the board has written. -/
def mbxSeen : Act := fun s => if glvDeaf s then [] else seqA [glvWake, fun s => if fwRuns s then glvServe s else []] s

/-- R599: the words that a mailbox read of `n` words returns. -/
def mbxReadWords (s : State) (n : Nat) : List Nat :=
  if glvState s = 3 then List.replicate n 0xB5B5B5B5
  else if glvState s = 4 then List.replicate n 0
  else s.spiTx.take n ++ List.replicate (n - s.spiTx.length) 0

/-- R596, R599: `n` words of the plane-to-board mailbox have been shifted out whole. -/
def mbxConsume (n : Nat) : Act := fun s =>
  if glvDeaf s then [] else seqA [effA [.setSpiTx (s.spiTx.drop n)], spiPump s.spiRsp.length] s

/-! ### A transaction (R594 to R597) -/

/-- R594: the data words that a READ shifts out. -/
def spiReadWords (s : State) (w : Nat) : List Nat :=
  if spiMbx w then mbxReadWords s (spiLen w)
  else (List.range (spiLen w)).map (fun k => spiWindow s ((spiAddr w + k) % 65536))

/-- R594, R598: a word of a WRITE to the hardware window. -/
def spiWindowWr (a x : Nat) : Act :=
  if a = 8 then regWr (dk .SPT_STAT) (BitVec.ofNat 64 x) allBits
  else if a = 10 then regWr (dk .GLV_ALERT_SRC) (BitVec.ofNat 64 x) allBits
  else noA

/-- What the first `n` data words of a transaction do. -/
def spiPerform (w n : Nat) (data : List (BitVec 32)) : Act :=
  if spiOp w = 1 then whenA (spiMbx w) (mbxConsume n)
  else if spiMbx w then eachA (data.take n) (fun x => mbxWriteWord x.toNat)
  else eachA ((List.range n).zip data) (fun e => spiWindowWr ((spiAddr w + e.1) % 65536) e.2.toNat)

/-- The words that a transaction shifts out. -/
def spiOut (s : State) (w : Nat) : List Nat :=
  spiStatus s :: (if spiOp w = 1 then 0 :: spiReadWords s w else List.replicate (spiLen w) 0)

/-- The bits shifted out in some clocks: the words, and then ones. -/
def spiShift (ws : List Nat) (clocks : Nat) : List Byte :=
  let bs := ws.flatMap (beBytes 4)
  (bs ++ List.replicate (clocks / 8 - bs.length) 0xFF).take (clocks / 8)

/-- R596: the transaction aborts. -/
def spiAbortA : Act := effA [.setSpiPrev 1, setBit (dk .SPT_STAT) f_SPT_STAT_ABORT, .cnt (dk .SPT_ABORT_CNT) f_SPT_ABORT_CNT_COUNT 1]

/-- R595: the transaction completes, with extra clocks. -/
def spiDoneA (extra : Nat) : Act := fun s =>
  [.setSpiTxn ((s.spiTxn + 1) % 65536), .cnt (dk .SPT_TXN_CNT) f_SPT_TXN_CNT_COUNT 1]
  ++ (if extra = 0 then [.setSpiPrev 0]
      else [.setSpiPrev 2, setBit (dk .SPT_STAT) f_SPT_STAT_XTRA, .cnt (dk .SPT_XTRA) f_SPT_XTRA_CLOCKS extra])

/-- R591 to R596, R607, R608: a transaction of some clocks, which begins with a command word. Once 32 × D clocks have run, it has completed. -/
def spiRun (mode3 : Bool) (w clocks : Nat) (data : List (BitVec 32)) : Act := fun s =>
  let start := effA [.fld (dk .SPT_STAT) f_SPT_STAT_MODE (b2n mode3)]
  let seen := effA [.reg (dk .SPT_LAST_CMD) (BitVec.ofNat 64 (2 ^ 63 + w))]
  let d := spiWords w
  if !pilotOn s then []
  else if clocks < 32 then seqA [start, effA [.setAnsOut (spiShift [spiStatus s] clocks)], spiAbortA] s
  else if !spiValid w then
    seqA [start, seen, effA [.setAnsOut (spiShift [spiStatus s] clocks), .setSpiPrev 4, setBit (dk .SPT_STAT) f_SPT_STAT_CMD_ERR,
      .cnt (dk .SPT_CMDERR_CNT) f_SPT_CMDERR_CNT_COUNT 1]] s
  else
    let n := min (spiLen w) (clocks / 32 - (d - spiLen w))
    let mw := spiOp w == 2 && spiMbx w
    seqA [start, seen, effA [.setAnsOut (spiShift (spiOut s w) clocks)],
      spiPerform w n data,
      (if clocks < 32 * d then seqA [spiAbortA, whenA mw mbxBreak]
       else seqA [spiDoneA (clocks - 32 * d), whenA (mw && spiLen w == 0) mbxBreak]),
      whenA mw mbxSeen] s

/-- R597: the select fell too early. -/
def spiEarlyA (clocks : Nat) : Act := fun s =>
  if !pilotOn s then [] else [.setAnsOut (List.replicate (clocks / 8) 0xFF), setBit (dk .SPT_STAT) f_SPT_STAT_EARLY]

/-- A whole transaction with extra clocks. -/
def spiWhole (mode3 : Bool) (w extra : Nat) (data : List (BitVec 32)) : Act := spiRun mode3 w (32 * spiWords w + extra) data

/-! ### The commands -/

/-- R592: a NOP. -/
def execSpiNop (mode3 : Bool) (addr : BitVec 16) (extra : Nat) (s : State) : Host.Outcome State Fault Refusal :=
  runA (seqA [canFresh, spiWhole mode3 (spiCmd 0 false 0 addr.toNat) extra []]) s

/-- R598: a READ of the hardware window. -/
def execSpiReadWindow (mode3 : Bool) (len : Fin 257) (addr : BitVec 16) (extra : Nat) (s : State) : Host.Outcome State Fault Refusal :=
  runA (seqA [canFresh, spiWhole mode3 (spiCmd 1 false len.val addr.toNat) extra []]) s

/-- R599: a READ of the mailbox. -/
def execSpiReadMailbox (mode3 : Bool) (len : Fin 257) (extra : Nat) (s : State) : Host.Outcome State Fault Refusal :=
  runA (seqA [canFresh, spiWhole mode3 (spiCmd 1 true len.val 0) extra []]) s

/-- R598: a WRITE to the hardware window, of at most 256 words. -/
def execSpiWriteWindow (mode3 : Bool) (addr : BitVec 16) (data : List (BitVec 32)) (extra : Nat) (s : State) :
    Host.Outcome State Fault Refusal :=
  runA (seqA [canFresh, spiWhole mode3 (spiCmd 2 false (min 256 data.length) addr.toNat) extra data]) s

/-- R599: a WRITE to the mailbox, of at most 256 words. -/
def execSpiWriteMailbox (mode3 : Bool) (data : List (BitVec 32)) (extra : Nat) (s : State) : Host.Outcome State Fault Refusal :=
  runA (seqA [canFresh, spiWhole mode3 (spiCmd 2 true (min 256 data.length) 0) extra data]) s

/-- R596: a transaction of some clocks, with whatever command word; it aborts where they are fewer than 32 × D. -/
def execSpiAbort (mode3 : Bool) (cmd : BitVec 32) (clocks : Nat) (data : List (BitVec 32)) (s : State) :
    Host.Outcome State Fault Refusal := runA (seqA [canFresh, spiRun mode3 cmd.toNat clocks data]) s

/-- R597: a transaction whose select fell too early. -/
def execSpiEarlySelect (clocks : Nat) (s : State) : Host.Outcome State Fault Refusal := runA (spiEarlyA clocks) s

/-- R592: a transaction of at least 32 clocks with an invalid command word. -/
def execSpiInvalidCommand (mode3 : Bool) (cmd : BitVec 32) (more : Nat) (s : State) : Host.Outcome State Fault Refusal :=
  runA (seqA [canFresh, spiRun mode3 cmd.toNat (32 + more) []]) s

end Sys2Proof.Machine
end

