-- ==== Sys2Proof/Machine/Vxe.lean ====
section
/-!
DEFINITION. Sys2Proof/Machine/Vxe.lean: the VXE (R152): element-wise and row operations. Results that R152 bounds only by an accuracy,
and results it does not state (a NaN operand of max or min, the root of a negative number), are free values (assumption 4).
-/
namespace Sys2Proof.Machine

/-- The fields of a VXE descriptor. -/
structure VxeD where
  src0  : Nat
  src1  : Nat
  dst   : Nat
  count : Nat
  fsrc  : Nat
  fdst  : Nat
  mode  : Nat
  op    : Nat
  imm   : Nat
  row   : Nat

/-- R152: the descriptor's fields. -/
def vxeD (bs : List Byte) : VxeD :=
  ⟨leAt bs 8 4, leAt bs 12 4, leAt bs 16 4, leAt bs 20 4, leAt bs 24 1, leAt bs 25 1, leAt bs 26 1, leAt bs 27 1,
    leAt bs 28 4, leAt bs 32 4⟩

/-- OP 0x11 to 0x13 work on rows. -/
def VxeD.rowOp (d : VxeD) : Bool := d.op == 0x11 || d.op == 0x12 || d.op == 0x13

/-- OP 0x00 to 0x04 read both sources. -/
def VxeD.two (d : VxeD) : Bool := decide (d.op ≤ 4)

/-- The number of output elements: one for each row of a row sum or row max, one for each element otherwise. -/
def VxeD.outs (d : VxeD) : Nat := if d.op = 0x11 ∨ d.op = 0x12 then d.count / d.row else d.count

/-- The ranges a VXE job reads. -/
def VxeD.reads (d : VxeD) : List (Nat × Nat) :=
  (d.src0, arrayBytes (fmtCode d.fsrc) d.count) ::
  (if d.two then [(d.src1, arrayBytes (fmtCode d.fsrc) d.count)] else [])

/-- R102, R106, R138, R142, R152: the post-time checks of a VXE descriptor. The descriptor names no scale array, so MX is refused. -/
def vxeCheck (t : Nat) (bs : List Byte) : Nat :=
  let d := vxeD bs
  let wide := fun (f : Nat) => fmtCode f == 0 || fmtCode f == 0xE
  let fmt := fmtBad d.fsrc || fmtBad d.fdst || fmtMx d.fsrc || fmtMx d.fdst || modeBad d.mode || leAt bs 36 12 != 0
    || decide (0x13 < d.op) || (decide (4 < d.op) && (wide d.fsrc || wide d.fdst))
    || !alignOk (fmtCode d.fsrc) d.src0 || (d.two && !alignOk (fmtCode d.fsrc) d.src1) || !alignOk (fmtCode d.fdst) d.dst
  let len := d.count == 0 || (d.rowOp && (d.row == 0 || d.count % d.row != 0))
  let rngs := d.reads ++ [(d.dst, arrayBytes (fmtCode d.fdst) d.outs)]
  let addr := if len then stOK else rngs.foldl (fun a r => stMerge a (ownPost t r.1 r.2)) stOK
  stMerge addr (stMerge (if fmt then stFmt else stOK) (if len then stLen else stOK))

/-- R152: a value rounded under RNE to the format the VXE computes in: INT64, FP64 or FP32; and the flags. -/
def vxeForm (code : Nat) (v : Val) : Val × Nat :=
  if code = 0xE then
    let r := toInt 64 true false v
    (decodeElem 0xE r.1, r.2)
  else
    let f := if code = 0 then fp64 else fp32
    let r := toFloat f false true v
    (decodeFloat f r.1, r.2)

/-- The largest r with r² ≤ n, bit by bit. -/
def isqrt (n : Nat) : Nat → Nat → Nat
  | 0, r => r
  | k + 1, r => isqrt n k (if (r + 2 ^ k) * (r + 2 ^ k) ≤ n then r + 2 ^ k else r)

/-- A value whose FP32 rounding is that of the square root of m × 2^e, m of at most 24 bits and not 0. -/
def sqrtVal (m : Nat) (e : Int) : Val :=
  let odd := e % 2 ≠ 0
  let m' := (if odd then 2 * m else m) * 2 ^ 60
  let e' := (if odd then e - 1 else e) - 60
  let r := isqrt m' 48 0
  .fin false (2 * r + b2n (r * r ≠ m')) (e' / 2 - 1)

/-- A free FP32 value: draw `n`. -/
def freeF32 (n : Nat) : Val := decodeFloat fp32 (bitsOf (Config.freeWord n).toNat 0 32)

/-- A free value of the form the VXE computes in. -/
def freeForm (code n : Nat) : Val :=
  if code = 0xE then decodeElem 0xE (Config.freeWord n).toNat
  else if code = 0 then decodeFloat fp64 (Config.freeWord n).toNat
  else freeF32 n

/-- The larger (or the smaller) of two values; a NaN operand and two zeros of unlike sign leave the result open. -/
def vxeExt (big : Bool) (code n : Nat) (a b : Val) : Val :=
  if a = .nan ∨ b = .nan then freeForm code n
  else if a.isZero ∧ b.isZero ∧ a.sign ≠ b.sign then .fin (Config.freeBit n) 0 0
  else if big then (if a.lt b then b else a) else (if b.lt a then b else a)

/-- R116: NV where +infinity meets −infinity in a sum. -/
def infNV (a b : Val) : Nat := if a.add b = .nan ∧ a ≠ .nan ∧ b ≠ .nan then flNV else 0

/-- R152: one element of OP 0x00 to 0x10: its result in the form computed in, and flags; `n` numbers the free draw. -/
def vxeElem (op code n : Nat) (a b imm : Val) : Val × Nat :=
  match op with
  | 0 => ((vxeForm code (a.add b)).1, infNV a b)
  | 1 => ((vxeForm code (a.mul b)).1, 0)
  | 2 => (vxeExt true code n a b, 0)
  | 3 => (vxeExt false code n a b, 0)
  | 4 => ((vxeForm code ((a.mul imm).add b)).1, infNV (a.mul imm) b)
  | 5 =>
    match a with
    | .nan => (.nan, 0)
    | .inf false => (.inf false, 0)
    | .fin neg m e => if m = 0 then (a, 0) else if neg then (freeF32 n, 0) else ((vxeForm 1 (sqrtVal m e)).1, 0)
    | .inf true => (freeF32 n, 0)
  | _ => (freeF32 n, 0)

/-- R152: one row of OP 0x11 or 0x12: sums in W40 in element order, and maxima. -/
def vxeRow (op n : Nat) (vs : List Val) : Val × Nat :=
  if op = 0x11 then sumVals true vs
  else match vs with
    | [] => (.zero, 0)
    | v :: vs => (vs.foldl (fun a x => vxeExt true 1 n a x) v, 0)

/-- R152: the results of a job, before they are rounded to FMT_DST, and the flags of its operands and sums. -/
def vxeVals (d : VxeD) (a b : Arr) (free : Nat) : List (Val × Nat) :=
  let code := fmtCode d.fsrc
  let imm := vxeForm code (decodeElem 1 d.imm)
  let xs := (List.range d.count).map (fun i => vxeForm code (a.val i))
  if d.op = 0x11 ∨ d.op = 0x12 then
    (List.range d.outs).map (fun r =>
      let row := (xs.drop (r * d.row)).take d.row
      let z := vxeRow d.op (free + r) (row.map (·.1))
      (z.1, row.foldl (fun g x => g ||| x.2) z.2))
  else
    xs.zipIdx.map (fun p =>
      let y := if d.two then vxeForm code (b.val p.2) else (.zero, 0)
      let z := vxeElem d.op code (free + p.2) p.1.1 y.1 (if code = 0xE then decodeElem 1 d.imm else imm.1)
      (z.1, p.1.2 ||| y.2 ||| z.2))

/-- The element i of the output depends on poison: of its sources, or of any element of its row. -/
def vxeBad (d : VxeD) (a b : Arr) (i : Nat) : Bool :=
  if d.op = 0x11 ∨ d.op = 0x12 then (List.range d.row).any (fun j => a.bad (i * d.row + j))
  else if d.op = 0x13 then (List.range d.row).any (fun j => a.bad (i / d.row * d.row + j))
  else a.bad i || (d.two && b.bad i)

/-- R152: the VXE runs a descriptor. -/
def vxeRun (t idx : Nat) (bs : List Byte) (fs : Finds) : Act := fun s =>
  let d := vxeD bs
  let step := arrayBytes (fmtCode d.fsrc) d.count
  let ws := [(d.dst, arrayBytes (fmtCode d.fdst) d.outs)]
  let a := ownArrMix s t d.src0 0 (fmtCode d.fsrc) false d.count fs ws s.free
  let b := ownArrMix s t d.src1 0 (fmtCode d.fsrc) false d.count fs ws (s.free + step)
  let rs := vxeVals d a b (s.free + 2 * step)
  let o := encodeArr (fmtCode d.fdst) false d.mode (rs.map (·.1)) (vxeBad d a b)
  seqA [
    effA [.setFree (s.free + 2 * step + d.count)],
    localJob t 1 idx 27 fs d.reads [⟨d.dst, o.data, o.psn⟩] d.outs (rs.foldl (fun g r => g ||| r.2) o.flags)] s

/-- R152: the VXE takes up its next descriptor. -/
def execVxeOp (t : Tile) (ecc : List (Nat × Ecc)) (s : State) : Host.Outcome State Fault Refusal :=
  runA (takeDesc t 1 0x30 (fun _ bs => vxeCheck t bs) (fun idx bs => vxeRun t idx bs ecc)) s

end Sys2Proof.Machine
end

