-- ==== Sys2Proof/Machine/RegAccess.lean ====
section
/-!
DEFINITION. Sys2Proof/Machine/RegAccess.lean: register reads and writes as they reach their block (R7, R64, R67, R71 to R73, R158, R753): the
views of registers that read other state live, and what a write to each register does.
-/
namespace Sys2Proof.Machine

/-! ### Live views -/

/-- Whole tokens of a bucket, as a signed 32-bit number (SHP_TOKENS). -/
def tokenView (x : Int) : W64 := BitVec.ofNat 64 ((x / 256) % ((2 ^ 32 : Nat) : Int)).toNat

/-- ARB_STAT of a point. WIN_POS counts cycles, of which the model has none: a free value (assumption 4). -/
def arbStatView (s : State) (u p : Nat) : W64 :=
  let k := arbOf s u p
  let hold := bitOf (arbPointCfg s u p) 2
  let owned := k.owner.isSome && !k.parked
  BitVec.ofNat 64 (b2n owned * 2 ^ 63 + b2n (k.owner.isSome && k.parked && !hold) * 2 ^ 62 + b2n (k.owner.isSome && hold) * 2 ^ 61
    + b2n (arbMasked s u p 3) * 2 ^ 60 + b2n (arbMasked s u p 2) * 2 ^ 59 + b2n (epochNow s != k.old) * 2 ^ 58
    + k.owner.getD 0 % 512 * 2 ^ 32 + (Config.freeWord s.free).toNat % 65536)

/-- The arbitration point that a block's POINT selects; none where it names no point (R393). -/
def arbPoint (s : State) (u : Nat) : Option Nat :=
  let p := if u < 512 then tfld s u .ARB_SEL f_ARB_SEL_POINT else dfld s .ARB_DEV_SEL f_ARB_DEV_SEL_POINT
  if (u < 512 ∧ 63 ≤ p) ∨ 97 ≤ p then none else some p

/-- R393: the index of the selected point's register; none where the point or the requester does not exist. -/
def arbIndex (s : State) (u r : Nat) (perReq : Bool) : Option Nat :=
  match arbPoint s u with
  | none => none
  | some p => if !perReq then some p else if r < arbCount s u p then some (p * 512 + r) else none

/-- The key of a tile register that an offset names, by way of ARB_SEL at the arbitration block; none where it is reserved. -/
def tileKey (s : State) (t off : Nat) : Option RKey :=
  match tileRegAt off with
  | none => none
  | some (r, i) =>
    match r with
    | .ARB_CFG_SHADOW => (arbIndex s t i false).map (fun n => tk t r n)
    | .ARB_CFG_ACTIVE => (arbIndex s t i false).map (fun n => tk t r n)
    | .ARB_STAT => (arbIndex s t i false).map (fun n => tk t r n)
    | .ARB_CTRL => (arbIndex s t i false).map (fun n => tk t r n)
    | .ARB_REQ_SHADOW => (arbIndex s t i true).map (fun n => tk t r n)
    | .ARB_REQ_ACTIVE => (arbIndex s t i true).map (fun n => tk t r n)
    | .ARB_CNT_GRANTS => (arbIndex s t i true).map (fun n => tk t r n)
    | .ARB_CNT_WAIT => (arbIndex s t i true).map (fun n => tk t r n)
    | .ARB_CNT_LONGEST => (arbIndex s t i true).map (fun n => tk t r n)
    | _ => some (tk t r i)

/-- The key of a device register that an offset names. -/
def devKey (s : State) (off : Nat) : Option RKey :=
  match devRegAt off with
  | none => none
  | some (r, i) =>
    match r with
    | .ARB_DEV_CFG_SHADOW => (arbIndex s 512 i false).map (fun n => dk r n)
    | .ARB_DEV_CFG_ACTIVE => (arbIndex s 512 i false).map (fun n => dk r n)
    | .ARB_DEV_STAT => (arbIndex s 512 i false).map (fun n => dk r n)
    | .ARB_DEV_CTRL => (arbIndex s 512 i false).map (fun n => dk r n)
    | .ARB_DEV_REQ_SHADOW => (arbIndex s 512 i true).map (fun n => dk r n)
    | .ARB_DEV_REQ_ACTIVE => (arbIndex s 512 i true).map (fun n => dk r n)
    | .ARB_DEV_CNT_GRANTS => (arbIndex s 512 i true).map (fun n => dk r n)
    | .ARB_DEV_CNT_WAIT => (arbIndex s 512 i true).map (fun n => dk r n)
    | .ARB_DEV_CNT_LONGEST => (arbIndex s 512 i true).map (fun n => dk r n)
    | _ => some (dk r i)

/-- R5, R497: TILE_ID: the place of the tile, and the chip ID that it took when traffic last resumed. -/
def tileIdView (s : State) (t : Nat) : W64 :=
  regOf s (tk t .TILE_ID) ||| BitVec.ofNat 64 (tileY t * 2 ^ 24 + tilePx s t % 64 * 2 ^ 16 + t)

/-- R704: ERR_TILE_SUM. -/
def tileSumView (s : State) (i : Nat) : W64 :=
  BitVec.ofNat 64 (((List.range 64).filter (fun j => decide (64 * i + j < nTiles s) && errSum s (64 * i + j) != 0)).foldl
    (fun a j => a + 2 ^ j) 0)

/-- Some bit of a range of a device register reads 1. -/
def anyDev (s : State) (r : DReg) (lo len : Nat) : Bool := bitsOf (regOf s (dk r)).toNat lo len != 0

/-- ERR_DEV_SUM, which reads the device blocks live. TILE_MEM_STAT stands for its error bits, as in event 0x49. -/
def devSumView (s : State) : W64 :=
  let bits : List Bool := [
    anyDev s .TILE_MEM_STAT 1 2, anyDev s .TILE_MAP_STAT 1 2, anyDev s .EPC_STAT 8 6, anyDev s .BN_DEV_STAT 63 1,
    anyDev s .RED_DEV_STAT 63 1, anyDev s .CN_DEV_STAT 63 1, anyDev s .WICK_DEV_STAT 0 2, anyDev s .SNF_DEV_STAT 0 2,
    anyDev s .SYS_STAT 0 5, anyDev s .PRG_STAT 0 3, anyDev s .HIF_STAT 0 4,
    anyDev s .PWR_STAT 1 2 || anyDev s .PWR_STAT 4 1 || anyDev s .PWR_STAT 8 2 || anyDev s .PWR_STAT 11 2,
    anyDev s .IVR_FAIL0 0 64 || anyDev s .IVR_FAIL1 0 11, anyDev s .GLV_STAT 62 1 || anyDev s .GLV_STAT 0 1, anyDev s .SPT_STAT 0 5,
    anyDev s .BOOT_STAT 62 1 || anyDev s .BOOT_RST_STAT 0 1 || anyDev s .BOOT_SVC_STAT 0 1 || anyDev s .BOOT_ADM_STAT 60 2,
    anyDev s .COL_DEV_STAT 8 1, anyDev s .EMB_STAT 63 1]
  let blk := ((List.range 18).filter (fun i => bits.getD i false)).foldl (fun a i => a + 2 ^ i) 0
  let ports := ((List.range 16).filter (fun n => regOf s (dk .WLP_EVENT n) != 0)).foldl (fun a n => a + 2 ^ (32 + n)) 0
  BitVec.ofNat 64 (blk + ports)

/-- What a read of a register returns (R7, R71): one snapshot of it. A WO field reads 0. -/
def regView (s : State) (k : RKey) : W64 :=
  match k with
  | .tile t .TILE_ID _ => tileIdView s t.val
  | .tile t .TILE_ERR_SUM _ => BitVec.ofNat 64 (errSum s t.val)
  | .tile t .SHP_TOKENS i => tokenView (tokAt s (t.val * 4 + i.val))
  | .tile _ .WICK_FLAG_MIRROR i => regOf s (dk .WICK_FLAG_STATE i.val)
  | .tile t .NIU_OUTST _ => BitVec.ofNat 64 (tagsInUse s t.val)
  | .tile t .ARB_STAT i => arbStatView s t.val i.val
  | .tile t .Q_STAT q =>
    let b := queueOf s t.val q.val
    fset (fset (regOf s k) f_Q_STAT_BUSY (b2n (!b.run.isEmpty))) f_Q_STAT_ABORTING (b2n b.abortPi.isSome)
  | .dev .ARB_DEV_STAT i => arbStatView s 512 i.val
  | .dev .SHP_WLP_TOKENS i => tokenView (wtokAt s i.val)
  | .dev .ERR_TILE_SUM i => tileSumView s i.val
  | .dev .ERR_DEV_SUM _ => devSumView s
  | .dev .GLV_FAST _ => fset (regOf s k) f_GLV_FAST_ALERT (b2n (alertLow s))
  | .dev .WLP_STAT _ => fset (regOf s k) f_WLP_STAT_HOLD_TX (b2n (holdTraffic s))
  | .dev .WLP_MGMT_RX n => wlpMgmtHead s n.val
  | _ => regOf s k

/-- What a read of a register does once it completes (R753): it removes the word of an RC queue. ARB_STAT draws a free value. -/
def regReadEnd (k : RKey) : Act := fun s =>
  match k with
  | .dev .WLP_MGMT_RX n => wlpMgmtPop n.val s
  | .tile _ .ARB_STAT _ => [.setFree (s.free + 1)]
  | .dev .ARB_DEV_STAT _ => [.setFree (s.free + 1)]
  | _ => []

/-! ### Reads (R71, R72, R753) -/

/-- The number of a requester in the latches of R72; for another chip, its chip and source tile. -/
def reqNo (who : Requester) (stile : Nat) : Nat :=
  match who with
  | .core t c => t.val * 24 + c.val
  | .engine t => 20000 + t.val
  | .host => 30000
  | .glovos => 30001
  | .remote c => 40000 + c.toNat * 512 + stile

/-- The latch that a requester holds in a register window (512 the device's). -/
def latchOf (s : State) (req win : Nat) : Option LatchEnt := s.latches.find? (fun l => l.req == req && l.win == win)

/-- The latches but for one requester's in one window: every access of it there ends its latch (R72). -/
def latchDrop (s : State) (req win : Nat) : List LatchEnt := s.latches.filter (fun l => !(l.req == req && l.win == win))

/-- The 8 B aligned offset of an access. -/
def off8 (off : Nat) : Nat := off / 8 * 8

/-- What an 8 B aligned offset of a window names: a register, a word of the MSI-X table or of its PBA (R568), or nothing. -/
inductive Slot where
  | reg (k : RKey)
  | msix (i : Nat)
  | pba (i : Nat)
  | none
deriving DecidableEq, Repr

/-- A word of the MSI-X table as it is read: the store keeps the Mask bit inverted, so that an unlisted vector is masked. -/
def msixView (s : State) (i : Nat) : W64 := if i % 2 = 0 then msixTblAt s i else msixTblAt s i ^^^ BitVec.ofNat 64 (2 ^ 32)

/-- The bits of a word of the MSI-X table that PCIe Base 6.0 lets software write. -/
def msixMask (i : Nat) : W64 := BitVec.ofNat 64 (if i % 2 = 0 then 2 ^ 64 - 4 else 2 ^ 33 - 1)

/-- What a read of a slot returns. -/
def slotView (s : State) : Slot → W64
  | .reg k => regView s k
  | .msix i => msixView s i
  | .pba i => BitVec.ofNat 64 (s.msixPend / 2 ^ (64 * i))
  | .none => 0

/-- R67, R71, R72: the bytes that a read of 4 or 8 B at an offset of a window returns, given what lies there. -/
def regReadBytes (s : State) (req win off n : Nat) (k : Slot) : List Byte :=
  let word := slotView s k
  if n = 8 then leBytes 8 word.toNat
  else if off % 8 = 0 then leBytes 4 (word.toNat % 2 ^ 32)
  else match latchOf s req win with
    | some l => if l.addr = off8 off then leBytes 4 l.hi else leBytes 4 (word.toNat / 2 ^ 32)
    | none => leBytes 4 (word.toNat / 2 ^ 32)

/-- R72, R753: what such a read does: a read of a low half latches the high one, and a read that completes a snapshot removes the word of
an RC queue. -/
def regReadEff (req win off n : Nat) (k : Slot) : Act := fun s =>
  let rest := latchDrop s req win
  let ended := match k with
    | .reg k => regReadEnd k
    | _ => noA
  if n = 8 then seqA [effA [.setLatches rest], ended] s
  else if off % 8 = 0 then [.setLatches (rest ++ [⟨req, win, off8 off, (slotView s k).toNat / 2 ^ 32⟩])]
  else match latchOf s req win with
    | some l => seqA [effA [.setLatches rest], if l.addr = off8 off then ended else noA] s
    | none => [.setLatches rest]

/-! ### Writes of tile registers (R7, R73) -/

/-- Some bit of a field is written. -/
def wr (en : W64) (f : Fld) : Bool := en &&& fmask f != 0

/-- R73: the value that a register would be given by a write of some of its bits; the others keep theirs. -/
def wrWord (s : State) (k : RKey) (v en : W64) : W64 := (regOf s k &&& ~~~en) ||| (v &&& en)

/-- A write of a register with a W1C field, which when it clears a bit `f` also clears VALID of a record. -/
def w1cRec (k : RKey) (f : Fld) (r : RKey) (valid : Fld) (v en : W64) : Act := fun s =>
  let w := wouldBe s k v en
  .reg k w :: (if fget w f = 0 then [.fld r valid 0] else [])

/-- A write of a status register; the record goes when no bit of `m` is left. -/
def w1cAll (k : RKey) (m : Nat) (r : RKey) (v en : W64) : Act := fun s =>
  let w := wouldBe s k v en
  .reg k w :: (if w.toNat &&& m = 0 then [.reg r 0] else [])

/-- A tile's bit clears: the device's record of the first such tile goes with it. -/
def devRecClr (t : Nat) (r : DReg) (cleared : Bool) : Act := fun s =>
  let w := regOf s (dk r)
  if cleared ∧ bitsOf w.toNat 0 9 = t ∧ bitOf w.toNat 63 then [.reg (dk r) (w &&& BitVec.ofNat 64 (2 ^ 63 - 1))] else []

/-- A bit that was 1 reads 0 in a new word. -/
def falls (s : State) (k : RKey) (f : Fld) (w : W64) : Bool := fld s k f == 1 && fget w f == 0

/-- A write to a register of a queue block, unless COMM_RSV or sleep bars it; its error flags and counters write as their codes state. -/
def queueRegWr (who : Requester) (t q : Nat) (k : RKey) (v en : W64) : Act := queueWrite who t q (regWr k v en)

/-- R137, R155: a write to Q_CTRL: ERR_IRQ, and ABORT. -/
def queueCtrlWr (who : Requester) (t q : Nat) (v en : W64) : Act := seqA [
  queueWrite who t q (regWr (tk t .Q_CTRL q) v en),
  whenA (bitOf (v &&& en).toNat 0) (abortA who t q)]

/-- R326: a write to a send buffer; while the port is BUSY it is ignored and recorded. -/
def sendBufWr (t i : Nat) (v en : W64) : Act := fun s =>
  let c := i / 8
  if tfld s t .AMQ_SEND_STAT f_AMQ_SEND_STAT_BUSY c = 1 then
    seqA [effA [.fld (tk t .AMQ_SEND_STAT c) f_AMQ_SEND_STAT_LAST 7], amqSet t f_AMQ_STAT_OVERRUN] s
  else regWr (tk t .AMQ_SEND_BUF i) v en s

/-- R321: a write to AMQ_CTL_CMD: 1 LISTEN, 2 OPEN, 3 CLOSE. -/
def ctlCmdA (t v : Nat) : Act :=
  let i := bitsOf v 0 6
  match bitsOf v 8 2 with
  | 1 => listenA t i
  | 2 => openA t i (bitsOf v 16 6)
  | 3 => closeA t i
  | _ => amqSet t f_AMQ_STAT_CTL_ERR

/-- A write to a register of a tile window as it reaches its block, at an 8 B aligned offset. -/
def tileWrA (who : Requester) (t off : Nat) (k : RKey) (r : TReg) (i : Nat) (v en : W64) : Act := fun s =>
  let ve := (v &&& en).toNat
  let w := wrWord s k v en
  (match r with
   | .TILE_CORE_CTRL => whenA (bitOf ve 0) (commRsvA t)
   | .TILE_CORE_RUN => coreRunWr who t v en
   | .TILE_MSIP => msipWr who t v en
   | .TILE_BOOT_PC => coreRegWr who t i k v en
   | .TILE_MTIMECMP => coreRegWr who t i k v en
   | .TILE_IRQ_ROUTE => routeWr who t i v en
   | .TILE_PWR_CTRL => tilePwrCtrlWr t v en
   | .TILE_VLT_STAT => seqA [w1cRec k f_TILE_VLT_STAT_NWR_SEEN (tk t .TILE_VLT_NWR_ADDR) f_TILE_VLT_NWR_ADDR_VALID v en,
       fun s => if tfld s t .TILE_VLT_STAT f_TILE_VLT_STAT_UE_SEEN = 0 then [.fld (tk t .TILE_VLT_UE_ADDR) f_TILE_VLT_UE_ADDR_VALID 0] else []]
   | .CM_STAT => w1cRec k f_CM_STAT_UE_SEEN (tk t .CM_UE_ADDR) f_CM_UE_ADDR_VALID v en
   | .Q_PI => whenA (wr en f_Q_PI_PI) (piWriteA who t i (fget w f_Q_PI_PI))
   | .Q_DESC => descWriteA who t i false w
   | .Q_CPL => descWriteA who t i true w
   | .Q_CQ_CI => whenA (wr en f_Q_CQ_CI_CQ_CI) (cqCiWriteA who t i (fget w f_Q_CQ_CI_CQ_CI))
   | .Q_CTRL => queueCtrlWr who t i v en
   | .Q_STAT => queueRegWr who t i k v en
   | .Q_DONE_CNT => queueRegWr who t i k v en
   | .Q_ERR_CNT => queueRegWr who t i k v en
   | .BN_TILE_STAT => seqA [devRecClr t .BN_DEV_STAT (falls s k f_BN_TILE_STAT_HDR_UE (wouldBe s k v en)), regWr k v en]
   | .CN_TILE_STAT => seqA [devRecClr t .CN_DEV_STAT (falls s k f_CN_TILE_STAT_HDR_UE (wouldBe s k v en)), regWr k v en]
   | .RED_STATUS => seqA [devRecClr t .RED_DEV_STAT (falls s k f_RED_STATUS_RES_ERR (wouldBe s k v en)),
       w1cAll k 0x1E (tk t .RED_BAD_INFO) v en,
       fun s => if tfld s t .RED_STATUS f_RED_STATUS_NAK_SEEN = 0 then [.reg (tk t .RED_NAK_INFO) 0] else []]
   | .RED_CFG => seqA [regWr k v en, whenA (bitOf ve 16) (doneClrA t)]
   | .CDX_STAT => w1cAll k 0xF (tk t .CDX_BAD_INFO) v en
   | .AMQ_STAT => w1cAll k 8 (tk t .AMQ_BAD_INFO) v en
   | .AMQ_CTL_CMD => ctlCmdA t ve
   | .AQ_CFG => aqCfgWriteA t i w
   | .AQ_CI => whenA (wr en f_AQ_CI_CI) (aqCiWriteA t i (fget w f_AQ_CI_CI))
   | .AMQ_CHAN_CFG => chanCfgWriteA t i w
   | .AMQ_SEND_BUF => sendBufWr t i v en
   | .AMQ_SEND_GO => sendGoA t i ve
   | .BCN_TAP_ENT => tapWriteA t i false w
   | .BCN_TAP_LAND => tapWriteA t i true w
   | .TPR_CFG => tprCfgA t w
   | .TPR_RING => tprRegA t 1 w
   | .TPR_FLAG_CFG => tprRegA t 2 w
   | .TPR_RP => whenA (wr en f_TPR_RP_RP) (tprRpA t (fget w f_TPR_RP_RP))
   | .WICK_ARRIVE => whenA (wr en f_WICK_ARRIVE_CTX) (wickArriveA t (bitsOf ve 0 6))
   | .WICK_FLAG_OP => whenA (wr en f_WICK_FLAG_OP_OP) (flagOpA t ve)
   | .WICK_WATCH => watchWriteA t i w
   | .ARB_CTRL => whenA (bitOf ve 0) (arbClrA t)
   | .SNF_STAT => w1cRec k f_SNF_STAT_BITE k f_SNF_STAT_VALID v en
   | .COL_GCFG0 => gcfgWr t i k v en
   | .COL_GCFG1 => gcfgWr t i k v en
   | .COL_GCFG2 => gcfgWr t i k v en
   | .COL_GCFG3 => gcfgWr t i k v en
   | .COL_GCTRL => gctrlA t i ve
   | _ => if isShadow k then shadowWr (some t) off k v en else regWr k v en) s

/-! ### Writes of device registers -/

/-- R707: a write to ERR_STAT: the first event of a class goes with its bit. -/
def errStatWr (v en : W64) : Act := fun s =>
  let w := wouldBe s (dk .ERR_STAT) v en
  .reg (dk .ERR_STAT) w :: ((List.range 4).filter (fun c => !bitOf w.toNat c)).map
    (fun c => .fld (dk .ERR_FIRST c) f_ERR_FIRST_VALID 0)

/-- A write to a device global register as it reaches the hub, at an 8 B aligned offset. -/
def devWrA (who : Requester) (off : Nat) (k : RKey) (r : DReg) (i : Nat) (v en : W64) : Act := fun s =>
  let ve := (v &&& en).toNat
  let w := wrWord s k v en
  (match r with
   | .TILE_MAP_CTRL => whenA (bitOf ve 0) mapApplyA
   | .TILE_MEM_CFG => memCfgWr v en
   | .BOOT_RST_CTRL => rstCtrlA ve
   | .BOOT_SVC_CTRL => whenA (bitOf ve 0) prepareA
   | .BOOT_ADM_CTRL => admCtrlA ve
   | .ERR_STAT => errStatWr v en
   | .EMB_CTRL => embCtrlA ve
   | .EMB_SW => embSwA who ve
   | .EPC_COMMIT => commitA (ve % 65536) (wr en f_EPC_COMMIT_ID)
   | .EPC_STAT => epcStatW1c v en
   | .EPC_QUIESCE => whenA (wr en f_EPC_QUIESCE_REQ) (quiesceWr (fget w f_EPC_QUIESCE_REQ))
   | .BN_PLANE_CFG => nqWrite k off v en
   | .SYS_CHIP => nqWrite k off v en
   | .SYS_SHAPE0 => nqWrite k off v en
   | .SYS_SHAPE1 => nqWrite k off v en
   | .SYS_PORT_MAP => nqWrite k off v en
   | .SYS_STAT => w1cRec k f_SYS_STAT_FAIL (dk .SYS_FAIL_INFO) f_SYS_FAIL_INFO_VALID v en
   | .WICK_DEV_FLAG_OP => whenA (wr en f_WICK_DEV_FLAG_OP_OP) (flagOpA 512 ve)
   | .WICK_CTX_CFG => wickCfgA i w
   | .ARB_DEV_CTRL => whenA (bitOf ve 0) (arbClrA 512)
   | .SNF_DEV_STAT => w1cRec k f_SNF_DEV_STAT_BITE k f_SNF_DEV_STAT_VALID v en
   | .WLP_CFG => wlpCfgA i v en
   | .WLP_CTRL => wlpCtrlA i (v &&& en)
   | .WLP_EXPECT => wlpExpectA i v en
   | .WLP_MGMT_TX => wlpMgmtTxA i (v &&& en)
   | .WLP_EVENT => wlpEventW1c i (v &&& en)
   | .WLP_LANE_CFG => wlpLaneCfgA i v en
   | .HIF_STAT => hifStatW1c v en
   | .HIF_DB_MAP => dbMapWr i v en
   | .HIF_MSIX_TRIG => whenA (wr en f_HIF_MSIX_TRIG_VECTOR) (msixRaise ve)
   | .GLV_CTRL => glvCtrlA ve
   | .GLV_ALERT_SET => alertSetA ve
   | .GLV_WDOG_KICK => effA [.setGlvWdog 0]
   | .GLV_CAN_BT => canBtWr v en
   | .GLV_MBX_CTRL => mbxCtrlWr v en
   | .GLV_MBX_REQ => mbxReqWr i v en
   | .PWR_STAT => pwrStatW1c v en
   | .PWR_CAP_LATCH => pwrCapLatchWr who v en
   | .PWR_HOST_CAP => pwrHostCapWr v en
   | .PWR_CLK_CFG => pwrClkCfgWr v en
   | .PWR_VMAX => pwrVmaxWr v en
   | .PWR_BRAKE_CFG => pwrBrakeCfgWr v en
   | .PWR_THERM_CFG => pwrThermWr who v en
   | _ => if isShadow k then shadowWr none off k v en else regWr k v en) s

/-! ### Accesses by address -/

/-- R73: the bits that a write of 4 or 8 B at an offset covers, and its data at their place. -/
def laneMask (off n : Nat) : W64 := BitVec.ofNat 64 (if n = 8 then 2 ^ 64 - 1 else if off % 8 = 0 then 2 ^ 32 - 1 else 2 ^ 64 - 2 ^ 32)
def laneData (off n x : Nat) : W64 := BitVec.ofNat 64 (if n = 8 then x else if off % 8 = 0 then x else x * 2 ^ 32)

/-- R158: the registers of a tile window that a sleeping tile still serves. -/
def sleepServes (off : Nat) : Bool :=
  decide (0x2000 ≤ off) || off8 off == 0 || off8 off == 8 || decide (0x400 ≤ off ∧ off < 0x600) || off8 off == 0x600 || off8 off == 0x608

/-- The queue blocks of NQ, RED and COL lie beyond TILE_BASE's own (R158, R44): the status that an access to a tile's window meets. -/
def tileRegStatus (s : State) (t off : Nat) : Nat :=
  if nTiles s ≤ t then stAddr
  else if tileDown s t then stDown
  else if tileAsleep s t && !sleepServes off then stAsleep
  else stOK

/-- What an offset of the device global registers names. -/
def devSlot (s : State) (off : Nat) : Slot :=
  let o := off8 off
  if 0xF10000 ≤ o ∧ o < 0xF11000 then .msix ((o - 0xF10000) / 8)
  else if 0xF11000 ≤ o ∧ o < 0xF11020 then .pba ((o - 0xF11000) / 8)
  else match devKey s o with
    | some k => .reg k
    | none => .none

/-- What an offset of a tile's window names. -/
def tileSlot (s : State) (t off : Nat) : Slot :=
  match tileKey s t (off8 off) with
  | some k => .reg k
  | none => .none

/-- The window (512 the device's), the offset and the slot that a place names. -/
def placeReg (s : State) (p : Place) : Option (Nat × Nat × Slot) :=
  match p with
  | .treg t off => some (t, off, tileSlot s t off)
  | .dreg off => some (512, off, devSlot s off)
  | _ => none

/-- The status of a register access at a place (R44, R64, R66, R158). -/
def regStatus (s : State) (p : Place) (n : Nat) : Nat :=
  let form := fun (off lim : Nat) => (n == 4 || n == 8) && off % n == 0 && decide (off + n ≤ lim)
  match p with
  | .treg t off => if form off 0x10000 then tileRegStatus s t off else stAddr
  | .dreg off => if form off 0x2000000 then stOK else stAddr
  | _ => stAddr

/-- A register read at a place: its status, what it returns and what it does. -/
def regRead (s : State) (req : Nat) (p : Place) (n : Nat) : RdOut :=
  let st := regStatus s p n
  if st ≠ stOK then ⟨st, [], false, []⟩
  else match placeReg s p with
    | none => ⟨stAddr, [], false, []⟩
    | some (win, off, k) => ⟨stOK, regReadBytes s req win off n k, false, regReadEff req win off n k s⟩

/-- R67: what a write to a slot does; a reserved offset ignores it, as the PBA does. -/
def slotWrite (who : Requester) (off : Nat) (k : Slot) (v en : W64) : Act := fun s =>
  match k with
  | .reg (.tile t r i) => tileWrA who t.val off (.tile t r i) r i.val v en s
  | .reg (.dev r i) => devWrA who off (.dev r i) r i.val v en s
  | .msix i =>
    let en := en &&& msixMask i
    let w := (msixView s i &&& ~~~en) ||| (v &&& en)
    [.putMsixTbl i (if i % 2 = 0 then w else w ^^^ BitVec.ofNat 64 (2 ^ 32))]
  | _ => []

/-- A register write at a place whose status is OK. It ends the requester's latch in that window (R72). -/
def regWrite (who : Requester) (req : Nat) (p : Place) (n : Nat) (x : Nat) : Act := fun s =>
  match placeReg s p with
  | none => []
  | some (win, off, k) =>
    seqA [effA [.setLatches (latchDrop s req win)], slotWrite who (off8 off) k (laneData off n x) (laneMask off n)] s

/-! ### The commands -/

/-- The place of a register by its offset: a tile's window, or with none the device global registers. -/
def placeOf (t : Option Tile) (off : Nat) : Place :=
  match t with
  | some t => .treg t.val off
  | none => .dreg off

/-- R7: a write of software to a register, where the access is one that R64 allows. -/
def registerWriteA (who : Requester) (p : Place) (n : Nat) (v : Nat) : Act := fun s =>
  if regStatus s p n = stOK then regWrite who (reqNo who 0) p n v s else []

/-- R7: a write to a register that has no row of its own, by its place: a tile's window, or with none the device global registers. -/
def execRegisterWrite (who : Requester) (t : Option Tile) (off : BitVec 25) (wide : Bool) (v : W64) (s : State) :
    Host.Outcome State Fault Refusal :=
  runA (registerWriteA who (placeOf t off.toNat) (if wide then 8 else 4) v.toNat) s

/-- R412: a write of `n` bytes to a shadow register; a write to any other register is not this command's. -/
def shadowWriteA (t : Option Tile) (o n v : Nat) : Act := fun s =>
  match placeReg s (placeOf t o) with
  | some (_, _, .reg k) =>
    if isShadow k && o % n == 0 then shadowWr (t.map (·.val)) (off8 o) k (laneData o n v) (laneMask o n) s else []
  | _ => []

/-- R412: a write to a shadow register. -/
def execShadowWrite (t : Option Tile) (off : BitVec 25) (wide : Bool) (v : W64) (s : State) : Host.Outcome State Fault Refusal :=
  runA (shadowWriteA t off.toNat (if wide then 8 else 4) v.toNat) s

/-- R203, R418: a write to BN_PLANE_CFG. -/
def execBnPlaneCfgWrite (v : W64) (s : State) : Host.Outcome State Fault Refusal :=
  runA (nqWrite (dk .BN_PLANE_CFG) 0x300000 v allBits) s

end Sys2Proof.Machine
end

