-- ==== Sys2Proof/Machine/HostBar.lean ====
section
/-!
DEFINITION. Sys2Proof/Machine/HostBar.lean: the requests of the host to BAR0, BAR2 and BAR4 (R555 to R562, R566, R577, R578), and the
function level reset (R571).
-/
namespace Sys2Proof.Machine

/-! ### Addresses (R555, R556) -/

/-- R555: the place that an offset of BAR0 reaches; none for an unmapped tile window. -/
def bar0Place (s : State) (off : Nat) : Option Place :=
  if off < 2 ^ 25 then some (.dreg off)
  else
    let id := (off - 2 ^ 25) / 2 ^ 16
    if id < nTiles s then some (.treg id (off % 2 ^ 16)) else none

/-- R556: the local address that an offset of BAR2 reaches. -/
def bar2Local (s : State) (off : Nat) : Nat :=
  let size := 2 ^ s.pci.bar2
  if 33 ≤ s.pci.bar2 ∧ size - 2 ^ 32 ≤ off then 0x010000000000 + (off - (size - 2 ^ 32))
  else dfld s .HIF_BAR2_VBASE f_HIF_BAR2_VBASE_VBASE * 2 ^ 30 + off

/-- R556, R578: the tile whose vault or CM a local address lies in; none where it is unmapped. -/
def bar2Tile (s : State) (a : Nat) : Option Nat :=
  match mapLocal s none a with
  | .cm t _ => some t
  | .vlt t _ => some t
  | _ => none

/-- Pieces of at most `m` bytes. -/
def cutsOf (m : Nat) : Nat → Nat → Nat → List (Nat × Nat)
  | 0, _, _ => []
  | _, _, 0 => []
  | k + 1, o, n => (o, min m n) :: cutsOf m k (o + min m n) (n - min m n)

/-- R560: the packets of a BAR2 request: where each begins in it, and its length. -/
def bar2Pieces (s : State) (r : HostReq) : List (Nat × Nat) :=
  let ps := pieces s (chipId s * 2 ^ 47 + bar2Local s r.addr) r.len
  if r.wr then ps.flatMap (fun p => cutsOf 512 (p.2 + 1) p.1 p.2) else ps

/-- The tiles that a BAR2 request goes to. -/
def bar2Dests (s : State) (r : HostReq) : List Nat :=
  ((bar2Pieces s r).filterMap (fun p => bar2Tile s (bar2Local s r.addr + p.1))).eraseDups

/-! ### Completions -/

/-- A request leaves the queue. -/
def hostDrop (id : Nat) : Act := fun s => [.setHostQ (s.hostQ.filter (fun r => r.id != id))]

/-- A request takes a new record. -/
def hostPut (r : HostReq) : Act := fun s => [.setHostQ (s.hostQ.map (fun e => if e.id = r.id then r else e))]

/-- The HIF answers a read without data: 1 Unsupported Request, 2 Completer Abort. A write has no completion. -/
def hostRefuse (r : HostReq) (st : Nat) : Act := seqA [hostDrop r.id,
  whenA (!r.wr && !r.dead) (effA [.setHostCpl [⟨r.id, st, false, []⟩]])]

/-- R560: where a completion with `n` bytes from an address is split: at most MPS bytes each, at the 64 B boundary. -/
def rcbCuts (mps : Nat) : Nat → Nat → Nat → List (Nat × Nat)
  | 0, _, _ => []
  | _, _, 0 => []
  | k + 1, a, n =>
    let c := if n ≤ mps then n else mps - (a + mps) % 64
    (a, c) :: rcbCuts mps k (a + c) (n - c)

/-- R560: the data of a BAR2 read goes to the host, EP set where it is poisoned. -/
def hostData (r : HostReq) : Act := fun s =>
  let cs := rcbCuts s.pci.mps (r.len + 1) r.addr r.len
  seqA [hostDrop r.id, whenA (!r.dead) (effA [.setHostCpl (cs.map (fun c =>
    let o := c.1 - r.addr
    ⟨r.id, 0, ((r.psn.drop o).take c.2).any id, (r.got.drop o).take c.2⟩))])] s

/-- R560: all pieces of a BAR2 request have ended. -/
def bar2End (r : HostReq) : Act :=
  if r.wr then hostDrop r.id
  else if r.st = stOK ∨ r.st = stPoisoned then hostData r
  else hostRefuse r (if r.st = stAddr then 1 else 2)

/-! ### Taking requests (R558, R559, R561, R562) -/

/-- R561: a request waits for earlier BAR2 writes. -/
def hostHeld (s : State) (r : HostReq) : Bool :=
  let ws := (s.hostQ.takeWhile (fun e => e.id != r.id)).filter (fun w => w.bar == 2 && w.wr)
  if r.bar = 2 then
    let ds := bar2Dests s r
    ws.any (fun w => w.dests.any (fun d => ds.any (· != d)))
  else ws != []

/-- R558: a register access of the host enters the CN at the hub. -/
def hostCn (r : HostReq) (p : Place) : Act := fun s =>
  let op := if r.wr then 1 else 0
  match p with
  | .treg t off => seqA [hostPut { r with taken := true, dests := [t], left := 1 },
      cnSend hub (mkCn hub t op 3 r.len (28 * 2 ^ 25 + off) r.data)] s
  | .dreg off => seqA [hostPut { r with taken := true, dests := [hub], left := 1 },
      cnSend hub (mkCn hub hub op 3 r.len (28 * 2 ^ 25 + off) r.data)] s
  | _ => []

/-- R559: BAR0 takes a request; `ep` holds for one whose byte enables are not all set. -/
def bar0Take (r : HostReq) : Act := fun s =>
  if (r.len ≠ 4 ∧ r.len ≠ 8) ∨ r.addr % r.len ≠ 0 ∨ r.ep then seqA [barErr 0 r.addr, hostRefuse r 2] s
  else match bar0Place s r.addr with
    | none => seqA [barErr 0 r.addr, hostRefuse r 1] s
    | some p => hostCn r p s

/-- R558: one packet of a BAR2 request joins the NIU of its gate tile. -/
def bar2Piece (r : HostReq) (o n : Nat) : Act := fun s =>
  match encPlace (mapLocal s none (bar2Local s r.addr + o)) with
  | some (t, ad) =>
    let gate := if tileY t ≤ 7 then 7 else 8
    let bs := (r.data.drop o).take n
    let tc := dfld s .HIF_CFG f_HIF_CFG_BAR2_TC
    let k := if r.wr then mkBn s gate opWr tc 0 (chipId s) t ad n bs (List.replicate (ceilDiv n 64) r.ep)
      else mkBn s gate opRdReq tc 0 (chipId s) t ad n [] []
    niuPush gate ⟨k, 46, .host r.id o⟩ s
  | none => []

/-- R560: BAR2 takes a request. A read with an unmapped part is refused as a whole; of a write, only that part is dropped. -/
def bar2Take (r : HostReq) : Act := fun s =>
  let ps := bar2Pieces s r
  let ok := ps.filter (fun p => (bar2Tile s (bar2Local s r.addr + p.1)).isSome)
  let bad := ps.filter (fun p => (bar2Tile s (bar2Local s r.addr + p.1)).isNone)
  if bad ≠ [] ∧ r.wr = false then seqA [barErr 2 r.addr, hostRefuse r 1] s
  else
    let r' : HostReq := { r with
      taken := true, dests := bar2Dests s r, left := ok.length, got := List.replicate r.len 0, psn := List.replicate r.len false }
    seqA [hostPut r', eachA bad (fun p => barErr 2 (r.addr + p.1)), eachA ok (fun p => bar2Piece r' p.1 p.2),
      whenA (ok == []) (bar2End r')] s

/-- R562, R577: a doorbell page takes a write. -/
def bar4Take (r : HostReq) : Act := fun s =>
  let d := r.addr / 4096
  let w := regOf s (dk .HIF_DB_MAP d)
  let n := if fget w f_HIF_DB_MAP_W32 = 1 then 4 else 8
  if fget w f_HIF_DB_MAP_EN = 0 ∨ r.addr % 4096 ≠ 0 ∨ r.len ≠ n then seqA [dbErr d, hostRefuse r 1] s
  else
    let off := fget w f_HIF_DB_MAP_OFFSET
    seqA [effA [.cnt (dk .HIF_DB_CNT) f_HIF_DB_CNT_COUNT 1],
      hostCn r (if fget w f_HIF_DB_MAP_DEV = 1 then .dreg off else .treg (fget w f_HIF_DB_MAP_TILE) (off % 2 ^ 16))] s

/-- The HIF takes a request. -/
def hostTake (r : HostReq) : Act := if r.bar = 0 then bar0Take r else if r.bar = 2 then bar2Take r else bar4Take r

/-- R561: the HIF takes the requests that it does not hold back, in their order of arrival; `k` bounds their number. -/
def hostPumpN : Nat → Act
  | 0 => noA
  | k + 1 => fun s =>
    match s.hostQ.find? (fun r => !r.taken) with
    | none => []
    | some r => if hostHeld s r then [] else seqA [hostTake r, hostPumpN k] s

/-- The HIF goes on with what it holds. -/
def hostPump : Act := fun s => hostPumpN s.hostQ.length s

/-- A request arrives. With the link down none can; in D3hot, and while Memory Space Enable is 0, it gets Unsupported Request (R571). -/
def hostArrive (bar : Nat) (wr : Bool) (addr len : Nat) (data : List Byte) (ep : Bool) : Act := fun s =>
  let r : HostReq := ⟨s.hostSeq, bar, wr, addr, len, data, ep, false, [], 0, 0, [], [], false⟩
  if dfld s .HIF_STAT f_HIF_STAT_LINK_UP = 0 then []
  else
    let come := effA [.setHostSeq (s.hostSeq + 1), .setHostCpl []]
    if dfld s .HIF_STAT f_HIF_STAT_D3HOT = 1 ∨ s.pci.mse = false then seqA [come, hostRefuse r 1] s
    else if bar = 4 ∧ wr = false then seqA [come, effA [.setHostCpl [⟨r.id, 0, false, List.replicate len 0⟩]]] s
    else seqA [come, effA [.setHostQ (s.hostQ ++ [r])], hostPump] s

/-! ### Answers -/

/-- R559, R562: the answer of a register access of the host has come from a window (512 the device's). -/
def hostCnDone (win : Nat) (wr : Bool) (st : Nat) (data : List Byte) : Act := fun s =>
  match s.hostQ.find? (fun r => r.bar != 2 && r.taken && r.wr == wr && r.dests == [win]) with
  | none => []
  | some r =>
    let bad := st ≠ stOK ∧ st ≠ stPoisoned
    seqA [
      hostDrop r.id,
      (if r.bar = 4 then whenA (st != stOK) (dbErr (r.addr / 4096))
       else seqA [
         whenA (decide bad || (st == stPoisoned && !wr)) (barErr 0 r.addr),
         whenA (!wr && !r.dead) (effA [.setHostCpl [
           if bad then ⟨r.id, 2, false, []⟩
           else if st = stPoisoned then ⟨r.id, 0, true, List.replicate r.len 0⟩ else ⟨r.id, 0, false, data⟩]])]),
      hostPump] s

/-- The bytes of a piece placed in what a read has brought. -/
def patchAt {α : Type} (l : List α) (o : Nat) (x : List α) : List α := l.take o ++ x ++ l.drop (o + x.length)

/-- R560: a packet of a BAR2 request has ended. -/
def hostPiece (id o st : Nat) (data : List Byte) (psn : List Bool) : Act := fun s =>
  match s.hostQ.find? (fun r => r.id == id) with
  | none => []
  | some r =>
    let good := st = stOK ∨ st = stPoisoned
    let bits := (List.range data.length).map (fun i => psn.getD (i / 64) false)
    let r' : HostReq := { r with
      left := r.left - 1, st := if good then r.st else stMerge r.st st
      got := if good ∧ r.wr = false then patchAt r.got o data else r.got
      psn := if good ∧ r.wr = false then patchAt r.psn o bits else r.psn }
    seqA [whenA (!decide good) (barErr 2 (r.addr + o)), hostPut r', whenA (r'.left == 0) (bar2End r'), hostPump] s

/-- R566: a host read has no answer within CPL_WD. -/
def hostWdA (id : Nat) : Act := fun s =>
  match s.hostQ.find? (fun r => r.id == id && !r.wr && !r.dead) with
  | none => []
  | some r => seqA [
      effA [.setHostCpl [⟨r.id, 2, false, []⟩], .cnt (dk .HIF_CPL_WD_CNT) f_HIF_CPL_WD_CNT_COUNT 1],
      hifErr f_HIF_STAT_CPL_WD 7 r.bar r.addr,
      if r.taken then hostPut { r with dead := true } else seqA [hostDrop r.id, hostPump]] s

/-! ### The commands -/

/-- R559: a read of BAR0; `be` says that every byte enable is set. -/
def execBar0Read (off : BitVec 26) (len : BitVec 13) (be : Bool) (s : State) : Host.Outcome State Fault Refusal :=
  runA (hostArrive 0 false off.toNat len.toNat [] (!be)) s

/-- R559: a write to BAR0. -/
def execBar0Write (off : BitVec 26) (data : List Byte) (be : Bool) (s : State) : Host.Outcome State Fault Refusal :=
  runA (hostArrive 0 true off.toNat data.length data (!be)) s

/-- The updates of `execBar2Read`. -/
def bar2ReadAct (off : BitVec 37) (len : BitVec 13) : Act := fun s =>
  if 2 ^ s.pci.bar2 ≤ off.toNat then [] else hostArrive 2 false off.toNat len.toNat [] false s

/-- R560: a read of BAR2; an offset past its size is not the device's. -/
def execBar2Read (off : BitVec 37) (len : BitVec 13) (s : State) : Host.Outcome State Fault Refusal :=
  runA (bar2ReadAct off len) s

/-- The updates of `execBar2Write`. -/
def bar2WriteAct (off : BitVec 37) (data : List Byte) (ep : Bool) : Act := fun s =>
  if 2 ^ s.pci.bar2 ≤ off.toNat then [] else hostArrive 2 true off.toNat data.length data ep s

/-- R560: a write to BAR2; `ep` is the EP of its TLP. -/
def execBar2Write (off : BitVec 37) (data : List Byte) (ep : Bool) (s : State) : Host.Outcome State Fault Refusal :=
  runA (bar2WriteAct off data ep) s

/-- R562: a write to a doorbell page. -/
def execBar4DoorbellWrite (off : BitVec 20) (data : List Byte) (s : State) : Host.Outcome State Fault Refusal :=
  runA (hostArrive 4 true off.toNat data.length data false) s

/-- R562: a read of BAR4 returns 0. -/
def execBar4Read (off : BitVec 20) (len : BitVec 13) (s : State) : Host.Outcome State Fault Refusal :=
  runA (hostArrive 4 false off.toNat len.toNat [] false) s

/-- R566: the completion watchdog of a host read runs out. -/
def execHifCplWatchdog (id : Nat) (s : State) : Host.Outcome State Fault Refusal := runA (hostWdA id) s

/-- R571: the host port's registers return to reset, and FLR_WARM asks for a warm reset. -/
def flrAct : Act := fun s =>
  let warm := dfld s .HIF_CFG f_HIF_CFG_FLR_WARM == 1
  seqA [hostDown true, whenA warm (rstAsk 2 0 false .flr)] s

/-- R571: a function level reset; FLR_WARM asks for a warm reset besides. -/
def execFlr (s : State) : Host.Outcome State Fault Refusal := runA flrAct s

end Sys2Proof.Machine
end

