-- ==== Sys2Proof/Machine/BnArrive.lean ====
section
/-!
DEFINITION. Sys2Proof/Machine/BnArrive.lean: what a destination NIU does with the BN packets that arrive (R189, R190, R196, R263, R264,
R274, R389), and what each answer does for the one that waits for it (R69, R177, R188, R197, R318, R494, R710).
-/
namespace Sys2Proof.Machine

/-! ### Arrival -/

/-- R189: a packet is counted as discarded. -/
def bnBad (t : Nat) (p : BnPkt) : Act := seqA [
  effA [.cnt (tk t .NIU_BAD_OP_CNT) f_NIU_BAD_OP_CNT_COUNT 1, setBit (tk t .NIU_STAT) f_NIU_STAT_BAD_OP],
  raiseErr 0x0207 2 0 t (bnWord0 p)]

/-- A packet of an operation is taken and acted on; one whose OP has no entry in the table is discarded (R189). -/
def bnTake (t : Nat) (p : BnPkt) (op : Nat) (a : Act) : Act :=
  if opVc p.op.toNat = none then seqA [bnGone t p, bnBad t p]
  else if p.op.toNat ≠ op then noA
  else seqA [bnGone t p, a]

/-- R66, R176: the target of a request of `n` bytes in a tile; none where its ADDR is bad. -/
def bnPlace (t : Nat) (p : BnPkt) (n : Nat) : Option Place :=
  match decAddr t p.addr.toNat with
  | some (.cm u o) => if o + n ≤ cmSize then some (.cm u o) else none
  | some (.vlt u o) => if o + n ≤ vaultSize then some (.vlt u o) else none
  | x => x

/-- R84: a packet waits for the CM scrub of its tile. -/
def bnWaits (s : State) (t : Nat) (p : BnPkt) : Bool :=
  match decAddr t p.addr.toNat with
  | some q => cmWaits s q
  | none => false

/-- R189: a request whose ADDR is bad is answered ADDR_ERR; any other packet is discarded. -/
def bnBadAddr (t : Nat) (p : BnPkt) : Act := if p.op.toNat ≤ 3 then bnAnswer t p stAddr [] [] else bnBad t p

/-- Who makes a register access that a BN packet carries: a tile of this chip, or another chip. -/
def bnWho (s : State) (p : BnPkt) : Requester :=
  if p.schip.toNat = chipId s then .engine (Fin.ofNat 512 p.stile.toNat) else .remote p.schip

/-- The poison of byte `i` of a payload. -/
def bytePsn (psn : List Bool) (i : Nat) : Bool := psn.getD (i / 64) false

/-! ### Requests (R189, R190) -/

/-- R189: an RD_REQ is performed at its target. -/
def bnRead (t : Nat) (p : BnPkt) (fs : Finds) : Act := fun s =>
  let n := p.len.toNat
  match bnPlace t p n with
  | none => bnBadAddr t p s
  | some q =>
    if p.addr.toNat / 2 ^ 40 = 2 then
      let r := regRead s (reqNo (bnWho s p) p.stile.toNat) q n
      seqA [effA r.eff, bnAnswer t p r.st r.bytes [false]] s
    else
      let r := memRead s q n fs
      let st := if r.st = stOK ∧ r.psn then stPoisoned else r.st
      seqA [effA r.eff, whenA (r.st == stOK) (bankGrants t q n 35),
        bnAnswer t p st r.bytes (if r.st = stOK then flitPsn s q n fs else [])] s

/-- R44, R66, R84, R88, R189: the status of a write of `n` bytes at a target. -/
def bnWrStatus (s : State) (q : Place) (n : Nat) (space : Nat) : Nat := if space = 2 then regStatus s q n else memStatus s q

/-- R389: the bytes of a packet with the missing ones added as zeros. -/
def bnBytes (p : BnPkt) : List Byte := sliceZ p.data 0 p.len.toNat

/-- The status of a write that its target serves: POISONED where a poisoned flit was written, or a register write was poisoned and so
not performed (R337, R389). -/
def bnWrEnd (p : BnPkt) : Nat := if p.psn.any id then stPoisoned else stOK

/-- R189: a write is performed at its target, whose status is OK. -/
def bnStore (t : Nat) (p : BnPkt) (q : Place) (fs : Finds) : Act := fun s =>
  let bad := p.psn.any id
  if p.addr.toNat / 2 ^ 40 = 2 then
    (if bad then [] else regWrite (bnWho s p) (reqNo (bnWho s p) p.stile.toNat) q p.data.length (leNat p.data) s)
  else
    seqA [memStore q (bnBytes p) (bytePsn p.psn) fs none, bankGrants t q p.len.toNat 34,
      whenA bad (effA [setBit (tk t .NIU_STAT) f_NIU_STAT_POISON_RX])] s

/-- R189: a WR is performed and acknowledged. -/
def bnWrite (t : Nat) (p : BnPkt) (fs : Finds) : Act := fun s =>
  match bnPlace t p p.len.toNat with
  | none => bnBadAddr t p s
  | some q =>
    let st := bnWrStatus s q p.len.toNat (p.addr.toNat / 2 ^ 40)
    if st ≠ stOK then bnAnswer t p st [] [] s
    else seqA [bnStore t p q fs, bnAnswer t p (bnWrEnd p) [] []] s

/-- R177: the value that an AMO stores: FUNC on SIZE bytes. -/
def amoNew (func size old x : Nat) : Nat :=
  let w := 8 * size
  let m := 2 ^ w
  let a := old % m
  let b := x % m
  match func with
  | 0 => b
  | 1 => (a + b) % m
  | 2 => Nat.xor a b
  | 3 => Nat.land a b
  | 4 => Nat.lor a b
  | 5 => if toSigned w a ≤ toSigned w b then a else b
  | 6 => if toSigned w a ≤ toSigned w b then b else a
  | 7 => min a b
  | _ => max a b

/-- R190: an AMO packet is not well formed. -/
def amoBad (p : BnPkt) : Bool :=
  let size := leAt p.data 1 1
  decide (8 < leAt p.data 0 1) || !(size == 4 || size == 8) || p.len != 16 || p.data.length != 16 || leAt p.data 2 6 != 0
    || p.addr.toNat % (if size = 0 then 1 else size) != 0 || decide (2 ≤ p.addr.toNat / 2 ^ 40)

/-- R68: an AMO at a place of a memory: the old value, its poison, and what the access does; `bad` says that its operand came poisoned,
so that what it writes is (R201). A poisoned line is left as it is. -/
def amoAt (s : State) (q : Place) (func size x : Nat) (bad : Bool) (fs : Finds) (writer : Option Nat) : RdOut :=
  let r := memRead s q size fs
  if r.st ≠ stOK ∨ r.psn then r
  else { r with
    eff := seqA [effA r.eff, memStore q (leBytes size (amoNew func size (leNat r.bytes) x)) (fun _ => bad) [] writer] s }

/-- R190: an AMO is performed and answered. -/
def bnAmo (t : Nat) (p : BnPkt) (fs : Finds) : Act := fun s =>
  if amoBad p then seqA [bnBad t p, bnAnswer t p stAddr [] []] s
  else
    let size := leAt p.data 1 1
    match bnPlace t p size with
    | none => bnBadAddr t p s
    | some q =>
      let bad := p.psn.any id
      let r := amoAt s q (leAt p.data 0 1) size (leAt p.data 8 8) bad fs none
      if r.st ≠ stOK then bnAnswer t p r.st [] [] s
      else seqA [effA r.eff, bankGrants t q size 34,
        whenA (bad && !r.psn) (effA [setBit (tk t .NIU_STAT) f_NIU_STAT_POISON_RX]),
        bnAnswer t p (if r.psn || bad then stPoisoned else stOK) (leBytes 8 (leNat r.bytes)) [r.psn]] s

/-! ### Codeblocks (R263, R264, R274) -/

/-- R263, R264: a codeblock is decoded and written, or poisoned zeros in its place; a flit that came poisoned fails the decode check
(R389). -/
def bnDecode (t : Nat) (p : BnPkt) (q : Place) (fs : Finds) : Act := fun s =>
  let bs := bnBytes p
  let o := decWire s t p.len.toNat p.addr.toNat bs
  let cut := p.psn.any id && o.why != 1 && o.why != 2
  let out := if cut then List.replicate (hdrOf bs).ulen 0 else o.out
  let why := if cut then 3 else o.why
  let id := leAt bs 6 2
  let chip := if p.op.toNat = opMcWrCb then chipId s else p.schip.toNat
  seqA [effA (decCount t bs.length out.length), whenA (why != 0) (cdxFail t why chip p.stile.toNat id),
    memStore q out (fun _ => why != 0) fs none, bankGrants t q out.length 34] s

/-- Whether a codeblock fails a check. -/
def bnDecodeBad (s : State) (t : Nat) (p : BnPkt) : Bool :=
  p.psn.any id || (decWire s t p.len.toNat p.addr.toNat (bnBytes p)).why != 0

/-- R263: a WR_CB is decoded, written and acknowledged. -/
def bnWriteCb (t : Nat) (p : BnPkt) (fs : Finds) : Act := fun s =>
  match bnPlace t p 1 with
  | none => bnBadAddr t p s
  | some q =>
    let st := memStatus s q
    if st ≠ stOK then bnAnswer t p st [] [] s
    else seqA [bnDecode t p q fs, bnAnswer t p (if bnDecodeBad s t p then stPoisoned else stOK) [] []] s

/-! ### Multicast (R196) -/

/-- R192: the destination flag of a multicast, which the tag of its source names. -/
def mcFlag (s : State) (p : BnPkt) : Option (Nat × Nat) :=
  match tagOf s p.stile.toNat p.tag.toNat with
  | .out (.mcast _ _ _ _ f) _ => f
  | .out (.xmcast _ _ _ _ _ _ f) _ => f
  | .out (.xgate _ _ _ _ f) _ => f
  | _ => none

/-- R196: the destination flag follows the data; its own status where it is not written. -/
def mcFlagPut (t : Nat) (f : Option (Nat × Nat)) : Act := fun s =>
  match f with
  | some (off, v) => (match ownPlace t off with
    | some q => seqA [memPut q (leBytes 8 v), bankGrants t q 8 34] s
    | none => [])
  | none => []

/-- The status of the destination flag's write. -/
def mcFlagSt (s : State) (t : Nat) (f : Option (Nat × Nat)) : Nat :=
  match f with
  | some (off, _) => (match ownPlace t off with
    | some q => memStatus s q
    | none => stAddr)
  | none => stOK

/-- R196: a multicast target performs its write, then the flag, and acknowledges. -/
def bnMcast (t : Nat) (p : BnPkt) (cb : Bool) (fs : Finds) : Act := fun s =>
  match bnPlace t p (if cb then 1 else p.len.toNat) with
  | none => bnBad t p s
  | some q =>
    let st := if cb then memStatus s q else bnWrStatus s q p.len.toNat (p.addr.toNat / 2 ^ 40)
    if st ≠ stOK then bnAnswer t p st [] [] s
    else
      let f := mcFlag s p
      let en := if cb then (if bnDecodeBad s t p then stPoisoned else stOK) else bnWrEnd p
      seqA [if cb then bnDecode t p q fs else bnStore t p q fs, mcFlagPut t f,
        bnAnswer t p (stMerge en (mcFlagSt s t f)) [] []] s

/-! ### Answers -/

/-- The bytes that a write packet stood for, before its compression. -/
def pieceBytes (p : BnPkt) : Nat := if p.op.toNat = opWrCb then (hdrOf p.data).ulen else p.data.length

/-- A global address lies in a memory of the tile that takes writes. -/
def ownTakes (s : State) (t a : Nat) : Bool :=
  match mapGlobal s (some t) a with
  | .cm u o => u == t && memStatus s (.cm u o) == stOK
  | .vlt u o => u == t && memStatus s (.vlt u o) == stOK
  | _ => false

/-- R161, R187: the data of a COPY's read request is written on; a poisoned flit written in the own tile sets POISON_RX. -/
def readOn (t q idx dst addr : Nat) (data : List Byte) (psn : List Bool) : Act := fun s =>
  match descOf s t q idx with
  | none => []
  | some d =>
    let v := dmvD d.raw
    let ov := fun (k : Nat) => v.overlaps (addr + k)
    seqA [
      whenA ((List.range data.length).any ov) (effA [.setFree (s.free + data.length)]),
      (dmvXfer s t q idx v false).write dst (mixBytes s.free ov data) (bytePsn psn),
      whenA (psn.any id && ownTakes s t dst) (effA [setBit (tk t .NIU_STAT) f_NIU_STAT_POISON_RX]),
      modDesc t q idx (fun e => { e with pend := e.pend - 1 })] s

/-- R192: the data of a GET lands in the own tile. -/
def getOn (t q idx off : Nat) (data : List Byte) (psn : List Bool) (fs : Finds) : Act := fun s =>
  match ownPlace t off with
  | none => []
  | some pl =>
    let st := memStatus s pl
    if st ≠ stOK then modDesc t q idx (fun d => { d.fail st (ownGlobal s t off) with pend := d.pend - 1 }) s
    else
      let bad := psn.any id
      seqA [memStore pl data (bytePsn psn) fs none, bankGrants t pl data.length 34,
        whenA bad (effA [setBit (tk t .NIU_STAT) f_NIU_STAT_POISON_RX]),
        pieceDone t q idx stOK data.length 0 bad] s

/-- R136: a descriptor's flag write has been acknowledged. -/
def flagDone (t q idx st : Nat) : Act :=
  modDesc t q idx (fun d =>
    { d with flagSt := 2 }.fail (if st = stOK ∨ st = stPoisoned then stOK else stFlag) d.flagAddr)

/-- What the answer of a tag does for the one that waits for it: its status, its data and the POISON of each flit; `p` is the packet
that was sent. -/
def ownerDone (t : Nat) (o : Owner) (p : BnPkt) (st : Nat) (data : List Byte) (psn : List Bool) (fs : Finds) : Act :=
  let good := st = stOK ∨ st = stPoisoned
  match o with
  | .core c n => coreAnswer t c n st data (psn.any id)
  | .piece q idx addr => pieceDone t q idx st (pieceBytes p) addr false
  | .readTo q idx dst addr =>
    if good then readOn t q idx dst addr data psn
    else modDesc t q idx (fun d => { d.fail st addr with pend := d.pend - 1 })
  | .getTo q idx off addr =>
    if good then getOn t q idx off data psn fs
    else modDesc t q idx (fun d => { d.fail st addr with pend := d.pend - 1 })
  | .srcTo q idx off addr => seqA [
      (if good then srcPut t q idx ⟨off, data, psn⟩ else srcFail t q idx off p.len.toNat st addr),
      modDesc t q idx (fun d => { d with pend := d.pend - 1 })]
  | .flag q idx => flagDone t q idx st
  | .host id off => hostPiece id off st data psn
  | _ => noA

/-- R188, R712: an answer that is not a multicast's reaches the NIU of its source. -/
def bnReply (t : Nat) (p : BnPkt) (fs : Finds) : Act := fun s =>
  let g := p.tag.toNat
  match tagOf s t g with
  | .quar => [.cnt (dk .ERR_LATE_RSP_CNT) f_ERR_LATE_RSP_CNT_COUNT 1]
  | .out o q =>
    if opAnswer q.op.toNat = p.op.toNat then
      seqA [effA [.putTags (tagKey t g) .free], ownerDone t o q (p.addr.toNat % 256) p.data p.psn fs] s
    else []
  | .free => []

/-- R494: a gate sends the acknowledgement of a target of its chip on to the chip that the multicast came from. -/
def mcRelay (t chip tile tag tgt st tc : Nat) : Act := fun s =>
  niuPush t ⟨{ mkBn s (tgt % 512) opMcAck tc 0 chip tile st 0 [] [] with tag := BitVec.ofNat 10 tag }, 47, .none⟩ s

/-- R188, R197, R494, R495: the status of one target of a multicast has come to the NIU that holds its tag. -/
def mcOne (t g tgt st : Nat) : Act := fun s =>
  let put := fun (o : Owner) (q : BnPkt) (w : List Nat) => effA [.putTags (tagKey t g) (if w = [] then .free else .out o q)]
  match tagOf s t g with
  | .out (.mcast q idx w self f) k =>
    let w' := w.erase tgt
    if w' = w then [] else seqA [put (.mcast q idx w' self f) k w', mcAcked t q idx tgt st (w' == [])] s
  | .out (.xmcast q idx w lo hi self f) k =>
    let w' := w.erase tgt
    if w' = w then [] else seqA [put (.xmcast q idx w' lo hi self f) k w', mcAcked t q idx tgt st (w' == [])] s
  | .out (.xgate chip tile tag w f) k =>
    let w' := w.erase tgt
    if w' = w then [] else seqA [put (.xgate chip tile tag w' f) k w', mcRelay t chip tile tag tgt st k.tc.toNat] s
  | _ => []

/-- R197: an acknowledgement of a multicast target arrives. -/
def bnMcAck (t : Nat) (p : BnPkt) : Act := fun s =>
  if tagOf s t p.tag.toNat = .quar then [.cnt (dk .ERR_LATE_RSP_CNT) f_ERR_LATE_RSP_CNT_COUNT 1]
  else mcOne t p.tag.toNat (p.schip.toNat * 512 + p.stile.toNat) (p.addr.toNat % 256) s

/-- The targets that a tag still waits for. -/
def mcWait (o : Owner) : List Nat :=
  match o with
  | .mcast _ _ w _ _ => w
  | .xmcast _ _ w _ _ _ _ => w
  | .xgate _ _ _ w _ => w
  | _ => []

/-- R686, R711: the wait of a tag ends with DEST_DOWN; the tag is left free. -/
def tagEnds (t g : Nat) : Act := fun s =>
  match tagOf s t g with
  | .out o p =>
    if mcWait o ≠ [] then eachA (mcWait o) (fun k => mcOne t g k stDown) s
    else seqA [effA [.putTags (tagKey t g) .free], ownerDone t o p stDown [] [] []] s
  | _ => []

/-! ### The commands -/

/-- The updates of `execBnRdReq`. -/
def bnRdReqAct (t : Tile) (p : BnPkt) (ecc : List (Nat × Ecc)) : Act := fun s =>
  if bnWaits s t p then [] else bnTake t p opRdReq (bnRead t p ecc) s

/-- R189: an RD_REQ arrives. -/
def execBnRdReq (t : Tile) (p : BnPkt) (ecc : List (Nat × Ecc)) (s : State) : Host.Outcome State Fault Refusal :=
  runA (bnRdReqAct t p ecc) s

/-- The updates of `execBnWr`. -/
def bnWrAct (t : Tile) (p : BnPkt) (ecc : List (Nat × Ecc)) : Act := fun s =>
  if bnWaits s t p then [] else bnTake t p opWr (bnWrite t p ecc) s

/-- R189: a WR arrives. -/
def execBnWr (t : Tile) (p : BnPkt) (ecc : List (Nat × Ecc)) (s : State) : Host.Outcome State Fault Refusal :=
  runA (bnWrAct t p ecc) s

/-- The updates of `execBnWrCb`. -/
def bnWrCbAct (t : Tile) (p : BnPkt) (ecc : List (Nat × Ecc)) : Act := fun s =>
  if bnWaits s t p then [] else bnTake t p opWrCb (bnWriteCb t p ecc) s

/-- R263: a WR_CB arrives. -/
def execBnWrCb (t : Tile) (p : BnPkt) (ecc : List (Nat × Ecc)) (s : State) : Host.Outcome State Fault Refusal :=
  runA (bnWrCbAct t p ecc) s

/-- The updates of `execBnAmo`. -/
def bnAmoAct (t : Tile) (p : BnPkt) (ecc : List (Nat × Ecc)) : Act := fun s =>
  if bnWaits s t p then [] else bnTake t p opAmo (bnAmo t p ecc) s

/-- R190: an AMO arrives. -/
def execBnAmo (t : Tile) (p : BnPkt) (ecc : List (Nat × Ecc)) (s : State) : Host.Outcome State Fault Refusal :=
  runA (bnAmoAct t p ecc) s

/-- The updates of `execBnMcWr`. -/
def bnMcWrAct (t : Tile) (p : BnPkt) (ecc : List (Nat × Ecc)) : Act := fun s =>
  if bnWaits s t p then [] else bnTake t p opMcWr (bnMcast t p false ecc) s

/-- R196: an MC_WR arrives. -/
def execBnMcWr (t : Tile) (p : BnPkt) (ecc : List (Nat × Ecc)) (s : State) : Host.Outcome State Fault Refusal :=
  runA (bnMcWrAct t p ecc) s

/-- The updates of `execBnMcWrCb`. -/
def bnMcWrCbAct (t : Tile) (p : BnPkt) (ecc : List (Nat × Ecc)) : Act := fun s =>
  if bnWaits s t p then [] else bnTake t p opMcWrCb (bnMcast t p true ecc) s

/-- R274: an MC_WR_CB arrives. -/
def execBnMcWrCb (t : Tile) (p : BnPkt) (ecc : List (Nat × Ecc)) (s : State) : Host.Outcome State Fault Refusal :=
  runA (bnMcWrCbAct t p ecc) s

/-- R69: a read response arrives. -/
def execBnRdRsp (t : Tile) (p : BnPkt) (ecc : List (Nat × Ecc)) (s : State) : Host.Outcome State Fault Refusal :=
  runA (bnTake t p opRdRsp (bnReply t p ecc)) s

/-- R69: a write acknowledgement arrives. -/
def execBnWrAck (t : Tile) (p : BnPkt) (s : State) : Host.Outcome State Fault Refusal :=
  runA (bnTake t p opWrAck (bnReply t p [])) s

/-- R177: an AMO response arrives. -/
def execBnAmoRsp (t : Tile) (p : BnPkt) (s : State) : Host.Outcome State Fault Refusal :=
  runA (bnTake t p opAmoRsp (bnReply t p [])) s

/-- R197: an acknowledgement of a multicast target arrives. -/
def execBnMcAck (t : Tile) (p : BnPkt) (s : State) : Host.Outcome State Fault Refusal :=
  runA (bnTake t p opMcAck (bnMcAck t p)) s

end Sys2Proof.Machine
end

