-- ==== Sys2Proof/Machine/RvDecode.lean ====
section
/-!
DEFINITION. Sys2Proof/Machine/RvDecode.lean: the instructions of a core: RV64I, M, A, F, D, C, V, Zicsr, Zifencei, Zba and Zbb (R124), read
from the word that its fetch delivers. R124 names these extensions; their encodings and meanings are those of the RISC-V
architecture (PRESUMED, assumption 9).
-/
namespace Sys2Proof.Machine

/-- The integer operations of I, M, Zba and Zbb. -/
inductive Alu where
  | add | sub | sll | slt | sltu | xor | srl | sra | or | and
  | addw | subw | sllw | srlw | sraw
  | mul | mulh | mulhsu | mulhu | div | divu | rem | remu
  | mulw | divw | divuw | remw | remuw
  | adduw | sh1add | sh2add | sh3add | sh1adduw | sh2adduw | sh3adduw | slliuw
  | andn | orn | xnor | clz | ctz | cpop | clzw | ctzw | cpopw | max | maxu | min | minu
  | sextb | sexth | zexth | rol | ror | rolw | rorw | orcb | rev8
deriving DecidableEq, Repr

/-- A decoded instruction. Offsets and immediates are sign-extended; `fp`, `vset`, `vop`, `vload` and `vstore` keep their word. -/
inductive Rv where
  | alu (op : Alu) (rd rs1 rs2 : Nat)
  | alui (op : Alu) (rd rs1 : Nat) (imm : W64)
  | lui (rd : Nat) (imm : W64)
  | auipc (rd : Nat) (imm : W64)
  | jal (rd : Nat) (off : W64)
  | jalr (rd rs1 : Nat) (off : W64)
  | br (f3 rs1 rs2 : Nat) (off : W64)
  | load (rd rs1 : Nat) (off : W64) (size : Nat) (signed : Bool)
  | store (rs1 rs2 : Nat) (off : W64) (size : Nat)
  | fload (rd rs1 : Nat) (off : W64) (size : Nat)
  | fstore (rs1 rs2 : Nat) (off : W64) (size : Nat)
  | amo (func rd rs1 rs2 size : Nat)
  | lr (rd rs1 size : Nat)
  | sc (rd rs1 rs2 size : Nat)
  | fence (pred succ : Nat)
  | fenceI
  | ecall
  | ebreak
  | mret
  | wfi
  | csr (f3 rd rs1 n : Nat)
  | fp (w : Nat)
  | vset (w : Nat)
  | vop (w : Nat)
  | vload (w : Nat)
  | vstore (w : Nat)
  | illegal
deriving DecidableEq, Repr

/-- The low `n` bits of a number, sign-extended to a word. -/
def sx (n x : Nat) : W64 := BitVec.ofInt 64 (toSigned n x)

/-! ### 32-bit instructions -/

/-- The I, S, B and J immediates. -/
def immI (w : Nat) : W64 := sx 12 (bitsOf w 20 12)
def immS (w : Nat) : W64 := sx 12 (bitsOf w 25 7 * 32 + bitsOf w 7 5)
def immB (w : Nat) : W64 := sx 13 (bitsOf w 31 1 * 4096 + bitsOf w 7 1 * 2048 + bitsOf w 25 6 * 32 + bitsOf w 8 4 * 2)
def immJ (w : Nat) : W64 := sx 21 (bitsOf w 31 1 * 2 ^ 20 + bitsOf w 12 8 * 4096 + bitsOf w 20 1 * 2048 + bitsOf w 21 10 * 2)

/-- OP: the operation of FUNCT7 and FUNCT3. -/
def decOp (f7 f3 : Nat) : Option Alu :=
  match f7, f3 with
  | 0x00, 0 => some .add | 0x00, 1 => some .sll | 0x00, 2 => some .slt | 0x00, 3 => some .sltu
  | 0x00, 4 => some .xor | 0x00, 5 => some .srl | 0x00, 6 => some .or | 0x00, 7 => some .and
  | 0x20, 0 => some .sub | 0x20, 5 => some .sra | 0x20, 7 => some .andn | 0x20, 6 => some .orn | 0x20, 4 => some .xnor
  | 0x01, 0 => some .mul | 0x01, 1 => some .mulh | 0x01, 2 => some .mulhsu | 0x01, 3 => some .mulhu
  | 0x01, 4 => some .div | 0x01, 5 => some .divu | 0x01, 6 => some .rem | 0x01, 7 => some .remu
  | 0x10, 2 => some .sh1add | 0x10, 4 => some .sh2add | 0x10, 6 => some .sh3add
  | 0x05, 4 => some .min | 0x05, 5 => some .minu | 0x05, 6 => some .max | 0x05, 7 => some .maxu
  | 0x30, 1 => some .rol | 0x30, 5 => some .ror
  | _, _ => none

/-- OP-32. -/
def decOp32 (f7 f3 rs2 : Nat) : Option Alu :=
  match f7, f3 with
  | 0x00, 0 => some .addw | 0x00, 1 => some .sllw | 0x00, 5 => some .srlw
  | 0x20, 0 => some .subw | 0x20, 5 => some .sraw
  | 0x01, 0 => some .mulw | 0x01, 4 => some .divw | 0x01, 5 => some .divuw | 0x01, 6 => some .remw | 0x01, 7 => some .remuw
  | 0x04, 0 => some .adduw
  | 0x04, 4 => if rs2 = 0 then some .zexth else none
  | 0x10, 2 => some .sh1adduw | 0x10, 4 => some .sh2adduw | 0x10, 6 => some .sh3adduw
  | 0x30, 1 => some .rolw | 0x30, 5 => some .rorw
  | _, _ => none

/-- OP-IMM: the operation and its immediate. -/
def decOpImm (w f3 : Nat) : Option (Alu × W64) :=
  let f12 := bitsOf w 20 12
  let f6 := bitsOf w 26 6
  let sh : W64 := BitVec.ofNat 64 (bitsOf w 20 6)
  match f3 with
  | 0 => some (.add, immI w)
  | 2 => some (.slt, immI w)
  | 3 => some (.sltu, immI w)
  | 4 => some (.xor, immI w)
  | 6 => some (.or, immI w)
  | 7 => some (.and, immI w)
  | 1 =>
    if f6 = 0 then some (.sll, sh)
    else match f12 with
      | 0x600 => some (.clz, 0)
      | 0x601 => some (.ctz, 0)
      | 0x602 => some (.cpop, 0)
      | 0x604 => some (.sextb, 0)
      | 0x605 => some (.sexth, 0)
      | _ => none
  | _ =>
    if f6 = 0 then some (.srl, sh)
    else if f6 = 0x10 then some (.sra, sh)
    else if f6 = 0x18 then some (.ror, sh)
    else if f12 = 0x287 then some (.orcb, 0)
    else if f12 = 0x6B8 then some (.rev8, 0)
    else none

/-- OP-IMM-32. -/
def decOpImm32 (w f3 : Nat) : Option (Alu × W64) :=
  let f12 := bitsOf w 20 12
  let f7 := bitsOf w 25 7
  let sh : W64 := BitVec.ofNat 64 (bitsOf w 20 5)
  match f3 with
  | 0 => some (.addw, immI w)
  | 1 =>
    if f7 = 0 then some (.sllw, sh)
    else if bitsOf w 26 6 = 2 then some (.slliuw, BitVec.ofNat 64 (bitsOf w 20 6))
    else match f12 with
      | 0x600 => some (.clzw, 0)
      | 0x601 => some (.ctzw, 0)
      | 0x602 => some (.cpopw, 0)
      | _ => none
  | 5 => if f7 = 0 then some (.srlw, sh) else if f7 = 0x20 then some (.sraw, sh) else if f7 = 0x30 then some (.rorw, sh) else none
  | _ => none

/-- AMO: R177's FUNC of FUNCT5; none for one that is no AMO. -/
def amoFunc (f5 : Nat) : Option Nat :=
  match f5 with
  | 0x01 => some 0
  | 0x00 => some 1
  | 0x04 => some 2
  | 0x0C => some 3
  | 0x08 => some 4
  | 0x10 => some 5
  | 0x14 => some 6
  | 0x18 => some 7
  | 0x1C => some 8
  | _ => none

/-- The vector loads and stores share their opcodes with the scalar float ones: the widths 0, 5, 6 and 7. -/
def vecWidth (f3 : Nat) : Bool := f3 == 0 || f3 == 5 || f3 == 6 || f3 == 7

/-- SYSTEM. -/
def decSystem (w f3 rd rs1 : Nat) : Rv :=
  let f12 := bitsOf w 20 12
  if f3 = 0 then
    if rd ≠ 0 ∨ rs1 ≠ 0 then .illegal
    else if f12 = 0 then .ecall
    else if f12 = 1 then .ebreak
    else if f12 = 0x302 then .mret
    else if f12 = 0x105 then .wfi
    else .illegal
  else if f3 = 4 then .illegal
  else .csr f3 rd rs1 f12

/-- A 32-bit instruction. -/
def decode32 (w : Nat) : Rv :=
  let rd := bitsOf w 7 5
  let f3 := bitsOf w 12 3
  let rs1 := bitsOf w 15 5
  let rs2 := bitsOf w 20 5
  let f7 := bitsOf w 25 7
  match bitsOf w 0 7 with
  | 0x37 => .lui rd (sx 32 (bitsOf w 12 20 * 4096))
  | 0x17 => .auipc rd (sx 32 (bitsOf w 12 20 * 4096))
  | 0x6F => .jal rd (immJ w)
  | 0x67 => if f3 = 0 then .jalr rd rs1 (immI w) else .illegal
  | 0x63 => if f3 = 2 ∨ f3 = 3 then .illegal else .br f3 rs1 rs2 (immB w)
  | 0x03 => if f3 = 7 then .illegal else .load rd rs1 (immI w) (2 ^ (f3 % 4)) (f3 < 4)
  | 0x23 => if 4 ≤ f3 then .illegal else .store rs1 rs2 (immS w) (2 ^ f3)
  | 0x07 => if f3 = 2 ∨ f3 = 3 then .fload rd rs1 (immI w) (2 ^ f3) else if vecWidth f3 then .vload w else .illegal
  | 0x27 => if f3 = 2 ∨ f3 = 3 then .fstore rs1 rs2 (immS w) (2 ^ f3) else if vecWidth f3 then .vstore w else .illegal
  | 0x13 => match decOpImm w f3 with
    | some (op, imm) => .alui op rd rs1 imm
    | none => .illegal
  | 0x1B => match decOpImm32 w f3 with
    | some (op, imm) => .alui op rd rs1 imm
    | none => .illegal
  | 0x33 => match decOp f7 f3 with
    | some op => .alu op rd rs1 rs2
    | none => .illegal
  | 0x3B => match decOp32 f7 f3 rs2 with
    | some op => .alu op rd rs1 rs2
    | none => .illegal
  | 0x0F => if f3 = 0 then .fence (bitsOf w 24 4) (bitsOf w 20 4) else if f3 = 1 then .fenceI else .illegal
  | 0x2F =>
    if f3 ≠ 2 ∧ f3 ≠ 3 then .illegal
    else if bitsOf w 27 5 = 2 then (if rs2 = 0 then .lr rd rs1 (2 ^ f3) else .illegal)
    else if bitsOf w 27 5 = 3 then .sc rd rs1 rs2 (2 ^ f3)
    else match amoFunc (bitsOf w 27 5) with
      | some f => .amo f rd rs1 rs2 (2 ^ f3)
      | none => .illegal
  | 0x73 => decSystem w f3 rd rs1
  | 0x43 => .fp w
  | 0x47 => .fp w
  | 0x4B => .fp w
  | 0x4F => .fp w
  | 0x53 => .fp w
  | 0x57 => if f3 = 7 then .vset w else .vop w
  | _ => .illegal

/-! ### 16-bit instructions -/

/-- Quadrant 0. -/
def decodeC0 (h : Nat) : Rv :=
  let rd := 8 + bitsOf h 2 3
  let rs := 8 + bitsOf h 7 3
  let u4 : W64 := BitVec.ofNat 64 (bitsOf h 5 1 * 64 + bitsOf h 10 3 * 8 + bitsOf h 6 1 * 4)
  let u8 : W64 := BitVec.ofNat 64 (bitsOf h 5 2 * 64 + bitsOf h 10 3 * 8)
  match bitsOf h 13 3 with
  | 0 =>
    let u := bitsOf h 7 4 * 64 + bitsOf h 11 2 * 16 + bitsOf h 5 1 * 8 + bitsOf h 6 1 * 4
    if u = 0 then .illegal else .alui .add rd 2 (BitVec.ofNat 64 u)
  | 1 => .fload rd rs u8 8
  | 2 => .load rd rs u4 4 true
  | 3 => .load rd rs u8 8 true
  | 5 => .fstore rs rd u8 8
  | 6 => .store rs rd u4 4
  | 7 => .store rs rd u8 8
  | _ => .illegal

/-- Quadrant 1: the arithmetic on two registers x8 to x15. -/
def decodeCAlu (h : Nat) : Rv :=
  let rd := 8 + bitsOf h 7 3
  let rs2 := 8 + bitsOf h 2 3
  let imm := bitsOf h 12 1 * 32 + bitsOf h 2 5
  match bitsOf h 10 2 with
  | 0 => .alui .srl rd rd (BitVec.ofNat 64 imm)
  | 1 => .alui .sra rd rd (BitVec.ofNat 64 imm)
  | 2 => .alui .and rd rd (sx 6 imm)
  | _ =>
    match bitsOf h 12 1, bitsOf h 5 2 with
    | 0, 0 => .alu .sub rd rd rs2
    | 0, 1 => .alu .xor rd rd rs2
    | 0, 2 => .alu .or rd rd rs2
    | 0, _ => .alu .and rd rd rs2
    | _, 0 => .alu .subw rd rd rs2
    | _, 1 => .alu .addw rd rd rs2
    | _, _ => .illegal

/-- Quadrant 1. -/
def decodeC1 (h : Nat) : Rv :=
  let rd := bitsOf h 7 5
  let imm := bitsOf h 12 1 * 32 + bitsOf h 2 5
  let j := sx 12 (bitsOf h 12 1 * 2048 + bitsOf h 8 1 * 1024 + bitsOf h 9 2 * 256 + bitsOf h 6 1 * 128 + bitsOf h 7 1 * 64
    + bitsOf h 2 1 * 32 + bitsOf h 11 1 * 16 + bitsOf h 3 3 * 2)
  let b := sx 9 (bitsOf h 12 1 * 256 + bitsOf h 5 2 * 64 + bitsOf h 2 1 * 32 + bitsOf h 10 2 * 8 + bitsOf h 3 2 * 2)
  match bitsOf h 13 3 with
  | 0 => .alui .add rd rd (sx 6 imm)
  | 1 => if rd = 0 then .illegal else .alui .addw rd rd (sx 6 imm)
  | 2 => .alui .add rd 0 (sx 6 imm)
  | 3 =>
    if rd = 2 then
      let s := bitsOf h 12 1 * 512 + bitsOf h 3 2 * 128 + bitsOf h 5 1 * 64 + bitsOf h 2 1 * 32 + bitsOf h 6 1 * 16
      if s = 0 then .illegal else .alui .add 2 2 (sx 10 s)
    else if imm = 0 then .illegal else .lui rd (sx 18 (imm * 4096))
  | 4 => decodeCAlu h
  | 5 => .jal 0 j
  | 6 => .br 0 (8 + bitsOf h 7 3) 0 b
  | _ => .br 1 (8 + bitsOf h 7 3) 0 b

/-- Quadrant 2. -/
def decodeC2 (h : Nat) : Rv :=
  let rd := bitsOf h 7 5
  let rs2 := bitsOf h 2 5
  let b12 := bitsOf h 12 1
  let l8 : W64 := BitVec.ofNat 64 (bitsOf h 2 3 * 64 + b12 * 32 + bitsOf h 5 2 * 8)
  let l4 : W64 := BitVec.ofNat 64 (bitsOf h 2 2 * 64 + b12 * 32 + bitsOf h 4 3 * 4)
  let s8 : W64 := BitVec.ofNat 64 (bitsOf h 7 3 * 64 + bitsOf h 10 3 * 8)
  let s4 : W64 := BitVec.ofNat 64 (bitsOf h 7 2 * 64 + bitsOf h 9 4 * 4)
  match bitsOf h 13 3 with
  | 0 => .alui .sll rd rd (BitVec.ofNat 64 (b12 * 32 + rs2))
  | 1 => .fload rd 2 l8 8
  | 2 => if rd = 0 then .illegal else .load rd 2 l4 4 true
  | 3 => if rd = 0 then .illegal else .load rd 2 l8 8 true
  | 4 =>
    if b12 = 0 then
      (if rs2 = 0 then (if rd = 0 then .illegal else .jalr 0 rd 0) else .alu .add rd 0 rs2)
    else if rs2 = 0 then (if rd = 0 then .ebreak else .jalr 1 rd 0)
    else .alu .add rd rd rs2
  | 5 => .fstore 2 rs2 s8 8
  | 6 => .store 2 rs2 s4 4
  | _ => .store 2 rs2 s8 8

/-- The length of an instruction. -/
def rvLen (w : Nat) : Nat := if w % 4 = 3 then 4 else 2

/-- The instruction that a fetched word holds. -/
def rvDecode (w : Nat) : Rv :=
  match w % 4 with
  | 0 => decodeC0 (w % 2 ^ 16)
  | 1 => decodeC1 (w % 2 ^ 16)
  | 2 => decodeC2 (w % 2 ^ 16)
  | _ => decode32 w

/-! ### Integer arithmetic -/

/-- A 32-bit result, sign-extended. -/
def sxw (x : BitVec 32) : W64 := x.signExtend 64

/-- The low half of a word. -/
def loW (a : W64) : BitVec 32 := a.truncate 32

/-- Signed division with the results of the M extension for a zero divisor and for overflow. -/
def sdivM {n : Nat} (a b : BitVec n) : BitVec n := if b = 0 then BitVec.allOnes n else a.sdiv b
def sremM {n : Nat} (a b : BitVec n) : BitVec n := if b = 0 then a else a.srem b
def udivM {n : Nat} (a b : BitVec n) : BitVec n := if b = 0 then BitVec.allOnes n else a / b
def uremM {n : Nat} (a b : BitVec n) : BitVec n := if b = 0 then a else a % b

/-- The upper half of a product. -/
def mulHi (a b : Int) : W64 := BitVec.ofInt 64 (a * b / ((2 ^ 64 : Nat) : Int))

/-- Leading zeros, trailing zeros and ones of the low `n` bits of a number. -/
def clzN (n x : Nat) : Nat := ((List.range n).takeWhile (fun i => !bitOf x (n - 1 - i))).length
def ctzN (n x : Nat) : Nat := ((List.range n).takeWhile (fun i => !bitOf x i)).length
def cpopN (n x : Nat) : Nat := (List.range n).countP (fun i => bitOf x i)

/-- The bytes of a word. -/
def wordBytes (a : W64) : List Byte := leBytes 8 a.toNat

/-- A word from bytes. -/
def bytesWord (bs : List Byte) : W64 := BitVec.ofNat 64 (leNat bs)

/-- An integer operation. -/
def aluOp (op : Alu) (a b : W64) : W64 :=
  let s6 := b.toNat % 64
  let s5 := b.toNat % 32
  let uw : W64 := (loW a).zeroExtend 64
  match op with
  | .add => a + b
  | .sub => a - b
  | .sll => a <<< s6
  | .slt => if a.slt b then 1 else 0
  | .sltu => if a.ult b then 1 else 0
  | .xor => a ^^^ b
  | .srl => a >>> s6
  | .sra => a.sshiftRight s6
  | .or => a ||| b
  | .and => a &&& b
  | .addw => sxw (loW a + loW b)
  | .subw => sxw (loW a - loW b)
  | .sllw => sxw (loW a <<< s5)
  | .srlw => sxw (loW a >>> s5)
  | .sraw => sxw ((loW a).sshiftRight s5)
  | .mul => a * b
  | .mulh => mulHi a.toInt b.toInt
  | .mulhsu => mulHi a.toInt b.toNat
  | .mulhu => mulHi a.toNat b.toNat
  | .div => sdivM a b
  | .divu => udivM a b
  | .rem => sremM a b
  | .remu => uremM a b
  | .mulw => sxw (loW a * loW b)
  | .divw => sxw (sdivM (loW a) (loW b))
  | .divuw => sxw (udivM (loW a) (loW b))
  | .remw => sxw (sremM (loW a) (loW b))
  | .remuw => sxw (uremM (loW a) (loW b))
  | .adduw => uw + b
  | .sh1add => (a <<< 1) + b
  | .sh2add => (a <<< 2) + b
  | .sh3add => (a <<< 3) + b
  | .sh1adduw => (uw <<< 1) + b
  | .sh2adduw => (uw <<< 2) + b
  | .sh3adduw => (uw <<< 3) + b
  | .slliuw => uw <<< s6
  | .andn => a &&& ~~~b
  | .orn => a ||| ~~~b
  | .xnor => ~~~(a ^^^ b)
  | .clz => BitVec.ofNat 64 (clzN 64 a.toNat)
  | .ctz => BitVec.ofNat 64 (ctzN 64 a.toNat)
  | .cpop => BitVec.ofNat 64 (cpopN 64 a.toNat)
  | .clzw => BitVec.ofNat 64 (clzN 32 a.toNat)
  | .ctzw => BitVec.ofNat 64 (ctzN 32 a.toNat)
  | .cpopw => BitVec.ofNat 64 (cpopN 32 a.toNat)
  | .max => if a.slt b then b else a
  | .maxu => if a.ult b then b else a
  | .min => if a.slt b then a else b
  | .minu => if a.ult b then a else b
  | .sextb => sx 8 a.toNat
  | .sexth => sx 16 a.toNat
  | .zexth => BitVec.ofNat 64 (a.toNat % 2 ^ 16)
  | .rol => a.rotateLeft s6
  | .ror => a.rotateRight s6
  | .rolw => sxw ((loW a).rotateLeft s5)
  | .rorw => sxw ((loW a).rotateRight s5)
  | .orcb => bytesWord ((wordBytes a).map (fun x => if x = 0 then 0 else 255))
  | .rev8 => bytesWord (wordBytes a).reverse

/-- The condition of a branch. -/
def brTaken (f3 : Nat) (a b : W64) : Bool :=
  match f3 with
  | 0 => a == b
  | 1 => a != b
  | 4 => a.slt b
  | 5 => !a.slt b
  | 6 => a.ult b
  | _ => !a.ult b

end Sys2Proof.Machine
end

