-- ==== Sys2Proof/Machine/RvCsr.lean ====
section
/-!
DEFINITION. Sys2Proof/Machine/RvCsr.lean: a core's CSRs (R125, R126), its interrupts (R126, R129, R154) and its PMP (R125, R127). What R125
and R126 leave to the RISC-V privileged architecture is PRESUMED (assumption 9).
-/
namespace Sys2Proof.Machine

/-! ### Interrupts -/

/-- R154: the core that a source routes to, where its byte of TILE_IRQ_ROUTE enables it. -/
def routeCore (s : State) (t src : Nat) : Option Nat :=
  let b := bitsOf (regOf s (tk t .TILE_IRQ_ROUTE (src / 8))).toNat (8 * (src % 8)) 8
  if bitOf b 7 then some (b % 32) else none

/-- R129: with COMM_RSV set, the sources CDX1, DMV3 and COL drive core 23 whatever their routes hold. -/
def srcCore (s : State) (t src : Nat) : Option Nat :=
  if tfld s t .TILE_CORE_CTRL f_TILE_CORE_CTRL_COMM_RSV = 1 ∧ (src = 4 ∨ src = 8 ∨ src = 12) then some 23 else routeCore s t src

/-- R126: MEIP of a core. -/
def meip (s : State) (t c : Nat) : Bool :=
  (List.range 17).any (fun i => bitOf (regOf s (tk t .TILE_IRQ_PEND)).toNat i && srcCore s t i == some c)

/-- R126: MTIP and MSIP of a core. -/
def mtip (s : State) (t c : Nat) : Bool := (regOf s (tk t .TILE_MTIMECMP c)).toNat ≤ pilotNow s
def msip (s : State) (t c : Nat) : Bool := bitOf (regOf s (tk t .TILE_MSIP)).toNat c

/-- mip. -/
def mipView (s : State) (t c : Nat) : Nat := b2n (msip s t c) * 2 ^ 3 + b2n (mtip s t c) * 2 ^ 7 + b2n (meip s t c) * 2 ^ 11

/-- The interrupts that are pending and enabled in mie. -/
def irqPend (s : State) (t c : Nat) : Nat := mipView s t c &&& ((coreOf s t c).getCsr 0x304).toNat

/-- The interrupt that the core takes now: external, software, timer in that order. -/
def irqTake (s : State) (t c : Nat) : Option Nat :=
  let k := coreOf s t c
  let p := irqPend s t c
  if k.user || fget (k.getCsr 0x300) mstatusMIE == 1 then [11, 3, 7].find? (fun i => bitOf p i) else none

/-! ### PMP (R125, R127) -/

/-- The configuration byte of an entry. -/
def CoreSt.pmpCfg (k : CoreSt) (i : Nat) : Nat := bitsOf (k.getCsr (0x3A0 + i / 8 * 2)).toNat (8 * (i % 8)) 8

/-- pmpaddr as it is stored. -/
def CoreSt.pmpAddr (k : CoreSt) (i : Nat) : Nat := (k.getCsr (0x3B0 + i)).toNat

/-- Trailing ones. -/
def trailOnes (x : Nat) : Nat := ((List.range 54).takeWhile (fun i => bitOf x i)).length

/-- The byte range of an entry, none where it is OFF; G is 4. -/
def CoreSt.pmpRange (k : CoreSt) (i : Nat) : Option (Nat × Nat) :=
  let grain := fun (x : Nat) => x / 16 * 64
  match bitsOf (k.pmpCfg i) 3 2 with
  | 1 => some (if i = 0 then 0 else grain (k.pmpAddr (i - 1)), grain (k.pmpAddr i))
  | 3 =>
    let p := k.pmpAddr i ||| 7
    let z := 2 ^ (trailOnes p + 1)
    some (p / z * z * 4, (p / z * z + z) * 4)
  | _ => none

/-- An access of `n` bytes is allowed: `acc` 0 read, 1 write, 2 execute. -/
def CoreSt.pmpOk (k : CoreSt) (user : Bool) (a n acc : Nat) : Bool :=
  let hit := (List.range 16).findSome? (fun i =>
    match k.pmpRange i with
    | some (lo, hi) => if lo < a + n ∧ a < hi ∧ lo < hi then some (i, decide (lo ≤ a) && decide (a + n ≤ hi)) else none
    | none => none)
  match hit with
  | none => !user
  | some (i, whole) => whole && ((!user && !bitOf (k.pmpCfg i) 7) || bitOf (k.pmpCfg i) acc)

/-- The mode of loads and stores, under MPRV. -/
def CoreSt.dataUser (k : CoreSt) : Bool :=
  let ms := k.getCsr 0x300
  if !k.user && fget ms mstatusMPRV == 1 then fget ms mstatusMPP == 0 else k.user

/-! ### CSRs -/

/-- A CSR that the core has. -/
def csrKnown (n : Nat) : Bool :=
  [0x001, 0x002, 0x003, 0x008, 0x009, 0x00A, 0x00F, 0xC20, 0xC21, 0xC22, 0x300, 0x301, 0x304, 0x305, 0x306, 0x30A, 0x320, 0x340, 0x341,
    0x342, 0x343, 0x344, 0x3A0, 0x3A2, 0xF11, 0xF12, 0xF13, 0xF14, 0xF15].contains n
  || (decide (0x3B0 ≤ n) && decide (n < 0x3C0)) || (decide (0x323 ≤ n) && decide (n < 0x340))
  || (decide (0xB00 ≤ n) && decide (n < 0xB20) && n != 0xB01) || (decide (0xC00 ≤ n) && decide (n < 0xC20))

/-- A CSR of the float unit, and one of the vector unit. -/
def csrFp (n : Nat) : Bool := n == 1 || n == 2 || n == 3
def csrVec (n : Nat) : Bool := n == 8 || n == 9 || n == 0xA || n == 0xF || n == 0xC20 || n == 0xC21 || n == 0xC22

/-- The float unit and the vector unit are on. -/
def CoreSt.fpOn (k : CoreSt) : Bool := fget (k.getCsr 0x300) mstatusFS != 0
def CoreSt.vecOn (k : CoreSt) : Bool := fget (k.getCsr 0x300) mstatusVS != 0

/-- A core may access a CSR in its mode; U-mode reads a counter only where mcounteren lets it. -/
def CoreSt.csrOk (k : CoreSt) (n : Nat) (writes : Bool) : Bool :=
  csrKnown n && !(writes && n / 0x400 == 3) && (!k.user || n / 0x100 % 4 == 0)
    && (!csrFp n || k.fpOn) && (!csrVec n || k.vecOn)
    && !(k.user && decide (0xC00 ≤ n) && decide (n < 0xC20) && !bitOf (k.getCsr 0x306).toNat (n - 0xC00))

/-- mstatus as it is read: UXL is 2, and SD sums up FS and VS. -/
def CoreSt.mstatus (k : CoreSt) : W64 :=
  let ms := k.getCsr 0x300
  let sd := if fget ms mstatusFS = 3 ∨ fget ms mstatusVS = 3 then 2 ^ 63 else 0
  ms ||| BitVec.ofNat 64 (sd + 2 * 2 ^ 32)

/-- What a read of a CSR returns. mcycle counts CCLK, which the model does not: a free value (assumption 4). -/
def csrRead (s : State) (t c n : Nat) : W64 :=
  let k := coreOf s t c
  let g := fun (i : Nat) => (k.getCsr i).toNat
  if n = 0x003 then BitVec.ofNat 64 (g 2 * 32 + g 1)
  else if n = 0x00F then BitVec.ofNat 64 (g 0xA * 2 + g 9)
  else if n = 0xC22 then 64
  else if n = 0x300 then k.mstatus
  else if n = 0x301 then 0x800000000030112D
  else if n = 0x344 then BitVec.ofNat 64 (mipView s t c)
  else if n = 0xB00 ∨ n = 0xC00 then Config.freeWord s.free
  else if n = 0xC01 then BitVec.ofNat 64 (pilotNow s)
  else if n = 0xC02 then k.getCsr 0xB02
  else if n = 0xF13 then BitVec.ofNat 64 Config.stepping.toNat
  else if n = 0xF14 then BitVec.ofNat 64 (32 * t + c)
  else if 0x3B0 ≤ n ∧ n < 0x3C0 then
    let a := g n
    if bitOf (k.pmpCfg (n - 0x3B0)) 4 then BitVec.ofNat 64 (a ||| 7) else BitVec.ofNat 64 (a / 16 * 16)
  else if (0x323 ≤ n ∧ n < 0x340) ∨ (0xB03 ≤ n ∧ n < 0xB20) ∨ (0xC03 ≤ n ∧ n < 0xC20) ∨ (0xF11 ≤ n ∧ n ≤ 0xF15) then 0
  else k.getCsr n

/-- The mstatus bits that software writes; MPP takes U and M only. -/
def mstatusWr (old v : W64) : W64 :=
  let m : W64 := BitVec.ofNat 64 (2 ^ 3 + 2 ^ 7 + 3 * 2 ^ 9 + 3 * 2 ^ 11 + 3 * 2 ^ 13 + 2 ^ 17 + 2 ^ 21)
  let w := v &&& m
  if fget w mstatusMPP = 0 ∨ fget w mstatusMPP = 3 then w else fset w mstatusMPP (fget old mstatusMPP)

/-- One byte of pmpcfg: a locked one keeps its value, NA4 leaves A as it is, and W without R is not taken. -/
def pmpCfgByte (old new : Nat) : Nat :=
  if bitOf old 7 then old
  else
    let a := if bitsOf new 3 2 = 2 then bitsOf old 3 2 else bitsOf new 3 2
    let w := bitOf new 1 && bitOf new 0
    b2n (bitOf new 7) * 128 + a * 8 + b2n (bitOf new 2) * 4 + b2n w * 2 + b2n (bitOf new 0)

/-- A write of pmpcfg0 or pmpcfg2. -/
def CoreSt.pmpCfgWr (k : CoreSt) (n : Nat) (v : W64) : CoreSt :=
  let old := (k.getCsr n).toNat
  k.setCsr n (BitVec.ofNat 64 ((List.range 8).foldl (fun a i =>
    a + pmpCfgByte (bitsOf old (8 * i) 8) (bitsOf v.toNat (8 * i) 8) * 2 ^ (8 * i)) 0))

/-- A write of a pmpaddr: ignored where its entry is locked, or the next one is locked TOR. -/
def CoreSt.pmpAddrWr (k : CoreSt) (i : Nat) (v : W64) : CoreSt :=
  let next := if i < 15 then k.pmpCfg (i + 1) else 0
  if bitOf (k.pmpCfg i) 7 ∨ (bitOf next 7 ∧ bitsOf next 3 2 = 1) then k
  else k.setCsr (0x3B0 + i) (BitVec.ofNat 64 (v.toNat % 2 ^ 54))

/-- The float unit's state becomes dirty, or the vector unit's. -/
def CoreSt.fpDirty (k : CoreSt) : CoreSt := k.setCsr 0x300 (fset (k.getCsr 0x300) mstatusFS 3)
def CoreSt.vecDirty (k : CoreSt) : CoreSt := k.setCsr 0x300 (fset (k.getCsr 0x300) mstatusVS 3)

/-- Flags are raised in fflags. -/
def CoreSt.addFlags (k : CoreSt) (fl : Nat) : CoreSt :=
  (k.setCsr 1 (BitVec.ofNat 64 (((k.getCsr 1).toNat ||| fl) % 32))).fpDirty

/-- A write of a CSR. Those that hold nothing ignore it. -/
def CoreSt.csrWrite (k : CoreSt) (n : Nat) (v : W64) : CoreSt :=
  let low := fun (m : Nat) => BitVec.ofNat 64 (v.toNat % 2 ^ m)
  if n = 0x001 then (k.setCsr 1 (low 5)).fpDirty
  else if n = 0x002 then (k.setCsr 2 (low 3)).fpDirty
  else if n = 0x003 then ((k.setCsr 1 (low 5)).setCsr 2 (BitVec.ofNat 64 (bitsOf v.toNat 5 3))).fpDirty
  else if n = 0x008 then (k.setCsr 8 (low 9)).vecDirty
  else if n = 0x009 then (k.setCsr 9 (low 1)).vecDirty
  else if n = 0x00A then (k.setCsr 0xA (low 2)).vecDirty
  else if n = 0x00F then ((k.setCsr 9 (low 1)).setCsr 0xA (BitVec.ofNat 64 (bitsOf v.toNat 1 2))).vecDirty
  else if n = 0x300 then k.setCsr 0x300 (mstatusWr (k.getCsr 0x300) v)
  else if n = 0x304 then k.setCsr 0x304 (v &&& BitVec.ofNat 64 (2 ^ 3 + 2 ^ 7 + 2 ^ 11))
  else if n = 0x305 then k.setCsr 0x305 (v &&& ~~~(2 : W64))
  else if n = 0x306 then k.setCsr 0x306 (low 32)
  else if n = 0x30A then k.setCsr 0x30A (low 1)
  else if n = 0x320 then k.setCsr 0x320 (v &&& 5)
  else if n = 0x341 then k.setCsr 0x341 (v &&& ~~~(1 : W64))
  else if n = 0x340 ∨ n = 0x342 ∨ n = 0x343 ∨ n = 0xB02 then k.setCsr n v
  else if n = 0x3A0 ∨ n = 0x3A2 then k.pmpCfgWr n v
  else if 0x3B0 ≤ n ∧ n < 0x3C0 then k.pmpAddrWr (n - 0x3B0) v
  else k

/-! ### vset (V) -/

/-- Eight times LMUL of a vtype; 0 for the reserved one. -/
def lmul8 (vtype : Nat) : Nat :=
  match vtype % 8 with
  | 0 => 8
  | 1 => 16
  | 2 => 32
  | 3 => 64
  | 5 => 1
  | 6 => 2
  | 7 => 4
  | _ => 0

/-- SEW of a vtype. -/
def sewOf (vtype : Nat) : Nat := 8 * 2 ^ bitsOf vtype 3 3

/-- A vtype that the core supports: SEW 8 to 64, and for a fractional LMUL SEW at most LMUL × ELEN. -/
def vtypeOk (vtype : Nat) : Bool :=
  decide (vtype < 256) && lmul8 vtype != 0 && decide (bitsOf vtype 3 3 ≤ 3) && decide (sewOf vtype * 8 ≤ lmul8 vtype * 64)

/-- VLMAX of a vtype, VLEN 512. -/
def vlmaxOf (vtype : Nat) : Nat := lmul8 vtype * 512 / (8 * sewOf vtype)

/-- The vl for an AVL: AVL up to VLMAX, and VLMAX from twice that on; between them the architecture leaves any number from half of AVL to
VLMAX open (assumption 4). -/
def vlFor (avl mx fr : Nat) : Nat :=
  if avl ≤ mx then avl
  else if 2 * mx ≤ avl then mx
  else let lo := (avl + 1) / 2
    lo + (Config.freeWord fr).toNat % (mx - lo + 1)

/-- vsetvli, vsetivli and vsetvl: the new vtype, vl and rd. `fr` is the number of the free value. -/
def CoreSt.vset (k : CoreSt) (w fr : Nat) : CoreSt :=
  let rd := bitsOf w 7 5
  let rs1 := bitsOf w 15 5
  let imm := bitsOf w 30 2 = 3
  let vt := if !bitOf w 31 then bitsOf w 20 11 else if imm then bitsOf w 20 10 else (k.getX (bitsOf w 20 5)).toNat
  let old := (k.getCsr 0xC20).toNat
  let k := k.vecDirty.setCsr 8 0
  if vtypeOk vt then
    let mx := vlmaxOf vt
    let avl := if imm ∧ bitOf w 31 then rs1 else if rs1 ≠ 0 then (k.getX rs1).toNat else if rd ≠ 0 then mx else old
    let vl := BitVec.ofNat 64 (vlFor avl mx fr)
    ((k.setCsr 0xC21 (BitVec.ofNat 64 vt)).setCsr 0xC20 vl).setX rd vl
  else ((k.setCsr 0xC21 (BitVec.ofNat 64 (2 ^ 63))).setCsr 0xC20 0).setX rd 0

end Sys2Proof.Machine
end

