-- ==== Sys2Proof/Machine/CoreMem.lean ====
section
/-!
DEFINITION. Sys2Proof/Machine/CoreMem.lean: the accesses of a core (R57, R64 to R69, R127, R132, R309, R318, R476, R710): where each
goes, what stops it, and how it is performed. A core goes on to its next instruction while stores are outstanding, and waits for
a load or an AMO (assumption 27).
-/
namespace Sys2Proof.Machine

/-- Where a core's access goes: nowhere, across a line, into the own tile's memory or register window, over the CN, over the BN, or
to a chip or window that it may not leave for. -/
inductive CoreWay where
  | fault
  | cross
  | here (p : Place)
  | reg (p : Place)
  | cn (p : Place)
  | bn (chip dt ad : Nat)
  | noRoute (chip : Nat)
deriving DecidableEq, Repr

/-- R57: the place that a core's address names; one of another chip is decoded under the own map (R477). -/
def corePlace (s : State) (t a : Nat) : Place := mapLocal s (if a / 2 ^ 47 = chipId s then some t else none) (a % 2 ^ 47)

/-- R31, R476: an access that leaves by the BN. -/
def bnWay (s : State) (a : Nat) (p : Place) : CoreWay :=
  match encPlace p with
  | none => .fault
  | some (dt, ad) =>
    let chip := a / 2 ^ 47
    if chip ≠ chipId s ∧ !mayLeave s chip (ad / 2 ^ 40) then .noRoute chip else .bn chip dt ad

/-- R64, R65: the way of an access of `n` bytes; `mem` says that it may only go to a CM or vault or, where `wide` holds, the host
window. -/
def coreWay (s : State) (t a n : Nat) (mem wide : Bool) : CoreWay :=
  let p := corePlace s t a
  let far := decide (a / 2 ^ 47 ≠ chipId s)
  let reg := fun (u : Option Nat) =>
    if mem ∨ (n ≠ 4 ∧ n ≠ 8) ∨ a % n ≠ 0 then .fault
    else if far then bnWay s a p
    else if u = some t then .reg p else .cn p
  let line := fun (w : CoreWay) => if 64 < a % 64 + n then .cross else w
  if far ∧ !mayLeave s (a / 2 ^ 47) 0 then .noRoute (a / 2 ^ 47)
  else match p with
  | .treg u _ => reg (some u)
  | .dreg _ => reg none
  | .cm u _ => line (if u = t ∧ !far then .here p else bnWay s a p)
  | .vlt u _ => line (if u = t ∧ !far then .here p else bnWay s a p)
  | .host _ => if mem ∧ !wide then .fault else line (bnWay s a p)
  | _ => .fault

/-! ### What an access meets -/

/-- Outstanding accesses of a core of some kinds. -/
def outCount (k : CoreSt) (p : CoreAcc → Bool) : Nat := (k.outst.filter (fun (o : CoreOut) => p o.kind)).length

/-- R132, R318: `m` more accesses would pass a limit: 16 remote loads, 32 remote stores and AMOs, 8 register accesses over the CN. -/
def outFull (k : CoreSt) (way : CoreWay) (load : Bool) (m : Nat) : Bool :=
  match way with
  | .bn _ _ _ => if load then decide (16 < outCount k (· == .load) + m)
      else decide (32 < outCount k (fun x => x == .store || x == .amo) + m)
  | .cn _ => decide (8 < outCount k (fun x => x == .regRd || x == .regWr || x == .late) + m)
  | _ => false

/-- What becomes of an access: it waits, it takes an exception (0 none), it meets poison, it is refused a route to a chip. -/
structure CoreChk where
  wait  : Bool
  cause : Nat
  psn   : Bool
  far   : Option Nat
deriving DecidableEq, Repr

/-- The check of an access: `acc` 0 a load, 1 a store, 2 an AMO or SC, 3 an LR; `m` the accesses that its instruction makes at once. -/
def coreChk (s : State) (t c a n acc m : Nat) (mem wide : Bool) (fs : Finds) : CoreChk :=
  let k := coreOf s t c
  let load := acc == 0 || acc == 3
  let access := if load then 5 else 7
  let misal := if load then 4 else 6
  let way := coreWay s t a n mem wide
  let ok : CoreChk := ⟨false, 0, false, none⟩
  let bad := fun (x : Nat) => (⟨false, x, false, none⟩ : CoreChk)
  if 2 ≤ acc ∧ a % n ≠ 0 then bad misal
  else if !k.pmpOk k.dataUser a n (if load then 0 else 1) then bad access
  else match way with
    | .fault => bad access
    | .cross => bad misal
    | .noRoute chip => ⟨false, access, false, some chip⟩
    | .here p =>
      if cmWaits s p then ⟨true, 0, false, none⟩
      else if memStatus s p ≠ stOK then bad access
      else if acc ≠ 1 ∧ (memRead s p n fs).psn then ⟨false, access, true, none⟩
      else ok
    | .reg p => if acc ≤ 1 ∧ regStatus s p n = stOK then ok else bad access
    | .cn _ => if outFull k way load m then ⟨true, 0, false, none⟩ else ok
    | .bn _ _ _ => if acc = 3 then bad access else if outFull k way load m then ⟨true, 0, false, none⟩ else ok

/-- R66: a store to another chip at an address that is unmapped there ends without an exception, as a contained error. -/
def farUnmapped (s : State) (t a : Nat) : Bool :=
  decide (a / 2 ^ 47 ≠ chipId s) && chipExists s (a / 2 ^ 47) && corePlace s t a == .unmapped

/-- An access that takes its exception: what the read of a poisoned line did, the trap, and the events of poison and of a refused
route. -/
def coreFault (t c a n : Nat) (x : CoreChk) (dst : LdDst) (fs : Finds) : Act := fun s =>
  let rd : Act := fun s => match corePlace s t a with
    | .cm u o => if x.psn then (memRead s (.cm u o) n fs).eff else []
    | .vlt u o => if x.psn then (memRead s (.vlt u o) n fs).eff else []
    | _ => []
  seqA [rd, faultAt t c x.cause (coreOf s t c).pc a dst, whenA x.psn (poisonUse t c a),
    (match x.far with
     | some chip => noRoute t chip
     | none => noA)] s

/-! ### Performing it -/

/-- The class and route mode of core accesses (R174). -/
def coreTc (s : State) (t : Nat) : Nat := tfld s t .NIU_CFG f_NIU_CFG_CORE_TC
def coreRm (s : State) (t : Nat) : Nat := tfld s t .NIU_CFG f_NIU_CFG_CORE_RMODE

/-- The number of a core's next remote access. -/
def nextOut (k : CoreSt) : Nat :=
  ((List.range 64).find? (fun n => !k.outst.any (fun (o : CoreOut) =>
    (o.kind == .load || o.kind == .store || o.kind == .amo) && o.key == n))).getD 0

/-- An access of a core becomes outstanding. -/
def putOut (t c : Nat) (kind : CoreAcc) (key a n : Nat) (dst : LdDst) : Act := fun s =>
  let k := coreOf s t c
  [.putCores (coreKey t c) { k with outst := k.outst ++ [⟨kind, key, a, n, dst, k.pc⟩] }]

/-- R309, R318: a register access leaves over the CN. -/
def coreCn (t c a n : Nat) (wr : Bool) (p : Place) (bs : List Byte) (dst : LdDst) : Act := fun s =>
  let op := if wr then 1 else 0
  let kind := if wr then CoreAcc.regWr else .regRd
  match p with
  | .treg u off => seqA [cnSend t (mkCn t u op (coreTc s t) n (c * 2 ^ 25 + off) bs), putOut t c kind u a n dst] s
  | .dreg off => seqA [cnSend t (mkCn t hub op (coreTc s t) n (c * 2 ^ 25 + off) bs), putOut t c kind hub a n dst] s
  | _ => []

/-- R69, R132: an access leaves over the BN. -/
def coreBn (t c a n : Nat) (op : Nat) (kind : CoreAcc) (chip dt ad len : Nat) (bs : List Byte) (dst : LdDst) : Act := fun s =>
  let m := nextOut (coreOf s t c)
  seqA [putOut t c kind m a n dst,
    niuPush t ⟨mkBn s t op (coreTc s t) (coreRm s t) chip dt ad len bs (List.replicate (ceilDiv bs.length 64) false), c, .core c m⟩] s

/-- The core that makes an access, as a requester. -/
def coreWho (t c : Nat) : Requester := .core (Fin.ofNat 512 t) (Fin.ofNat 24 c)

/-- Data reaches the register of a load. -/
def putLoaded (t c : Nat) (dst : LdDst) (n : Nat) (bs : List Byte) : Act := fun s =>
  [.putCores (coreKey t c) ((coreOf s t c).loaded dst n bs)]

/-- A load whose check lets it go. -/
def coreLoadGo (t c a n : Nat) (mem wide : Bool) (dst : LdDst) (fs : Finds) : Act := fun s =>
  match coreWay s t a n mem wide with
  | .here p =>
    let r := memRead s p n fs
    seqA [effA r.eff, bankGrants t p n c, putLoaded t c dst n r.bytes] s
  | .reg p =>
    let r := regRead s (reqNo (coreWho t c) 0) p n
    seqA [effA r.eff, putLoaded t c dst n r.bytes] s
  | .cn p => coreCn t c a n false p [] dst s
  | .bn chip dt ad => coreBn t c a n opRdReq .load chip dt ad n [] dst s
  | _ => []

/-- A store whose check lets it go. -/
def coreStoreGo (t c a n : Nat) (mem wide : Bool) (bs : List Byte) (fs : Finds) : Act := fun s =>
  match coreWay s t a n mem wide with
  | .here p => seqA [memStore p bs (fun _ => false) fs (some c), bankGrants t p n c] s
  | .reg p => regWrite (coreWho t c) (reqNo (coreWho t c) 0) p n (leNat bs) s
  | .cn p => coreCn t c a n true p bs .none s
  | .bn chip dt ad => coreBn t c a n opWr .store chip dt ad n bs .none s
  | _ => []

/-! ### Scalar accesses -/

/-- A scalar load; `len` is the length of its instruction. -/
def scalarLoad (t c len a n : Nat) (dst : LdDst) (fs : Finds) : Act := fun s =>
  let x := coreChk s t c a n 0 1 false true fs
  if x.wait then []
  else if x.cause ≠ 0 then coreFault t c a n x dst fs s
  else seqA [coreLoadGo t c a n false true dst fs, advance t c len] s

/-- A scalar store. -/
def scalarStore (t c len a n : Nat) (bs : List Byte) (fs : Finds) : Act := fun s =>
  let x := coreChk s t c a n 1 1 false true fs
  if x.wait then []
  else if x.cause = 7 ∧ farUnmapped s t a ∧ (coreOf s t c).pmpOk (coreOf s t c).dataUser a n 1 then
    seqA [storeFail t c a, advance t c len] s
  else if x.cause ≠ 0 then coreFault t c a n x .none fs s
  else seqA [coreStoreGo t c a n false true bs fs, advance t c len] s

/-- R68, R177: an AMO: performed at the own tile's memory, or sent to the destination. -/
def coreAmo (t c len a n func : Nat) (v : W64) (rd : Nat) (fs : Finds) : Act := fun s =>
  let x := coreChk s t c a n 2 1 true false fs
  if x.wait then []
  else if x.cause ≠ 0 then coreFault t c a n x .none fs s
  else match coreWay s t a n true false with
    | .here p =>
      let r := amoAt s p func n v.toNat false fs (some c)
      seqA [effA r.eff, bankGrants t p n c, putLoaded t c (.x rd true) n r.bytes, advance t c len] s
    | .bn chip dt ad =>
      let bs := leBytes 1 func ++ leBytes 1 n ++ leBytes 6 0 ++ leBytes 8 (v.toNat % 2 ^ (8 * n))
      seqA [coreBn t c a n opAmo .amo chip dt ad 16 bs (.x rd true), advance t c len] s
    | _ => []

/-- The line of the own tile that an address lies in, as a reservation names it. -/
def resvLine (p : Place) : Option Nat :=
  match p with
  | .cm _ o => some (lineNo false o)
  | .vlt _ o => some (lineNo true o)
  | _ => none

/-- R64: a load-reserved, to the own CM or vault only. -/
def coreLr (t c len a n rd : Nat) (fs : Finds) : Act := fun s =>
  let x := coreChk s t c a n 3 1 true false fs
  if x.wait then []
  else if x.cause ≠ 0 then coreFault t c a n x (.x rd true) fs s
  else match coreWay s t a n true false with
    | .here p => seqA [coreLoadGo t c a n true false (.x rd true) fs,
        (fun s => [.putCores (coreKey t c) { coreOf s t c with resv := resvLine p }]), advance t c len] s
    | _ => []

/-- R64: a store-conditional, to the own CM or vault only; `held` says that the core's reservation has not been lost for a reason of
its own. -/
def coreSc (t c len a n rd : Nat) (v : W64) (held : Bool) (fs : Finds) : Act := fun s =>
  let x := coreChk s t c a n 2 1 true false fs
  if x.wait then []
  else if x.cause ≠ 0 then coreFault t c a n x .none fs s
  else match coreWay s t a n true false with
    | .here p =>
      let win := held && (coreOf s t c).resv.isSome && (coreOf s t c).resv == resvLine p
      seqA [whenA win (seqA [memStore p (leBytes n v.toNat) (fun _ => false) fs (some c), bankGrants t p n c]),
        (fun s => [.putCores (coreKey t c) { (coreOf s t c).setX rd (if win then 0 else 1) with resv := none }]), advance t c len] s
    | _ => coreFault t c a n ⟨false, 7, false, none⟩ .none fs s

/-! ### Vector accesses: one element of the instruction at a time, vstart naming the next -/

/-- A vector load or store: how it addresses (0 unit, 1 strided, 2 indexed), its masking, the bytes of an element and of an index, the
registers of a field, the fields, the elements, and whether it is fault-only-first. -/
structure VecMem where
  mode   : Nat
  vm     : Bool
  base   : Nat
  stride : Nat
  vidx   : Nat
  idxB   : Nat
  vd     : Nat
  elB    : Nat
  regs   : Nat
  fields : Nat
  count  : Nat
  ff     : Bool
deriving DecidableEq, Repr

/-- The registers of a group of eight times EMUL `e8`. -/
def groupRegs (e8 : Nat) : Nat := max 1 (e8 / 8)

/-- A group of registers is legal: EMUL from 1/8 to 8, at a register that is a multiple of it. -/
def groupOk (e8 r : Nat) : Bool := decide (1 ≤ e8) && decide (e8 ≤ 64) && r % groupRegs e8 == 0

/-- The access that a vector load or store makes; none where it is illegal. -/
def vecMem (k : CoreSt) (w : Nat) (load : Bool) : Option VecMem :=
  let vt := (k.getCsr 0xC21).toNat
  let vl := (k.getCsr 0xC20).toNat
  let sew := sewOf vt
  let l8 := lmul8 vt
  let f3 := bitsOf w 12 3
  let ew := if f3 = 0 then 8 else 8 * 2 ^ (f3 - 4)
  let nf := bitsOf w 29 3 + 1
  let vm := bitOf w 25
  let mop := bitsOf w 26 2
  let um := bitsOf w 20 5
  let vd := bitsOf w 7 5
  let base := (k.getX (bitsOf w 15 5)).toNat
  let vill := decide (2 ^ 63 ≤ vt)
  let e8 := ew * l8 / sew
  let fits := fun (g : Nat) => groupOk g vd && decide (nf * groupRegs g ≤ 8) && decide (vd + nf * groupRegs g ≤ 32)
    && (vm || !load || vd != 0)
  if bitOf w 28 || !k.vecOn then none
  else if mop = 0 ∧ um = 8 then
    if (nf = 1 ∨ nf = 2 ∨ nf = 4 ∨ nf = 8) ∧ vm ∧ vd % nf = 0 then some ⟨0, true, base, 0, 0, 0, vd, ew / 8, nf, 1, nf * 512 / ew, false⟩
    else none
  else if vill then none
  else if mop = 0 ∧ um = 0xB then
    if nf = 1 ∧ vm ∧ f3 = 0 then some ⟨0, true, base, 0, 0, 0, vd, 1, 1, 1, ceilDiv vl 8, false⟩ else none
  else if mop = 0 ∧ (um = 0 ∨ (um = 0x10 ∧ load)) then
    if fits e8 then some ⟨0, vm, base, 0, 0, 0, vd, ew / 8, groupRegs e8, nf, vl, um == 0x10⟩ else none
  else if mop = 0 then none
  else if mop = 2 then
    if fits e8 then some ⟨1, vm, base, (k.getX um).toNat, 0, 0, vd, ew / 8, groupRegs e8, nf, vl, false⟩ else none
  else if fits l8 ∧ groupOk e8 um then some ⟨2, vm, base, 0, um, ew / 8, vd, sew / 8, groupRegs l8, nf, vl, false⟩
  else none

/-- Byte `i` of a group of vector registers. -/
def vecByte (k : CoreSt) (r i : Nat) : Byte := BitVec.ofNat 8 (bitsOf (k.getV (r + i / 64)).toNat (8 * (i % 64)) 8)

/-- The address of field `f` of element `i`. -/
def VecMem.addr (m : VecMem) (k : CoreSt) (i f : Nat) : Nat :=
  let at_ := match m.mode with
    | 0 => i * m.elB * m.fields
    | 1 => i * m.stride
    | _ => leNat ((List.range m.idxB).map (fun j => vecByte k m.vidx (i * m.idxB + j)))
  (m.base + at_ + f * m.elB) % 2 ^ 64

/-- The next element that is active, from vstart on. -/
def VecMem.next (m : VecMem) (k : CoreSt) : Option Nat :=
  let v0 := (k.getV 0).toNat
  (List.range m.count).find? (fun i => decide ((k.getCsr 8).toNat ≤ i) && (m.vm || bitOf v0 i))

/-- The bits of a group of registers. -/
def CoreSt.getGrp (k : CoreSt) (r n : Nat) : Nat :=
  (List.range n).foldl (fun a i => a + (k.getV ((r + i) % 32)).toNat * 2 ^ (512 * i)) 0

/-- The core with a group of registers written. -/
def CoreSt.setGrp (k : CoreSt) (r n x : Nat) : CoreSt :=
  (List.range n).foldl (fun k i => k.setV ((r + i) % 32) (BitVec.ofNat 512 (x / 2 ^ (512 * i)))) k

/-- Elements of `e` bits, the first lowest. -/
def packBits (e : Nat) (l : List Nat) : Nat := l.foldr (fun x a => x % 2 ^ e + 2 ^ e * a) 0

/-- The elements that a vector load does not bring, by the tail and mask policies: an agnostic one may become all ones. The tail of a mask load
is always agnostic. -/
def VecMem.rest (m : VecMem) (k : CoreSt) (w fr : Nat) : CoreSt :=
  let vt := (k.getCsr 0xC21).toNat
  let v0 := (k.getV 0).toNat
  let tail := bitOf vt 6 || (bitsOf w 26 2 == 0 && bitsOf w 20 5 == 0xB)
  (List.range m.fields).foldl (fun (k : CoreSt) f =>
    let r := m.vd + f * m.regs
    let e := 8 * m.elB
    let old := k.getGrp r m.regs
    k.setGrp r m.regs (packBits e ((List.range (m.regs * 512 / e)).map (fun i =>
      let agnostic := if m.count ≤ i then tail else bitOf vt 7 && !m.vm && !bitOf v0 i
      if agnostic && Config.freeBit (fr + 512 * f + i) then 2 ^ e - 1 else bitsOf old (e * i) e)))) k

/-- A vector access has made its last element: `m` is a load's, whose other elements follow their policies. -/
def vecDone (t c len w : Nat) (m : Option VecMem) : Act := seqA [
  (fun s =>
    let k := coreOf s t c
    match m with
    | some m => [.putCores (coreKey t c) ((m.rest k w s.free).vecDirty.setCsr 8 0), .setFree (s.free + 4096)]
    | none => [.putCores (coreKey t c) (k.vecDirty.setCsr 8 0)]),
  advance t c len]

/-- Where field `f` of element `i` lies in the registers. -/
def VecMem.dst (m : VecMem) (i f : Nat) : LdDst := .v (m.vd + f * m.regs + i * m.elB / 64) (i * m.elB % 64) i m.ff

/-- The checks of the fields of an element: the first field that waits or takes an exception; an element must be aligned. -/
def VecMem.check (m : VecMem) (s : State) (t c i acc : Nat) (fs : Finds) : Option (Nat × CoreChk) :=
  let k := coreOf s t c
  (List.range m.fields).findSome? (fun f =>
    let a := m.addr k i f
    let x := if a % m.elB ≠ 0 then ⟨false, if acc = 0 then 4 else 6, false, none⟩ else coreChk s t c a m.elB acc m.fields true true fs
    if x.wait ∨ x.cause ≠ 0 then some (f, x) else none)

/-- A vector load makes its next element. -/
def vecLoad (t c len w : Nat) (fs : Finds) : Act := fun s =>
  let k := coreOf s t c
  match vecMem k w true with
  | none => trapCore t c 2 k.pc w s
  | some m =>
    match m.next k with
    | none => vecDone t c len w (some m) s
    | some i =>
      match m.check s t c i 0 fs with
      | some (f, x) => if x.wait then [] else coreFault t c (m.addr k i f) m.elB x (m.dst i f) fs s
      | none => eachA (List.range m.fields) (fun f => coreLoadGo t c (m.addr k i f) m.elB true true (m.dst i f) fs) s

/-- A vector store makes its next element. -/
def vecStore (t c len w : Nat) (fs : Finds) : Act := fun s =>
  let k := coreOf s t c
  match vecMem k w false with
  | none => trapCore t c 2 k.pc w s
  | some m =>
    match m.next k with
    | none => vecDone t c len w none s
    | some i =>
      let step : Act := fun s => [.putCores (coreKey t c) ((coreOf s t c).setCsr 8 (BitVec.ofNat 64 (i + 1)))]
      match m.check s t c i 1 fs with
      | some (f, x) =>
        if x.wait then []
        else if x.cause = 7 ∧ farUnmapped s t (m.addr k i f) then seqA [storeFail t c (m.addr k i f), step] s
        else coreFault t c (m.addr k i f) m.elB x (m.dst i f) fs s
      | none => seqA [eachA (List.range m.fields) (fun f =>
          coreStoreGo t c (m.addr k i f) m.elB true true
            ((List.range m.elB).map (fun j => vecByte k (m.vd + f * m.regs) (i * m.elB + j))) fs), step] s

end Sys2Proof.Machine
end

