-- ==== Sys2Proof/Machine/RvFloat.lean ====
section
/-!
DEFINITION. Sys2Proof/Machine/RvFloat.lean: the F and D instructions of a core (R124), with the rounding modes and flags of the RISC-V
architecture (PRESUMED, assumption 9).
-/
namespace Sys2Proof.Machine

/-! ### Rounding -/

/-- The flags of fflags. -/
def rvNV : Nat := 16
def rvDZ : Nat := 8
def rvOF : Nat := 4
def rvUF : Nat := 2
def rvNX : Nat := 1

/-- m × 2^e rounded to a multiple of 2^q under a rounding mode (0 RNE, 1 RTZ, 2 RDN, 3 RUP, 4 RMM, 5 to odd): the multiple, and whether
it is exact. -/
def rvRoundAt (rm : Nat) (neg : Bool) (m : Nat) (e q : Int) : Nat × Bool :=
  if q ≤ e then (m * 2 ^ (e - q).toNat, true)
  else
    let k := (q - e).toNat
    let n := m / 2 ^ k
    let r := m % 2 ^ k
    let up := match rm with
      | 0 => decide (2 ^ k < 2 * r) || (2 * r == 2 ^ k && n % 2 == 1)
      | 1 => false
      | 2 => neg && r != 0
      | 3 => !neg && r != 0
      | 5 => r != 0 && n % 2 == 0
      | _ => decide (2 ^ k ≤ 2 * r)
    (n + b2n up, r == 0)

/-- A value rounded to FP32 or FP64: the bits and the flags. A NaN becomes the canonical one. -/
def rvFloat (f : FFmt) (rm : Nat) (v : Val) : Nat × Nat :=
  match v with
  | .nan => (canonNan f, 0)
  | .inf n => (infBits f n, 0)
  | .fin n m e =>
    if m = 0 then (signBit f n, 0)
    else
      let emin : Int := 1 - (f.bias : Int)
      let lg := magLog m e
      let ex := max lg emin
      let r := rvRoundAt rm n m e (ex - f.mb)
      let u := rvRoundAt rm n m e (lg - f.mb)
      let code := (ex + f.bias - 1).toNat * 2 ^ f.mb + r.1
      let tiny := decide (lg < emin) && !(decide (lg = emin - 1) && u.1 == 2 ^ (f.mb + 1))
      if maxFinite f < code then
        let toInf := rm = 0 ∨ rm = 4 ∨ (rm = 2 ∧ n = true) ∨ (rm = 3 ∧ n = false)
        (if toInf then infBits f n else signBit f n + maxFinite f, rvOF + rvNX)
      else (signBit f n + code, if r.2 then 0 else rvNX + (if tiny then rvUF else 0))

/-- A value converted to an integer of a width: the bits, sign-extended from that width, and the flags. -/
def rvToInt (w : Nat) (signed : Bool) (rm : Nat) (v : Val) : W64 × Nat :=
  let lo : Int := if signed then -((2 ^ (w - 1) : Nat) : Int) else 0
  let hi : Int := (if signed then ((2 ^ (w - 1) : Nat) : Int) else ((2 ^ w : Nat) : Int)) - 1
  let out := fun (x : Int) => sx w (ofSigned w x)
  match v with
  | .nan => (out hi, rvNV)
  | .inf n => (out (if n then lo else hi), rvNV)
  | .fin n m e =>
    let r := rvRoundAt rm n m e 0
    let x : Int := if n then -(r.1 : Int) else r.1
    if hi < x then (out hi, rvNV) else if x < lo then (out lo, rvNV) else (out x, if r.2 then 0 else rvNX)

/-! ### Operands -/

/-- The format of FMT: 0 single, 1 double. -/
def rvFmt (d : Bool) : FFmt := if d then fp64 else fp32

/-- The bits of an operand: a single that is not NaN-boxed reads as the canonical NaN. -/
def rvOperand (d : Bool) (x : W64) : Nat :=
  if d then x.toNat else if x.toNat / 2 ^ 32 = 2 ^ 32 - 1 then x.toNat % 2 ^ 32 else canonNan fp32

/-- A result as it is written: a single is NaN-boxed. -/
def rvBox (d : Bool) (x : Nat) : W64 := BitVec.ofNat 64 (if d then x else (2 ^ 32 - 1) * 2 ^ 32 + x % 2 ^ 32)

/-- The bits are a signalling NaN. -/
def rvSnan (f : FFmt) (x : Nat) : Bool := decodeFloat f x == .nan && !bitOf x (f.mb - 1)

/-- NV where an operand is a signalling NaN. -/
def nvOf (f : FFmt) (xs : List Nat) : Nat := if xs.any (rvSnan f) then rvNV else 0

/-! ### Arithmetic -/

/-- A sum: exact but for the sign of a zero, which is − when rounding down unless both are +0. -/
def rvSum (rm : Nat) (a b : Val) : Val :=
  match a.add b with
  | .fin _ 0 e => if a.isZero && b.isZero && a.sign == b.sign then .fin a.sign 0 e else .fin (rm == 2) 0 e
  | v => v

/-- NV where two operands that are not NaN give a NaN. -/
def nvNew (args : List Val) (v : Val) : Nat := if v = .nan ∧ args.all (· != .nan) then rvNV else 0

/-- The integer square root of a number below 2^(2k). -/
def isqrtN (k m : Nat) : Nat :=
  (List.range k).foldl (fun r i => let c := r + 2 ^ (k - 1 - i); if c * c ≤ m then c else r) 0

/-- A square root with enough bits, and a last one that says whether it is inexact. -/
def rvSqrt (v : Val) : Val :=
  match v with
  | .fin n m e =>
    if m = 0 then v
    else if n then .nan
    else
      let k : Nat := 130 + (if (e - 130) % 2 = 0 then 0 else 1)
      let x := m * 2 ^ k
      let r := isqrtN (Nat.log2 x / 2 + 1) x
      .fin false (2 * r + b2n (r * r != x)) ((e - k) / 2 - 1)
  | .inf n => if n then .nan else v
  | .nan => .nan

/-- A quotient with enough bits, and a last one that says whether it is inexact; zero by zero and infinity by infinity are NaN. -/
def rvQuot (a b : Val) : Val :=
  match a, b with
  | .nan, _ => .nan
  | _, .nan => .nan
  | .inf _, .inf _ => .nan
  | .inf n, .fin n' _ _ => .inf (n != n')
  | .fin n _ _, .inf n' => .fin (n != n') 0 0
  | .fin n m e, .fin n' m' e' =>
    if m' = 0 then (if m = 0 then .nan else .inf (n != n'))
    else
      let s := 130 + Nat.log2 m'
      let q := m * 2 ^ s / m'
      .fin (n != n') (2 * q + b2n (q * m' != m * 2 ^ s)) (e - e' - s - 1)

/-- The minimum or maximum (−0 below +0; the other operand where one is NaN). -/
def rvMinMax (f : FFmt) (mx : Bool) (x y : Nat) : Nat × Nat :=
  let a := decodeFloat f x
  let b := decodeFloat f y
  let less := a.lt b || (a.isZero && b.isZero && a.sign && !b.sign)
  let r :=
    if a = .nan then (if b = .nan then canonNan f else y)
    else if b = .nan then x
    else if less then (if mx then y else x) else (if mx then x else y)
  (r, nvOf f [x, y])

/-- FCLASS. -/
def rvClass (f : FFmt) (x : Nat) : Nat :=
  let sub := bitsOf x f.mb f.eb = 0
  match decodeFloat f x with
  | .nan => if rvSnan f x then 256 else 512
  | .inf n => if n then 1 else 128
  | .fin n m _ =>
    if m = 0 then (if n then 8 else 16)
    else if sub then (if n then 4 else 32) else (if n then 2 else 64)

/-- What a float instruction writes: an integer or a float register, and the flags; none where it is illegal. -/
inductive FpOut where
  | x (v : W64) (fl : Nat)
  | f (v : W64) (fl : Nat)
  | bad
deriving DecidableEq, Repr

/-- A float result. -/
def fpRes (d : Bool) (r : Nat × Nat) (nv : Nat) : FpOut := .f (rvBox d r.1) (r.2 ||| nv)

/-- A comparison: 2 FEQ, 1 FLT, 0 FLE. -/
def rvCmp (f : FFmt) (k x y : Nat) : FpOut :=
  let a := decodeFloat f x
  let b := decodeFloat f y
  let nan := a == .nan || b == .nan
  let eq := !nan && (a == b || (a.isZero && b.isZero) || (!a.lt b && !b.lt a))
  let nv := if k = 2 then nvOf f [x, y] else if nan then rvNV else 0
  match k with
  | 2 => .x (BitVec.ofNat 64 (b2n eq)) nv
  | 1 => .x (BitVec.ofNat 64 (b2n (a.lt b))) nv
  | 0 => .x (BitVec.ofNat 64 (b2n (a.lt b || eq))) nv
  | _ => .bad

/-- A fused multiply-add of bits: ±(a × b) ± c. -/
def rvFma (f : FFmt) (rm : Nat) (negP negC : Bool) (x y z : Nat) : Nat × Nat :=
  let a := decodeFloat f x
  let b := decodeFloat f y
  let c := decodeFloat f z
  let p := if negP then (a.mul b).neg else a.mul b
  let c' := if negC then c.neg else c
  let v := rvSum rm p c'
  let r := rvFloat f rm v
  (r.1, r.2 ||| nvOf f [x, y, z] ||| nvNew [a, b] (a.mul b) ||| nvNew [p, c'] v)

/-- The rounding mode of an instruction; none where it is reserved. -/
def rvRm (rm frm : Nat) : Option Nat := if rm < 5 then some rm else if rm = 7 ∧ frm < 5 then some frm else none

/-- OP-FP with the operands' raw registers; `xs` is the integer operand. -/
def fpOp (w frm : Nat) (a b xs : W64) : FpOut :=
  let f7 := bitsOf w 25 7
  let d := f7 % 4 = 1
  let f := rvFmt d
  let rmf := bitsOf w 12 3
  let rs2 := bitsOf w 20 5
  let x := rvOperand d a
  let y := rvOperand d b
  let va := decodeFloat f x
  let vb := decodeFloat f y
  let nv := nvOf f [x, y]
  let withRm := fun (k : Nat → FpOut) => match rvRm rmf frm with
    | some rm => k rm
    | none => .bad
  if 2 ≤ f7 % 4 then .bad
  else match f7 / 4 with
    | 0x00 => withRm (fun rm => let v := rvSum rm va vb; fpRes d (rvFloat f rm v) (nv ||| nvNew [va, vb] v))
    | 0x01 => withRm (fun rm => let v := rvSum rm va vb.neg; fpRes d (rvFloat f rm v) (nv ||| nvNew [va, vb] v))
    | 0x02 => withRm (fun rm => let v := va.mul vb; fpRes d (rvFloat f rm v) (nv ||| nvNew [va, vb] v))
    | 0x03 => withRm (fun rm =>
        let v := rvQuot va vb
        let dz := vb.isZero && !va.isZero && !va.special
        fpRes d (rvFloat f rm v) (nv ||| nvNew [va, vb] v ||| (if dz then rvDZ else 0)))
    | 0x0B => if rs2 ≠ 0 then .bad else withRm (fun rm =>
        let v := rvSqrt va
        fpRes d (rvFloat f rm v) (nvOf f [x] ||| nvNew [va] v))
    | 0x04 =>
      let top := 2 ^ (f.eb + f.mb)
      let s := match rmf with
        | 0 => bitOf y (f.eb + f.mb)
        | 1 => !bitOf y (f.eb + f.mb)
        | _ => bitOf x (f.eb + f.mb) != bitOf y (f.eb + f.mb)
      if 2 < rmf then .bad else .f (rvBox d (x % top + (if s then top else 0))) 0
    | 0x05 => if 1 < rmf then .bad else let r := rvMinMax f (rmf == 1) x y; .f (rvBox d r.1) r.2
    | 0x08 =>
      -- FCVT.S.D and FCVT.D.S
      if d then
        (if rs2 ≠ 0 then .bad else withRm (fun rm =>
          let z := rvOperand false a
          fpRes true (rvFloat fp64 rm (decodeFloat fp32 z)) (nvOf fp32 [z])))
      else
        (if rs2 ≠ 1 then .bad else withRm (fun rm =>
          let z := rvOperand true a
          fpRes false (rvFloat fp32 rm (decodeFloat fp64 z)) (nvOf fp64 [z])))
    | 0x14 => rvCmp f rmf x y
    | 0x18 => if 3 < rs2 then .bad else withRm (fun rm =>
        let r := rvToInt (if rs2 < 2 then 32 else 64) (rs2 % 2 == 0) rm va
        .x r.1 r.2)
    | 0x1A => if 3 < rs2 then .bad else withRm (fun rm =>
        let v : Int := match rs2 with
          | 0 => toSigned 32 xs.toNat
          | 1 => ((xs.toNat % 2 ^ 32 : Nat) : Int)
          | 2 => xs.toInt
          | _ => (xs.toNat : Int)
        fpRes d (rvFloat f rm (Val.ofInt v)) 0)
    | 0x1C =>
      if rs2 ≠ 0 then .bad
      else if rmf = 0 then .x (if d then a else sx 32 a.toNat) 0
      else if rmf = 1 then .x (BitVec.ofNat 64 (rvClass f x)) 0
      else .bad
    | 0x1E => if rs2 = 0 ∧ rmf = 0 then .f (if d then xs else rvBox false xs.toNat) 0 else .bad
    | _ => .bad

/-- A float instruction: OP-FP or one of the four fused ones. -/
def fpExec (w frm : Nat) (a b c xs : W64) : FpOut :=
  let op := bitsOf w 0 7
  if op = 0x53 then fpOp w frm a b xs
  else
    let fmt := bitsOf w 25 2
    let d := fmt = 1
    match rvRm (bitsOf w 12 3) frm with
    | none => .bad
    | some rm =>
      if 2 ≤ fmt then .bad
      else
        let x := rvOperand d a
        let y := rvOperand d b
        let z := rvOperand d c
        let k := op / 4 % 4
        -- 0 FMADD, 1 FMSUB, 2 FNMSUB, 3 FNMADD
        fpRes d (rvFma (rvFmt d) rm (2 ≤ k) (k == 1 || k == 3) x y z) 0

end Sys2Proof.Machine
end

