-- ==== Sys2Proof/Machine/RvVec.lean ====
section
/-!
DEFINITION. Sys2Proof/Machine/RvVec.lean: the vector arithmetic of a core: VLEN 512, ELEN 64, float elements FP32 and FP64 (R124), with the
meanings of the RISC-V V extension (PRESUMED, assumption 9). What that extension leaves to an implementation is a free value: the
agnostic elements, and the sum of an unordered float reduction (assumption 4). A reserved use of registers is an illegal instruction.
-/
namespace Sys2Proof.Machine

/-! ### Registers and elements -/

/-- A register group as an instruction uses it: its first register, the bits of an element (1 in a mask), and eight times its EMUL. -/
structure VReg where
  r : Nat
  e : Nat
  m : Nat
deriving DecidableEq, Repr

/-- The registers of a group. -/
def VReg.n (g : VReg) : Nat := groupRegs g.m

/-- A group is legal. -/
def VReg.ok (g : VReg) : Bool := g.e == 1 || (decide (g.e ≤ 64) && decide (8 ≤ g.e) && groupOk g.m g.r)

/-- Two groups share no register. -/
def VReg.apart (a b : VReg) : Bool := decide (a.r + a.n ≤ b.r) || decide (b.r + b.n ≤ a.r)

/-- A destination may overlap a source of the same element width, the lowest registers of a source of wider elements, or with its highest
registers a source of narrower ones of whole registers. -/
def VReg.overlapOk (d s : VReg) : Bool :=
  d.apart s || d.e == s.e || (decide (d.e < s.e) && d.r == s.r) || (decide (s.e < d.e) && decide (8 ≤ s.m) && s.r + s.n == d.r + d.n)

/-- The registers that an instruction names are legal together: `red` for a scalar result, which may overlap anything; `far` are sources
that the destination may not overlap. -/
def vecRegsOk (vm : Bool) (d : VReg) (red : Bool) (far srcs : List VReg) : Bool :=
  d.ok && srcs.all VReg.ok && (vm || d.e == 1 || red || d.r != 0) && srcs.all (fun s => vm || s.e == 1 || s.r != 0)
    && srcs.all (fun a => srcs.all (fun b => a.e == b.e || a.apart b))
    && srcs.all (fun s => red || d.overlapOk s) && far.all d.apart

/-- What a vector instruction runs with: its core and word, SEW, eight times LMUL, vl, vstart, the tail and mask policies, whether it is
unmasked, the mask, and the number of the first free value it may draw. -/
structure VCtx where
  k   : CoreSt
  w   : Nat
  sew : Nat
  m8  : Nat
  vl  : Nat
  vs  : Nat
  vta : Bool
  vma : Bool
  vm  : Bool
  v0  : Nat
  fr  : Nat
deriving DecidableEq, Repr

/-- The context of an instruction. -/
def vCtx (k : CoreSt) (w fr : Nat) : VCtx :=
  let vt := (k.getCsr 0xC21).toNat
  ⟨k, w, sewOf vt, lmul8 vt, (k.getCsr 0xC20).toNat, (k.getCsr 8).toNat, bitOf vt 6, bitOf vt 7, bitOf w 25, (k.getV 0).toNat, fr⟩

/-- The fields of the word. -/
def VCtx.f6 (v : VCtx) : Nat := bitsOf v.w 26 6
def VCtx.f3 (v : VCtx) : Nat := bitsOf v.w 12 3
def VCtx.rd (v : VCtx) : Nat := bitsOf v.w 7 5
def VCtx.r1 (v : VCtx) : Nat := bitsOf v.w 15 5
def VCtx.r2 (v : VCtx) : Nat := bitsOf v.w 20 5

/-- The groups of vd, vs1 and vs2 with elements of SEW, and with elements of twice that. -/
def VCtx.dReg (v : VCtx) : VReg := ⟨v.rd, v.sew, v.m8⟩
def VCtx.reg1 (v : VCtx) : VReg := ⟨v.r1, v.sew, v.m8⟩
def VCtx.reg2 (v : VCtx) : VReg := ⟨v.r2, v.sew, v.m8⟩
def VReg.wide (g : VReg) : VReg := ⟨g.r, 2 * g.e, 2 * g.m⟩

/-- A mask register. -/
def maskReg (r : Nat) : VReg := ⟨r, 1, 8⟩

/-- An element of a group. -/
def VCtx.el (v : VCtx) (g : VReg) (i : Nat) : Nat := bitsOf (v.k.getGrp g.r g.n) (g.e * i) g.e

/-- A bit of a mask register. -/
def VCtx.bit (v : VCtx) (r i : Nat) : Bool := bitOf (v.k.getV r).toNat i

/-- The mask lets an element be active. -/
def VCtx.act (v : VCtx) (i : Nat) : Bool := v.vm || bitOf v.v0 i

/-- The active elements of the body. -/
def VCtx.acts (v : VCtx) : List Nat := (List.range v.vl).filter (fun i => decide (v.vs ≤ i) && v.act i)

/-- An element that is not written under a policy: agnostic, it may become all ones. -/
def VCtx.left (v : VCtx) (agnostic : Bool) (i ones old : Nat) : Nat :=
  if agnostic && Config.freeBit (v.fr + i) then ones else old

/-- The elements of a destination after an instruction whose body ends at `vl`; `masked` where the mask applies to its elements. -/
def VCtx.body (v : VCtx) (masked : Bool) (d : VReg) (vl : Nat) (f : Nat → Nat) : CoreSt :=
  v.k.setGrp d.r d.n (packBits d.e ((List.range (d.n * 512 / d.e)).map (fun i =>
    let old := v.el d i
    if i < v.vs then old
    else if vl ≤ i then v.left v.vta i (2 ^ d.e - 1) old
    else if masked && !v.act i then v.left v.vma i (2 ^ d.e - 1) old
    else f i)))

/-- The same where vstart lies below vl; else nothing is written. -/
def VCtx.put (v : VCtx) (masked : Bool) (d : VReg) (f : Nat → Nat) : CoreSt :=
  if v.vl ≤ v.vs then v.k else v.body masked d v.vl f

/-- A mask is written: the bits of its tail are left open. -/
def VCtx.putMask (v : VCtx) (masked : Bool) (f : Nat → Bool) : CoreSt :=
  if v.vl ≤ v.vs then v.k
  else v.k.setV v.rd (BitVec.ofNat 512 (packBits 1 ((List.range 512).map (fun i =>
    let old := b2n (v.bit v.rd i)
    if i < v.vs then old
    else if v.vl ≤ i then b2n (Config.freeBit (v.fr + i))
    else if masked && !v.act i then v.left v.vma i 1 old
    else b2n (f i)))))

/-- A scalar is written to element 0 of a register, whose other elements are its tail. -/
def VCtx.putScalar (v : VCtx) (e x : Nat) : CoreSt :=
  if v.vl ≤ v.vs then v.k else { v with vs := 0 }.body false ⟨v.rd, e, 8⟩ 1 (fun _ => x)

/-- What a vector instruction does: the core with its registers written, the flags that it raises, and whether a result saturated. -/
structure VOut where
  k   : CoreSt
  fl  : Nat
  sat : Bool
deriving DecidableEq, Repr

/-- An instruction that is legal under a condition. -/
def vWhen (ok : Bool) (k : CoreSt) : Option VOut := if ok then some ⟨k, 0, false⟩ else none

/-- One that computes each active element with its flags or saturation. -/
def VCtx.each (v : VCtx) (ok : Bool) (d : VReg) (f : Nat → Nat × Nat) : Option VOut :=
  if ok then some ⟨v.put true d (fun i => (f i).1), v.acts.foldl (fun a i => a ||| (f i).2) 0, false⟩ else none
def VCtx.eachSat (v : VCtx) (ok : Bool) (d : VReg) (f : Nat → Nat × Bool) : Option VOut :=
  if ok then some ⟨v.put true d (fun i => (f i).1), 0, v.acts.any (fun i => (f i).2)⟩ else none

/-! ### Integer elements -/

/-- A number with `d` bits dropped under vxrm: 0 to nearest up, 1 to nearest even, 2 down, 3 to odd. -/
def vRound (vxrm : Nat) (x : Int) (d : Nat) : Int :=
  let p : Int := (2 ^ d : Nat)
  let q := x / p
  let r := x % p
  let up := match vxrm with
    | 0 => decide (p ≤ 2 * r)
    | 1 => decide (p < 2 * r) || (decide (2 * r = p) && decide (q % 2 = 1))
    | 2 => false
    | _ => decide (q % 2 = 0) && decide (r ≠ 0)
  q + if up then 1 else 0

/-- A number clipped to the unsigned or signed numbers of a width, and whether it was. -/
def vClipU (e : Nat) (x : Int) : Nat × Bool :=
  if x < 0 then (0, true) else if ((2 ^ e : Nat) : Int) ≤ x then (2 ^ e - 1, true) else (x.toNat, false)
def vClipS (e : Nat) (x : Int) : Nat × Bool :=
  let h : Int := (2 ^ (e - 1) : Nat)
  if x < -h then (ofSigned e (-h), true) else if h ≤ x then (ofSigned e (h - 1), true) else (ofSigned e x, false)

/-- OPIVV, OPIVX and OPIVI on elements: `a` of vs2, `b` of vs1, the register or the immediate; none for another operation. -/
def viArith (f e vxrm a b : Nat) : Option (Nat × Bool) :=
  let sa := toSigned e a
  let sb := toSigned e b
  let u := fun (x : Nat) => some (x, false)
  match f with
  | 0x00 => u (a + b)
  | 0x02 => u (a + 2 ^ e - b)
  | 0x03 => u (b + 2 ^ e - a)
  | 0x04 => u (min a b)
  | 0x05 => u (if sa < sb then a else b)
  | 0x06 => u (max a b)
  | 0x07 => u (if sa < sb then b else a)
  | 0x09 => u (Nat.land a b)
  | 0x0A => u (Nat.lor a b)
  | 0x0B => u (Nat.xor a b)
  | 0x20 => some (vClipU e ((a : Int) + b))
  | 0x21 => some (vClipS e (sa + sb))
  | 0x22 => some (vClipU e ((a : Int) - b))
  | 0x23 => some (vClipS e (sa - sb))
  | 0x25 => u (a * 2 ^ (b % e))
  | 0x27 => some (vClipS e (vRound vxrm (sa * sb) (e - 1)))
  | 0x28 => u (a / 2 ^ (b % e))
  | 0x29 => u (ofSigned e (sa / ((2 ^ (b % e) : Nat) : Int)))
  | 0x2A => u (vRound vxrm a (b % e)).toNat
  | 0x2B => u (ofSigned e (vRound vxrm sa (b % e)))
  | _ => none

/-- A comparison. -/
def viCmp (f e a b : Nat) : Bool :=
  let sa := toSigned e a
  let sb := toSigned e b
  match f with
  | 0x18 => a == b
  | 0x19 => a != b
  | 0x1A => decide (a < b)
  | 0x1B => decide (sa < sb)
  | 0x1C => decide (a ≤ b)
  | 0x1D => decide (sa ≤ sb)
  | 0x1E => decide (b < a)
  | _ => decide (sb < sa)

/-- A narrowing shift or clip of an element of twice the width. -/
def viNarrow (f e vxrm a b : Nat) : Nat × Bool :=
  let s := b % (2 * e)
  let sa := toSigned (2 * e) a
  match f with
  | 0x2C => (a / 2 ^ s, false)
  | 0x2D => (ofSigned e (sa / ((2 ^ s : Nat) : Int)), false)
  | 0x2E => vClipU e (vRound vxrm a s)
  | _ => vClipS e (vRound vxrm sa s)

/-- The forms that an operation of OPI has: vector, register or immediate. -/
def opiForm (f f3 : Nat) : Bool :=
  let noI := [0x02, 0x04, 0x05, 0x06, 0x07, 0x12, 0x13, 0x1A, 0x1B, 0x22, 0x23].contains f
  let noV := [0x03, 0x0F, 0x1E, 0x1F].contains f
  match f3 with
  | 0 => !noV
  | 3 => !noI && f != 0x30 && f != 0x31
  | _ => f != 0x30 && f != 0x31

/-- The immediate is unsigned in a shift, a clip, a slide and a gather. -/
def opiUimm (f : Nat) : Bool := f == 0x0C || f == 0x0E || f == 0x0F || f == 0x25 || (decide (0x28 ≤ f) && decide (f ≤ 0x2F))

/-- The sources beside vs2, and the second operand at an element: of vs1, of x[rs1], or the immediate. -/
def VCtx.srcs1 (v : VCtx) : List VReg := if v.f3 = 0 ∨ v.f3 = 1 ∨ v.f3 = 2 then [v.reg1] else []
def VCtx.op1 (v : VCtx) (i : Nat) : Nat :=
  match v.f3 with
  | 0 => v.el v.reg1 i
  | 2 => v.el v.reg1 i
  | 3 => (if opiUimm v.f6 then v.r1 else ofSigned 64 (toSigned 5 v.r1)) % 2 ^ v.sew
  | _ => (v.k.getX v.r1).toNat % 2 ^ v.sew

/-- An index or offset that is not an element: the whole register or the immediate. -/
def VCtx.off1 (v : VCtx) : Nat := if v.f3 = 3 then v.r1 else (v.k.getX v.r1).toNat

/-- An element of vs2 by index, 0 from VLMAX on. -/
def VCtx.gather (v : VCtx) (j : Nat) : Nat := if j < v.m8 * 64 / v.sew then v.el v.reg2 j else 0

/-- OPIVV, OPIVX and OPIVI. -/
def vOpi (v : VCtx) : Option VOut :=
  let e := v.sew
  let d := v.dReg
  let s2 := v.reg2
  let vxrm := (v.k.getCsr 0xA).toNat
  let ok := vecRegsOk v.vm d false [] (s2 :: v.srcs1)
  let okM := vecRegsOk v.vm (maskReg v.rd) false [] (s2 :: v.srcs1)
  let cin := fun (i : Nat) => b2n (!v.vm && bitOf v.v0 i)
  if !opiForm v.f6 v.f3 then none
  else match v.f6 with
    | 0x0C => vWhen (vecRegsOk v.vm d false (s2 :: v.srcs1) (s2 :: v.srcs1))
        (v.put true d (fun i => v.gather (if v.f3 = 0 then v.op1 i else v.off1)))
    | 0x0E =>
      if v.f3 = 0 then
        let s1 : VReg := ⟨v.r1, 16, 16 * v.m8 / e⟩
        vWhen (vecRegsOk v.vm d false [s2, s1] [s2, s1]) (v.put true d (fun i => v.gather (v.el s1 i)))
      else vWhen (vecRegsOk v.vm d false [s2] [s2]) (v.put true d (fun i => if i < v.off1 then v.el d i else v.el s2 (i - v.off1)))
    | 0x0F => vWhen ok (v.put true d (fun i => v.gather (i + v.off1)))
    | 0x10 => vWhen (ok && !v.vm) (v.put false d (fun i => v.el s2 i + v.op1 i + cin i))
    | 0x12 => vWhen (ok && !v.vm) (v.put false d (fun i => v.el s2 i + 2 ^ (e + 1) - v.op1 i - cin i))
    | 0x11 => vWhen okM (v.putMask false (fun i => decide (2 ^ e ≤ v.el s2 i + v.op1 i + cin i)))
    | 0x13 => vWhen okM (v.putMask false (fun i => decide (v.el s2 i < v.op1 i + cin i)))
    | 0x17 =>
      if v.vm then vWhen (vecRegsOk true d false [] v.srcs1 && v.r2 == 0) (v.put false d v.op1)
      else vWhen ok (v.put false d (fun i => if v.act i then v.op1 i else v.el s2 i))
    | 0x30 => vWhen (vecRegsOk v.vm ⟨v.rd, 2 * e, 8⟩ true [] [s2, ⟨v.r1, 2 * e, 8⟩] && v.vs == 0)
        (v.putScalar (2 * e) (v.acts.foldl (fun a i => a + v.el s2 i) (v.el ⟨v.r1, 2 * e, 8⟩ 0)))
    | 0x31 => vWhen (vecRegsOk v.vm ⟨v.rd, 2 * e, 8⟩ true [] [s2, ⟨v.r1, 2 * e, 8⟩] && v.vs == 0)
        (v.putScalar (2 * e) (v.acts.foldl (fun a i => a + ofSigned (2 * e) (toSigned e (v.el s2 i))) (v.el ⟨v.r1, 2 * e, 8⟩ 0)))
    | f =>
      if 0x18 ≤ f ∧ f ≤ 0x1F then vWhen okM (v.putMask true (fun i => viCmp f e (v.el s2 i) (v.op1 i)))
      else if f = 0x27 ∧ v.f3 = 3 then
        let n := v.r1 + 1
        let g : VReg := ⟨v.rd, e, 8 * n⟩
        if (n = 1 ∨ n = 2 ∨ n = 4 ∨ n = 8) ∧ v.vm ∧ v.rd % n = 0 ∧ v.r2 % n = 0 then
          vWhen true ({ v with vl := n * 512 / e }.put false g (v.el ⟨v.r2, e, 8 * n⟩))
        else none
      else if 0x2C ≤ f ∧ f ≤ 0x2F then
        v.eachSat (vecRegsOk v.vm d false [] (s2.wide :: v.srcs1)) d (fun i => viNarrow f e vxrm (v.el s2.wide i) (v.op1 i))
      else if (viArith f e vxrm 0 0).isNone then none
      else v.eachSat ok d (fun i => (viArith f e vxrm (v.el s2 i) (v.op1 i)).getD (0, false))

/-- OPMVV and OPMVX on elements of one width: `a` of vs2, `b` of vs1 or the register, `c` of vd; none for another operation. -/
def vmArith (f e vxrm a b c : Nat) : Option Nat :=
  let sa := toSigned e a
  let sb := toSigned e b
  let z := 2 ^ (2 * e)
  match f with
  | 0x08 => some (vRound vxrm (a + b) 1).toNat
  | 0x09 => some (ofSigned e (vRound vxrm (sa + sb) 1))
  | 0x0A => some (ofSigned e (vRound vxrm ((a : Int) - b) 1))
  | 0x0B => some (ofSigned e (vRound vxrm (sa - sb) 1))
  | 0x20 => some (if b = 0 then 2 ^ e - 1 else a / b)
  | 0x21 => some (if b = 0 then 2 ^ e - 1 else ofSigned e (Int.tdiv sa sb))
  | 0x22 => some (if b = 0 then a else a % b)
  | 0x23 => some (if b = 0 then a else ofSigned e (Int.tmod sa sb))
  | 0x24 => some (a * b / 2 ^ e)
  | 0x25 => some (a * b)
  | 0x26 => some (ofSigned e (sa * b / ((2 ^ e : Nat) : Int)))
  | 0x27 => some (ofSigned e (sa * sb / ((2 ^ e : Nat) : Int)))
  | 0x29 => some (b * c + a)
  | 0x2B => some (z + a - b * c)
  | 0x2D => some (a * b + c)
  | 0x2F => some (z + c - a * b)
  | _ => none

/-- Widening operations on values: whether vs2 and vs1 are signed, whether vs2 is wide already, and the result of the values and of vd;
none for another operation. -/
def vmWide (f : Nat) (a b c : Int) : Option Int :=
  match f with
  | 0x30 => some (a + b)
  | 0x31 => some (a + b)
  | 0x32 => some (a - b)
  | 0x33 => some (a - b)
  | 0x34 => some (a + b)
  | 0x35 => some (a + b)
  | 0x36 => some (a - b)
  | 0x37 => some (a - b)
  | 0x38 => some (a * b)
  | 0x3A => some (a * b)
  | 0x3B => some (a * b)
  | 0x3C => some (a * b + c)
  | 0x3D => some (a * b + c)
  | 0x3E => some (a * b + c)
  | 0x3F => some (a * b + c)
  | _ => none

/-- The widening operations with a signed vs2, and with a signed second operand. -/
def vmSigned2 (f : Nat) : Bool := [0x31, 0x33, 0x35, 0x37, 0x3A, 0x3B, 0x3D, 0x3E].contains f
def vmSigned1 (f : Nat) : Bool := [0x31, 0x33, 0x35, 0x37, 0x3B, 0x3D, 0x3F].contains f

/-- A number of a width as a value. -/
def viVal (signed : Bool) (e x : Nat) : Int := if signed then toSigned e x else x

/-- A reduction of two elements. -/
def viRed (f e a b : Nat) : Nat :=
  match f with
  | 0 => (a + b) % 2 ^ e
  | 1 => Nat.land a b
  | 2 => Nat.lor a b
  | 3 => Nat.xor a b
  | 4 => min a b
  | 5 => if toSigned e a < toSigned e b then a else b
  | 6 => max a b
  | _ => if toSigned e a < toSigned e b then b else a

/-- A mask operation on bits: `a` of vs2, `b` of vs1. -/
def vmLogic (f : Nat) (a b : Bool) : Bool :=
  match f with
  | 0x18 => a && !b
  | 0x19 => a && b
  | 0x1A => a || b
  | 0x1B => a != b
  | 0x1C => a || !b
  | 0x1D => !(a && b)
  | 0x1E => !(a || b)
  | _ => a == b

/-- The unary operations of OPMVV: moves to x, mask counts, extensions, and masks from masks. -/
def vmUnary (v : VCtx) : Option VOut :=
  let e := v.sew
  let ones := (v.acts.filter (fun i => v.bit v.r2 i))
  let first := ones.head?
  match v.f6 with
  | 0x10 =>
    if v.r1 = 0 ∧ v.vm then vWhen true (v.k.setX v.rd (BitVec.ofInt 64 (toSigned e (v.el ⟨v.r2, e, 8⟩ 0))))
    else if v.r1 = 0x10 then vWhen (v.vs == 0) (v.k.setX v.rd (BitVec.ofNat 64 ones.length))
    else if v.r1 = 0x11 then vWhen (v.vs == 0) (v.k.setX v.rd (match first with
      | some i => BitVec.ofNat 64 i
      | none => BitVec.allOnes 64))
    else none
  | 0x12 =>
    if v.r1 < 2 ∨ 7 < v.r1 then none
    else
      let z := 2 ^ (4 - v.r1 / 2)
      let s : VReg := ⟨v.r2, e / z, v.m8 / z⟩
      vWhen (vecRegsOk v.vm v.dReg false [] [s]) (v.put true v.dReg (fun i => ofSigned e (viVal (v.r1 % 2 == 1) (e / z) (v.el s i))))
  | _ =>
    let ok := vecRegsOk v.vm v.dReg false [maskReg v.r2] [maskReg v.r2] && v.vs == 0
    let okM := v.vs == 0 && v.rd != v.r2 && (v.vm || v.rd != 0)
    let before := fun (i : Nat) => first.all (fun j => decide (i < j))
    match v.r1 with
    | 1 => vWhen okM (v.putMask true before)
    | 2 => vWhen okM (v.putMask true (fun i => first == some i))
    | 3 => vWhen okM (v.putMask true (fun i => before i || first == some i))
    | 0x10 => vWhen ok (v.put true v.dReg (fun i => (ones.filter (fun j => decide (j < i))).length))
    | 0x11 => vWhen (vecRegsOk v.vm v.dReg false [] [] && v.r2 == 0) (v.put true v.dReg (fun i => i))
    | _ => none

/-- OPMVV and OPMVX. -/
def vOpm (v : VCtx) : Option VOut :=
  let e := v.sew
  let d := v.dReg
  let s2 := v.reg2
  let vv := v.f3 = 2
  let f := v.f6
  let vxrm := (v.k.getCsr 0xA).toNat
  let ok := vecRegsOk v.vm d false [] (s2 :: v.srcs1)
  if f ≤ 7 then
    (if vv then vWhen (vecRegsOk v.vm ⟨v.rd, e, 8⟩ true [] [s2, ⟨v.r1, e, 8⟩] && v.vs == 0)
      (v.putScalar e (v.acts.foldl (fun a i => viRed f e a (v.el s2 i)) (v.el ⟨v.r1, e, 8⟩ 0)))
    else none)
  else if f = 0x0E ∧ !vv then
    vWhen (vecRegsOk v.vm d false [s2] [s2]) (v.put true d (fun i => if i = 0 then v.op1 0 else v.el s2 (i - 1)))
  else if f = 0x0F ∧ !vv then
    vWhen ok (v.put true d (fun i => if i + 1 = v.vl then v.op1 0 else v.el s2 (i + 1)))
  else if f = 0x10 ∧ !vv then vWhen (v.vm && v.r2 == 0) (v.putScalar e (v.op1 0))
  else if f = 0x10 ∨ f = 0x12 ∨ f = 0x14 then (if vv then vmUnary v else none)
  else if f = 0x17 then
    (if vv ∧ v.vm then
      let xs := ((List.range v.vl).filter (fun i => v.bit v.r1 i)).map (v.el s2)
      vWhen (vecRegsOk true d false [s2, maskReg v.r1] [s2, maskReg v.r1] && v.vs == 0)
        (if v.vl = 0 then v.k else v.body false d xs.length (fun i => xs.getD i 0))
    else none)
  else if 0x18 ≤ f ∧ f ≤ 0x1F then
    (if vv then vWhen v.vm (v.putMask false (fun i => vmLogic f (v.bit v.r2 i) (v.bit v.r1 i))) else none)
  else if (vmWide f 0 0 0).isSome then
    let wide2 := decide (0x34 ≤ f) && decide (f ≤ 0x37)
    let g := if wide2 then s2.wide else s2
    if f = 0x3E ∧ vv then none
    else vWhen (vecRegsOk v.vm d.wide false [] (g :: v.srcs1)) (v.put true d.wide (fun i =>
      ofSigned (2 * e) ((vmWide f (viVal (vmSigned2 f) g.e (v.el g i)) (viVal (vmSigned1 f) e (v.op1 i)) (v.el d.wide i)).getD 0)))
  else if (vmArith f e vxrm 0 0 0).isNone then none
  else vWhen ok (v.put true d (fun i => (vmArith f e vxrm (v.el s2 i) (v.op1 i) (v.el d i)).getD 0))

/-! ### Float elements -/

/-- The float format of a width. -/
def vFmt (e : Nat) : FFmt := rvFmt (e == 64)

/-- A number of a format. -/
abbrev VF := FFmt × Nat

/-- The value of one. -/
def vfVal (x : VF) : Val := decodeFloat x.1 x.2

/-- NV for a signalling NaN among numbers. -/
def vfNv (xs : List VF) : Nat := if xs.any (fun x => rvSnan x.1 x.2) then rvNV else 0

/-- A result of two numbers, rounded to a format. -/
def vfRes (r : FFmt) (rm : Nat) (xs : List VF) (v : Val) : Nat × Nat :=
  let y := rvFloat r rm v
  (y.1, y.2 ||| vfNv xs ||| nvNew (xs.map vfVal) v)

/-- Sum, difference, product, quotient (with DZ). -/
def vfAdd (r : FFmt) (rm : Nat) (a b : VF) : Nat × Nat := vfRes r rm [a, b] (rvSum rm (vfVal a) (vfVal b))
def vfSub (r : FFmt) (rm : Nat) (a b : VF) : Nat × Nat := vfRes r rm [a, b] (rvSum rm (vfVal a) (vfVal b).neg)
def vfMul (r : FFmt) (rm : Nat) (a b : VF) : Nat × Nat := vfRes r rm [a, b] ((vfVal a).mul (vfVal b))
def vfDiv (r : FFmt) (rm : Nat) (a b : VF) : Nat × Nat :=
  let y := vfRes r rm [a, b] (rvQuot (vfVal a) (vfVal b))
  (y.1, y.2 ||| if (vfVal b).isZero && !(vfVal a).isZero && !(vfVal a).special then rvDZ else 0)

/-- ±(a × b) ± c. -/
def vfFma (r : FFmt) (rm : Nat) (negP negC : Bool) (a b c : VF) : Nat × Nat :=
  let x := (vfVal a).mul (vfVal b)
  let p := if negP then x.neg else x
  let z := if negC then (vfVal c).neg else vfVal c
  let v := rvSum rm p z
  let y := rvFloat r rm v
  (y.1, y.2 ||| vfNv [a, b, c] ||| nvNew [vfVal a, vfVal b] x ||| nvNew [p, z] v)

/-- A sign put on a number: of another, inverted, or the XOR of both. -/
def vfSgn (f : FFmt) (k a b : Nat) : Nat :=
  let top := f.eb + f.mb
  let s := match k with
    | 0x08 => bitOf b top
    | 0x09 => !bitOf b top
    | _ => bitOf a top != bitOf b top
  a % 2 ^ top + b2n s * 2 ^ top

/-- The significand and exponent of a number that is not zero, a subnormal one shifted up to its leading one. -/
def vfNorm (f : FFmt) (x : Nat) : Nat × Int :=
  let s := x % 2 ^ f.mb
  let e := bitsOf x f.mb f.eb
  if e = 0 then
    let z := f.mb - 1 - Nat.log2 s
    (s * 2 ^ (z + 1) % 2 ^ f.mb, -(z : Int))
  else (s, (e : Int))

/-- VFREC7: an estimate of the reciprocal to 7 bits. -/
def vfRec7 (f : FFmt) (rm x : Nat) : Nat × Nat :=
  let n := bitOf x (f.eb + f.mb)
  match decodeFloat f x with
  | .nan => (canonNan f, if rvSnan f x then rvNV else 0)
  | .inf _ => (signBit f n, 0)
  | .fin _ m _ =>
    if m = 0 then (infBits f n, rvDZ)
    else
      let p := vfNorm f x
      if p.2 < -1 then
        (if rm = 1 ∨ (rm = 2 ∧ !n) ∨ (rm = 3 ∧ n) then signBit f n + maxFinite f else infBits f n, rvOF + rvNX)
      else
        let i := p.1 / 2 ^ (f.mb - 7)
        let sig := ((131329 + 2 * i) / (514 + 4 * i) - 128) * 2 ^ (f.mb - 7)
        let oe : Int := 2 * (f.bias : Int) - 1 - p.2
        let half := sig / 2 + 2 ^ (f.mb - 1)
        (signBit f n + (if 0 < oe then oe.toNat * 2 ^ f.mb + sig else if oe = 0 then half else half / 2), 0)

/-- VFRSQRT7: an estimate of the reciprocal square root to 7 bits. -/
def vfRsqrt7 (f : FFmt) (x : Nat) : Nat × Nat :=
  let n := bitOf x (f.eb + f.mb)
  match decodeFloat f x with
  | .nan => (canonNan f, if rvSnan f x then rvNV else 0)
  | .inf _ => if n then (canonNan f, rvNV) else (0, 0)
  | .fin _ m _ =>
    if m = 0 then (infBits f n, rvDZ)
    else if n then (canonNan f, rvNV)
    else
      let p := vfNorm f x
      let odd := p.2 % 2 = 1
      let t := p.1 / 2 ^ (f.mb - 6)
      let y := 2 ^ 25 / ((if odd then 1 else 2) * (129 + 2 * t))
      let sig := ((isqrtN 10 y + 1) / 2 - 128) * 2 ^ (f.mb - 7)
      (((3 * (f.bias : Int) - 1 - p.2) / 2).toNat * 2 ^ f.mb + sig, 0)

/-- A comparison, and its flags. -/
def vfCmp (k : Nat) (f : FFmt) (x y : Nat) : Bool × Nat :=
  let a := decodeFloat f x
  let b := decodeFloat f y
  let nan := a == .nan || b == .nan
  let eq := !nan && ((a.isZero && b.isZero) || (!a.lt b && !b.lt a))
  let quiet := nvOf f [x, y]
  let loud := if nan then rvNV else 0
  match k with
  | 0x18 => (eq, quiet)
  | 0x1C => (!eq, quiet)
  | 0x19 => (a.lt b || eq, loud)
  | 0x1B => (a.lt b, loud)
  | 0x1D => (b.lt a, loud)
  | _ => (b.lt a || eq, loud)

/-- The second operand of a float instruction at an element: of vs1, or f[rs1] as a number of SEW. -/
def VCtx.fop1 (v : VCtx) (i : Nat) : Nat := if v.f3 = 1 then v.el v.reg1 i else rvOperand (v.sew == 64) (v.k.getF v.r1)

/-- Conversions by vs1: what is read and written (their widths), whether each is a float, signedness, and the rounding mode. -/
def vfCvt (v : VCtx) (rm : Nat) : Option VOut :=
  let e := v.sew
  let c := v.r1 % 8
  let mode := if c = 6 ∨ c = 7 then 1 else if c = 5 then 5 else rm
  let way := v.r1 / 8
  let se := if way = 2 then 2 * e else e
  let de := if way = 1 then 2 * e else e
  let s := if way = 2 then v.reg2.wide else v.reg2
  let d := if way = 1 then v.dReg.wide else v.dReg
  let fl := fun (z : Nat) => z == 32 || z == 64
  let ok := vecRegsOk v.vm d false [] [s]
  if 2 < way then none
  else match c with
    | 4 => v.each (ok && way != 0 && fl se && fl de) d (fun i => vfRes (vFmt de) mode [(vFmt se, v.el s i)] (vfVal (vFmt se, v.el s i)))
    | 5 => v.each (ok && way == 2 && fl se && fl de) d (fun i => vfRes (vFmt de) mode [(vFmt se, v.el s i)] (vfVal (vFmt se, v.el s i)))
    | 2 => v.each (ok && fl de) d (fun i => rvFloat (vFmt de) mode (Val.ofInt (viVal false se (v.el s i))))
    | 3 => v.each (ok && fl de) d (fun i => rvFloat (vFmt de) mode (Val.ofInt (viVal true se (v.el s i))))
    | _ => v.each (ok && fl se) d (fun i =>
        let r := rvToInt de (c % 2 == 1) mode (vfVal (vFmt se, v.el s i))
        (r.1.toNat % 2 ^ de, r.2))

/-- The float reductions: of elements of `v.sew` bits into a scalar of `z` bits. -/
def vfReduce (v : VCtx) (rm z : Nat) : Option VOut :=
  let f := v.f6
  let s1 : VReg := ⟨v.r1, z, 8⟩
  let init := v.el s1 0
  let x := fun (i : Nat) => v.el v.reg2 i
  let ordered := v.acts.foldl (fun (a : Nat × Nat) i =>
    let r := match f with
      | 0x05 => rvMinMax (vFmt z) false a.1 (x i)
      | 0x07 => rvMinMax (vFmt z) true a.1 (x i)
      | _ => vfAdd (vFmt z) rm (vFmt z, a.1) (vFmt v.sew, x i)
    (r.1, a.2 ||| r.2)) (init, 0)
  let open_ := (f == 0x01 || f == 0x31) && decide (2 ≤ v.acts.length)
  let r := if open_ then ((Config.freeWord v.fr).toNat, (Config.freeWord (v.fr + 1)).toNat &&& (rvNV + rvOF + rvNX)) else ordered
  if vecRegsOk v.vm ⟨v.rd, z, 8⟩ true [] [v.reg2, s1] && v.vs == 0 then some ⟨v.putScalar z r.1, if v.vl = 0 then 0 else r.2, false⟩ else none

/-- The fused multiply-adds: whether the product and the addend are negated, by the low bits of FUNCT6. -/
def vfNegP (f : Nat) : Bool := f % 4 == 1 || f % 4 == 3
def vfNegC (f : Nat) : Bool := f % 4 == 1 || f % 4 == 2

/-- OPFVV and OPFVF on elements of one width: `a` of vs2, `b` of vs1 or f[rs1], `c` of vd; none for another operation. -/
def vfArith (k e rm a b c : Nat) : Option (Nat × Nat) :=
  let f := vFmt e
  let x : VF := (f, a)
  let y : VF := (f, b)
  let z : VF := (f, c)
  match k with
  | 0x00 => some (vfAdd f rm x y)
  | 0x02 => some (vfSub f rm x y)
  | 0x27 => some (vfSub f rm y x)
  | 0x04 => some (rvMinMax f false a b)
  | 0x06 => some (rvMinMax f true a b)
  | 0x08 => some (vfSgn f k a b, 0)
  | 0x09 => some (vfSgn f k a b, 0)
  | 0x0A => some (vfSgn f k a b, 0)
  | 0x20 => some (vfDiv f rm x y)
  | 0x21 => some (vfDiv f rm y x)
  | 0x24 => some (vfMul f rm x y)
  | 0x28 => some (vfFma f rm (vfNegP k) (vfNegC k) y z x)
  | 0x29 => some (vfFma f rm (vfNegP k) (vfNegC k) y z x)
  | 0x2A => some (vfFma f rm (vfNegP k) (vfNegC k) y z x)
  | 0x2B => some (vfFma f rm (vfNegP k) (vfNegC k) y z x)
  | 0x2C => some (vfFma f rm (vfNegP k) (vfNegC k) y x z)
  | 0x2D => some (vfFma f rm (vfNegP k) (vfNegC k) y x z)
  | 0x2E => some (vfFma f rm (vfNegP k) (vfNegC k) y x z)
  | 0x2F => some (vfFma f rm (vfNegP k) (vfNegC k) y x z)
  | _ => none

/-- The widening float operations: `a` of vs2, single or (for .W) double, `b` single, `c` of vd. -/
def vfWide (k rm : Nat) (a : VF) (b c : Nat) : Option (Nat × Nat) :=
  let y : VF := (fp32, b)
  match k with
  | 0x30 => some (vfAdd fp64 rm a y)
  | 0x32 => some (vfSub fp64 rm a y)
  | 0x34 => some (vfAdd fp64 rm a y)
  | 0x36 => some (vfSub fp64 rm a y)
  | 0x38 => some (vfMul fp64 rm a y)
  | 0x3C => some (vfFma fp64 rm false false y a (fp64, c))
  | 0x3D => some (vfFma fp64 rm true true y a (fp64, c))
  | 0x3E => some (vfFma fp64 rm false true y a (fp64, c))
  | 0x3F => some (vfFma fp64 rm true false y a (fp64, c))
  | _ => none

/-- OPFVV and OPFVF. -/
def vOpf (v : VCtx) : Option VOut :=
  let e := v.sew
  let d := v.dReg
  let s2 := v.reg2
  let vv := v.f3 = 1
  let k := v.f6
  let rm := (v.k.getCsr 2).toNat
  let f := vFmt e
  let ok := vecRegsOk v.vm d false [] (s2 :: v.srcs1)
  let okM := vecRegsOk v.vm (maskReg v.rd) false [] (s2 :: v.srcs1)
  let big := e = 32 ∨ e = 64
  if 5 ≤ rm then none
  else if k = 0x12 then (if vv then vfCvt v rm else none)
  else if ¬big then none
  else if (k = 0x01 ∨ k = 0x03 ∨ k = 0x05 ∨ k = 0x07) then (if vv then vfReduce v rm e else none)
  else if k = 0x31 ∨ k = 0x33 then (if vv ∧ e = 32 then vfReduce v rm 64 else none)
  else if k = 0x10 then
    (if vv then (if v.r1 = 0 ∧ v.vm then vWhen true (v.k.fpDirty.setF v.rd (rvBox (e == 64) (v.el ⟨v.r2, e, 8⟩ 0))) else none)
    else vWhen (v.vm && v.r2 == 0) (v.putScalar e (v.fop1 0)))
  else if k = 0x13 then
    (if !vv then none
    else match v.r1 with
      | 0x00 => v.each (vecRegsOk v.vm d false [] [s2]) d (fun i => vfRes f rm [(f, v.el s2 i)] (rvSqrt (vfVal (f, v.el s2 i))))
      | 0x04 => v.each (vecRegsOk v.vm d false [] [s2]) d (fun i => vfRsqrt7 f (v.el s2 i))
      | 0x05 => v.each (vecRegsOk v.vm d false [] [s2]) d (fun i => vfRec7 f rm (v.el s2 i))
      | 0x10 => v.each (vecRegsOk v.vm d false [] [s2]) d (fun i => (rvClass f (v.el s2 i), 0))
      | _ => none)
  else if k = 0x17 then
    (if vv then none
    else if v.vm then vWhen (d.ok && v.r2 == 0) (v.put false d v.fop1)
    else vWhen ok (v.put false d (fun i => if v.act i then v.fop1 i else v.el s2 i)))
  else if k = 0x0E then
    (if vv then none else vWhen (vecRegsOk v.vm d false [s2] [s2]) (v.put true d (fun i => if i = 0 then v.fop1 0 else v.el s2 (i - 1))))
  else if k = 0x0F then
    (if vv then none else vWhen ok (v.put true d (fun i => if i + 1 = v.vl then v.fop1 0 else v.el s2 (i + 1))))
  else if 0x18 ≤ k ∧ k ≤ 0x1F then
    (if k = 0x1A ∨ k = 0x1E ∨ (vv ∧ (k = 0x1D ∨ k = 0x1F)) ∨ !okM then none
    else some ⟨v.putMask true (fun i => (vfCmp k f (v.el s2 i) (v.fop1 i)).1),
      v.acts.foldl (fun a i => a ||| (vfCmp k f (v.el s2 i) (v.fop1 i)).2) 0, false⟩)
  else if (vfWide k 0 (fp32, 0) 0 0).isSome then
    let g := if k = 0x34 ∨ k = 0x36 then s2.wide else s2
    v.each (vecRegsOk v.vm d.wide false [] (g :: v.srcs1) && e == 32) d.wide
      (fun i => (vfWide k rm (vFmt g.e, v.el g i) (v.fop1 i) (v.el d.wide i)).getD (0, 0))
  else if (vfArith k e 0 0 0 0).isNone ∨ (vv ∧ (k = 0x21 ∨ k = 0x27)) then none
  else v.each ok d (fun i => (vfArith k e rm (v.el s2 i) (v.fop1 i) (v.el d i)).getD (0, 0))

/-- A vector instruction; none where it is illegal. -/
def vecExec (v : VCtx) : Option VOut :=
  match v.f3 with
  | 0 => vOpi v
  | 3 => vOpi v
  | 4 => vOpi v
  | 2 => vOpm v
  | 6 => vOpm v
  | _ => vOpf v

end Sys2Proof.Machine
end

