-- ==== Sys2Proof/Machine/CoreRun.lean ====
section
/-!
DEFINITION. Sys2Proof/Machine/CoreRun.lean: a core executes an instruction (R124 to R128, R710): the word is what its fetch delivers, which
the instruction cache need not have read anew (R124), so it comes with the command (assumption 27).
-/
namespace Sys2Proof.Machine

/-! ### Before the instruction -/

/-- R710: a fetch takes an instruction access fault: where PMP bars it, where the pc lies in no memory, or where the own tile's line is
poisoned, which the result says. -/
def fetchBad (s : State) (t c w : Nat) : Option Bool :=
  let k := coreOf s t c
  let pc := k.pc.toNat
  let n := rvLen w
  if !k.pmpOk k.user pc n 2 then some false
  else
    let own := fun (u : Nat) (p : Place) =>
      if u = t ∧ pc / 2 ^ 47 = chipId s then
        (if memStatus s p ≠ stOK then some false else if (memRead s p n []).psn then some true else none)
      else none
    match corePlace s t pc with
    | .cm u o => own u (.cm u o)
    | .vlt u o => own u (.vlt u o)
    | .host _ => none
    | _ => some false

/-- An instruction of the kinds `mine`: the core is running, or in WFI with an interrupt that ends it; no load or AMO is outstanding. A
pending interrupt or a fetch that fails takes its trap in place of the instruction. -/
def coreStep (t c w : Nat) (mine : Rv → Bool) (act : Rv → Act) : Act := fun s =>
  let i := rvDecode w
  let k := coreOf s t c
  if !mine i || !coreRuns s t c || (coreWfi s t c && irqPend s t c == 0)
      || k.outst.any (fun (o : CoreOut) => o.kind == .load || o.kind == .amo || o.kind == .regRd) then []
  else seqA [whenA (coreWfi s t c) (wfiClr t c), fun s =>
    match irqTake s t c with
    | some n => [.putCores (coreKey t c) ((coreOf s t c).trap true n k.pc 0)]
    | none =>
      match fetchBad s t c w with
      | some psn => seqA [trapCore t c 1 k.pc k.pc.toNat, whenA psn (poisonUse t c k.pc.toNat)] s
      | none => act i s] s

/-! ### Instructions without an access -/

/-- An illegal-instruction exception. -/
def illegal (t c w : Nat) : Act := fun s =>
  trapCore t c 2 (coreOf s t c).pc (if rvLen w = 4 then w else w % 2 ^ 16) s

/-- A core takes a new record and goes to a pc; its instruction retires. -/
def goTo (t c : Nat) (k : CoreSt) (pc : W64) : Act := fun _ => [.putCores (coreKey t c) { k.retire false with pc := pc }]

/-- A CSR instruction. -/
def csrIns (t c w f3 rd rs1 n : Nat) : Act := fun s =>
  let k := coreOf s t c
  let src := if 4 ≤ f3 then BitVec.ofNat 64 rs1 else k.getX rs1
  let writes := f3 % 4 = 1 ∨ rs1 ≠ 0
  if !k.csrOk n (decide writes) then illegal t c w s
  else
    let old := csrRead s t c n
    let new := match f3 % 4 with
      | 1 => src
      | 2 => old ||| src
      | _ => old &&& ~~~src
    let k1 := k.retire false
    let k2 := if writes then k1.csrWrite n new else k1
    let k3 := k2.setX rd old
    .putCores (coreKey t c) { k3 with pc := k.pc + BitVec.ofNat 64 (rvLen w) } ::
      (if n = 0xB00 ∨ n = 0xC00 then [.setFree (s.free + 1)] else [])

/-- MRET: the mode and the interrupt enable that mstatus saved come back. -/
def mretA (t c : Nat) : Act := fun s =>
  let k := coreOf s t c
  let ms := k.getCsr 0x300
  let mpp := fget ms mstatusMPP
  let ms1 := fset (fset ms mstatusMIE (fget ms mstatusMPIE)) mstatusMPIE 1
  let ms2 := fset ms1 mstatusMPP 0
  let ms3 := if mpp = 3 then ms2 else fset ms2 mstatusMPRV 0
  goTo t c { k.setCsr 0x300 ms3 with user := decide (mpp ≠ 3) } (k.getCsr 0x341) s

/-- WFI: the core waits, unless an interrupt is pending. -/
def wfiA (t c w : Nat) : Act := fun s =>
  let k := coreOf s t c
  if k.user ∧ fget (k.getCsr 0x300) mstatusTW = 1 then illegal t c w s
  else seqA [advance t c (rvLen w),
    whenA (irqPend s t c == 0) (fun s =>
      [.fld (tk t .TILE_CORE_STAT) f_TILE_CORE_STAT_WFI (tfld s t .TILE_CORE_STAT f_TILE_CORE_STAT_WFI ||| 2 ^ c)])] s

/-- A float instruction. -/
def fpIns (t c w : Nat) : Act := fun s =>
  let k := coreOf s t c
  let next := k.pc + BitVec.ofNat 64 (rvLen w)
  let fl := fun (k : CoreSt) (x : Nat) => if x = 0 then k else k.addFlags x
  if !k.fpOn then illegal t c w s
  else match fpExec w (k.getCsr 2).toNat (k.getF (bitsOf w 15 5)) (k.getF (bitsOf w 20 5)) (k.getF (bitsOf w 27 5))
      (k.getX (bitsOf w 15 5)) with
    | .x v x => goTo t c ((fl k x).setX (bitsOf w 7 5) v) next s
    | .f v x => goTo t c ((fl k x).fpDirty.setF (bitsOf w 7 5) v) next s
    | .bad => illegal t c w s

/-- A vector instruction without an access. -/
def vecIns (t c w : Nat) : Act := fun s =>
  let k := coreOf s t c
  let fp := bitsOf w 12 3 = 1 ∨ bitsOf w 12 3 = 5
  if !k.vecOn || decide (2 ^ 63 ≤ (k.getCsr 0xC21).toNat) || (decide fp && !k.fpOn) then illegal t c w s
  else match vecExec (vCtx k w s.free) with
    | none => illegal t c w s
    | some o =>
      let k1 := if o.fl = 0 then o.k else o.k.addFlags o.fl
      let k2 := if o.sat then k1.setCsr 9 1 else k1
      seqA [goTo t c (k2.vecDirty.setCsr 8 0) (k.pc + BitVec.ofNat 64 (rvLen w)), effA [.setFree (s.free + 4096)]] s

/-- R124: an instruction that has no row of its own. -/
def coreExec (t c w : Nat) (i : Rv) : Act := fun s =>
  let k := coreOf s t c
  let next := k.pc + BitVec.ofNat 64 (rvLen w)
  match i with
  | .alu op rd rs1 rs2 => goTo t c (k.setX rd (aluOp op (k.getX rs1) (k.getX rs2))) next s
  | .alui op rd rs1 imm => goTo t c (k.setX rd (aluOp op (k.getX rs1) imm)) next s
  | .lui rd imm => goTo t c (k.setX rd imm) next s
  | .auipc rd imm => goTo t c (k.setX rd (k.pc + imm)) next s
  | .jal rd off => goTo t c (k.setX rd next) (k.pc + off) s
  | .jalr rd rs1 off => goTo t c (k.setX rd next) ((k.getX rs1 + off) &&& ~~~(1 : W64)) s
  | .br f3 rs1 rs2 off => goTo t c k (if brTaken f3 (k.getX rs1) (k.getX rs2) then k.pc + off else next) s
  | .ecall => trapCore t c (if k.user then 8 else 11) k.pc 0 s
  | .ebreak => trapCore t c 3 k.pc k.pc.toNat s
  | .mret => if k.user then illegal t c w s else mretA t c s
  | .wfi => wfiA t c w s
  | .csr f3 rd rs1 n => csrIns t c w f3 rd rs1 n s
  | .fp x => fpIns t c x s
  | .vset x => if k.vecOn && !(bitOf x 31 && bitsOf x 25 7 != 0x40 && bitsOf x 30 2 != 3) then
      seqA [goTo t c (k.vset x s.free) next, effA [.setFree (s.free + 1)]] s
    else illegal t c w s
  | .vop x => vecIns t c x s
  | _ => illegal t c w s

/-- The instructions that have rows of their own. -/
def hasRow (i : Rv) : Bool :=
  match i with
  | .load _ _ _ _ _ => true
  | .store _ _ _ _ => true
  | .fload _ _ _ _ => true
  | .fstore _ _ _ _ => true
  | .amo _ _ _ _ _ => true
  | .lr _ _ _ => true
  | .sc _ _ _ _ => true
  | .fence _ _ => true
  | .fenceI => true
  | .vload _ => true
  | .vstore _ => true
  | _ => false

/-! ### Loads and stores -/

def isLoad (i : Rv) : Bool :=
  match i with
  | .load _ _ _ _ _ => true
  | .fload _ _ _ _ => true
  | .vload _ => true
  | _ => false

def isStore (i : Rv) : Bool :=
  match i with
  | .store _ _ _ _ => true
  | .fstore _ _ _ _ => true
  | .vstore _ => true
  | _ => false

/-- The effective address of a register and an offset. -/
def effAddr (k : CoreSt) (rs1 : Nat) (off : W64) : Nat := (k.getX rs1 + off).toNat

/-- A load. A float load makes the float unit's state dirty. -/
def loadExec (t c w : Nat) (fs : Finds) (i : Rv) : Act := fun s =>
  let k := coreOf s t c
  match i with
  | .load rd rs1 off size sg => scalarLoad t c (rvLen w) (effAddr k rs1 off) size (.x rd sg) fs s
  | .fload rd rs1 off size =>
    if k.fpOn then
      let es := scalarLoad t c (rvLen w) (effAddr k rs1 off) size (.f rd) fs s
      if es = [] then []
      else seqA [effA es, fun s =>
        let k' := coreOf s t c
        -- a load that took its trap left mstatus to the trap
        if k'.pc = k.pc + BitVec.ofNat 64 (rvLen w) then [.putCores (coreKey t c) k'.fpDirty] else []] s
    else illegal t c w s
  | .vload x => vecLoad t c (rvLen w) x fs s
  | _ => []

/-- A store. -/
def storeExec (t c w : Nat) (fs : Finds) (i : Rv) : Act := fun s =>
  let k := coreOf s t c
  match i with
  | .store rs1 rs2 off size => scalarStore t c (rvLen w) (effAddr k rs1 off) size (leBytes size (k.getX rs2).toNat) fs s
  | .fstore rs1 rs2 off size =>
    if k.fpOn then scalarStore t c (rvLen w) (effAddr k rs1 off) size (leBytes size (k.getF rs2).toNat) fs s
    else illegal t c w s
  | .vstore x => vecStore t c (rvLen w) x fs s
  | _ => []

/-! ### Fences and the timer -/

/-- R69: a FENCE whose predecessor set holds W or O waits for the acknowledgements of the core's remote and I/O writes. -/
def fenceA (t c w pred : Nat) : Act := fun s =>
  if (bitOf pred 0 ∨ bitOf pred 2) ∧
      (coreOf s t c).outst.any (fun (o : CoreOut) => o.kind == .store || o.kind == .regWr) then []
  else advance t c (rvLen w) s

/-- R126, R156: the time reaches TILE_MTIMECMP of a core: MTIP, where the core waits for it and has it enabled, ends its WFI and wakes a
dozing tile. -/
def mtimerA (t c : Nat) : Act := fun s =>
  if mtip s t c ∧ bitOf ((coreOf s t c).getCsr 0x304).toNat 7 ∧ coreWfi s t c ∧ !tileAsleep s t then
    seqA [wfiClr t c, dozeWakeA t] s
  else []

/-! ### The commands -/

/-- R124: a core executes an instruction that has no row of its own. -/
def execCoreInstruction (t : Tile) (c : CoreIx) (w : BitVec 32) (s : State) : Host.Outcome State Fault Refusal :=
  runA (coreStep t c w.toNat (fun i => !hasRow i) (coreExec t c w.toNat)) s

/-- R64: a core executes a load. -/
def execCoreLoad (t : Tile) (c : CoreIx) (w : BitVec 32) (ecc : List (Nat × Ecc)) (s : State) : Host.Outcome State Fault Refusal :=
  runA (coreStep t c w.toNat isLoad (loadExec t c w.toNat ecc)) s

/-- R64: a core executes a store. -/
def execCoreStore (t : Tile) (c : CoreIx) (w : BitVec 32) (ecc : List (Nat × Ecc)) (s : State) : Host.Outcome State Fault Refusal :=
  runA (coreStep t c w.toNat isStore (storeExec t c w.toNat ecc)) s

/-- R68: a core executes an AMO. -/
def execCoreAmo (t : Tile) (c : CoreIx) (w : BitVec 32) (ecc : List (Nat × Ecc)) (s : State) : Host.Outcome State Fault Refusal :=
  runA (coreStep t c w.toNat (fun i => match i with | .amo _ _ _ _ _ => true | _ => false) (fun i => fun s =>
    let k := coreOf s t c
    match i with
    | .amo f rd rs1 rs2 size => coreAmo t c (rvLen w.toNat) (k.getX rs1).toNat size f (k.getX rs2) rd ecc s
    | _ => [])) s

/-- R64: a core executes a load-reserved. -/
def execCoreLr (t : Tile) (c : CoreIx) (w : BitVec 32) (ecc : List (Nat × Ecc)) (s : State) : Host.Outcome State Fault Refusal :=
  runA (coreStep t c w.toNat (fun i => match i with | .lr _ _ _ => true | _ => false) (fun i => fun s =>
    match i with
    | .lr rd rs1 size => coreLr t c (rvLen w.toNat) ((coreOf s t c).getX rs1).toNat size rd ecc s
    | _ => [])) s

/-- R64: a core executes a store-conditional. -/
def execCoreSc (t : Tile) (c : CoreIx) (w : BitVec 32) (held : Bool) (ecc : List (Nat × Ecc)) (s : State) :
    Host.Outcome State Fault Refusal :=
  runA (coreStep t c w.toNat (fun i => match i with | .sc _ _ _ _ => true | _ => false) (fun i => fun s =>
    let k := coreOf s t c
    match i with
    | .sc rd rs1 rs2 size => coreSc t c (rvLen w.toNat) (k.getX rs1).toNat size rd (k.getX rs2) held ecc s
    | _ => [])) s

/-- R69: a core executes a FENCE. -/
def execCoreFence (t : Tile) (c : CoreIx) (w : BitVec 32) (s : State) : Host.Outcome State Fault Refusal :=
  runA (coreStep t c w.toNat (fun i => match i with | .fence _ _ => true | _ => false) (fun i => fun s =>
    match i with
    | .fence p _ => fenceA t c w.toNat p s
    | _ => [])) s

/-- R124: a core executes a FENCE.I, which orders its own fetch alone. -/
def execCoreFenceI (t : Tile) (c : CoreIx) (w : BitVec 32) (s : State) : Host.Outcome State Fault Refusal :=
  runA (coreStep t c w.toNat (fun i => match i with | .fenceI => true | _ => false) (fun _ => advance t c (rvLen w.toNat))) s

/-- R126: the time reaches TILE_MTIMECMP. -/
def execMtimerExpire (t : Tile) (c : CoreIx) (s : State) : Host.Outcome State Fault Refusal := runA (mtimerA t c) s

end Sys2Proof.Machine
end

