-- ==== Sys2Proof/Machine/Boot.lean ====
section
/-!
DEFINITION. Sys2Proof/Machine/Boot.lean: the start of the device after a cold or warm reset (R681 to R685, R698): the firmware, the verify
pass, the apply pass, and the load of a tile (R684, R687).
-/
namespace Sys2Proof.Machine

/-! ### The order of the slots (R681) -/

/-- R681: ACTIVE_SLOT, the other of A and B, GOLDEN. -/
def slotOrder (s : State) : List Nat :=
  let a := objNat s okACTIVE_SLOT
  [a, 3 - a, 0]

/-- BOOT_STAT.STAGE. -/
def stage (s : State) : Nat := dfld s .BOOT_STAT f_BOOT_STAT_STAGE

/-- BOOT_STAT.STAGE takes a value. -/
def stageSet (x : Nat) : Act := effA [.fld (dk .BOOT_STAT) f_BOOT_STAT_STAGE x]

/-- A slot has failed its check since the reset: its failure code is not 0. -/
def slotFailed (s : State) (k : Nat) : Bool := dfld s .BOOT_STAT (failField k) != 0

/-- BOOT_STAT bits 11:0. -/
def failCodes (s : State) : Nat := (regOf s (dk .BOOT_STAT)).toNat % 4096

/-! ### The firmware (R682) -/

/-- R655, R682: the first slot tried whose header and GLV_FW verify gives the firmware; `bad` names slots for which the flash controller
reports a read error. The plane is AWAKE once the firmware has written DICT_CAP. -/
def firmwareA (bad : Nat) : Act := fun s =>
  if stage s ≠ 1 ∨ ivrState s 74 ≠ 2 then []
  else match (slotOrder s).find? (fun k => firmwareOk s k && !bitOf bad k) with
    | none => []
    | some k => seqA [
        effA [.fld (dk .BOOT_STAT) f_BOOT_STAT_RUNNING k],
        objRestore, thermRestore,
        effA [.fld (dk .GLV_STAT) f_GLV_STAT_STATE 2, .setGlvWakeReq false, .setGlvWdog 0],
        stageSet 2, glvServe] s

/-! ### The verify pass (R681, R614, R691) -/

/-- R681, R691: no slot passes: RECOVERY, on an AWAKE plane. -/
def recoveryA : Act := seqA [
  stageSet 7, effA [.fld (dk .GLV_STAT) f_GLV_STAT_STATE 2, .setGlvWakeReq false],
  fun s => raiseErr 0x0604 2 0 0 (failCodes s) s]

/-- R614, R629: the SYS_ and WLP_ objects are loaded, and with SYS_CHIP the chip ID of every tile. -/
def objsLoad : Act := seqA [
  eachA ((List.range 5).map (fun i => objKey 0x4000 (i + 1)) ++ (List.range 16).flatMap (fun n => [okREJOIN n, okEXPECT n]))
    (fun k s => objLoad k (objStored s k) s),
  fun s => (List.range 512).map (fun t => .fld (tk t .TILE_ID) f_TILE_ID_CHIP_ID (chipId s))]

/-- R681: a slot has passed: it runs, and a slot other than ACTIVE_SLOT is a fallback. -/
def slotPasses (k : Nat) : Act := fun s =>
  let back := k != objNat s okACTIVE_SLOT
  seqA [
    slotJudged k 0, effA [.fld (dk .BOOT_STAT) f_BOOT_STAT_RUNNING k],
    whenA back (seqA [effA [setBit (dk .BOOT_STAT) f_BOOT_STAT_FALLBACK, .cnt (dk .BOOT_FALLBACK_CNT) f_BOOT_FALLBACK_CNT_COUNT 1],
      fun s => raiseErr 0x0603 2 k 0 (failCodes s) s]),
    objsLoad, stageSet 5] s

/-- R681: the slots of a list are checked up to the first that passes. -/
def verifySlots (bad : Nat) : List Nat → Act
  | [] => recoveryA
  | k :: l => fun s =>
    let code := verifySlot s k (bitOf bad k)
    if code = 0 ∧ slotStAt s k ≠ 5 then slotPasses k s
    else seqA [slotJudged k code, verifySlots bad l] s

/-- R681: the verify pass, once the boot scrub is done; a slot that has failed since the reset is not tried again (R698). With no firmware
to run, the boot ROM finds that no slot passes. -/
def verifyPassA (bad : Nat) : Act := fun s =>
  let rom := (slotOrder s).all (fun k => !firmwareOk s k || bitOf bad k)
  if (stage s = 4 ∧ glvAwake s) ∨ (stage s ≠ 0 ∧ stage s ≤ 4 ∧ rom) then
    verifySlots bad ((slotOrder s).filter (fun k => !slotFailed s k)) s
  else []

/-! ### The load of a tile (R684) -/

/-- R678: BOOT_OFF and START_MASK of a CLUSTER section. -/
def bootOff (bs : List Byte) : Nat := leAt bs 0 4
def startMask (bs : List Byte) : Nat := leAt bs 4 4

/-- A tile lies in the rectangle of a load record. -/
def recCovers (r : LoadRec) (t : Nat) : Bool :=
  decide (tileX r.near ≤ tileX t ∧ tileX t ≤ tileX r.far ∧ tileY r.near ≤ tileY t ∧ tileY t ≤ tileY r.far)

/-- A core's TILE_BOOT_PC takes an address. -/
def bootPc (t c a : Nat) : Act := effA [.reg (tk t .TILE_BOOT_PC c) (BitVec.ofNat 64 a)]

/-- A core is set running. -/
def coreRunA (t c : Nat) : Act := seqA [
  fun s => [.fld (tk t .TILE_CORE_RUN) f_TILE_CORE_RUN_RUN (tfld s t .TILE_CORE_RUN f_TILE_CORE_RUN_RUN ||| 2 ^ c)], coreStart t c]

/-- R541: the runtime's place in the vault. -/
def runtimeOff : Nat := 0xBF00000

/-- The runtime of the running slot, where it is to be loaded. -/
def runtimeOf (s : State) : Option (List Byte) :=
  if dfld s .BOOT_CFG f_BOOT_CFG_RT_EN = 1 then imgSection s (runningSlot s) 4 else none

/-- The cores that START_MASK starts; core 23 is left out where a runtime is loaded. -/
def startCores (s : State) (bs : List Byte) : List Nat :=
  (List.range 24).filter (fun c => bitOf (startMask bs) c && !(c == 23 && (runtimeOf s).isSome))

/-- Step 2 of R684, for one tile: the load records, and the boot addresses of the cores to start. -/
def loadCluster (t : Nat) (bs : List Byte) : Act := fun s => seqA [
  eachA (((clusterRecs bs).getD []).filter (recCovers · t)) (fun r => memStore (.cm t r.off) r.data (fun _ => false) [] none),
  eachA (startCores s bs) (fun c => bootPc t c (0x010000000000 + t * cmSize + bootOff bs))] s

/-- Step 3 of R684, for one tile: the runtime, its reservation, and core 23. -/
def loadRuntime (t : Nat) (bs : List Byte) : Act := fun s => seqA [
  memStore (.vlt t runtimeOff) bs (fun _ => false) [] none, commRsvA t,
  bootPc t 23 (vaultLocal s t runtimeOff), coreRunA t 23] s

/-- Steps 2 and 3 of R684 for one tile, from the running slot. -/
def tileLoad (t : Nat) : Act := fun s => seqA [
  (match imgSection s (runningSlot s) 3 with
   | some bs => loadCluster t bs
   | none => noA),
  (match runtimeOf s with
   | some bs => loadRuntime t bs
   | none => noA)] s

/-- Step 4 of R684 for one tile: the cores of START_MASK start. -/
def tileStart (t : Nat) : Act := fun s =>
  match imgSection s (runningSlot s) 3 with
  | some bs => eachA (startCores s bs) (coreRunA t) s
  | none => []

/-! ### The apply pass (R684, R685) -/

/-- The register that a FABRIC record names, with its offset and window. -/
def recordKey (s : State) (a : Nat) : Option (Option Nat × Nat × RKey) :=
  match mapLocal s none a with
  | .treg t o => (tileKey s t o).map (fun k => (some t, o, k))
  | .dreg o => (devKey s o).map (fun k => (none, o, k))
  | _ => none

/-- R684: a FABRIC record is written to both banks of an epoch table; a register that has no banks takes it as any write. -/
def fabricRec (r : Nat × Nat) : Act := fun s =>
  let v := BitVec.ofNat 64 r.2
  match recordKey s r.1 with
  | none => []
  | some (t, o, k) =>
    if isShadow k then
      let w := accWrite (regFields k) (regOf s k) v allBits
      .reg k w :: (match tablePair k.code with
        | some (_, b) => [.reg b w]
        | none => [])
    else match t, k with
      | some t, .tile _ r i => tileWrA .glovos t o k r i.val v allBits s
      | none, .dev r i => devWrA .glovos o k r i.val v allBits s
      | _, _ => []

/-- R698: the slot fails on re-reading: CM is scrubbed again, and the next slot is verified. -/
def applyFails : Act := fun s => seqA [
  slotJudged (runningSlot s) 6, eachA (allTiles s) cmScrub, stageSet 4] s

/-- R684, R685, R691: the apply pass; `readErr` is a read error of the flash. -/
def applyPassA (readErr : Bool) : Act := fun s =>
  if stage s ≠ 5 ∨ !glvAwake s then []
  else if readErr then applyFails s
  else
    let up := (allTiles s).filter (fun t => !tileDown s t)
    seqA [
      eachA (match imgSection s (runningSlot s) 2 with
        | some bs => fabricRecs bs
        | none => []) fabricRec,
      eachA up tileLoad, eachA up tileStart,
      effA [.setBootSkip ((allTiles s).filter (tileDown s)), setBit (dk .BOOT_STAT) f_BOOT_STAT_READY],
      stageSet 6, topoCheck, portsEnable,
      fun s => if dfld s .BOOT_STAT f_BOOT_STAT_FALLBACK = 1 then reqSend s else []] s

/-- R82, R652, R684: the scrubs of a tile complete. A tile that was down when the apply pass reached it is loaded then. -/
def scrubCompleteA (t : Nat) : Act := seqA [scrubDoneA t, fun s =>
  if stage s = 6 ∧ s.bootSkip.contains t ∧ !tileDown s t ∧ glvAwake s then
    seqA [tileLoad t, tileStart t, effA [.setBootSkip (s.bootSkip.filter (· != t))]] s
  else []]

/-! ### The commands -/

/-- R682: the firmware is verified and runs; bit k of `bad` says that the flash controller reports a read error of slot k. -/
def execBootFirmwareVerified (bad : BitVec 3) (s : State) : Host.Outcome State Fault Refusal :=
  runA (seqA [canFresh, firmwareA bad.toNat]) s

/-- R681: the verify pass; bit k of `bad` says that the flash controller reports a read error of slot k. -/
def execBootVerifyPass (bad : BitVec 3) (s : State) : Host.Outcome State Fault Refusal :=
  runA (verifyPassA bad.toNat) s

/-- R684: the apply pass; `readErr` says that the flash controller reports a read error. -/
def execBootApplyPass (readErr : Bool) (s : State) : Host.Outcome State Fault Refusal :=
  runA (seqA [canFresh, applyPassA readErr]) s

/-- R82: the scrub of a tile completes. -/
def execScrubComplete (t : Tile) (s : State) : Host.Outcome State Fault Refusal := runA (scrubCompleteA t) s

end Sys2Proof.Machine
end

