-- ==== Sys2Proof/Machine/CnArrive.lean ====
section
/-!
DEFINITION. Sys2Proof/Machine/CnArrive.lean: register accesses over the CN (R312, R318, R319, R337), and the waits that end without an
answer (R711, R712).
-/
namespace Sys2Proof.Machine

/-- R312: the place that a register request names. -/
def cnPlace (p : CnPkt) : Place := if p.dhub then .dreg (cnFld p 0 25) else .treg p.dtile.toNat (cnFld p 0 16)

/-- R312: the requester that REQ names; none for a REQ that is never injected. -/
def cnWho (p : CnPkt) : Option Requester :=
  let r := cnFld p 25 5
  if r < 24 then some (.core (Fin.ofNat 512 p.stile.toNat) (Fin.ofNat 24 r))
  else if r = 28 then some .host
  else if r = 29 then some .glovos
  else none

/-- R336: a node holds 32 responses that have not been sent. -/
def cnRspFull (s : State) (node : Nat) : Bool :=
  decide (32 ≤ ((cnqAt s node).filter (fun p => p.op == 8 || p.op == 9)).length)

/-- R318: a register read is performed at its target. -/
def cnRead (node : Nat) (p : CnPkt) : Act := fun s =>
  match cnWho p with
  | none => cnBadOp node p s
  | some who =>
    let r := regRead s (reqNo who 0) (cnPlace p) p.len.toNat
    seqA [effA r.eff, rrsp node p r.st r.bytes] s

/-- R318, R337: a register write is performed at its target; a poisoned one is not. -/
def cnWrite (node : Nat) (p : CnPkt) : Act := fun s =>
  match cnWho p with
  | none => cnBadOp node p s
  | some who =>
    let st := regStatus s (cnPlace p) p.len.toNat
    if st ≠ stOK then rrsp node p st [] s
    else if p.psn then rrsp node p stPoisoned [] s
    else seqA [regWrite who (reqNo who 0) (cnPlace p) p.len.toNat (leNat p.data), rrsp node p stOK []] s

/-- The window that an answer comes from (512 the device's). -/
def cnWin (p : CnPkt) : Nat := if p.shub then 512 else p.stile.toNat

/-- R318, R712: the answer of a core's register access: the oldest of its kind to that window that has none. -/
def cnCoreAnswer (t c : Nat) (wr : Bool) (p : CnPkt) : Act := fun s =>
  let k := coreOf s t c
  let st := cnFld p 0 8
  match k.outst.find? (fun o => (o.kind == .regRd || o.kind == .regWr || o.kind == .late) && o.key == cnWin p) with
  | none => []
  | some o =>
    if o.kind = .late then
      [.putCores (coreKey t c) { k with outst := k.outst.map (fun e => if e = o then { e with key := 1024 } else e) },
       .cnt (dk .ERR_LATE_RSP_CNT) f_ERR_LATE_RSP_CNT_COUNT 1]
    else
      let k' := { k with outst := k.outst.erase o }
      if wr then
        seqA [effA [.putCores (coreKey t c) k'],
          whenA (st != stOK) (seqA [storeFail t c o.addr, faultOut t c o 7])] s
      else if st = stOK ∧ p.psn = false then [.putCores (coreKey t c) (k'.loaded o.dst o.size p.data)]
      else seqA [effA [.putCores (coreKey t c) k'], faultOut t c o 5] s

/-- R318, R559: an answer reaches the node that asked: a core of its tile, or at the hub the host port. What the Glovos plane asked
for, it takes at once (assumption 23). -/
def cnReply (node : Nat) (p : CnPkt) : Act := fun s =>
  let r := cnFld p 25 5
  let wr := p.op == 9
  if r < 24 ∧ node < 512 then cnCoreAnswer node r wr p s
  else if r = 28 then hostCnDone (cnWin p) wr (if p.psn then stPoisoned else cnFld p 0 8) p.data s
  else []

/-! ### Timeouts (R711, R712) -/

/-- R711: a wait ends: counted, with its event. -/
def tmoEvent (t sub n : Nat) : Act := seqA [effA [.cnt (dk .ERR_RSP_TMO_CNT) f_ERR_RSP_TMO_CNT_COUNT 1], raiseErr 0x0211 2 sub t n]

/-- R711: the timer of a wait has reached RSP_TMO × 65,536 FCLK. -/
def rspTimeoutA (w : Waiting) : Act := fun s =>
  if dfld s .ERR_CFG f_ERR_CFG_RSP_TMO = 0 then []
  else match w with
    | .tag t g =>
      (match tagOf s t g.toNat with
       | .out _ _ => seqA [tmoEvent t 0 g.toNat, tagEnds t g.toNat, effA [.putTags (tagKey t g.toNat) .quar]] s
       | _ => [])
    | .core t c n =>
      (match (coreOf s t c).outst[n]? with
       | some o =>
         if o.kind = .regRd ∨ o.kind = .regWr then
           let k := coreOf s t c
           seqA [effA [.putCores (coreKey t c) { k with outst := k.outst.set n { o with kind := .late } }],
             tmoEvent t 1 c.val, faultOut t c o (if o.kind = .regRd then 5 else 7)] s
         else []
       | none => [])
    | .record t i =>
      if isSend s t i ∧ (chState s t i = chOpening ∨ chState s t i = chClosing) then
        seqA [tmoEvent t 2 i.val, enter t i chBroken] s
      else []

/-- R712: a tag or access leaves quarantine. -/
def quarEndA (w : Waiting) : Act := fun s =>
  match w with
  | .tag t g => if tagOf s t g.toNat = .quar then [.putTags (tagKey t g.toNat) .free] else []
  | .core t c n =>
    (match (coreOf s t c).outst[n]? with
     | some o =>
       let k := coreOf s t c
       if o.kind = .late then [.putCores (coreKey t c) { k with outst := k.outst.eraseIdx n }] else []
     | none => [])
  | .record _ _ => []

/-! ### The commands -/

/-- The updates of `execCnRrd`. -/
def cnRrdAct (p : CnPkt) : Act := fun s =>
  if cnRspFull s (cnDst p) then [] else cnTake (cnDst p) p 0 (cnRead (cnDst p) p) s

/-- R318: a register read arrives. -/
def execCnRrd (p : CnPkt) (s : State) : Host.Outcome State Fault Refusal :=
  runA (cnRrdAct p) s

/-- The updates of `execCnRwr`. -/
def cnRwrAct (p : CnPkt) : Act := fun s =>
  if cnRspFull s (cnDst p) then [] else cnTake (cnDst p) p 1 (cnWrite (cnDst p) p) s

/-- R318: a register write arrives. -/
def execCnRwr (p : CnPkt) (s : State) : Host.Outcome State Fault Refusal :=
  runA (cnRwrAct p) s

/-- R318: the response of a register read arrives. -/
def execCnRrsp (p : CnPkt) (s : State) : Host.Outcome State Fault Refusal :=
  runA (cnTake (cnDst p) p 8 (cnReply (cnDst p) p)) s

/-- R318: the acknowledgement of a register write arrives. -/
def execCnRwack (p : CnPkt) (s : State) : Host.Outcome State Fault Refusal :=
  runA (cnTake (cnDst p) p 9 (cnReply (cnDst p) p)) s

/-- R711: a wait ends without an answer. -/
def execRspTimeout (w : Waiting) (s : State) : Host.Outcome State Fault Refusal := runA (rspTimeoutA w) s

/-- R712: a quarantine ends. -/
def execQuarantineEnd (w : Waiting) (s : State) : Host.Outcome State Fault Refusal := runA (quarEndA w) s

end Sys2Proof.Machine
end

