-- ==== Sys2Proof/Machine/Reset.lean ====
section
/-!
DEFINITION. Sys2Proof/Machine/Reset.lean: the resets of the device (R674, R675): pilot power-on (R733, R736, R737, R743), cold (R682), warm
(R683), fabric (R686) and tile (R687).
-/
namespace Sys2Proof.Machine

/-! ### Requests (R675) -/

/-- BOOT_RST_STAT.SOURCE: 1 the input, 2 SYS_RESET_N, 3 a register, 4 FLR, 5 re-flash. -/
def srcCode : ResetSource → Nat
  | .input => 1
  | .pin => 2
  | .register => 3
  | .flr => 4
  | .reflash => 5

/-- A reset of a rank and source has been asked for. -/
def rstAsked (s : State) (rank : Nat) (src : ResetSource) : Bool := s.rstReq.any (fun r => r.rank == rank && r.src == src)

/-- R715: BOOT_RST_STAT.LAST and SOURCE, and the information entry of a reset. -/
def rstNote (last : Nat) (src : ResetSource) : Act := seqA [
  effA [.fld (dk .BOOT_RST_STAT) f_BOOT_RST_STAT_LAST last, .fld (dk .BOOT_RST_STAT) f_BOOT_RST_STAT_SOURCE (srcCode src)],
  raiseInfo 0x0605 last 0 (srcCode src)]

/-! ### Tile reset (R687) -/

/-- R687: the reset of a tile completes. -/
def tileResetOne (r : RstReq) : Act := fun s =>
  let t := r.tile
  seqA [
    tileResetA t,
    effA [.setBn (s.bn.filter (fun f => !(f.at_ == t && f.ej))), .setCn (s.cn.filter (fun f => !(f.at_ == t && f.ej)))],
    effA [.setRstReq (s.rstReq.filter (· != r)), .fld (dk .BOOT_RST_STAT) f_BOOT_RST_STAT_TILE_BUSY 0,
      .cnt (dk .BOOT_TILE_RST_CNT) f_BOOT_TILE_RST_CNT_COUNT 1],
    whenA (!unpowered s t && tfld s t .TILE_VLT_STAT f_TILE_VLT_STAT_SCRUB_DONE == 1) (downSet [t] false),
    rstNote 4 .register,
    whenA (r.reload && stage s == 6) (tileLoad t)] s

/-- R687: the tile reset that was asked for. -/
def tileRstA : Act := fun s =>
  match s.rstReq.find? (fun r => r.rank == 4) with
  | some r => tileResetOne r s
  | none => []

/-! ### Fabric reset (R686) -/

/-- An operation that answers a request. -/
def opAnswers (op : Nat) : Bool := 0x10 ≤ op && op ≤ 0x13

/-- R686: what the fabric holds is discarded, and with it the answers that wait in an NIU or at the host port for a tag of this device. -/
def fabDiscard : Act := fun s =>
  let own := BitVec.ofNat 17 (chipId s)
  [.setBn [], .setCn [], .setHostRd (s.hostRd.filter (fun r => r.pkt.schip != own))]
  ++ s.niuq.map (fun e => .putNiuq e.1 (e.2.filter (fun r => !(opAnswers r.pkt.op.toNat && r.pkt.dchip == own))))

/-- R490, R686: a frame of a receive pool enters the failure path with cause 4. -/
def poolFail (n q : Nat) (f : WlpFrame) : Act := seqA [poolTake n q, fun s =>
  failPath (gateTile s n) 4 n { innerPkt f with dchip := f.dchip }
    (if frameMc f then some (treeChips s (frameLo f) (frameHi f) (chipId s) (portDim s n) (!portPlus s n)) else none) s]

/-- R686: the frames of a port's pools and egress queues enter the failure path. -/
def fabFrames (n : Nat) : Act := eachA (List.range 8) (fun q => seqA [
  fun s => eachA (poolOf s n q) (poolFail n q) s,
  fun s => eachA (eqOf s n q) (frameFail n 4) s,
  effA (putEq n q [])])

/-- R686: a BEACON whose beats have been discarded completes with DEST_DOWN; one that waits for a bus gives up those it holds. -/
def fabBeacon (t ch : Nat) : Act := fun s =>
  match bcnOf s t ch with
  | none => []
  | some (d, b) =>
    if !b.started then bcnPut t ch d { b with held := [] } s
    else
      let low := ((bcnReach s t (bcnD d.raw)).find? (fun u => (tapOf s u t ch d).any (fun k => k.ent.isSome))).getD t
      seqA [
        modDesc t (4 + ch) d.idx (fun e =>
          if d.refused then { e with ext := .none } else { e with ext := .none }.fail stDown (tapLanding s low t ch d)),
        effA [.clrSrcBuf [srcKey t (4 + ch) d.idx]]] s

/-- R302: a chain whose fabric is reset breaks at every member; its head ends its TAPER descriptors. -/
def fabTaper (t : Nat) : Act := fun s =>
  let w := tprWord s t
  if !cfgEn w then []
  else seqA [effA [.putTprIn t [], .putTprBrk t false], tprSet t f_TPR_STAT_BROKEN,
    whenA (bitsOf w 26 2 == 0) (headAbort t (bitsOf w 28 2))] s

/-- R686: the tags of an NIU complete as if the answer had arrived with DEST_DOWN. -/
def fabTags (t : Nat) : Act := fun s => eachA ((s.tags.filter (fun e => e.1 / 1024 = t)).map (fun e => e.1 % 1024)) (tagEnds t) s

/-- R368, R686: Wick's flags, FLAG_SEQ and arrivals clear, and every context with pending arrivals breaks. -/
def fabWick : Act := seqA [wickBreakPending, fun s =>
  let rs : List DReg := [.WICK_FLAG_STATE, .WICK_FLAG_SEQ]
  [.regsClr ((s.regs.filter (fun e => (rs.map DReg.ctorIdx).contains (e.1 / 65536))).map (·.1)),
   .clrWickFq (s.wickFq.map (·.1)), .clrWick (s.wick.map (·.1))]
  ++ (List.range 512).map (fun t => .regsClr (heldOf s t [.WICK_ARRIVED]))]

/-- R421: a commit in progress: its drain ends, and COMMIT_RESET sets. -/
def fabEpoch : Act := fun s =>
  if epcPhase s = 0 then []
  else seqA [epcFault 13 0, effA (s.arb.map (fun e => .putArb e.1 { e.2 with old := false }))] s

/-- R302, R392, R421, R686: a fabric reset. -/
def fabricA : Act := fun s =>
  let ts := allTiles s
  seqA [
    eachA ts (fun t => eachA (List.range 4) (fabBeacon t)), eachA ts fabTaper,
    fabDiscard, eachA (List.range 16) fabFrames, fabDiscard, eachA ts fabTags,
    effA [.clrBcnTap (s.bcnTap.map (·.1)), .reg (dk .BCN_DEV_HELD) 0, .clrRedSlot (s.redSlot.map (·.1))],
    eachA ts (fun t => seqA [arbClear t 33 63, effA [.fld (tk t .RED_STATUS) f_RED_STATUS_SLOTS_HELD 0]]),
    fabWick, fabEpoch] s

/-- R56, R675, R686: the fabric reset that was asked for; it waits while a map is being applied. -/
def fabricRstA : Act := fun s =>
  if !rstAsked s 3 .register ∨ dfld s .TILE_MAP_STAT f_TILE_MAP_STAT_APPLYING = 1 then []
  else seqA [effA [.setRstReq (s.rstReq.filter (fun r => r.rank != 3))], fabricA, rstNote 3 .register] s

/-! ### Cold and warm reset (R681 to R683) -/

/-- The registers that a cold reset leaves: the pilot counter, what only pilot power-on resets (chapter 21), the BOOT counters, and GLV_FAST,
which shows pins. -/
def coldKeeps : List DReg := [.GLV_PILOT, .PWR_CAP_LATCH, .PWR_THERM_CFG, .BOOT_WARM_CNT, .BOOT_FALLBACK_CNT, .BOOT_RFL_CNT,
  .BOOT_TILE_RST_CNT, .GLV_FAST]

/-- The registers that a warm reset leaves beside those (R443, R683, R719, and chapters 02 and 03). -/
def warmKeeps : List DReg := coldKeeps ++ [.TILE_MEM_CFG, .BOOT_CFG, .WLP_INCARN, .TILE_MAP_STAT, .ERR_STAT, .ERR_CNT, .ERR_FIRST,
  .ERR_RSP_TMO_CNT, .ERR_LATE_RSP_CNT, .ERR_CORE_BUS, .EMB_STAT, .EMB_CFG, .EMB_COPY, .EMB_LOST, .EMB_OVWR, .EMB_MERGE_CNT, .EMB_RAM]

/-- Everything returns to reset but the listed registers, and where `vault` the vaults. -/
def freshA (rs : List DReg) (vault : Bool) : Act := effA [.fresh (rs.map DReg.ctorIdx) vault]

/-- R613: the volatile objects return to their defaults. -/
def objsVolatile : Act := fun s =>
  [.clrObj ((s.obj.filter (fun e => (objRow (e.1 / 256) (e.1 % 256)).any (fun r => r.keep == .v))).map (·.1))]

/-- R443: the boot nonce is drawn: any number but 0 (assumption 4). -/
def nonceA : Act := fun s =>
  let x := Config.freeWord s.free
  let n := if x = 0 then 1 else x
  .setFree (s.free + 1) :: (List.range 16).map (fun p => .reg (dk .WLP_NONCE p) n)

/-- What a cold and a warm reset have in common once the state has returned to reset: the nonce, the strap, the objects that load registers
at once (R614), the cap and the brake (R655, R657), and the first stage of the start. -/
def startA (last : Nat) (src : ResetSource) : Act := seqA [
  objsVolatile, nonceA,
  (fun s => [.fld (dk .BOOT_RFL_STAT) f_BOOT_RFL_STAT_ROLE (b2n s.strapKeeper), .fld (dk .GLV_FAST) f_GLV_FAST_THERM 0]),
  eachA [okCAN_NODE, okDOM_ACCEPT, okHELLO_S] (fun k s => objLoad k (objStored s k) s),
  brakeA, capA,
  rstNote last src,
  fun s => if s.testMode then [] else stageSet 1 s]

/-- R679: after a cold reset no image has been checked; one left WRITING stays so (R696). -/
def slotsUnchecked : Act := fun s => ([0, 1, 2].filter (fun k => slotStAt s k == 1 || slotStAt s k == 2)).map (fun k => .putSlotSt k 0)

/-- R682, R719, R721: a cold reset. -/
def coldA (src : ResetSource) : Act := fun s => seqA [
  slotsCut, slotsUnchecked,
  freshA coldKeeps false, effA [.setBootCnt ((s.bootCnt + 1) % 2 ^ 32)], startA 1 src] s

/-- R83: the vaults of the tiles that lost power are scrubbed; the others stay with their physical tiles until the map is formed. -/
def vaultsKept : Act := fun s => seqA [
  eachA ((allTiles s).filter (fun t => ivrState s (tileDomain s t) != 2)) vltScrub,
  effA [.relabel (mapMoves s ⟨0, []⟩)]] s

/-- R683: the regulators that are on stay on. -/
def ivrsKept (on : List Nat) : Act := eachA on (fun i => seqA [effA [.fld (dk .IVR_STAT i) f_IVR_STAT_STATE 2], ivrTarget i])

/-- R443, R571, R683, R719, R726: a warm reset. -/
def warmA (src : ResetSource) : Act := fun s =>
  let keep := dfld s .TILE_MEM_CFG f_TILE_MEM_CFG_KEEP_ON_WARM == 1
  let on := (List.range 75).filter (fun i => ivrState s i == 2)
  seqA [
    hostDown true, slotsCut, whenA keep vaultsKept,
    (fun s => seqA [freshA warmKeeps keep, effA [.setEmbQ s.embQ, .setEmbOpen s.embOpen]] s),
    ivrsKept on,
    (fun s => (List.range 16).map (fun n => .fld (dk .WLP_INCARN n) f_WLP_INCARN_INCARN (dfld s .WLP_INCARN f_WLP_INCARN_INCARN n + 1))
      ++ [.reg (dk .TILE_MAP_STAT) (regOf s (dk .TILE_MAP_STAT) &&& fmask f_TILE_MAP_STAT_MAP_SEQ),
          .cnt (dk .BOOT_WARM_CNT) f_BOOT_WARM_CNT_COUNT 1]),
    startA 2 src] s

/-- R675, R733, R736, R748: a cold reset from a source. A register's is the one that was asked for; while that is in progress, others are
ignored; FLR and re-flash ask for none. -/
def coldRstA (src : ResetSource) : Act := fun s =>
  let ok : Bool := match src with
    | .register => rstAsked s 1 .register
    | .input => !rstBusy s 1
    | .pin => !rstBusy s 1
    | .flr => false
    | .reflash => false
  if ok ∧ pilotRuns s then coldA src s else []

/-- R675: the warm reset that was asked for, from a source. -/
def warmRstA (src : ResetSource) : Act := fun s => if rstAsked s 2 src ∧ !rstBusy s 1 then warmA src s else []

/-! ### The pilot domain (R733, R736, R737, R743, R750) -/

/-- The pilot domain leaves its power-on reset: the straps are sampled. -/
def pilotUp (keeper test : Bool) : Act := effA [.setStrapKeeper keeper, .setTestMode test,
  .fld (dk .GLV_FAST) f_GLV_FAST_PRSNT (b2n (!test)), .fld (dk .BOOT_RFL_STAT) f_BOOT_RFL_STAT_ROLE (b2n keeper)]

/-- R736: the pilot domain starts from nothing. -/
def pilotOnA (keeper test : Bool) : Act := seqA [slotsCut, freshA [] false, objsVolatile, pilotUp keeper test]

/-- R737: the first stage and every regulator are off, and the pilot domain is held in power-on reset. -/
def vstbyLossA : Act := seqA [slotsCut, freshA [] false, objsVolatile, effA [.setTestMode false, .fld (dk .GLV_FAST) f_GLV_FAST_PRSNT 0]]

/-- R674, R719, and chapters 19, 21 and 22: the registers in the pilot domain: the log and what follows it, the BOOT counters, the strap, and
the blocks GLV, SPT and PWR. -/
def inPilot (code : Nat) : Bool :=
  let rs : List DReg := [.ERR_STAT, .ERR_CNT, .ERR_FIRST, .ERR_RSP_TMO_CNT, .ERR_LATE_RSP_CNT, .ERR_CORE_BUS, .EMB_STAT, .EMB_CFG,
    .EMB_COPY, .EMB_LOST, .EMB_OVWR, .EMB_MERGE_CNT, .EMB_RAM, .BOOT_WARM_CNT, .BOOT_FALLBACK_CNT, .BOOT_RFL_CNT, .BOOT_TILE_RST_CNT,
    .BOOT_RFL_STAT]
  let i := code / 65536
  (rs.map DReg.ctorIdx).contains i || decide (DReg.GLV_STAT.ctorIdx ≤ i ∧ i ≤ DReg.PWR_FSTRETCH_US.ctorIdx)

/-- R743: the pilot domain is held in power-on reset: its registers and what its blocks and Glovos SRAM held return to reset (R581, R600);
the other blocks wait for the cold reset that follows. -/
def pclkLossA : Act := seqA [slotsCut, objsVolatile, fun s => [
  .regsClr ((s.regs.filter (fun e => inPilot e.1)).map (·.1)),
  .setEmbQ [], .setEmbOpen none, .setGlvWakeReq false, .setExcHold false, .setCapHold false, .setWarnTail none, .setPwrHist [],
  .setPwrAvg ⟨0, 0, 0, 0, 0, []⟩, .clrTempFail (s.tempFail.map (·.1)), .setRstReq [], .setImgCheck none, .setRfl ⟨0, 0, 0, 0, 0, []⟩,
  .setGlvCauseAt 0, .setGlvRst [], .setSpiRx [], .setSpiTx [], .setSpiSkip false, .setSpiTxn 0, .setSpiPrev 0, .setGlvWdog 0,
  .setHelloDue false, .setRflQ [], .setCanRx [], .setCanAsm [], .setCanOut [], .setCanWait [], .setCanBt none, .setDictQ [],
  .setSpiRsp [], .setSess [], .clrAuthFail (s.authFail.map (·.1)), .clrLockout (s.lockout.map (·.1)), .setTestMode false,
  .fld (dk .GLV_FAST) f_GLV_FAST_PRSNT 0]]

/-- R579, R733, R743: PCLK edges resume: the pilot domain leaves its power-on reset. -/
def pclkRestoreA (keeper test : Bool) : Act := fun s => if pilotRuns s then [] else pilotUp keeper test s

/-! ### The commands -/

/-- R736: VSTBY33 enters its range; `keeper` and `test` are the straps. -/
def execPilotPowerOn (keeper test : Bool) (s : State) : Host.Outcome State Fault Refusal := runA (pilotOnA keeper test) s

/-- R737: VSTBY33 is lost. -/
def execVstby33Loss (s : State) : Host.Outcome State Fault Refusal := runA vstbyLossA s

/-- R743: no PCLK edge for 1 µs. -/
def execPclkLoss (s : State) : Host.Outcome State Fault Refusal := runA pclkLossA s

/-- R743: PCLK edges resume; `keeper` and `test` are the straps. -/
def execPclkRestore (keeper test : Bool) (s : State) : Host.Outcome State Fault Refusal := runA (pclkRestoreA keeper test) s

/-- R682: a cold reset. -/
def execColdReset (src : ResetSource) (s : State) : Host.Outcome State Fault Refusal := runA (coldRstA src) s

/-- R683: a warm reset. -/
def execWarmReset (src : ResetSource) (s : State) : Host.Outcome State Fault Refusal := runA (warmRstA src) s

/-- R686: the fabric reset that was asked for. -/
def execFabricReset (s : State) : Host.Outcome State Fault Refusal := runA fabricRstA s

/-- R687: the tile reset that was asked for. -/
def execTileReset (s : State) : Host.Outcome State Fault Refusal := runA tileRstA s

end Sys2Proof.Machine
end

