-- ==== Sys2Proof/Machine/Dispatch.lean ====
section
/-!
DEFINITION. Sys2Proof/Machine/Dispatch.lean: one arm for each command, each a direct call of its meaning.
-/
namespace Sys2Proof.Machine

def exec (i : Instr) (s : State) : Host.Outcome State Fault Refusal :=
  match i with
  | .pilotPowerOn keeper test => Sys2Proof.Machine.execPilotPowerOn keeper test s
  | .vstby33Loss => Sys2Proof.Machine.execVstby33Loss s
  | .pclkLoss => Sys2Proof.Machine.execPclkLoss s
  | .coldReset src => Sys2Proof.Machine.execColdReset src s
  | .warmReset src => Sys2Proof.Machine.execWarmReset src s
  | .fabricReset => Sys2Proof.Machine.execFabricReset s
  | .tileReset => Sys2Proof.Machine.execTileReset s
  | .rstCtrlCold => Sys2Proof.Machine.execRstCtrlCold s
  | .rstCtrlWarm => Sys2Proof.Machine.execRstCtrlWarm s
  | .rstCtrlFabric => Sys2Proof.Machine.execRstCtrlFabric s
  | .rstCtrlTile t reload => Sys2Proof.Machine.execRstCtrlTile t reload s
  | .ivrGroupStart => Sys2Proof.Machine.execIvrGroupStart s
  | .ivrSoftstartCheck rail late bad => Sys2Proof.Machine.execIvrSoftstartCheck rail late bad s
  | .ivrFaultInOperation rail ov => Sys2Proof.Machine.execIvrFaultInOperation rail ov s
  | .ivrRetryStart rail => Sys2Proof.Machine.execIvrRetryStart rail s
  | .bootFirmwareVerified bad => Sys2Proof.Machine.execBootFirmwareVerified bad s
  | .mapForm => Sys2Proof.Machine.execMapForm s
  | .scrubComplete t => Sys2Proof.Machine.execScrubComplete t s
  | .bootVerifyPass bad => Sys2Proof.Machine.execBootVerifyPass bad s
  | .bootApplyPass readErr => Sys2Proof.Machine.execBootApplyPass readErr s
  | .tileMapApply => Sys2Proof.Machine.execTileMapApply s
  | .mapApplyComplete => Sys2Proof.Machine.execMapApplyComplete s
  | .applyCnDiscard t inp p => Sys2Proof.Machine.execApplyCnDiscard t inp p s
  | .tileMemCfgWrite v => Sys2Proof.Machine.execTileMemCfgWrite v s
  | .patrolVisit t ecc => Sys2Proof.Machine.execPatrolVisit t ecc s
  | .coreInstruction t c w => Sys2Proof.Machine.execCoreInstruction t c w s
  | .coreLoad t c w ecc => Sys2Proof.Machine.execCoreLoad t c w ecc s
  | .coreStore t c w ecc => Sys2Proof.Machine.execCoreStore t c w ecc s
  | .coreAmo t c w ecc => Sys2Proof.Machine.execCoreAmo t c w ecc s
  | .coreLr t c w ecc => Sys2Proof.Machine.execCoreLr t c w ecc s
  | .coreSc t c w held ecc => Sys2Proof.Machine.execCoreSc t c w held ecc s
  | .coreFence t c w => Sys2Proof.Machine.execCoreFence t c w s
  | .coreFenceI t c w => Sys2Proof.Machine.execCoreFenceI t c w s
  | .mtimerExpire t c => Sys2Proof.Machine.execMtimerExpire t c s
  | .tileCoreRunWrite who t v => Sys2Proof.Machine.execTileCoreRunWrite who t v s
  | .coreStopComplete t c => Sys2Proof.Machine.execCoreStopComplete t c s
  | .commRsvSet t => Sys2Proof.Machine.execCommRsvSet t s
  | .queuePiWrite who t q v => Sys2Proof.Machine.execQueuePiWrite who t q v s
  | .queueDescWrite who t q cpl v => Sys2Proof.Machine.execQueueDescWrite who t q cpl v s
  | .cqCiWrite who t q v => Sys2Proof.Machine.execCqCiWrite who t q v s
  | .queueAbort who t q => Sys2Proof.Machine.execQueueAbort who t q s
  | .descriptorComplete t q idx => Sys2Proof.Machine.execDescriptorComplete t q idx s
  | .dmvCopy t ch ecc => Sys2Proof.Machine.execDmvCopy t ch ecc s
  | .dmvFill t ch => Sys2Proof.Machine.execDmvFill t ch s
  | .dmvBeacon t ch => Sys2Proof.Machine.execDmvBeacon t ch s
  | .dmvTaper t ch ecc => Sys2Proof.Machine.execDmvTaper t ch ecc s
  | .mxeMatmul t ahead ecc => Sys2Proof.Machine.execMxeMatmul t ahead ecc s
  | .mxePieceReady t waited ahead ecc => Sys2Proof.Machine.execMxePieceReady t waited ahead ecc s
  | .mxeGateTimeout t => Sys2Proof.Machine.execMxeGateTimeout t s
  | .rcxConvert t ecc => Sys2Proof.Machine.execRcxConvert t ecc s
  | .vxeOp t ecc => Sys2Proof.Machine.execVxeOp t ecc s
  | .cdxCompress t one ecc => Sys2Proof.Machine.execCdxCompress t one ecc s
  | .cdxDecompress t one ecc => Sys2Proof.Machine.execCdxDecompress t one ecc s
  | .cdxTblBuild t one ecc => Sys2Proof.Machine.execCdxTblBuild t one ecc s
  | .cdxTblLoad t one ecc => Sys2Proof.Machine.execCdxTblLoad t one ecc s
  | .cdxTblEvict t one => Sys2Proof.Machine.execCdxTblEvict t one s
  | .tblSwitch t one idx => Sys2Proof.Machine.execTblSwitch t one idx s
  | .tileSleep t => Sys2Proof.Machine.execTileSleep t s
  | .sleepEntryComplete t => Sys2Proof.Machine.execSleepEntryComplete t s
  | .tileWake t => Sys2Proof.Machine.execTileWake t s
  | .wakeComplete t => Sys2Proof.Machine.execWakeComplete t s
  | .dozeEnter t => Sys2Proof.Machine.execDozeEnter t s
  | .dozeWake t => Sys2Proof.Machine.execDozeWake t s
  | .bnPacketInject t vc waited => Sys2Proof.Machine.execBnPacketInject t vc waited s
  | .bnRoute t inp p err waited => Sys2Proof.Machine.execBnRoute t inp p err waited s
  | .bnRdReq t p ecc => Sys2Proof.Machine.execBnRdReq t p ecc s
  | .bnWr t p ecc => Sys2Proof.Machine.execBnWr t p ecc s
  | .bnWrCb t p ecc => Sys2Proof.Machine.execBnWrCb t p ecc s
  | .bnAmo t p ecc => Sys2Proof.Machine.execBnAmo t p ecc s
  | .bnMcWr t p ecc => Sys2Proof.Machine.execBnMcWr t p ecc s
  | .bnMcWrCb t p ecc => Sys2Proof.Machine.execBnMcWrCb t p ecc s
  | .bnRdRsp t p ecc => Sys2Proof.Machine.execBnRdRsp t p ecc s
  | .bnWrAck t p => Sys2Proof.Machine.execBnWrAck t p s
  | .bnAmoRsp t p => Sys2Proof.Machine.execBnAmoRsp t p s
  | .bnMcAck t p => Sys2Proof.Machine.execBnMcAck t p s
  | .nqPut t n ecc => Sys2Proof.Machine.execNqPut t n ecc s
  | .nqGet t n => Sys2Proof.Machine.execNqGet t n s
  | .nqMcast t n ecc => Sys2Proof.Machine.execNqMcast t n ecc s
  | .nqReduce t n ecc => Sys2Proof.Machine.execNqReduce t n ecc s
  | .nqXmcast t n ecc => Sys2Proof.Machine.execNqXmcast t n ecc s
  | .bnPlaneCfgWrite v => Sys2Proof.Machine.execBnPlaneCfgWrite v s
  | .redArm t => Sys2Proof.Machine.execRedArm t s
  | .redArmStart t => Sys2Proof.Machine.execRedArmStart t s
  | .redRouterArrival t inp p err res => Sys2Proof.Machine.execRedRouterArrival t inp p err res s
  | .redJoinWindowClose t p => Sys2Proof.Machine.execRedJoinWindowClose t p s
  | .redOrderedTimeout t p => Sys2Proof.Machine.execRedOrderedTimeout t p s
  | .redNiuArrival t p ecc res => Sys2Proof.Machine.execRedNiuArrival t p ecc res s
  | .redSegmentRound t c seg ecc => Sys2Proof.Machine.execRedSegmentRound t c seg ecc s
  | .redNakReceive t p => Sys2Proof.Machine.execRedNakReceive t p s
  | .redDoneClr t => Sys2Proof.Machine.execRedDoneClr t s
  | .beaconGrant t ch waited ecc => Sys2Proof.Machine.execBeaconGrant t ch waited ecc s
  | .beaconStartBeat t ch u sb => Sys2Proof.Machine.execBeaconStartBeat t ch u sb s
  | .beaconDataBeat t ch u err stop => Sys2Proof.Machine.execBeaconDataBeat t ch u err stop s
  | .beaconEndBeat t ch u miss => Sys2Proof.Machine.execBeaconEndBeat t ch u miss s
  | .beaconSummaryReturn t ch => Sys2Proof.Machine.execBeaconSummaryReturn t ch s
  | .beaconSummaryTimeout t ch => Sys2Proof.Machine.execBeaconSummaryTimeout t ch s
  | .bcnTapWrite t e land v => Sys2Proof.Machine.execBcnTapWrite t e land v s
  | .taperBeatAccept t stall => Sys2Proof.Machine.execTaperBeatAccept t stall s
  | .tprRpWrite t v => Sys2Proof.Machine.execTprRpWrite t v s
  | .tprCfgWrite t r v => Sys2Proof.Machine.execTprCfgWrite t r v s
  | .taperBreak t => Sys2Proof.Machine.execTaperBreak t s
  | .cnRoute t inp p err waited => Sys2Proof.Machine.execCnRoute t inp p err waited s
  | .cnRrd p => Sys2Proof.Machine.execCnRrd p s
  | .cnRwr p => Sys2Proof.Machine.execCnRwr p s
  | .cnRrsp p => Sys2Proof.Machine.execCnRrsp p s
  | .cnRwack p => Sys2Proof.Machine.execCnRwack p s
  | .cnIntr p => Sys2Proof.Machine.execCnIntr p s
  | .cnAm t p ecc => Sys2Proof.Machine.execCnAm t p ecc s
  | .cnCred t p => Sys2Proof.Machine.execCnCred t p s
  | .cnCtlOpen t p => Sys2Proof.Machine.execCnCtlOpen t p s
  | .cnCtlClose t p => Sys2Proof.Machine.execCnCtlClose t p s
  | .cnOpenRsp t p => Sys2Proof.Machine.execCnOpenRsp t p s
  | .cnCloseRsp t p => Sys2Proof.Machine.execCnCloseRsp t p s
  | .cnCloseReq t p => Sys2Proof.Machine.execCnCloseReq t p s
  | .amqListen t ch => Sys2Proof.Machine.execAmqListen t ch s
  | .amqOpen t ch peerChan => Sys2Proof.Machine.execAmqOpen t ch peerChan s
  | .amqClose t ch => Sys2Proof.Machine.execAmqClose t ch s
  | .amqSendGo t c v => Sys2Proof.Machine.execAmqSendGo t c v s
  | .aqCiWrite t q v => Sys2Proof.Machine.execAqCiWrite t q v s
  | .aqCfgWrite t q v => Sys2Proof.Machine.execAqCfgWrite t q v s
  | .amqChanCfgWrite t ch v => Sys2Proof.Machine.execAmqChanCfgWrite t ch v s
  | .wickArrive t c => Sys2Proof.Machine.execWickArrive t c s
  | .wickCtxTimeout c => Sys2Proof.Machine.execWickCtxTimeout c s
  | .wickCtxCfgWrite c v => Sys2Proof.Machine.execWickCtxCfgWrite c v s
  | .wickFlagOpWrite t v => Sys2Proof.Machine.execWickFlagOpWrite t v s
  | .wickFlagUpdate t => Sys2Proof.Machine.execWickFlagUpdate t s
  | .wickWatchWrite t w v => Sys2Proof.Machine.execWickWatchWrite t w v s
  | .wickTokenArrive n tok => Sys2Proof.Machine.execWickTokenArrive n tok s
  | .wickTokenRelease n tok => Sys2Proof.Machine.execWickTokenRelease n tok s
  | .wickTokenBreak n tok => Sys2Proof.Machine.execWickTokenBreak n tok s
  | .arbWindowBoundary t p => Sys2Proof.Machine.execArbWindowBoundary t p s
  | .snufferBite t p r what => Sys2Proof.Machine.execSnufferBite t p r what s
  | .arbCntClr t => Sys2Proof.Machine.execArbCntClr t s
  | .epcCommitWrite v hi => Sys2Proof.Machine.execEpcCommitWrite v hi s
  | .epochSwitch => Sys2Proof.Machine.execEpochSwitch s
  | .epochCopyStart fclks => Sys2Proof.Machine.execEpochCopyStart fclks s
  | .epochCommitEnd => Sys2Proof.Machine.execEpochCommitEnd s
  | .epochDrainSlow => Sys2Proof.Machine.execEpochDrainSlow s
  | .shadowWrite t off wide v => Sys2Proof.Machine.execShadowWrite t off wide v s
  | .quiesceRequest => Sys2Proof.Machine.execQuiesceRequest s
  | .quiesceReached => Sys2Proof.Machine.execQuiesceReached s
  | .quiesceSlow => Sys2Proof.Machine.execQuiesceSlow s
  | .quiesceResume => Sys2Proof.Machine.execQuiesceResume s
  | .wlpCfgWrite n v => Sys2Proof.Machine.execWlpCfgWrite n v s
  | .wlpRetrain n => Sys2Proof.Machine.execWlpRetrain n s
  | .wlpPortRst n => Sys2Proof.Machine.execWlpPortRst n s
  | .wlpSignalDetect n => Sys2Proof.Machine.execWlpSignalDetect n s
  | .wlpLaneLock n => Sys2Proof.Machine.execWlpLaneLock n s
  | .wlpLaneAlign n logical inv => Sys2Proof.Machine.execWlpLaneAlign n logical inv s
  | .wlpTrainTimeout n => Sys2Proof.Machine.execWlpTrainTimeout n s
  | .trainBlockReceive n bs => Sys2Proof.Machine.execTrainBlockReceive n bs s
  | .wlpFrameSend n waited held => Sys2Proof.Machine.execWlpFrameSend n waited held s
  | .wlpFrameReceive n blk bytes fec => Sys2Proof.Machine.execWlpFrameReceive n blk bytes fec s
  | .sideBlockReceive n bs fec => Sys2Proof.Machine.execSideBlockReceive n bs fec s
  | .wlpAckTimeout n => Sys2Proof.Machine.execWlpAckTimeout n s
  | .wlpSbResendTimeout n mgmt => Sys2Proof.Machine.execWlpSbResendTimeout n mgmt s
  | .wlpLinkLoss n => Sys2Proof.Machine.execWlpLinkLoss n s
  | .wlpRejoinExpire n => Sys2Proof.Machine.execWlpRejoinExpire n s
  | .wlpExpectWrite n v => Sys2Proof.Machine.execWlpExpectWrite n v s
  | .wlpMgmtTxWrite n v => Sys2Proof.Machine.execWlpMgmtTxWrite n v s
  | .wlpMgmtRxRead n => Sys2Proof.Machine.execWlpMgmtRxRead n s
  | .gateFrameBuild n p => Sys2Proof.Machine.execGateFrameBuild n p s
  | .gateFrameInject n q => Sys2Proof.Machine.execGateFrameInject n q s
  | .transitFrame n q slot waited => Sys2Proof.Machine.execTransitFrame n q slot waited s
  | .xmcastFrameReceive n q dflag slots => Sys2Proof.Machine.execXmcastFrameReceive n q dflag slots s
  | .colAllreduce t g ecc => Sys2Proof.Machine.execColAllreduce t g ecc s
  | .colReduceScatter t g ecc => Sys2Proof.Machine.execColReduceScatter t g ecc s
  | .colAllgather t g ecc => Sys2Proof.Machine.execColAllgather t g ecc s
  | .colBroadcast t g ecc => Sys2Proof.Machine.execColBroadcast t g ecc s
  | .colAlltoall t g ecc => Sys2Proof.Machine.execColAlltoall t g ecc s
  | .colBarrier t g ecc => Sys2Proof.Machine.execColBarrier t g ecc s
  | .colChunkSend t g dir ecc => Sys2Proof.Machine.execColChunkSend t g dir ecc s
  | .colSlotFlagSeen t g dir ecc => Sys2Proof.Machine.execColSlotFlagSeen t g dir ecc s
  | .colWaitTimeout t g => Sys2Proof.Machine.execColWaitTimeout t g s
  | .colGctrlOpen t g => Sys2Proof.Machine.execColGctrlOpen t g s
  | .colGctrlClose t g => Sys2Proof.Machine.execColGctrlClose t g s
  | .colGctrlReform t g => Sys2Proof.Machine.execColGctrlReform t g s
  | .admitWrite => Sys2Proof.Machine.execAdmitWrite s
  | .admitJudgementComplete ecc => Sys2Proof.Machine.execAdmitJudgementComplete ecc s
  | .admRelease => Sys2Proof.Machine.execAdmRelease s
  | .bar0Read off len be => Sys2Proof.Machine.execBar0Read off len be s
  | .bar0Write off data be => Sys2Proof.Machine.execBar0Write off data be s
  | .bar2Read off len => Sys2Proof.Machine.execBar2Read off len s
  | .bar2Write off data ep => Sys2Proof.Machine.execBar2Write off data ep s
  | .bar4DoorbellWrite off data => Sys2Proof.Machine.execBar4DoorbellWrite off data s
  | .bar4Read off len => Sys2Proof.Machine.execBar4Read off len s
  | .hostWindowRequest p => Sys2Proof.Machine.execHostWindowRequest p s
  | .hostCompletionReceive k off st data => Sys2Proof.Machine.execHostCompletionReceive k off st data s
  | .hostCplTimeout k off => Sys2Proof.Machine.execHostCplTimeout k off s
  | .hifCplWatchdog id => Sys2Proof.Machine.execHifCplWatchdog id s
  | .msixSend v => Sys2Proof.Machine.execMsixSend v s
  | .hifMsixTrigWrite v => Sys2Proof.Machine.execHifMsixTrigWrite v s
  | .perstNAssert hot => Sys2Proof.Machine.execPerstNAssert hot s
  | .flr => Sys2Proof.Machine.execFlr s
  | .hostLinkDown => Sys2Proof.Machine.execHostLinkDown s
  | .d3hotEnter => Sys2Proof.Machine.execD3hotEnter s
  | .doeRequest req => Sys2Proof.Machine.execDoeRequest req s
  | .doeAbort => Sys2Proof.Machine.execDoeAbort s
  | .bar2Resize log2 => Sys2Proof.Machine.execBar2Resize log2 s
  | .glvWakeEvent => Sys2Proof.Machine.execGlvWakeEvent s
  | .glvWakeComplete => Sys2Proof.Machine.execGlvWakeComplete s
  | .glvSleepEnter => Sys2Proof.Machine.execGlvSleepEnter s
  | .glvLockstepMismatch => Sys2Proof.Machine.execGlvLockstepMismatch s
  | .glvWatchdogExpire => Sys2Proof.Machine.execGlvWatchdogExpire s
  | .glvSramUe => Sys2Proof.Machine.execGlvSramUe s
  | .glvFirmwareRestart => Sys2Proof.Machine.execGlvFirmwareRestart s
  | .glvCtrlRestart => Sys2Proof.Machine.execGlvCtrlRestart s
  | .glvCtrlWake => Sys2Proof.Machine.execGlvCtrlWake s
  | .glvRestartComplete => Sys2Proof.Machine.execGlvRestartComplete s
  | .glvWdogKick => Sys2Proof.Machine.execGlvWdogKick s
  | .glvAlertSetWrite v => Sys2Proof.Machine.execGlvAlertSetWrite v s
  | .helloTimer => Sys2Proof.Machine.execHelloTimer s
  | .mgmtWordReceive n => Sys2Proof.Machine.execMgmtWordReceive n s
  | .spiNop mode3 addr extra => Sys2Proof.Machine.execSpiNop mode3 addr extra s
  | .spiReadWindow mode3 len addr extra => Sys2Proof.Machine.execSpiReadWindow mode3 len addr extra s
  | .spiReadMailbox mode3 len extra => Sys2Proof.Machine.execSpiReadMailbox mode3 len extra s
  | .spiWriteWindow mode3 addr data extra => Sys2Proof.Machine.execSpiWriteWindow mode3 addr data extra s
  | .spiWriteMailbox mode3 data extra => Sys2Proof.Machine.execSpiWriteMailbox mode3 data extra s
  | .spiAbort mode3 cmd clocks data => Sys2Proof.Machine.execSpiAbort mode3 cmd clocks data s
  | .spiEarlySelect clocks => Sys2Proof.Machine.execSpiEarlySelect clocks s
  | .canFrameReceive f classic => Sys2Proof.Machine.execCanFrameReceive f classic s
  | .canReassemblyTimeout src xid => Sys2Proof.Machine.execCanReassemblyTimeout src xid s
  | .pwrbrakeNAssert => Sys2Proof.Machine.execPwrbrakeNAssert s
  | .pwrbrakeNRelease => Sys2Proof.Machine.execPwrbrakeNRelease s
  | .dictRead => Sys2Proof.Machine.execDictRead s
  | .dictWrite flashFail => Sys2Proof.Machine.execDictWrite flashFail s
  | .dictOpen => Sys2Proof.Machine.execDictOpen s
  | .dictAuth => Sys2Proof.Machine.execDictAuth s
  | .dictClose => Sys2Proof.Machine.execDictClose s
  | .glvMbxGo v => Sys2Proof.Machine.execGlvMbxGo v s
  | .sessionPendingTimeout sid => Sys2Proof.Machine.execSessionPendingTimeout sid s
  | .sessionIdleTimeout sid => Sys2Proof.Machine.execSessionIdleTimeout sid s
  | .lockoutExpire k => Sys2Proof.Machine.execLockoutExpire k s
  | .mbxResponseDrop => Sys2Proof.Machine.execMbxResponseDrop s
  | .imageVerifyComplete readErr => Sys2Proof.Machine.execImageVerifyComplete readErr s
  | .reflashReq => Sys2Proof.Machine.execReflashReq s
  | .reflashStart => Sys2Proof.Machine.execReflashStart s
  | .reflashData => Sys2Proof.Machine.execReflashData s
  | .reflashEnd readErr => Sys2Proof.Machine.execReflashEnd readErr s
  | .reflashAck => Sys2Proof.Machine.execReflashAck s
  | .reflashReqTimer => Sys2Proof.Machine.execReflashReqTimer s
  | .reflashAckTimeout => Sys2Proof.Machine.execReflashAckTimeout s
  | .keeperAnswerDelay => Sys2Proof.Machine.execKeeperAnswerDelay s
  | .servicePrepare => Sys2Proof.Machine.execServicePrepare s
  | .serviceSafe => Sys2Proof.Machine.execServiceSafe s
  | .powerLoopTick p vin iin v5 margin => Sys2Proof.Machine.execPowerLoopTick p vin iin v5 margin s
  | .excursionHoldEnd => Sys2Proof.Machine.execExcursionHoldEnd s
  | .voltageLoopTick rail m vout iout => Sys2Proof.Machine.execVoltageLoopTick rail m vout iout s
  | .tempSample rs => Sys2Proof.Machine.execTempSample rs s
  | .thermWarnThrottle => Sys2Proof.Machine.execThermWarnThrottle s
  | .thermTripClear => Sys2Proof.Machine.execThermTripClear s
  | .vinUndervoltage => Sys2Proof.Machine.execVinUndervoltage s
  | .vinUvClear => Sys2Proof.Machine.execVinUvClear s
  | .criticalShutdown high vin => Sys2Proof.Machine.execCriticalShutdown high vin s
  | .pwrHostCapWrite v => Sys2Proof.Machine.execPwrHostCapWrite v s
  | .pwrCapLatchWrite who v => Sys2Proof.Machine.execPwrCapLatchWrite who v s
  | .pwrClkCfgWrite v => Sys2Proof.Machine.execPwrClkCfgWrite v s
  | .pwrVmaxWrite v => Sys2Proof.Machine.execPwrVmaxWrite v s
  | .rspTimeout w => Sys2Proof.Machine.execRspTimeout w s
  | .quarantineEnd w => Sys2Proof.Machine.execQuarantineEnd w s
  | .embQueueWrite => Sys2Proof.Machine.execEmbQueueWrite s
  | .embUnfreeze => Sys2Proof.Machine.execEmbUnfreeze s
  | .embCopyNow => Sys2Proof.Machine.execEmbCopyNow s
  | .embCopyTimer => Sys2Proof.Machine.execEmbCopyTimer s
  | .embSwWrite who v => Sys2Proof.Machine.execEmbSwWrite who v s
  | .registerWrite who t off wide v => Sys2Proof.Machine.execRegisterWrite who t off wide v s
  | .pclkRestore keeper test => Sys2Proof.Machine.execPclkRestore keeper test s
  | .hostLinkUp flit speed width bme cfg => Sys2Proof.Machine.execHostLinkUp flit speed width bme cfg s
  | .d3hotExit => Sys2Proof.Machine.execD3hotExit s
  | .spiInvalidCommand mode3 cmd more => Sys2Proof.Machine.execSpiInvalidCommand mode3 cmd more s
  | .canBusError tx primary => Sys2Proof.Machine.execCanBusError tx primary s
  | .canBusOffRecovery => Sys2Proof.Machine.execCanBusOffRecovery s
  | .slotEraseComplete => Sys2Proof.Machine.execSlotEraseComplete s
  | .embCopyComplete => Sys2Proof.Machine.execEmbCopyComplete s

end Sys2Proof.Machine
end

