-- ==== Sys2Proof/Machine/Step.lean ====
section
/-!
DEFINITION. Sys2Proof/Machine/Step.lean: one step of the block: the command at the front of the queue, or one tick of PCLK.
-/
namespace Sys2Proof.Machine

/-- One step: the command at the front of the queue has its effect on the state that holds the rest of the queue; while no
command waits, one PCLK passes (assumption 3). -/
def step (s : State) : Host.Outcome State Fault Refusal :=
  match s.pending with
  | c :: rest => exec c { s with pending := rest }
  | [] => pilotTick s

/-- The state with the command that a word spells at the front of its queue; no word spells one (assumption 2). -/
def State.withFetchWord (s : State) (nbits w : Nat) : State :=
  match decodeTableWord nbits w with
  | some c => { s with pending := c :: s.pending }
  | none => s

end Sys2Proof.Machine
end

