-- ==== Sys2Proof/Safety.lean ====
section
/-!
DEFINITION. Sys2Proof/Safety.lean: what a sound state is, in the terms that statements use: every sparse map is in its canonical form, every
register entry is one that differs from reset and whose RSVD bits are 0 (R8); and the words in which
statements say what a command answers and what it leaves alone.
-/
namespace Sys2Proof.Machine

/-- The two memories and the image flash are in canonical form (R62, R63, R676). -/
def State.memWf (s : State) : Bool :=
  smWf (fun _ => 0) s.cm && smWf (fun _ => 0) s.vlt && smWf (fun _ => 0xFF) s.flash

/-- Every other sparse map is in canonical form. -/
def State.mapsWf (s : State) : Bool :=
  smWf (fun _ => false) s.cmPsn
  && smWf (fun _ => ⟨false, false⟩) s.vltLn
  && smWf (fun _ => CoreSt.init) s.cores
  && smWf (fun _ => QueueSt.init) s.queues
  && smWf (fun _ => TagSt.free) s.tags
  && smWf (fun _ => []) s.niuq
  && smWf (fun _ => 0) s.niuRr
  && smWf (fun _ => []) s.cnq
  && smWf (fun _ => ArbSt.init) s.arb
  && smWf (fun _ => 0) s.tok
  && smWf (fun _ => 0) s.wtok
  && smWf (fun _ => []) s.mxeHeld
  && smWf (fun _ => none) s.mxe
  && smWf (fun _ => []) s.cdxTbl
  && smWf (fun _ => []) s.cdxReq
  && smWf (fun _ => []) s.cdxMark
  && smWf (fun _ => 0) s.cdxLast
  && smWf (fun _ => 0) s.aqDisc
  && smWf (fun _ => 0) s.amqNaks
  && smWf (fun _ => 0) s.amqTc
  && smWf (fun _ => 0) s.amqNext
  && smWf (fun _ => none) s.amqGo
  && smWf (fun _ => []) s.redSlot
  && smWf (fun _ => ⟨0, false, false⟩) s.redSeg
  && smWf (fun _ => []) s.srcBuf
  && smWf (fun _ => none) s.bcnTap
  && smWf (fun _ => []) s.tprIn
  && smWf (fun _ => 0) s.tprPc
  && smWf (fun _ => false) s.tprBrk
  && smWf (fun _ => ⟨0, false⟩) s.wick
  && smWf (fun _ => []) s.wickFq
  && smWf (fun _ => []) s.wickTx
  && smWf (fun _ => WlpSt.init) s.wlp
  && smWf (fun _ => []) s.wlpEq
  && smWf (fun _ => []) s.wlpPool
  && smWf (fun _ => ColGrp.init) s.colGrp
  && smWf (fun _ => 0) s.msixTbl
  && smWf (fun _ => 0) s.tempFail
  && smWf (fun _ => 0) s.vTgt
  && smWf (fun _ => false) s.stretchOn
  && smWf (fun _ => 0) s.slotSt
  && smWf (fun _ => 0) s.fuse
  && smWf (fun _ => none) s.obj
  && smWf (fun _ => 0) s.authFail
  && smWf (fun _ => none) s.lockout
  && smWf (fun _ => false) s.tileLeave

/-- Two keys of the register store name the same register of the device, or the same register of two tiles. -/
def sameReg (a b : Nat) : Prop := a % 2 ^ 26 = b % 2 ^ 26 ∧ (a / 2 ^ 26 = 0 ↔ b / 2 ^ 26 = 0)

/-- An entry of the register store differs from the reset value of the register that it holds, and has its RSVD bits 0. -/
def regEntryOk (e : Nat × W64) : Prop :=
  ∀ k : RKey, sameReg e.1 k.code → e.2 ≠ regReset k ∧ e.2 &&& ~~~(regMask k) = 0

/-- The register store is in canonical form (R8). -/
def State.regsWf (s : State) : Prop := smSorted s.regs = true ∧ ∀ e ∈ s.regs, regEntryOk e

/-- A sound state. -/
def State.Wf (s : State) : Prop := s.memWf = true ∧ s.mapsWf = true ∧ s.regsWf

/-- A command answers a next state of which something holds. -/
def answers (c : Instr) (s : State) (P : State → Prop) : Prop := ∃ t, exec c s = .next t ∧ P t

/-- A command leaves the two memories as they were. -/
def sameMem (s t : State) : Prop := t.cm = s.cm ∧ t.vlt = s.vlt ∧ t.cmPsn = s.cmPsn ∧ t.vltLn = s.vltLn

/-- R635: the PCIe mailbox holds a response: its words, its length, and DONE with BUSY clear. -/
def mbxHolds (t : State) (body : List Byte) : Prop :=
  dfld t .GLV_MBX_STAT f_GLV_MBX_STAT_DONE = 1 ∧ dfld t .GLV_MBX_STAT f_GLV_MBX_STAT_BUSY = 0
  ∧ dfld t .GLV_MBX_STAT f_GLV_MBX_STAT_RSP_LEN = body.length % 2 ^ f_GLV_MBX_STAT_RSP_LEN.len
  ∧ ∀ i, i < ceilDiv body.length 8 → regOf t (dk .GLV_MBX_RSP i) = BitVec.ofNat 64 (leNat (sliceZ body (8 * i) 8))

/-- A command changes no register but the listed ones, and no memory. -/
def onlyRegs (s t : State) (ks : List RKey) : Prop := (∀ k, k ∉ ks → regOf t k = regOf s k) ∧ sameMem s t

/-- A core can execute the instruction that its fetch delivers: it runs, is not in WFI, waits for no load or AMO, takes no interrupt, and its
fetch brings no access fault. -/
def coreGoes (s : State) (t c w : Nat) : Bool :=
  coreRuns s t c && !coreWfi s t c
  && !(coreOf s t c).outst.any (fun (o : CoreOut) => o.kind == .load || o.kind == .amo || o.kind == .regRd)
  && (irqTake s t c).isNone && (fetchBad s t c w).isNone

/-- A command changes no core but one. -/
def onlyCore (s u : State) (t c : Nat) : Prop := ∀ n, n ≠ coreKey t c → coresAt u n = coresAt s n

/-- The bytes that a store leaves at an offset of a tile's cluster memory, every other byte of both memories being as before. -/
def cmStored (s u : State) (t o : Nat) (bs : List Byte) : Prop :=
  (∀ a, cmAt u a = if cmKey t o ≤ a ∧ a < cmKey t o + bs.length then bs.getD (a - cmKey t o) 0 else cmAt s a) ∧ u.vlt = s.vlt

/-- The commands by which an engine takes up the next descriptor of a queue, each with its queue, opcode and own checks. -/
def descCommand (c : Instr) (t : Tile) (q opc : Nat) (check : State → List Byte → Nat) : Prop :=
  (∃ ch fs, c = .dmvCopy t ch fs ∧ q = 4 + ch.val ∧ opc = 0x01 ∧ check = dmvCheck t false)
  ∨ (∃ ch, c = .dmvFill t ch ∧ q = 4 + ch.val ∧ opc = 0x02 ∧ check = dmvCheck t true)
  ∨ (∃ ch, c = .dmvBeacon t ch ∧ q = 4 + ch.val ∧ opc = 0x03 ∧ check = bcnCheck t)
  ∨ (∃ ch fs, c = .dmvTaper t ch fs ∧ q = 4 + ch.val ∧ opc = 0x04 ∧ check = taperCheck t ch.val)
  ∨ (∃ fs, c = .vxeOp t fs ∧ q = 1 ∧ opc = 0x30 ∧ check = fun _ bs => vxeCheck t bs)
  ∨ (∃ fs, c = .rcxConvert t fs ∧ q = 2 ∧ opc = 0x20 ∧ check = fun _ bs => rcxCheck t bs)
  ∨ (∃ n fs, c = .nqPut t n fs ∧ q = nqQ n.val ∧ opc = 0x40 ∧ check = putCheck t false)
  ∨ (∃ n, c = .nqGet t n ∧ q = nqQ n.val ∧ opc = 0x41 ∧ check = putCheck t true)
  ∨ (∃ n fs, c = .nqMcast t n fs ∧ q = nqQ n.val ∧ opc = 0x42 ∧ check = mcastCheck t)
  ∨ (∃ n fs, c = .nqReduce t n fs ∧ q = nqQ n.val ∧ opc = 0x43 ∧ check = redCheck t)
  ∨ (∃ n fs, c = .nqXmcast t n fs ∧ q = nqQ n.val ∧ opc = 0x44 ∧ check = xmcastCheck t)
  ∨ (c = .redArm t ∧ q = 13 ∧ opc = 0x50 ∧ check = armCheck t)

/-- A queue may read its next descriptor, which is not poisoned, and none that runs has its index. -/
def descReady (s : State) (t q : Nat) : Prop :=
  mayRead s t q (leAt (nextDesc s t q).1 1 1) = true ∧ (nextDesc s t q).2 = false
  ∧ ∀ d ∈ (queueOf s t q).run, d.idx ≠ (queueOf s t q).next

/-- The next descriptor of a queue is of an opcode and passes every check. -/
def descPasses (s : State) (t q opc : Nat) (check : State → List Byte → Nat) : Prop :=
  descReady s t q ∧ leAt (nextDesc s t q).1 0 1 = opc
  ∧ stMerge (headerStatus s t (nextDesc s t q).1) (check s (nextDesc s t q).1) = stOK

/-- A command takes up the next descriptor of a queue: it runs behind those that ran, the queue is busy and goes on to the next, and no
other queue of the tile changes. -/
def takenUp (s u : State) (t q : Nat) (P : Desc → Prop) : Prop :=
  (∃ d, (queueOf u t q).run = (queueOf s t q).run ++ [d] ∧ d.idx = (queueOf s t q).next ∧ d.op = leAt (nextDesc s t q).1 0 1 ∧ P d)
  ∧ (queueOf u t q).next = ((queueOf s t q).next + 1) % 65536 ∧ tfld u t .Q_STAT f_Q_STAT_BUSY q = 1
  ∧ ∀ q', q' < 22 → q' ≠ q → queueOf u t q' = queueOf s t q'

/-- Registers that are only settings: a write of them does nothing but change them. -/
def plainReg (k : RKey) : Bool :=
  match k with
  | .tile _ r _ => [TReg.NIU_CFG, .AMQ_CFG, .AQ_SWORD, .AMQ_HANDLER, .WICK_LAND, .TPR_FLAG_BASE, .SNF_CFG, .ARB_SEL, .SHP_RST].contains r
  | .dev r _ => [DReg.ERR_CFG, .EMB_CFG, .EPC_CFG, .SNF_DEV_CFG, .SYS_CFG, .HIF_CFG, .HIF_EVT_VEC, .HIF_HWIN, .HIF_BAR2_VBASE, .GLV_CFG,
      .GLV_ALERT_EN, .PWR_WARN_US, .ARB_DEV_SEL, .SHP_DEV_RST].contains r

/-- A command makes a node wait with one more CN packet, behind those that waited: of an operation, to a node, with a field of its own; only
packets that report a rise of the tile's summary may follow it. -/
def cnAdds (s u : State) (node op dst lo len x : Nat) : Prop :=
  ∃ a l, cnqAt u node = cnqAt s node ++ a :: l ∧ a.op.toNat = op ∧ cnDst a = dst ∧ cnFld a lo len = x ∧ ∀ b ∈ l, b.op = 4

end Sys2Proof.Machine
end

