-- ==== Sys2Proof/Certificates/Slice0/Obligations.lean ====
section
/-!
DEFINITION. Sys2Proof/Certificates/Slice0/Obligations.lean: the statements for the provers, each a proposition about the machine.
-/
open Sys2Proof Sys2Proof.Machine

/-- A step runs the command at the front of the queue. For every command c and every state s, a step of s with c put at the front of
its queue is exec c on s, which holds the queue's rest. (The queue is the model's, log entry 1.) (00_scope.md) -/
def Obligations.StepRunsFrontCommand : Prop :=
  ∀ (c : Instr) (s : State), step { s with pending := c :: s.pending } = exec c s

/-- While no command waits, a step is one tick of the pilot counter. On a state whose queue is empty and whose pilot domain runs, a
step answers a next state in which GLV_PILOT has risen by one modulo 2^64, the count of the watchdog by one if the plane is
awake, and every other register and all memory are as before; where the pilot domain is held in reset, the state is as before.
That an idle step is one PCLK is the model's choice (log entry 3). (R579, R586) -/
def Obligations.IdleStepCountsOnePclk : Prop :=
  ∀ s : State, s.pending = [] →
    (pilotRuns s = true → ∃ t, step s = .next t ∧ dfld t .GLV_PILOT f_GLV_PILOT_TICKS = (pilotNow s + 1) % 2 ^ 64
      ∧ t.glvWdog = (if glvAwake s then s.glvWdog + 1 else s.glvWdog) ∧ onlyRegs s t [dk .GLV_PILOT] ∧ t.pending = [])
    ∧ (pilotRuns s = false → step s = .next s)

/-- A step takes the front command off the queue and adds none. From every state a step answers a next state, never a fault and
never a refusal, and the queue of that state is the queue of the first without its front command: no command's effect puts
commands into the queue. (The queue is the model's, log entry 1.) (00_scope.md) -/
def Obligations.StepDropsOnlyTheFrontCommand : Prop :=
  ∀ s : State, ∃ t, step s = .next t ∧ t.pending = s.pending.tail

/-- Every step keeps a sound state sound, and every RSVD bit of every register reads 0. From every sound state (memories, flash and
sparse maps in canonical form; the register store in canonical form with every RSVD bit 0), whatever command is at the front of
the queue, a step that answers a next state answers a sound one; and every bit of every register that is not in one of the
register's fields is 0 before the step and after it. (R7, R8) -/
def Obligations.StepKeepsStateSound : Prop :=
  ∀ s t : State, s.Wf → step s = .next t →
    t.Wf ∧ ∀ k : RKey, regOf s k &&& ~~~(regMask k) = 0 ∧ regOf t k &&& ~~~(regMask k) = 0

/-- The state right after reset is sound, and what reset leaves in registers of every group. In the state right after reset the two
memories, the flash and every sparse map are in canonical form, and the register store holds only entries that differ from reset
and whose RSVD bits are 0. Right after reset every register reads the reset value that its table gives, among them TILE_MTIMECMP
all ones, TILE_CORE_STAT.STOPPED 0xFFFFFF, a queue's LOG2_SIZE 4, TILE_PWR_CTRL.DOZE_IDLE 16, the arbitration defaults of R392
for a CM bank (MODE 1, WINDOW 256) and for a bulk network output (class map 0xD8, quota 64), and every byte of cluster memory
and of every vault reads 0. (R7, R8, R12, R392) -/
def Obligations.ResetIsSoundAndAsTheTablesSay : Prop :=
  State.reset.Wf ∧ (∀ k : RKey, regOf State.reset k = regReset k)
    ∧ (∀ (t : Tile) (c : Fin 24), tfld State.reset t.val .TILE_MTIMECMP f_TILE_MTIMECMP_CMP c.val = 2 ^ 64 - 1)
    ∧ (∀ t : Tile, tfld State.reset t.val .TILE_CORE_STAT f_TILE_CORE_STAT_STOPPED = 0xFFFFFF)
    ∧ (∀ (t : Tile) (q : Fin 22), tfld State.reset t.val .Q_DESC f_Q_DESC_LOG2_SIZE q.val = 4)
    ∧ (∀ t : Tile, tfld State.reset t.val .TILE_PWR_CTRL f_TILE_PWR_CTRL_DOZE_IDLE = 16)
    ∧ (∀ (t : Tile) (b : Fin 32), regOf State.reset (tk t.val .ARB_CFG_ACTIVE b.val) = 0x1000001)
    ∧ (∀ (t : Tile) (p : Fin 20), regOf State.reset (tk t.val .ARB_CFG_ACTIVE (33 + p.val)) = 0xD800400001000001)
    ∧ (∀ (t o : Nat), cmAt State.reset (cmKey t o) = 0 ∧ vltAt State.reset (vltKey t o) = 0)

/-- EMB_QUEUE_WRITE: the log takes the oldest queued event as a new entry, merges it, or counts it lost. With no event queued,
EMB_QUEUE_WRITE changes nothing. With one, it leaves the queue. While FROZEN it is counted in EMB_LOST and nothing else changes.
Otherwise, where R717 does not merge it and it is not fatal, the slot of ESEQ takes the entry's 32 bytes, NEXT rises by one
modulo 2^32, COUNT rises up to 4,096, and no other register changes. Where R717 merges it, EMB_MERGE_CNT rises, the newest
entry's slot takes the same entry with COUNT one higher, and NEXT stays. A fatal entry sets FROZEN and COPY_BUSY. (R714, R716,
R717, R718) -/
def Obligations.EmberLogTakesItsOldestEvent : Prop :=
  ∀ s : State,
    (s.embQ = [] → exec .embQueueWrite s = .next s)
    ∧ ∀ e q, s.embQ = e :: q →
      (dfld s .EMB_STAT f_EMB_STAT_FROZEN = 1 → answers .embQueueWrite s (fun t => t.embQ = q ∧ onlyRegs s t [dk .EMB_LOST]
        ∧ dfld t .EMB_LOST f_EMB_LOST_COUNT = min (dfld s .EMB_LOST f_EMB_LOST_COUNT + 1) (fmax f_EMB_LOST_COUNT)))
      ∧ (dfld s .EMB_STAT f_EMB_STAT_FROZEN = 0 → embMerges s e = false → e.cls ≠ 3 → answers .embQueueWrite s (fun t => t.embQ = q
        ∧ onlyRegs s t (dk .EMB_STAT :: (List.range 4).map (fun w => dk .EMB_RAM (4 * (embNext s % 4096) + w)))
        ∧ (∀ w, w < 4 → regOf t (dk .EMB_RAM (4 * (embNext s % 4096) + w))
            = BitVec.ofNat 64 (leAt (embSeal (embBody e (embNext s) 1)) (8 * w) 8))
        ∧ embNext t = (embNext s + 1) % 2 ^ 32
        ∧ dfld t .EMB_STAT f_EMB_STAT_COUNT = min 4096 (dfld s .EMB_STAT f_EMB_STAT_COUNT + 1)))
      ∧ (dfld s .EMB_STAT f_EMB_STAT_FROZEN = 0 → embMerges s e = true → answers .embQueueWrite s (fun t => t.embQ = q
        ∧ embNext t = embNext s
        ∧ dfld t .EMB_MERGE_CNT f_EMB_MERGE_CNT_COUNT = min (dfld s .EMB_MERGE_CNT f_EMB_MERGE_CNT_COUNT + 1) (fmax f_EMB_MERGE_CNT_COUNT)
        ∧ onlyRegs s t (dk .EMB_MERGE_CNT :: (List.range 4).map (fun w => dk .EMB_RAM (4 * ((embNext s + 2 ^ 32 - 1) % 4096) + w)))))
      ∧ (dfld s .EMB_STAT f_EMB_STAT_FROZEN = 0 → e.cls = 3 → answers .embQueueWrite s (fun t => t.embQ = q
        ∧ dfld t .EMB_STAT f_EMB_STAT_FROZEN = 1 ∧ dfld t .EMB_STAT f_EMB_STAT_COPY_BUSY = 1 ∧ dfld t .EMB_STAT f_EMB_STAT_COPIED = 0
        ∧ embNext t = (embNext s + 1) % 2 ^ 32 ∧ sameMem s t))

/-- EMB_UNFREEZE, EMB_COPY_NOW, EMB_COPY_TIMER, EMB_COPY_COMPLETE and EMB_SW_WRITE. EMB_UNFREEZE clears FROZEN where FROZEN and
COPIED read 1, and queues the information entry 0x0F02 with EMB_LOST; otherwise it changes nothing. EMB_COPY_NOW and
EMB_COPY_TIMER set COPY_BUSY and wake the plane. EMB_COPY_COMPLETE, while a copy-out runs and the plane is awake, clears
COPY_BUSY, leaves NEXT_COPY equal to NEXT, and sets COPIED after a freeze. EMB_SW_WRITE queues the information entry 0x0F01 with
the value, its SUB naming the writer, or is counted in EMB_LOST when 256 events wait. (R715, R718, R720) -/
def Obligations.EmberLogIsCopiedAndUnfrozen : Prop :=
  ∀ s : State,
    (dfld s .EMB_STAT f_EMB_STAT_FROZEN = 1 → dfld s .EMB_STAT f_EMB_STAT_COPIED = 1 → s.embQ.length < 256 →
      answers .embUnfreeze s (fun t => dfld t .EMB_STAT f_EMB_STAT_FROZEN = 0 ∧ onlyRegs s t [dk .EMB_STAT]
        ∧ t.embQ = embInsert s.embQ ⟨pilotNow s, 0x0F02, 0, true, 0, 0, dfld s .EMB_LOST f_EMB_LOST_COUNT⟩))
    ∧ (¬ (dfld s .EMB_STAT f_EMB_STAT_FROZEN = 1 ∧ dfld s .EMB_STAT f_EMB_STAT_COPIED = 1) → exec .embUnfreeze s = .next s)
    ∧ (∀ c, c = Instr.embCopyNow ∨ c = Instr.embCopyTimer → answers c s (fun t => dfld t .EMB_STAT f_EMB_STAT_COPY_BUSY = 1
        ∧ onlyRegs s t [dk .EMB_STAT] ∧ t.glvWakeReq = (s.glvWakeReq || !glvAwake s)))
    ∧ (dfld s .EMB_STAT f_EMB_STAT_COPY_BUSY = 1 → glvAwake s = true → answers .embCopyComplete s (fun t =>
        dfld t .EMB_STAT f_EMB_STAT_COPY_BUSY = 0 ∧ dfld t .EMB_COPY f_EMB_COPY_NEXT_COPY = embNext s ∧ embNext t = embNext s
        ∧ (dfld s .EMB_STAT f_EMB_STAT_FROZEN = 1 → dfld t .EMB_STAT f_EMB_STAT_COPIED = 1)
        ∧ onlyRegs s t [dk .EMB_STAT, dk .EMB_COPY, dk .EMB_OVWR]))
    ∧ (∀ (who : Requester) (v : W64), s.embQ.length < 256 → answers (.embSwWrite who v) s (fun t =>
        t.embQ = embInsert s.embQ ⟨pilotNow s, 0x0F01, 0, true, swSub who, 0, v.toNat⟩ ∧ onlyRegs s t []))
    ∧ (∀ (who : Requester) (v : W64), 256 ≤ s.embQ.length → answers (.embSwWrite who v) s (fun t =>
        t.embQ = s.embQ ∧ onlyRegs s t [dk .EMB_LOST]
        ∧ dfld t .EMB_LOST f_EMB_LOST_COUNT = min (dfld s .EMB_LOST f_EMB_LOST_COUNT + 1) (fmax f_EMB_LOST_COUNT)))

/-- ADMIT, ADMIT_JUDGEMENT_COMPLETE and ADM_RELEASE. ADMIT while no judgement runs, nothing is admitted and no map apply runs sets
BUSY and notes MAP_SEQ; while something is admitted or an apply runs it is refused with code 1; while BUSY it is refused. A
judgement that completes clears BUSY: where every check passes, ADMITTED sets, CODE reads 0, BOOT_ADM_MODEL takes the manifest's
model, and a manifest counts as admitted since reset; where one fails, ADMITTED stays, REFUSED sets and CODE and TILE name the
check and the record. RELEASE clears ADMITTED, or while BUSY does nothing. (R544, R545, R546, R547) -/
def Obligations.AdmissionIsJudgedAndReleased : Prop :=
  ∀ s : State,
    (dfld s .BOOT_ADM_STAT f_BOOT_ADM_STAT_BUSY = 0 → dfld s .BOOT_ADM_STAT f_BOOT_ADM_STAT_ADMITTED = 0 →
      dfld s .TILE_MAP_STAT f_TILE_MAP_STAT_APPLYING = 0 → answers .admitWrite s (fun t =>
        dfld t .BOOT_ADM_STAT f_BOOT_ADM_STAT_BUSY = 1 ∧ t.admSeq = dfld s .TILE_MAP_STAT f_TILE_MAP_STAT_MAP_SEQ
        ∧ onlyRegs s t [dk .BOOT_ADM_STAT]))
    ∧ (dfld s .BOOT_ADM_STAT f_BOOT_ADM_STAT_BUSY = 0 →
      (dfld s .BOOT_ADM_STAT f_BOOT_ADM_STAT_ADMITTED = 1 ∨ dfld s .TILE_MAP_STAT f_TILE_MAP_STAT_APPLYING = 1) →
      answers .admitWrite s (fun t => dfld t .BOOT_ADM_STAT f_BOOT_ADM_STAT_CODE = 1 ∧ dfld t .BOOT_ADM_STAT f_BOOT_ADM_STAT_REFUSED = 1
        ∧ dfld t .BOOT_ADM_STAT f_BOOT_ADM_STAT_BUSY = 0 ∧ onlyRegs s t [dk .BOOT_ADM_STAT, dk .BOOT_ADM_REFUSE_CNT]))
    ∧ (∀ ecc bs, dfld s .BOOT_ADM_STAT f_BOOT_ADM_STAT_BUSY = 1 → judge s ecc = (none, bs) →
      answers (.admitJudgementComplete ecc) s (fun t => dfld t .BOOT_ADM_STAT f_BOOT_ADM_STAT_BUSY = 0
        ∧ dfld t .BOOT_ADM_STAT f_BOOT_ADM_STAT_ADMITTED = 1 ∧ dfld t .BOOT_ADM_STAT f_BOOT_ADM_STAT_CODE = 0
        ∧ regOf t (dk .BOOT_ADM_MODEL) = BitVec.ofNat 64 (leAt bs 8 8) ∧ t.admittedSince = true))
    ∧ (∀ ecc bs code tile, dfld s .BOOT_ADM_STAT f_BOOT_ADM_STAT_BUSY = 1 → judge s ecc = (some (code, tile), bs) →
      answers (.admitJudgementComplete ecc) s (fun t => dfld t .BOOT_ADM_STAT f_BOOT_ADM_STAT_BUSY = 0
        ∧ dfld t .BOOT_ADM_STAT f_BOOT_ADM_STAT_ADMITTED = dfld s .BOOT_ADM_STAT f_BOOT_ADM_STAT_ADMITTED
        ∧ dfld t .BOOT_ADM_STAT f_BOOT_ADM_STAT_REFUSED = 1
        ∧ dfld t .BOOT_ADM_STAT f_BOOT_ADM_STAT_CODE = code % 2 ^ f_BOOT_ADM_STAT_CODE.len
        ∧ dfld t .BOOT_ADM_STAT f_BOOT_ADM_STAT_TILE = tile % 2 ^ f_BOOT_ADM_STAT_TILE.len))
    ∧ (dfld s .BOOT_ADM_STAT f_BOOT_ADM_STAT_BUSY = 0 → answers .admRelease s (fun t =>
        dfld t .BOOT_ADM_STAT f_BOOT_ADM_STAT_ADMITTED = 0 ∧ onlyRegs s t [dk .BOOT_ADM_STAT]))
    ∧ (dfld s .BOOT_ADM_STAT f_BOOT_ADM_STAT_BUSY = 1 → exec .admRelease s = .next s)

/-- IVR_GROUP_START, IVR_SOFTSTART_CHECK, IVR_FAULT_IN_OPERATION and IVR_RETRY_START. IVR_GROUP_START puts every OFF regulator of
the next group of the start order into RAMP and leaves the state of every other. The check at 250 µs that finds a first ramp
good turns it ON and changes no other register but, for a tile domain, what TILE_MEM_STAT and the boot stage then say; the check
at 100 µs that finds no fault changes nothing; on a regulator that does not ramp a check changes nothing. A check that finds a
fault, and a fault in operation, put the regulator into WAIT with one more attempt and the code of the fault (100 µs 1, 250 µs
2, overcurrent 3, overvoltage 4), or with the fourth attempt into LATCHED. IVR_RETRY_START puts a waiting regulator into RAMP
and changes no other register. (R649, R650, R651) -/
def Obligations.RegulatorsStartAndFail : Prop :=
  ∀ s : State,
    (railsOff s = false → s.testMode = false → answers .ivrGroupStart s (fun t => t.ivrNext = min 6 (s.ivrNext + 1)
      ∧ (∀ i, i < 75 → i ∈ ivrGroup s.ivrNext → ivrState s i = 0 → ivrState t i = 1)
      ∧ (∀ i, i < 75 → (i ∉ ivrGroup s.ivrNext ∨ ivrState s i ≠ 0) → ivrState t i = ivrState s i) ∧ sameMem s t))
    ∧ ∀ i : Fin 75,
      (ivrState s i = 1 → ivr s i f_IVR_STAT_ATTEMPTS = 0 → answers (.ivrSoftstartCheck i true false) s (fun t =>
        ivrState t i = 2 ∧ ivr t i f_IVR_STAT_ATTEMPTS = 0
        ∧ onlyRegs s t (dk .IVR_STAT i :: if i.val < 68 then [dk .TILE_MEM_STAT, dk .BOOT_STAT] else [])))
      ∧ exec (.ivrSoftstartCheck i false false) s = .next s
      ∧ (∀ late bad, ivrState s i ≠ 1 → exec (.ivrSoftstartCheck i late bad) s = .next s)
      ∧ (∀ c code, ((∃ late, c = Instr.ivrSoftstartCheck i late true ∧ ivrState s i = 1 ∧ code = if late then 2 else 1)
          ∨ (∃ ov, c = Instr.ivrFaultInOperation i ov ∧ ivrState s i = 2 ∧ code = if ov then 4 else 3)) →
        answers c s (fun t =>
          ivrState t i = (if 4 ≤ ivr s i f_IVR_STAT_ATTEMPTS + 1 then 4 else 3)
          ∧ ivr t i f_IVR_STAT_ATTEMPTS = (ivr s i f_IVR_STAT_ATTEMPTS + 1) % 2 ^ f_IVR_STAT_ATTEMPTS.len
          ∧ ivr t i f_IVR_STAT_FAULT = code))
      ∧ (ivrState s i = 3 → answers (.ivrRetryStart i) s (fun t => ivrState t i = 1 ∧ onlyRegs s t [dk .IVR_STAT i]))

/-- PWRBRAKE_N_ASSERT, PWRBRAKE_N_RELEASE, VIN_UNDERVOLTAGE, VIN_UV_CLEAR and EXCURSION_HOLD_END. PWRBRAKE_N seen low sets
GLV_FAST.PWRBRAKE and BRAKE; an input undervoltage sets VIN_UV and BRAKE; and where no brake was in force and no trip is, CCLK,
FCLK and duty drop to the brake preset or stay where they are lower. PWRBRAKE_N seen high, the end of the undervoltage and the
end of the excursion hold end the brake where no other source of it remains and no trip is in force. None of them touches
memory. (R603, R657, R658, R663) -/
def Obligations.BrakeFollowsItsSources : Prop :=
  ∀ s : State,
    (∀ c, ((c = Instr.pwrbrakeNAssert ∧ dfld s .GLV_FAST f_GLV_FAST_PWRBRAKE = 0) ∨ (c = Instr.vinUndervoltage ∧ pst s f_PWR_STAT_VIN_UV = 0)) →
      answers c s (fun t => pst t f_PWR_STAT_BRAKE = 1 ∧ sameMem s t
        ∧ (c = .pwrbrakeNAssert → dfld t .GLV_FAST f_GLV_FAST_PWRBRAKE = 1) ∧ (c = .vinUndervoltage → pst t f_PWR_STAT_VIN_UV = 1)
        ∧ (pst s f_PWR_STAT_BRAKE = 0 → tripped s = false →
          cclk t = min (cclk s) (brakeCfg s f_PWR_BRAKE_CFG_BRAKE_CCLK) ∧ fclk t = min (fclk s) (brakeCfg s f_PWR_BRAKE_CFG_BRAKE_FCLK)
            ∧ duty t = min (duty s) (brakeCfg s f_PWR_BRAKE_CFG_BRAKE_DUTY))))
    ∧ (pst s f_PWR_STAT_VIN_UV = 0 → s.excHold = false → tripped s = false → answers .pwrbrakeNRelease s (fun t =>
        dfld t .GLV_FAST f_GLV_FAST_PWRBRAKE = 0 ∧ pst t f_PWR_STAT_BRAKE = 0 ∧ sameMem s t))
    ∧ (dfld s .GLV_FAST f_GLV_FAST_PWRBRAKE = 0 → s.excHold = false → tripped s = false → answers .vinUvClear s (fun t =>
        pst t f_PWR_STAT_VIN_UV = 0 ∧ pst t f_PWR_STAT_BRAKE = 0 ∧ sameMem s t))
    ∧ (dfld s .GLV_FAST f_GLV_FAST_PWRBRAKE = 0 → pst s f_PWR_STAT_VIN_UV = 0 → tripped s = false → answers .excursionHoldEnd s (fun t =>
        t.excHold = false ∧ pst t f_PWR_STAT_BRAKE = 0 ∧ sameMem s t))

/-- TEMP_SAMPLE, THERM_WARN_THROTTLE, THERM_TRIP_CLEAR and CRITICAL_SHUTDOWN. TEMP_SAMPLE gives every sensor that reads its reading
and marks it valid. Under a warning and no trip, THERM_WARN_THROTTLE lowers CCLK by 25 MHz where it is above MIN and leaves FCLK
and duty. THERM_TRIP_CLEAR ends a trip where every valid sensor reads below TRIP_T − 10 °C, and with it THERM. A first
CRITICAL_SHUTDOWN switches IVRs 0 to 73 off and raises a fatal error; a second changes nothing. (R647, R661, R663) -/
def Obligations.ThermalLevelsThrottleAndTrip : Prop :=
  ∀ s : State,
    (∀ rs : Vector TempReading 16, answers (.tempSample rs) s (fun t => ∀ (n : Fin 16) x, rs.get n = some x →
        dfld t .PWR_TEMP f_PWR_TEMP_VALID n = 1 ∧ dfld t .PWR_TEMP f_PWR_TEMP_TEMP n = x.toNat))
    ∧ (pst s f_PWR_STAT_WARN = 1 → tripped s = false → clkCfg s f_PWR_CLK_CFG_CCLK_MIN < cclk s →
      answers .thermWarnThrottle s (fun t => cclk t = cclk s - 1 ∧ fclk t = fclk s ∧ duty t = duty s
        ∧ onlyRegs s t [dk .PWR_CLK_STAT, dk .PWR_STAT, dk .GLV_ALERT_SRC]))
    ∧ (tripped s = true → sensorAt s (tripT s - 160) = none → answers .thermTripClear s (fun t =>
        tripped t = false ∧ dfld t .GLV_FAST f_GLV_FAST_THERM = 0 ∧ sameMem s t))
    ∧ (∀ high vin, s.critical = false → answers (.criticalShutdown high vin) s (fun t => t.critical = true
        ∧ (∀ i, i < 74 → ivrState t i = 0) ∧ (regOf t (dk .ERR_STAT)).getLsbD 3 = true))
    ∧ (∀ high vin, s.critical = true → exec (.criticalShutdown high vin) s = .next s)

/-- POWER_LOOP_TICK above the cap, and VOLTAGE_LOOP_TICK. POWER_LOOP_TICK shows the sample in P_NOW; where it exceeds the cap in
force, no excursion begins, no trip is in force, the clocks keep to their bounds and CCLK is above MIN, CCLK comes down by 50
MHz but not below MIN and FCLK and duty stay. VOLTAGE_LOOP_TICK on a running regulator raises the target by 5 mV up to its
ceiling where the margin is short, keeps it where it is enough, lowers it by 0.25 mV down to 600 mV where it is in excess, and
shows VOUT and IOUT; on any other it changes nothing. (R646, R656, R659) -/
def Obligations.PowerLoopLowersAndVoltageLoopSteps : Prop :=
  ∀ s : State,
    (∀ (p vin iin v5 : BitVec 16) (margin : Bool),
      ((p.toNat :: s.pwrHist).take 10).foldl (· + ·) 0 / 10 ≤ 1900 → tripped s = false → cclk s ≤ cclkBound s → fclk s ≤ fclkBound s →
      capNow s < p.toNat → clkCfg s f_PWR_CLK_CFG_CCLK_MIN < cclk s →
      answers (.powerLoopTick p vin iin v5 margin) s (fun t => dfld t .PWR_MEAS f_PWR_MEAS_P_NOW = p.toNat
        ∧ cclk t = stepDown (cclk s) (clkCfg s f_PWR_CLK_CFG_CCLK_MIN) ∧ fclk t = fclk s ∧ duty t = duty s ∧ sameMem s t))
    ∧ (∀ (i : Fin 72) m (vout : BitVec 10) (iout : BitVec 16), ivrState s i = 2 →
      answers (.voltageLoopTick i m vout iout) s (fun t =>
        vTgtAt t i = (match m with
          | .short => min (ceiling s i) (min (vTgtAt s i) (ceiling s i) + 20)
          | .enough => min (vTgtAt s i) (ceiling s i)
          | .excess => max (min (min (vTgtAt s i) (ceiling s i)) 2400) (min (vTgtAt s i) (ceiling s i) - 1))
        ∧ ivr t i f_IVR_STAT_VOUT = vout.toNat ∧ ivr t i f_IVR_STAT_IOUT = iout.toNat ∧ ivrState t i = 2
        ∧ onlyRegs s t [dk .IVR_STAT i, dk .IVR_STRETCH_CNT i, dk .PWR_STAT]))
    ∧ (∀ (i : Fin 72) m (vout : BitVec 10) (iout : BitVec 16), ivrState s i ≠ 2 → exec (.voltageLoopTick i m vout iout) s = .next s)

/-- PWR_HOST_CAP_WRITE, PWR_CAP_LATCH_WRITE, PWR_CLK_CFG_WRITE and PWR_VMAX_WRITE. A write to PWR_HOST_CAP of 0 or 400 to 1,500 W is
taken, and IN_FORCE follows; any other is refused: CFG_ERR sets and the register stays. A write to PWR_CAP_LATCH is taken from
the Glovos plane with both caps in 400 to 1,500 W, and is refused from anyone else. A write to PWR_CLK_CFG whose bounds are in
range and in order is taken, and one that is not is refused. A write to PWR_VMAX with both ceilings in 600 to 950 mV is taken,
and no target of a logic output then stands above its ceiling. (R655, R665, R668, R669) -/
def Obligations.CheckedPowerRegistersTakeOrRefuse : Prop :=
  ∀ (s : State) (v : W64),
    (fget v f_PWR_HOST_CAP_CAP = 0 ∨ (400 ≤ fget v f_PWR_HOST_CAP_CAP ∧ fget v f_PWR_HOST_CAP_CAP ≤ 1500) →
      answers (.pwrHostCapWrite v) s (fun t => dfld t .PWR_HOST_CAP f_PWR_HOST_CAP_CAP = fget v f_PWR_HOST_CAP_CAP
        ∧ capNow t = (capPick (capTerms t)).1 ∧ onlyRegs s t [dk .PWR_HOST_CAP, dk .PWR_CAP_LATCH]))
    ∧ (fget v f_PWR_HOST_CAP_CAP ≠ 0 → (fget v f_PWR_HOST_CAP_CAP < 400 ∨ 1500 < fget v f_PWR_HOST_CAP_CAP) →
      answers (.pwrHostCapWrite v) s (fun t => pst t f_PWR_STAT_CFG_ERR = 1 ∧ regOf t (dk .PWR_HOST_CAP) = regOf s (dk .PWR_HOST_CAP)))
    ∧ (400 ≤ fget v f_PWR_CAP_LATCH_DICT_CAP → fget v f_PWR_CAP_LATCH_DICT_CAP ≤ 1500 → 400 ≤ fget v f_PWR_CAP_LATCH_BRAKE_LEVEL →
      fget v f_PWR_CAP_LATCH_BRAKE_LEVEL ≤ 1500 → answers (.pwrCapLatchWrite .glovos v) s (fun t =>
        dfld t .PWR_CAP_LATCH f_PWR_CAP_LATCH_DICT_CAP = fget v f_PWR_CAP_LATCH_DICT_CAP
        ∧ dfld t .PWR_CAP_LATCH f_PWR_CAP_LATCH_BRAKE_LEVEL = fget v f_PWR_CAP_LATCH_BRAKE_LEVEL
        ∧ capNow t = (capPick (capTerms t)).1 ∧ onlyRegs s t [dk .PWR_CAP_LATCH]))
    ∧ (∀ who, who ≠ Requester.glovos → answers (.pwrCapLatchWrite who v) s (fun t => pst t f_PWR_STAT_CFG_ERR = 1
        ∧ dfld t .PWR_CAP_LATCH f_PWR_CAP_LATCH_DICT_CAP = dfld s .PWR_CAP_LATCH f_PWR_CAP_LATCH_DICT_CAP
        ∧ dfld t .PWR_CAP_LATCH f_PWR_CAP_LATCH_BRAKE_LEVEL = dfld s .PWR_CAP_LATCH f_PWR_CAP_LATCH_BRAKE_LEVEL))
    ∧ (clkBad (wouldBe s (dk .PWR_CLK_CFG) v allBits) = none → answers (.pwrClkCfgWrite v) s (fun t =>
        (∀ f ∈ regFields (dk .PWR_CLK_CFG), f.acc = .rw → dfld t .PWR_CLK_CFG f = fget v f)
        ∧ onlyRegs s t [dk .PWR_CLK_CFG, dk .PWR_STAT, dk .GLV_ALERT_SRC]))
    ∧ (clkBad (wouldBe s (dk .PWR_CLK_CFG) v allBits) ≠ none → answers (.pwrClkCfgWrite v) s (fun t =>
        pst t f_PWR_STAT_CFG_ERR = 1 ∧ regOf t (dk .PWR_CLK_CFG) = regOf s (dk .PWR_CLK_CFG)))
    ∧ (600 ≤ fget v f_PWR_VMAX_VMAX_F → fget v f_PWR_VMAX_VMAX_F ≤ 950 → 600 ≤ fget v f_PWR_VMAX_VMAX_T → fget v f_PWR_VMAX_VMAX_T ≤ 950 →
      answers (.pwrVmaxWrite v) s (fun t => dfld t .PWR_VMAX f_PWR_VMAX_VMAX_F = fget v f_PWR_VMAX_VMAX_F
        ∧ dfld t .PWR_VMAX f_PWR_VMAX_VMAX_T = fget v f_PWR_VMAX_VMAX_T ∧ (∀ i, i < 72 → vTgtAt t i ≤ ceiling t i) ∧ sameMem s t))

/-- GLV_WAKE_EVENT, GLV_WAKE_COMPLETE, GLV_SLEEP_ENTER, GLV_CTRL_WAKE, GLV_WDOG_KICK and GLV_ALERT_SET_WRITE. A wake event of an
ASLEEP plane makes it WAKING and counts in GLV_WAKE_CNT; the end of the wake makes it AWAKE with no wake event left; where the
idle conditions hold, GLV_SLEEP_ENTER makes it ASLEEP, and elsewhere changes nothing. GLV_CTRL.WAKE asks a plane that is not
awake to wake, and changes nothing of one that is. A write to GLV_WDOG_KICK restarts the count of the watchdog. A write of 1 to
GLV_ALERT_SET.FW sets bit 8 of GLV_ALERT_SRC, and any other write changes nothing. (R583, R584, R585, R586, R604) -/
def Obligations.GlovosPlaneSleepsAndWakes : Prop :=
  ∀ s : State,
    (s.glvWakeReq = true → glvState s = 0 → answers .glvWakeEvent s (fun t => glvState t = 1
      ∧ dfld t .GLV_WAKE_CNT f_GLV_WAKE_CNT_COUNT = min (dfld s .GLV_WAKE_CNT f_GLV_WAKE_CNT_COUNT + 1) (fmax f_GLV_WAKE_CNT_COUNT)
      ∧ onlyRegs s t [dk .GLV_STAT, dk .GLV_WAKE_CNT]))
    ∧ (glvState s ≠ 0 → exec .glvWakeEvent s = .next s)
    ∧ (glvState s = 1 → answers .glvWakeComplete s (fun t => glvState t = 2))
    ∧ (glvState s = 1 → s.canRx = [] → dfld s .BOOT_STAT f_BOOT_STAT_STAGE = 7 → answers .glvWakeComplete s (fun t =>
        glvState t = 2 ∧ t.glvWakeReq = false ∧ onlyRegs s t [dk .GLV_STAT]))
    ∧ (mayGlvSleep s = true → answers .glvSleepEnter s (fun t => glvState t = 0 ∧ onlyRegs s t [dk .GLV_STAT]))
    ∧ (mayGlvSleep s = false → exec .glvSleepEnter s = .next s)
    ∧ (glvAwake s = false → answers .glvCtrlWake s (fun t => t.glvWakeReq = true ∧ onlyRegs s t []))
    ∧ (glvAwake s = true → exec .glvCtrlWake s = .next s)
    ∧ answers .glvWdogKick s (fun t => t.glvWdog = 0 ∧ onlyRegs s t [])
    ∧ (∀ v : W64, v.getLsbD 8 = true → answers (.glvAlertSetWrite v) s (fun t =>
        (regOf t (dk .GLV_ALERT_SRC)).getLsbD 8 = true ∧ onlyRegs s t [dk .GLV_ALERT_SRC]))
    ∧ (∀ v : W64, v.getLsbD 8 = false → exec (.glvAlertSetWrite v) s = .next s)

/-- The five causes of a restart, and GLV_RESTART_COMPLETE. A lockstep mismatch (1), the watchdog at its limit (2), an uncorrectable
SRAM error (3), a request of the firmware (4) and GLV_CTRL.RESTART (5) start a restart in the states in which the cause can
arise, unless it would be the fourth within 10 s: STATE reads 3 and RESTARTING 1, LAST_CAUSE names the cause, RESTARTS counts
it, the mailboxes, the waiting requests and the sessions are gone. GLV_CTRL.RESTART also starts one from HALTED. A restart that
completes on good firmware leaves the plane AWAKE with RESTARTING 0; from any other state it changes no register. No restart
touches cluster memory or a vault. (R580, R581, R586, R587, R588, R589) -/
def Obligations.GlovosPlaneRestarts : Prop :=
  ∀ s : State,
    (∀ c cause, ((c = Instr.glvLockstepMismatch ∧ cause = 1) ∨ (c = Instr.glvWatchdogExpire ∧ cause = 2 ∧ wdogLimit s ≤ s.glvWdog)
        ∨ (c = Instr.glvSramUe ∧ cause = 3) ∨ (c = Instr.glvFirmwareRestart ∧ cause = 4) ∨ (c = Instr.glvCtrlRestart ∧ cause = 5)) →
      causeArises s cause = true → (glvState s = 4 ∨ fourthCause s = false) →
      answers c s (fun t => glvState t = 3 ∧ dfld t .GLV_STAT f_GLV_STAT_RESTARTING = 1 ∧ dfld t .GLV_STAT f_GLV_STAT_LAST_CAUSE = cause
        ∧ dfld t .GLV_STAT f_GLV_STAT_RESTARTS = min (dfld s .GLV_STAT f_GLV_STAT_RESTARTS + 1) (fmax f_GLV_STAT_RESTARTS)
        ∧ t.spiRx = [] ∧ t.spiTx = [] ∧ t.dictQ = [] ∧ t.sess = [] ∧ t.glvCauseAt = pilotNow s ∧ sameMem s t))
    ∧ (glvState s = 3 → firmwareOk s (runningSlot s) = true → answers .glvRestartComplete s (fun t =>
        glvState t = 2 ∧ dfld t .GLV_STAT f_GLV_STAT_RESTARTING = 0))
    ∧ (glvState s ≠ 3 → answers .glvRestartComplete s (fun t => onlyRegs s t []))

/-- HELLO_TIMER, MGMT_WORD_RECEIVE, DOE_REQUEST and DOE_ABORT. With HELLO_S 0 the HELLO timer changes nothing; while the plane does
not run, it notes that HELLO words are due and wakes the plane; while it runs, no HELLO words are due afterwards. The plane that
runs takes the oldest management word of a port; one that is no HELLO word is counted in GLV_MGMT_BAD_CNT. Without a word, or
while it does not run, nothing changes. A request to an idle DOE mailbox is answered at once while the firmware runs, and waits
while it does not; one that finds the mailbox busy changes nothing. DOE_ABORT leaves neither a request nor an answer. Neither
changes a register. (R572, R573, R605) -/
def Obligations.HelloWordsAndDoeMailbox : Prop :=
  ∀ s : State,
    (dfld s .GLV_CFG f_GLV_CFG_HELLO_S = 0 → exec .helloTimer s = .next s)
    ∧ (dfld s .GLV_CFG f_GLV_CFG_HELLO_S ≠ 0 → fwRuns s = false → glvAwake s = false → answers .helloTimer s (fun t =>
        t.helloDue = true ∧ t.glvWakeReq = true ∧ onlyRegs s t []))
    ∧ (dfld s .GLV_CFG f_GLV_CFG_HELLO_S ≠ 0 → fwRuns s = true → answers .helloTimer s (fun t => t.helloDue = false))
    ∧ (∀ n : Port,
      (fwRuns s = true → (wlp s n).mRxq ≠ [] → (wlpMgmtHead s n).toNat / 2 ^ 60 ≠ 1 → answers (.mgmtWordReceive n) s (fun t =>
        (wlp t n).mRxq = (wlp s n).mRxq.drop 1
        ∧ dfld t .GLV_MGMT_BAD_CNT f_GLV_MGMT_BAD_CNT_COUNT
            = min (dfld s .GLV_MGMT_BAD_CNT f_GLV_MGMT_BAD_CNT_COUNT + 1) (fmax f_GLV_MGMT_BAD_CNT_COUNT)))
      ∧ ((fwRuns s = false ∨ (wlp s n).mRxq = []) → exec (.mgmtWordReceive n) s = .next s))
    ∧ (∀ r : DoeReq, (s.doe = none → fwRuns s = true → answers (.doeRequest r) s (fun t => t.doe = none ∧ onlyRegs s t []
      ∧ t.doeAns = some (doeAnswer { s with doe := some r, doeAns := none } r)))
    ∧ (s.doe = none → fwRuns s = false → answers (.doeRequest r) s (fun t => t.doe = some r ∧ t.doeAns = none ∧ onlyRegs s t []))
    ∧ (s.doe ≠ none → exec (.doeRequest r) s = .next s)
    ∧ answers .doeAbort s (fun t => t.doe = none ∧ t.doeAns = none ∧ onlyRegs s t []))

/-- SPI_NOP, SPI_READ_WINDOW, SPI_READ_MAILBOX, SPI_WRITE_WINDOW and SPI_WRITE_MAILBOX complete. With the pilot domain running, each
of the five transactions counts in SPT_TXN_CNT and in the status word's count, records its command word, and shifts out the
status word and its data words. A READ of the mailbox takes its words out of the plane-to-board FIFO. A WRITE of the mailbox, of
an asleep plane with room for it, appends its words to the board-to-plane FIFO and wakes the plane. A WRITE of one word to the
hardware window at address 10 clears the bits of GLV_ALERT_SRC that it names. With extra clocks, XTRA sets and SPT_XTRA counts
them. (R592, R593, R594, R595, R598, R599) -/
def Obligations.SpiTransactionsComplete : Prop :=
  ∀ (s : State) (mode3 : Bool) (extra : Nat), pilotOn s = true →
    (∀ c w, ((∃ a : BitVec 16, c = Instr.spiNop mode3 a extra ∧ w = spiCmd 0 false 0 a.toNat)
        ∨ (∃ (n : Fin 257) (a : BitVec 16), c = .spiReadWindow mode3 n a extra ∧ w = spiCmd 1 false n a.toNat)
        ∨ (∃ n : Fin 257, c = .spiReadMailbox mode3 n extra ∧ w = spiCmd 1 true n 0)
        ∨ (∃ (a : BitVec 16) (d : List (BitVec 32)), c = .spiWriteWindow mode3 a d extra ∧ w = spiCmd 2 false (min 256 d.length) a.toNat)
        ∨ (∃ d : List (BitVec 32), c = .spiWriteMailbox mode3 d extra ∧ w = spiCmd 2 true (min 256 d.length) 0)) →
      answers c s (fun t => t.spiTxn = (s.spiTxn + 1) % 65536
        ∧ dfld t .SPT_TXN_CNT f_SPT_TXN_CNT_COUNT = min (dfld s .SPT_TXN_CNT f_SPT_TXN_CNT_COUNT + 1) (fmax f_SPT_TXN_CNT_COUNT)
        ∧ t.spiPrev = (if extra = 0 then 0 else 2) ∧ t.ansOut = spiShift (spiOut { s with canOut := [] } w) (32 * spiWords w + extra)
        ∧ regOf t (dk .SPT_LAST_CMD) = BitVec.ofNat 64 (2 ^ 63 + w) &&& regMask (dk .SPT_LAST_CMD) ∧ sameMem s t))
    ∧ (∀ n : Fin 257, glvDeaf s = false → s.spiRsp = [] → answers (.spiReadMailbox mode3 n extra) s (fun t => t.spiTx = s.spiTx.drop n))
    ∧ (∀ d : List (BitVec 32), d ≠ [] → d.length ≤ 256 → glvState s ≤ 1 → spiRxWords s + d.length ≤ 1024 →
      answers (.spiWriteMailbox mode3 d extra) s (fun t => t.spiRx = s.spiRx ++ d.map (fun x => some x.toNat) ∧ t.glvWakeReq = true))
    ∧ (∀ x : BitVec 32, answers (.spiWriteWindow mode3 10 [x] extra) s (fun t =>
        regOf t (dk .GLV_ALERT_SRC) = accWrite (regFields (dk .GLV_ALERT_SRC)) (regOf s (dk .GLV_ALERT_SRC)) (BitVec.ofNat 64 x.toNat) allBits
          &&& regMask (dk .GLV_ALERT_SRC)))
    ∧ (extra ≠ 0 → answers (.spiNop mode3 0 extra) s (fun t => dfld t .SPT_STAT f_SPT_STAT_XTRA = 1
        ∧ dfld t .SPT_XTRA f_SPT_XTRA_CLOCKS = min (dfld s .SPT_XTRA f_SPT_XTRA_CLOCKS + extra) (fmax f_SPT_XTRA_CLOCKS)))

/-- SPI_ABORT, SPI_EARLY_SELECT and SPI_INVALID_COMMAND. With the pilot domain running, a transaction cut short, in its command word
or before the end of what a valid command word declares, sets ABORT, counts in SPT_ABORT_CNT and leaves the count of
transactions. A transaction with an invalid command word sets CMD_ERR, counts in SPT_CMDERR_CNT, shifts out ones after the
status word and leaves the mailboxes. A select that falls too early sets EARLY and changes no other register. While the pilot
domain is held in reset, none of them changes a register. (R592, R596, R597) -/
def Obligations.SpiTransactionsThatEndBadly : Prop :=
  ∀ s : State,
    (∀ mode3 (cmd : BitVec 32) clocks d, pilotOn s = true →
      (clocks < 32 ∨ (spiValid cmd.toNat = true ∧ clocks < 32 * spiWords cmd.toNat)) →
      answers (.spiAbort mode3 cmd clocks d) s (fun t => dfld t .SPT_STAT f_SPT_STAT_ABORT = 1 ∧ t.spiPrev = 1 ∧ t.spiTxn = s.spiTxn
        ∧ dfld t .SPT_ABORT_CNT f_SPT_ABORT_CNT_COUNT = min (dfld s .SPT_ABORT_CNT f_SPT_ABORT_CNT_COUNT + 1) (fmax f_SPT_ABORT_CNT_COUNT)))
    ∧ (∀ mode3 (cmd : BitVec 32) more, pilotOn s = true → spiValid cmd.toNat = false →
      answers (.spiInvalidCommand mode3 cmd more) s (fun t => dfld t .SPT_STAT f_SPT_STAT_CMD_ERR = 1 ∧ t.spiPrev = 4 ∧ t.spiTxn = s.spiTxn
        ∧ t.spiRx = s.spiRx ∧ t.spiTx = s.spiTx
        ∧ dfld t .SPT_CMDERR_CNT f_SPT_CMDERR_CNT_COUNT = min (dfld s .SPT_CMDERR_CNT f_SPT_CMDERR_CNT_COUNT + 1) (fmax f_SPT_CMDERR_CNT_COUNT)
        ∧ onlyRegs s t [dk .SPT_STAT, dk .SPT_LAST_CMD, dk .SPT_CMDERR_CNT]))
    ∧ (∀ clocks, pilotOn s = true → answers (.spiEarlySelect clocks) s (fun t => dfld t .SPT_STAT f_SPT_STAT_EARLY = 1
        ∧ t.ansOut = List.replicate (clocks / 8) 0xFF ∧ onlyRegs s t [dk .SPT_STAT]))
    ∧ (∀ c, ((∃ mode3 cmd clocks d, c = Instr.spiAbort mode3 cmd clocks d) ∨ (∃ clocks, c = .spiEarlySelect clocks)
        ∨ (∃ mode3 cmd more, c = .spiInvalidCommand mode3 cmd more)) → pilotOn s = false → answers c s (fun t => onlyRegs s t []))

/-- CAN_FRAME_RECEIVE, CAN_REASSEMBLY_TIMEOUT, CAN_BUS_ERROR and CAN_BUS_OFF_RECOVERY. With the pilot domain running and the
controller not bus-off: a classical frame is counted; a frame for this node or for every node enters the receive buffer of an
asleep plane, counts in GLV_CAN_RX_CNT and wakes the plane; while the plane restarts or is halted, or with 32 frames waiting, it
is dropped and counted. A reassembly without a segment for 100 ms is discarded and counted, and without one nothing changes. A
transmit error raises TEC by 8 and a receive error REC by 8 or 1, and the error state follows (the sizes are the model's, log
entry 13). The end of bus-off clears both counts and sends what waited. (R600, R601, R602, R584, R590) -/
def Obligations.CanFramesAndErrors : Prop :=
  ∀ s : State,
    (pilotOn s = true → canOff s = false → canStat s f_GLV_CAN_STAT_REC = 0 →
      (∀ f, answers (.canFrameReceive f true) s (fun t => t.canRx = s.canRx ∧ onlyRegs s t [dk .GLV_CAN_CLASSIC_CNT]
        ∧ dfld t .GLV_CAN_CLASSIC_CNT f_GLV_CAN_CLASSIC_CNT_COUNT
            = min (dfld s .GLV_CAN_CLASSIC_CNT f_GLV_CAN_CLASSIC_CNT_COUNT + 1) (fmax f_GLV_CAN_CLASSIC_CNT_COUNT)))
      ∧ (∀ f : CanFrame, canNode s ≠ 0 → (f.dst.toNat = canNode s ∨ f.dst.toNat = 127) →
        (s.canRx.length < 32 → glvState s ≤ 1 → answers (.canFrameReceive f false) s (fun t => t.canRx = s.canRx ++ [f] ∧ t.glvWakeReq = true
          ∧ dfld t .GLV_CAN_RX_CNT f_GLV_CAN_RX_CNT_COUNT = min (dfld s .GLV_CAN_RX_CNT f_GLV_CAN_RX_CNT_COUNT + 1) (fmax f_GLV_CAN_RX_CNT_COUNT)
          ∧ onlyRegs s t [dk .GLV_CAN_RX_CNT]))
        ∧ ((32 ≤ s.canRx.length ∨ glvDeaf s = true) → answers (.canFrameReceive f false) s (fun t => t.canRx = s.canRx
          ∧ dfld t .GLV_CAN_DROP_CNT f_GLV_CAN_DROP_CNT_COUNT
              = min (dfld s .GLV_CAN_DROP_CNT f_GLV_CAN_DROP_CNT_COUNT + 1) (fmax f_GLV_CAN_DROP_CNT_COUNT)
          ∧ onlyRegs s t [dk .GLV_CAN_DROP_CNT]))))
    ∧ (∀ (src : BitVec 7) (xid : BitVec 9),
      ((canOpen s src.toNat xid.toNat).isSome → answers (.canReassemblyTimeout src xid) s (fun t =>
        t.canAsm = canOthers s src.toNat xid.toNat ∧ onlyRegs s t [dk .GLV_CAN_REASM_ERR_CNT]
        ∧ dfld t .GLV_CAN_REASM_ERR_CNT f_GLV_CAN_REASM_ERR_CNT_COUNT
            = min (dfld s .GLV_CAN_REASM_ERR_CNT f_GLV_CAN_REASM_ERR_CNT_COUNT + 1) (fmax f_GLV_CAN_REASM_ERR_CNT_COUNT)))
      ∧ (canOpen s src.toNat xid.toNat = none → exec (.canReassemblyTimeout src xid) s = .next s))
    ∧ (∀ tx primary, pilotOn s = true → canOff s = false → answers (.canBusError tx primary) s (fun t =>
        canStat t f_GLV_CAN_STAT_TEC = (if tx then min 255 (canStat s f_GLV_CAN_STAT_TEC + 8) else min 255 (canStat s f_GLV_CAN_STAT_TEC))
        ∧ canStat t f_GLV_CAN_STAT_REC
            = (if tx then min 255 (canStat s f_GLV_CAN_STAT_REC) else min 255 (canStat s f_GLV_CAN_STAT_REC + if primary then 8 else 1))
        ∧ (tx = true → 255 < canStat s f_GLV_CAN_STAT_TEC + 8 → canOff t = true) ∧ onlyRegs s t [dk .GLV_CAN_STAT]))
    ∧ (canOff s = true → answers .canBusOffRecovery s (fun t => canStat t f_GLV_CAN_STAT_REC = 0 ∧ canStat t f_GLV_CAN_STAT_TEC = 0
        ∧ canOff t = false ∧ t.canBt = none ∧ t.canWait = [] ∧ (canNode s ≠ 0 → t.canOut = s.canWait)
        ∧ onlyRegs s t [dk .GLV_CAN_STAT, dk .GLV_CAN_TX_CNT]))
    ∧ (canOff s = false → answers .canBusOffRecovery s (fun t => onlyRegs s t []))

/-- DICT_READ and DICT_WRITE of the one request that waits. While the firmware runs and one READ of the PCIe mailbox waits: where it
names a readable object without a session, the mailbox holds a response with status OK and the object's value; where it fails
one of the first orders of R620, a response with that status. While one WRITE waits that the first orders let through: where its
outcome is OK and the object is one that only stores its value, the object holds the value afterwards; where it is refused, no
object but the count of refused writes changes; and where the object's writes are journaled, the journal's next number rises by
one. In each case no request waits afterwards. (R613, R616, R620, R625, R626, R635) -/
def Obligations.DictionaryReadsAndWrites : Prop :=
  ∀ (s : State) (q : DictReq), s.dictQ = [q] → fwRuns s = true →
    let s0 : State := { s with canOut := [], dictQ := [] }
    let k := objKey (frIdx q.bytes) (frSub q.bytes)
    let v := frPayload q.bytes
    (frOp q.bytes = 1 → q.port = 2 → dictPre s q = .go none → readStatus 0 (frIdx q.bytes) (frSub q.bytes) = dsOK →
      (objRead s0 k).length ≤ 1024 → answers .dictRead s (fun t => t.dictQ = []
        ∧ mbxHolds t (frAnswer q.bytes (frSid q.bytes) dsOK (objRead s0 k))))
    ∧ (∀ st, frOp q.bytes = 1 → q.port = 2 → dictPre s q = .bad st → answers .dictRead s (fun t => t.dictQ = []
        ∧ mbxHolds t (frAnswer q.bytes (frSid q.bytes) st [])))
    ∧ ∀ x ff st, frOp q.bytes = 2 → dictPre s q = .go x →
      st = writeStatus s0 (roleOf x) (frIdx q.bytes) (frSub q.bytes) v ff →
      (st = dsOK → k ∉ [okCAP_CEILING, okTARGET, okDATA, okCOMMIT, okFUSE_DATA, okMAKER_LOCK, okDBG_LOCK] →
        answers (.dictWrite ff) s (fun t => t.dictQ = [] ∧ objStored t k = v
          ∧ (jrnExempt k = false → t.jseq = (s.jseq + 1) % 2 ^ 32)))
      ∧ (st ≠ dsOK → st ≠ dsQUIESCE → answers (.dictWrite ff) s (fun t => t.dictQ = []
          ∧ (∀ j, j ≠ okREFUSED_CNT → objAt t j = objAt s j)
          ∧ (jrnExempt k = false → t.jseq = (s.jseq + 1) % 2 ^ 32)))

/-- DICT_OPEN, DICT_AUTH and DICT_CLOSE of the one request that waits. While the firmware runs and one request waits: an OPEN that
R622 accepts creates a PENDING session under the lowest free SID, with the role, NC and port of the request and ND from the
entropy source; an AUTH whose PC is right opens the session, and a wrong one closes it and counts a failure of its port or node;
a CLOSE that the first orders let through ends the session. In each case no request waits afterwards. (R622, R623, R624) -/
def Obligations.SessionsOpenAuthenticateAndClose : Prop :=
  ∀ (s : State) (q : DictReq), s.dictQ = [q] → fwRuns s = true →
    (∀ sid, frOp q.bytes = 3 → openStatus s q = none → freeSid s = some sid → answers .dictOpen s (fun t => t.dictQ = []
      ∧ ∃ x ∈ t.sess, x.sid = sid ∧ x.open_ = false ∧ x.role = leAt (frPayload q.bytes) 0 1 % 4 ∧ x.port = q.port
          ∧ x.nc = (frPayload q.bytes).drop 1 ∧ x.nd = freeBytes s 4))
    ∧ (∀ x, frOp q.bytes = 4 → frOk q = true → sessOf s q = some x → x.open_ = false → frSeq q.bytes = 0 →
      ¬ (x.role = 3 ∧ makerLock s = true) →
      ((allZero (roleKey s x.role x.slot) = false → frPayload q.bytes = sessPC x (roleKey s x.role x.slot) →
        answers .dictAuth s (fun t => t.dictQ = []
          ∧ ∃ y ∈ t.sess, y.sid = x.sid ∧ y.open_ = true ∧ y.key = roleKey s x.role x.slot ∧ y.seq = 0))
      ∧ (frPayload q.bytes ≠ sessPC x (roleKey s x.role x.slot) → answers .dictAuth s (fun t => t.dictQ = []
          ∧ (∀ y ∈ t.sess, y.sid ≠ x.sid) ∧ authFailAt t (failKey q) = authFailAt s (failKey q) + 1))))
    ∧ (∀ x, frOp q.bytes = 5 → dictPre s q = .go (some x) → answers .dictClose s (fun t => t.dictQ = []
        ∧ ∀ y ∈ t.sess, y.sid ≠ x.sid))

/-- GLV_MBX_GO, SESSION_PENDING_TIMEOUT, SESSION_IDLE_TIMEOUT, LOCKOUT_EXPIRE and MBX_RESPONSE_DROP. A GO of 16 to 1,056 bytes to an
idle mailbox of a plane that is asleep or waking sets BUSY, queues the frame in GLV_MBX_REQ and wakes the plane; one that finds
BUSY sets DROP and queues nothing. A PENDING session closes 1 s after its OPEN response; an OPEN one after SESS_IDLE_S seconds
in which no request of it waits; a lockout ends after LOCKOUT_S seconds. The response at the front of the SPI queue that finds
no room is dropped and counted. No timer changes a register. (R618, R624, R635) -/
def Obligations.MailboxRequestsAndSessionTimers : Prop :=
  ∀ s : State,
    (∀ v : W64, v.getLsbD 63 = true → mbxStat s f_GLV_MBX_STAT_BUSY = 0 → outside (fget v f_GLV_MBX_CTRL_LEN) 16 1056 = false →
      glvState s ≤ 1 → answers (.glvMbxGo v) s (fun t => mbxStat t f_GLV_MBX_STAT_BUSY = 1 ∧ t.glvWakeReq = true
        ∧ t.dictQ = s.dictQ ++ [⟨2, 0, 0, 0, mbxFrame s (fget v f_GLV_MBX_CTRL_LEN)⟩] ∧ onlyRegs s t [dk .GLV_MBX_CTRL, dk .GLV_MBX_STAT]))
    ∧ (∀ v : W64, v.getLsbD 63 = true → mbxStat s f_GLV_MBX_STAT_BUSY = 1 → answers (.glvMbxGo v) s (fun t =>
        mbxStat t f_GLV_MBX_STAT_DROP = 1 ∧ t.dictQ = s.dictQ ∧ onlyRegs s t [dk .GLV_MBX_CTRL, dk .GLV_MBX_STAT]))
    ∧ (∀ (sid : BitVec 4) x, s.sess.find? (fun x => x.sid == sid.toNat && x.open_ == false) = some x → x.last + 25000000 ≤ pilotNow s →
      answers (.sessionPendingTimeout sid) s (fun t => t.sess = s.sess.filter (fun y => y.sid != sid.toNat) ∧ onlyRegs s t []))
    ∧ (∀ (sid : BitVec 4) x, s.sess.find? (fun x => x.sid == sid.toNat && x.open_ == true) = some x → sessBusy s x = false →
      x.last + max 1 (objNat s okSESS_IDLE_S) * 25000000 ≤ pilotNow s →
      answers (.sessionIdleTimeout sid) s (fun t => t.sess = s.sess.filter (fun y => y.sid != sid.toNat) ∧ onlyRegs s t []))
    ∧ (∀ (k : Fin 130) at_, lockoutAt s k = some at_ → at_ + max 1 (objNat s okLOCKOUT_S) * 25000000 ≤ pilotNow s →
      answers (.lockoutExpire k) s (fun t => lockoutAt t k = none ∧ onlyRegs s t []))
    ∧ (∀ r, s.spiRsp = [r] → answers .mbxResponseDrop s (fun t => t.spiRsp = [] ∧ t.spiTx = s.spiTx ∧ onlyRegs s t []
        ∧ objNat t okRSP_DROP = min (2 ^ 32 - 1) (objNat s okRSP_DROP + 1)))

/-- IMAGE_VERIFY_COMPLETE, SLOT_ERASE_COMPLETE, SERVICE_PREPARE and SERVICE_SAFE. The end of the check of a slot, while the firmware
runs, leaves no check running, gives BOOT_STAT the failure code of the slot's own contents, and makes the slot VALID where every
check passes and an interruption has not left it WRITING, and BAD otherwise. The end of an erase of a block of the download slot
makes the block read 0xFF and counts it. PREPARE of a quiesced module begins its preparation and a copy-out of the log; of one
that is not quiesced, it sets SVC_REFUSED; and the end of the preparation, while the plane is awake, makes the module SAFE with
IVRs 0 to 73 off. (R679, R681, R688, R694, R696) -/
def Obligations.ImagesAreErasedVerifiedAndServiced : Prop :=
  ∀ s : State,
    (∀ readErr k, s.imgCheck = some k → fwRuns s = true → k ≤ 2 → answers (.imageVerifyComplete readErr) s (fun t => t.imgCheck = none
      ∧ dfld t .BOOT_STAT (failField k) = verifySlot s k readErr
      ∧ slotStAt t k = (if verifySlot s k readErr = 0 ∧ slotStAt s k ≠ 5 then 1 else 2) ∧ onlyRegs s t [dk .BOOT_STAT]))
    ∧ (slotStatus s (dlTarget s) = 3 → s.imgErased < 512 → answers .slotEraseComplete s (fun t => t.imgErased = s.imgErased + 1
        ∧ (∀ a, flashAt t a = if slotBase (dlTarget s) + s.imgErased * 65536 ≤ a ∧ a < slotBase (dlTarget s) + s.imgErased * 65536 + 65536
            then 0xFF else flashAt s a) ∧ onlyRegs s t []))
    ∧ (svcStat s f_BOOT_SVC_STAT_STATE = 0 → dfld s .EPC_STAT f_EPC_STAT_QUIESCED = 1 → answers .servicePrepare s (fun t =>
        svcStat t f_BOOT_SVC_STAT_STATE = 1 ∧ dfld t .EMB_STAT f_EMB_STAT_COPY_BUSY = 1 ∧ onlyRegs s t [dk .BOOT_SVC_STAT, dk .EMB_STAT]))
    ∧ (svcStat s f_BOOT_SVC_STAT_STATE = 0 → dfld s .EPC_STAT f_EPC_STAT_QUIESCED = 0 → answers .servicePrepare s (fun t =>
        svcStat t f_BOOT_SVC_STAT_SVC_REFUSED = 1 ∧ svcStat t f_BOOT_SVC_STAT_STATE = 0 ∧ onlyRegs s t [dk .BOOT_SVC_STAT]))
    ∧ (svcStat s f_BOOT_SVC_STAT_STATE = 1 → glvAwake s = true → answers .serviceSafe s (fun t =>
        svcStat t f_BOOT_SVC_STAT_STATE = 2 ∧ ∀ i, i < 74 → ivrState t i = 0))

/-- REFLASH_START, REFLASH_DATA and REFLASH_END at a target. While the plane is awake and one re-flash frame waits: START of an idle
target makes it a target of the sender, for the slots named, expecting frame 0. The DATA frame expected, from its keeper, writes
its bytes to the slots named and moves the number expected on by one; any other number writes nothing. END before every byte has
come leaves the re-flash running and sends an ACK with the number expected; END after it ends the re-flash. (R691, R692) -/
def Obligations.ReflashTargetTakesItsFrames : Prop :=
  ∀ (s : State) (f : CanFrame), s.rflQ = [f] → glvAwake s = true →
    (leAt f.data 0 1 = 0x52 → s.imgCheck = none → rflStat s f_BOOT_RFL_STAT_STATE = 0 → answers .reflashStart s (fun t => t.rflQ = []
      ∧ rflStat t f_BOOT_RFL_STAT_STATE = 2 ∧ rflStat t f_BOOT_RFL_STAT_SLOTS = slotBits (leAt f.data 1 1) ∧ rflStat t f_BOOT_RFL_STAT_FRAME = 0
      ∧ t.rfl = ⟨f.src.toNat, slotBits (leAt f.data 1 1), 0, leAt f.data 4 4, 0, s.rfl.wait⟩ ∧ onlyRegs s t [dk .BOOT_RFL_STAT]))
    ∧ (leAt f.data 0 1 = 0x53 → rflStat s f_BOOT_RFL_STAT_STATE = 2 → f.src.toNat = s.rfl.peer → s.rfl.since < 255 →
      (leAt f.data 1 3 = rflStat s f_BOOT_RFL_STAT_FRAME → 60 * leAt f.data 1 3 < s.rfl.len → 60 * leAt f.data 1 3 < slotSize →
        s.rfl.slots = 2 → answers .reflashData s (fun t => t.rflQ = []
          ∧ rflStat t f_BOOT_RFL_STAT_FRAME = (rflStat s f_BOOT_RFL_STAT_FRAME + 1) % 2 ^ 24
          ∧ flashRead t (slotBase 1 + 60 * leAt f.data 1 3) (min 60 (min s.rfl.len slotSize - 60 * leAt f.data 1 3))
              = sliceZ f.data 4 (min 60 (min s.rfl.len slotSize - 60 * leAt f.data 1 3)) ∧ onlyRegs s t [dk .BOOT_RFL_STAT]))
      ∧ (leAt f.data 1 3 ≠ rflStat s f_BOOT_RFL_STAT_FRAME → answers .reflashData s (fun t => t.rflQ = [] ∧ t.flash = s.flash
          ∧ t.rfl.since = s.rfl.since + 1 ∧ onlyRegs s t [])))
    ∧ (∀ readErr, leAt f.data 0 1 = 0x54 → rflStat s f_BOOT_RFL_STAT_STATE = 2 → f.src.toNat = s.rfl.peer →
      (60 * rflStat s f_BOOT_RFL_STAT_FRAME < s.rfl.len → canNode s ≠ 0 → canOff s = false → answers (.reflashEnd readErr) s (fun t =>
        t.rflQ = [] ∧ rflStat t f_BOOT_RFL_STAT_STATE = 2
        ∧ t.canOut = [rflFrame s s.rfl.peer 0x55 (leBytes 1 0 ++ [0, 0] ++ leBytes 3 (rflStat s f_BOOT_RFL_STAT_FRAME))]))
      ∧ (s.rfl.len ≤ 60 * rflStat s f_BOOT_RFL_STAT_FRAME → answers (.reflashEnd readErr) s (fun t => t.rflQ = []
          ∧ rflStat t f_BOOT_RFL_STAT_STATE = 0 ∧ t.rfl = ⟨0, 0, 0, 0, 0, s.rfl.wait⟩)))

/-- REFLASH_REQ, REFLASH_ACK, REFLASH_REQ_TIMER, REFLASH_ACK_TIMEOUT and KEEPER_ANSWER_DELAY. While the plane is awake: a REQ of a
node that a keeper neither serves nor has waiting takes its place with the slots it names. The end of the keeper's delay makes
it serve the REQ that waits longest, with START sent first. An ACK of its target with code 1 ends the re-flash; and so does the
ACK that follows END. With no ACK for 100 ms the keeper sends again from the frame the last ACK named. A device in RECOVERY
sends a REQ to every node each second. None of them touches memory. (R691, R692, R693) -/
def Obligations.ReflashKeeperServesItsTarget : Prop :=
  ∀ s : State, glvAwake s = true → canNode s ≠ 0 → canOff s = false →
    (∀ f, s.rflQ = [f] → leAt f.data 0 1 = 0x51 → keeperServes s = true → rflStat s f_BOOT_RFL_STAT_STATE = 0 →
      (∀ e ∈ s.rfl.wait, e.1 ≠ f.src.toNat) → answers .reflashReq s (fun t => t.rflQ = [] ∧ onlyRegs s t []
        ∧ t.rfl = { s.rfl with wait := s.rfl.wait ++ [(f.src.toNat, slotBits (leAt f.data 1 1))] }))
    ∧ (∀ f, s.rflQ = [f] → leAt f.data 0 1 = 0x55 → rflStat s f_BOOT_RFL_STAT_STATE = 1 → f.src.toNat = s.rfl.peer →
      (leAt f.data 1 1 = 1 ∨ (leAt f.data 1 1 = 0 ∧ s.rfl.since = 1 ∧ goldenFrames s ≤ leAt f.data 4 3)) →
      answers .reflashAck s (fun t => t.rflQ = [] ∧ rflStat t f_BOOT_RFL_STAT_STATE = 0 ∧ t.rfl = ⟨0, 0, 0, 0, 0, s.rfl.wait⟩ ∧ sameMem s t))
    ∧ (dfld s .BOOT_STAT f_BOOT_STAT_STAGE = 7 → answers .reflashReqTimer s (fun t =>
        t.canOut = [rflFrame s 127 0x51 (leBytes 1 (wantedSlots s))] ∧ onlyRegs s t [dk .GLV_CAN_TX_CNT]))
    ∧ (rflStat s f_BOOT_RFL_STAT_STATE = 1 → answers .reflashAckTimeout s (fun t => t.rfl.acked = s.rfl.acked
        ∧ rflStat t f_BOOT_RFL_STAT_FRAME = (s.rfl.acked + min 256 (goldenFrames s - s.rfl.acked)) % 2 ^ 24
        ∧ t.canOut.take (min 256 (goldenFrames s - s.rfl.acked))
            = (List.range (min 256 (goldenFrames s - s.rfl.acked))).map (fun i => dataFrame s (s.rfl.acked + i)) ∧ sameMem s t))
    ∧ (∀ n slots l, s.rfl.wait = (n, slots) :: l → keeperServes s = true → rflStat s f_BOOT_RFL_STAT_STATE = 0 →
      answers .keeperAnswerDelay s (fun t => rflStat t f_BOOT_RFL_STAT_STATE = 1 ∧ t.rfl.peer = n ∧ t.rfl.slots = slots ∧ t.rfl.wait = l
        ∧ t.canOut.head? = some (rflFrame s n 0x52 (leBytes 1 slots ++ [0, 0] ++ leBytes 4 (goldenLen s))) ∧ sameMem s t))

/-- PILOT_POWER_ON, VSTBY33_LOSS, PCLK_LOSS and PCLK_RESTORE. PILOT_POWER_ON samples the two straps, drives PRSNT unless the test
strap is set, and leaves every other register at its reset value and both memories empty. VSTBY33_LOSS stops the pilot domain
and leaves every register but GLV_FAST at its reset value and both memories empty. PCLK_LOSS stops the pilot domain, returns its
registers to reset and leaves those of the other blocks and all memory. PCLK_RESTORE of a pilot domain that runs changes
nothing, and of one that does not samples the straps and lets it run. (R674, R733, R736, R737, R743) -/
def Obligations.PilotDomainStartsAndStops : Prop :=
  ∀ s : State,
    (∀ keeper test, answers (.pilotPowerOn keeper test) s (fun t => t.strapKeeper = keeper ∧ t.testMode = test ∧ pilotRuns t = true
      ∧ dfld t .GLV_FAST f_GLV_FAST_PRSNT = b2n (!test) ∧ dfld t .BOOT_RFL_STAT f_BOOT_RFL_STAT_ROLE = b2n keeper
      ∧ (∀ k, k ≠ dk .GLV_FAST → k ≠ dk .BOOT_RFL_STAT → regOf t k = regReset k) ∧ t.cm = [] ∧ t.vlt = []))
    ∧ answers .vstby33Loss s (fun t => pilotRuns t = false ∧ (∀ k, k ≠ dk .GLV_FAST → regOf t k = regReset k) ∧ t.cm = [] ∧ t.vlt = [])
    ∧ answers .pclkLoss s (fun t => pilotRuns t = false ∧ t.embQ = [] ∧ t.dictQ = [] ∧ sameMem s t
      ∧ (∀ k : RKey, inPilot k.code = false → regOf t k = regOf s k)
      ∧ (∀ k : RKey, inPilot k.code = true → k ≠ dk .GLV_FAST → regOf t k = regReset k))
    ∧ (∀ keeper test, pilotRuns s = true → exec (.pclkRestore keeper test) s = .next s)
    ∧ (∀ keeper test, pilotRuns s = false → answers (.pclkRestore keeper test) s (fun t => t.strapKeeper = keeper ∧ t.testMode = test
      ∧ pilotRuns t = true ∧ dfld t .GLV_FAST f_GLV_FAST_PRSNT = b2n (!test) ∧ onlyRegs s t [dk .GLV_FAST, dk .BOOT_RFL_STAT]))

/-- COLD_RESET and WARM_RESET: what they keep and what they clear. A cold reset from the input or the pin while none is in progress,
or from a register that asked for it, with the pilot domain running, gives BOOT_RST_STAT LAST 1 and its source, keeps the pilot
counter, returns every register of every tile to reset, and empties cluster memory and every vault; any other changes nothing. A
warm reset that was asked for gives LAST 2 and its source, counts in BOOT_WARM_CNT, keeps TILE_MEM_CFG and MAP_SEQ, leaves every
regulator that was ON on, empties cluster memory, and empties the vaults unless KEEP_ON_WARM is set; one not asked for changes
nothing. Both start the boot at STAGE 1 unless the test strap is set. (R443, R674, R675, R682, R683) -/
def Obligations.ColdAndWarmResetsLeave : Prop :=
  ∀ (s : State) (src : ResetSource),
    (pilotRuns s = true → ((src = .register ∧ rstAsked s 1 .register = true) ∨ ((src = .input ∨ src = .pin) ∧ rstBusy s 1 = false)) →
      answers (.coldReset src) s (fun t => dfld t .BOOT_RST_STAT f_BOOT_RST_STAT_LAST = 1
        ∧ dfld t .BOOT_RST_STAT f_BOOT_RST_STAT_SOURCE = srcCode src ∧ regOf t (dk .GLV_PILOT) = regOf s (dk .GLV_PILOT)
        ∧ (∀ u r i, regOf t (.tile u r i) = regReset (.tile u r i)) ∧ t.cm = [] ∧ t.vlt = [] ∧ t.rstReq = []
        ∧ stage t = if s.testMode then 0 else 1))
    ∧ (pilotRuns s = false ∨ src = .flr ∨ src = .reflash ∨ (src = .register ∧ rstAsked s 1 .register = false)
        ∨ ((src = .input ∨ src = .pin) ∧ rstBusy s 1 = true) → exec (.coldReset src) s = .next s)
    ∧ (rstAsked s 2 src = true → rstBusy s 1 = false → answers (.warmReset src) s (fun t =>
        dfld t .BOOT_RST_STAT f_BOOT_RST_STAT_LAST = 2 ∧ dfld t .BOOT_RST_STAT f_BOOT_RST_STAT_SOURCE = srcCode src
        ∧ dfld t .BOOT_WARM_CNT f_BOOT_WARM_CNT_COUNT = min (dfld s .BOOT_WARM_CNT f_BOOT_WARM_CNT_COUNT + 1) (fmax f_BOOT_WARM_CNT_COUNT)
        ∧ regOf t (dk .TILE_MEM_CFG) = regOf s (dk .TILE_MEM_CFG)
        ∧ dfld t .TILE_MAP_STAT f_TILE_MAP_STAT_MAP_SEQ = dfld s .TILE_MAP_STAT f_TILE_MAP_STAT_MAP_SEQ
        ∧ (∀ i, i < 75 → ivrState s i = 2 → ivrState t i = 2) ∧ t.cm = []
        ∧ (dfld s .TILE_MEM_CFG f_TILE_MEM_CFG_KEEP_ON_WARM = 0 → t.vlt = []) ∧ stage t = if s.testMode then 0 else 1))
    ∧ (rstAsked s 2 src = false ∨ rstBusy s 1 = true → exec (.warmReset src) s = .next s)

/-- RST_CTRL_COLD, RST_CTRL_WARM, RST_CTRL_FABRIC and RST_CTRL_TILE. A write of COLD, WARM or FABRIC to BOOT_RST_CTRL while no reset
of equal or higher rank is in progress asks for that reset in place of every lower one; otherwise it changes nothing. A write of
TILE for an ID that names no tile, or whose domain is latched off, sets CFG_ERR and nothing else. For any other tile while none
is in progress it asks for the reset, sets TILE_BUSY, and the tile is down; while one is in progress it changes nothing. (R675,
R687) -/
def Obligations.ResetRequestsTakeTheirRank : Prop :=
  ∀ s : State,
    (∀ c rank, ((c = Instr.rstCtrlCold ∧ rank = 1) ∨ (c = Instr.rstCtrlWarm ∧ rank = 2) ∨ (c = Instr.rstCtrlFabric ∧ rank = 3)) →
      (rstBusy s rank = false → answers c s (fun t => t.rstReq = [⟨rank, 0, false, .register⟩] ∧ sameMem s t
        ∧ ((∀ r ∈ s.rstReq, r.rank ≠ 4) → onlyRegs s t [])))
      ∧ (rstBusy s rank = true → exec c s = .next s))
    ∧ ∀ (u : Tile) (reload : Bool),
      (rstTileBad s u = true → answers (.rstCtrlTile u reload) s (fun t =>
        dfld t .BOOT_RST_STAT f_BOOT_RST_STAT_CFG_ERR = 1 ∧ onlyRegs s t [dk .BOOT_RST_STAT]))
      ∧ (rstTileBad s u = false → rstBusy s 4 = false → answers (.rstCtrlTile u reload) s (fun t =>
        t.rstReq = [⟨4, u.val, reload, .register⟩] ∧ dfld t .BOOT_RST_STAT f_BOOT_RST_STAT_TILE_BUSY = 1 ∧ tileDown t u = true))
      ∧ (rstTileBad s u = false → rstBusy s 4 = true → exec (.rstCtrlTile u reload) s = .next s)

/-- FABRIC_RESET and TILE_RESET. The fabric reset that was asked for, while no map is being applied, empties both networks, the
Beacon taps and the reduction slots, clears every Wick flag, takes the request away and gives LAST 3; otherwise FABRIC_RESET
changes nothing. The tile reset that was asked for takes the request away, clears TILE_BUSY, counts, gives LAST 4, stops every
core of the tile, shows its cluster memory scrubbed, and, where no Wick context has arrivals pending and no reload is asked for,
leaves every byte of its cluster memory 0. Without a request TILE_RESET changes nothing. (R56, R421, R674, R686, R687) -/
def Obligations.FabricAndTileResetsComplete : Prop :=
  ∀ s : State,
    (rstAsked s 3 .register = true → dfld s .TILE_MAP_STAT f_TILE_MAP_STAT_APPLYING = 0 → answers .fabricReset s (fun t =>
      t.bn = [] ∧ t.cn = [] ∧ t.bcnTap = [] ∧ t.redSlot = [] ∧ (∀ i, i < 4 → regOf t (dk .WICK_FLAG_STATE i) = 0)
      ∧ (∀ r ∈ t.rstReq, r.rank ≠ 3) ∧ dfld t .BOOT_RST_STAT f_BOOT_RST_STAT_LAST = 3))
    ∧ (rstAsked s 3 .register = false ∨ dfld s .TILE_MAP_STAT f_TILE_MAP_STAT_APPLYING = 1 → exec .fabricReset s = .next s)
    ∧ (∀ r, s.rstReq.find? (fun r => r.rank == 4) = some r → r.tile < 512 → (r.reload = false ∨ stage s ≠ 6) →
      answers .tileReset s (fun t => t.rstReq = s.rstReq.filter (· != r) ∧ dfld t .BOOT_RST_STAT f_BOOT_RST_STAT_TILE_BUSY = 0
        ∧ dfld t .BOOT_TILE_RST_CNT f_BOOT_TILE_RST_CNT_COUNT
            = min (dfld s .BOOT_TILE_RST_CNT f_BOOT_TILE_RST_CNT_COUNT + 1) (fmax f_BOOT_TILE_RST_CNT_COUNT)
        ∧ dfld t .BOOT_RST_STAT f_BOOT_RST_STAT_LAST = 4 ∧ tfld t r.tile .TILE_CORE_RUN f_TILE_CORE_RUN_RUN = 0
        ∧ tfld t r.tile .TILE_CORE_STAT f_TILE_CORE_STAT_STOPPED = 0xFFFFFF ∧ tfld t r.tile .CM_STAT f_CM_STAT_SCRUB_DONE = 1
        ∧ ((∀ c, c < 64 → ctxStat s c f_WICK_CTX_STAT_PENDING = 0) → ∀ o, o < 2 ^ 23 → cmAt t (cmKey r.tile o) = 0)))
    ∧ ((∀ r ∈ s.rstReq, r.rank ≠ 4) → exec .tileReset s = .next s)

/-- BOOT_FIRMWARE_VERIFIED, BOOT_VERIFY_PASS and BOOT_APPLY_PASS. At STAGE 1 with the management regulator ON, the first slot in
order whose firmware verifies and reads without error runs, and where nothing waits for the plane the plane is AWAKE at STAGE 2;
elsewhere BOOT_FIRMWARE_VERIFIED changes no register. At STAGE 4 with the plane awake, a first slot tried that passes its check
runs and becomes VALID, and STAGE is 5; where every slot that may be tried fails, STAGE is 7 and the plane awake. At STAGE 5 a
read error of the flash fails the running slot with code 6 and goes back to STAGE 4; without one STAGE is 6 and READY sets. A
pass at another stage changes no register. (R681, R682, R684, R698) -/
def Obligations.BootStagesFollow : Prop :=
  ∀ s : State,
    (∀ (bad : BitVec 3) k, stage s = 1 → ivrState s 74 = 2 → s.canRx = [] → s.spiRx = [] → s.dictQ = [] → s.helloDue = false → s.doe = none →
      (slotOrder s).find? (fun k => firmwareOk s k && !bitOf bad.toNat k) = some k → answers (.bootFirmwareVerified bad) s (fun t =>
        runningSlot t = k % 4 ∧ stage t = 2 ∧ glvState t = 2 ∧ sameMem s t))
    ∧ (∀ bad, stage s ≠ 1 ∨ ivrState s 74 ≠ 2 → answers (.bootFirmwareVerified bad) s (fun t => t.canOut = [] ∧ onlyRegs s t []))
    ∧ (∀ (bad : BitVec 3) k l, stage s = 4 → glvAwake s = true → (slotOrder s).filter (fun k => !slotFailed s k) = k :: l →
      verifySlot s k (bitOf bad.toNat k) = 0 → slotStAt s k ≠ 5 → answers (.bootVerifyPass bad) s (fun t =>
        runningSlot t = k % 4 ∧ stage t = 5 ∧ slotStAt t k = 1))
    ∧ (∀ bad : BitVec 3, stage s = 4 → glvAwake s = true →
      (∀ k ∈ (slotOrder s).filter (fun k => !slotFailed s k), verifySlot s k (bitOf bad.toNat k) ≠ 0) →
      answers (.bootVerifyPass bad) s (fun t => stage t = 7 ∧ glvState t = 2 ∧ sameMem s t))
    ∧ (∀ bad, stage s = 0 ∨ 5 ≤ stage s → exec (.bootVerifyPass bad) s = .next s)
    ∧ (stage s = 5 → glvAwake s = true → answers (.bootApplyPass true) s (fun t => stage t = 4 ∧ slotStAt t (runningSlot s) = 2
        ∧ dfld t .BOOT_STAT (failField (runningSlot s)) = 6 ∧ (∀ u o, u < nTiles s → o < 2 ^ 23 → cmAt t (cmKey u o) = 0)))
    ∧ (stage s = 5 → glvAwake s = true → answers (.bootApplyPass false) s (fun t => stage t = 6 ∧ dfld t .BOOT_STAT f_BOOT_STAT_READY = 1))
    ∧ (∀ e, stage s ≠ 5 ∨ glvAwake s = false → answers (.bootApplyPass e) s (fun t => t.canOut = [] ∧ onlyRegs s t []))

/-- MAP_FORM, TILE_MAP_APPLY, MAP_APPLY_COMPLETE and APPLY_CN_DISCARD. MAP_FORM takes in the accepted domains and those that failed
soft start, and TILE_GRID, NO_GRADE and TILE_L2P follow from the fuses under them; STAGE becomes 3 from an earlier one, or 4
where no tile has a regulator that could still start, and one past 3 stays. APPLY of a quiesced device sets APPLYING and notes
the sets that it will apply; of one that is not it is refused as needing quiesce; during an apply it changes nothing. An apply
completes once no CN packet is in a router and no tile reset is in progress: the map of the noted sets is in force, MAP_SEQ
rises by one modulo 2^16, APPLYING clears; until then MAP_APPLY_COMPLETE changes nothing. A CN packet in a router is discarded
only during an apply. (R34, R37, R38, R45, R46, R47, R56, R418) -/
def Obligations.TileMapIsFormedAndApplied : Prop :=
  ∀ s : State,
    (answers .mapForm s (fun t =>
        let m := formMap { s with softFail := (regOf s (dk .TILE_DOM_FAIL0)).toNat + (regOf s (dk .TILE_DOM_FAIL1)).toNat % 16 * 2 ^ 64 }
          (accOf (domSets s))
        t.mapDoms = domSets s ∧ dfld t .TILE_GRID f_TILE_GRID_GRADE = m.grade ∧ gridW t = gradeW m.grade
        ∧ dfld t .TILE_MAP_STAT f_TILE_MAP_STAT_NO_GRADE = b2n (m.grade == 0)
        ∧ (∀ u : Tile, tilePx t u = (m.px u).getD 255)
        ∧ (stage s ≤ 2 → stage t = if (allTiles t).all (fun u => ivrState t (tileDomain t u) == 4) then 4 else 3)
        ∧ (4 ≤ stage s → stage t = stage s)))
    ∧ (dfld s .TILE_MAP_STAT f_TILE_MAP_STAT_APPLYING = 1 → exec .tileMapApply s = .next s)
    ∧ (dfld s .TILE_MAP_STAT f_TILE_MAP_STAT_APPLYING = 0 → isQuiesced s = true → answers .tileMapApply s (fun t =>
        dfld t .TILE_MAP_STAT f_TILE_MAP_STAT_APPLYING = 1 ∧ t.applyDoms = domSets s ∧ onlyRegs s t [dk .TILE_MAP_STAT]))
    ∧ (dfld s .TILE_MAP_STAT f_TILE_MAP_STAT_APPLYING = 0 → isQuiesced s = false → answers .tileMapApply s (fun t =>
        dfld t .EPC_STAT f_EPC_STAT_NEEDS_QUIESCE = 1 ∧ dfld t .TILE_MAP_STAT f_TILE_MAP_STAT_APPLYING = 0 ∧ sameMem s t
        ∧ dfld t .EPC_NQ_CNT f_EPC_NQ_CNT_COUNT = min (dfld s .EPC_NQ_CNT f_EPC_NQ_CNT_COUNT + 1) (fmax f_EPC_NQ_CNT_COUNT)))
    ∧ (dfld s .TILE_MAP_STAT f_TILE_MAP_STAT_APPLYING = 1 → (∀ f ∈ s.cn, f.ej = true) → dfld s .BOOT_RST_STAT f_BOOT_RST_STAT_TILE_BUSY = 0 →
      answers .mapApplyComplete s (fun t =>
        let m := formMap s (accOf s.applyDoms)
        t.mapDoms = s.applyDoms ∧ dfld t .TILE_GRID f_TILE_GRID_GRADE = m.grade ∧ gridW t = gradeW m.grade
        ∧ (∀ u : Tile, tilePx t u = (m.px u).getD 255) ∧ dfld t .TILE_MAP_STAT f_TILE_MAP_STAT_APPLYING = 0
        ∧ dfld t .TILE_MAP_STAT f_TILE_MAP_STAT_MAP_SEQ = (dfld s .TILE_MAP_STAT f_TILE_MAP_STAT_MAP_SEQ + 1) % 65536))
    ∧ (dfld s .TILE_MAP_STAT f_TILE_MAP_STAT_APPLYING = 0 ∨ (∃ f ∈ s.cn, f.ej = false) ∨ dfld s .BOOT_RST_STAT f_BOOT_RST_STAT_TILE_BUSY = 1 →
      exec .mapApplyComplete s = .next s)
    ∧ ∀ (u : Tile) (inp : Fin 5) p,
      (dfld s .TILE_MAP_STAT f_TILE_MAP_STAT_APPLYING = 0 ∨ (∀ f ∈ s.cn, ¬(f.at_ = u.val ∧ f.inp = inp.val ∧ f.ej = false ∧ f.pkt = p)) →
        exec (.applyCnDiscard u inp p) s = .next s)
      ∧ (∀ f, dfld s .TILE_MAP_STAT f_TILE_MAP_STAT_APPLYING = 1 → p.op.toNat ≤ 2 →
        s.cn.find? (fun f => f.at_ == u.val && f.inp == inp.val && !f.ej && f.pkt == p) = some f →
        answers (.applyCnDiscard u inp p) s (fun t => t.cn = s.cn.erase f ∧ sameMem s t))

/-- SCRUB_COMPLETE, PATROL_VISIT and TILE_MEM_CFG_WRITE. The end of the scrubs of a tile that has power, and that does not wait to
be loaded, shows both scrubs done, the tile no longer down unless its reset is in progress, and STAGE 4 from 3 when
TILE_MEM_STAT shows the last done; for a tile without power that does not wait to be loaded it changes nothing. A visit of the
patrol moves NEXT_LINE to the next of 3,145,728 lines, counts a pass at the last, and changes nothing else where the line is
clean; while the patrol is stopped or paused it changes nothing. A write to TILE_MEM_CFG takes every field while the device is
unadmitted; VAULT_MODE 2 or 3, or NWR_MODE 3, sets CFG_ERR and leaves that field; after admission the modes stay, and an attempt
to change one sets MODE_LOCKED. (R44, R82, R84, R85, R86, R91) -/
def Obligations.ScrubsPatrolAndMemoryModes : Prop :=
  ∀ (s : State) (u : Tile),
    (u.val < nTiles s → unpowered s u = false → (stage s ≠ 6 ∨ u.val ∉ s.bootSkip) → answers (.scrubComplete u) s (fun t =>
      tfld t u .TILE_VLT_STAT f_TILE_VLT_STAT_SCRUB_DONE = 1 ∧ tfld t u .CM_STAT f_CM_STAT_SCRUB_DONE = 1
      ∧ ((∀ r ∈ s.rstReq, ¬(r.rank = 4 ∧ r.tile = u.val)) → tileDown t u = false)
      ∧ (stage s = 3 → stage t = if dfld t .TILE_MEM_STAT f_TILE_MEM_STAT_SCRUB_DONE = 1 then 4 else 3)
      ∧ onlyRegs s t [tk u .TILE_VLT_STAT, tk u .CM_STAT, tk u .TILE_IRQ_PEND, dk .TILE_DOWN_MAP (u.val / 64), dk .TILE_MEM_STAT, dk .BOOT_STAT]))
    ∧ ((nTiles s ≤ u.val ∨ unpowered s u = true) → u.val ∉ s.bootSkip → exec (.scrubComplete u) s = .next s)
    ∧ (∀ ecc, (dfld s .TILE_MEM_CFG f_TILE_MEM_CFG_SCRUB_HOURS = 0 ∨ nTiles s ≤ u.val ∨ tileDown s u = true
        ∨ tfld s u .TILE_VLT_STAT f_TILE_VLT_STAT_SELF_REFRESH = 1 ∨ tfld s u .TILE_VLT_STAT f_TILE_VLT_STAT_SCRUB_DONE = 0) →
      exec (.patrolVisit u ecc) s = .next s)
    ∧ (∀ ecc, dfld s .TILE_MEM_CFG f_TILE_MEM_CFG_SCRUB_HOURS ≠ 0 → u.val < nTiles s → tileDown s u = false →
      tfld s u .TILE_VLT_STAT f_TILE_VLT_STAT_SELF_REFRESH = 0 → tfld s u .TILE_VLT_STAT f_TILE_VLT_STAT_SCRUB_DONE = 1 →
      answers (.patrolVisit u ecc) s (fun t =>
        tfld t u .TILE_VLT_PATROL f_TILE_VLT_PATROL_NEXT_LINE
          = (if tfld s u .TILE_VLT_PATROL f_TILE_VLT_PATROL_NEXT_LINE + 1 < 3145728 then tfld s u .TILE_VLT_PATROL f_TILE_VLT_PATROL_NEXT_LINE + 1 else 0)
        ∧ tfld t u .TILE_VLT_PATROL f_TILE_VLT_PATROL_PASSES = (tfld s u .TILE_VLT_PATROL f_TILE_VLT_PATROL_PASSES
          + if tfld s u .TILE_VLT_PATROL f_TILE_VLT_PATROL_NEXT_LINE + 1 < 3145728 then 0 else 1) % 2 ^ 32
        ∧ t.cm = s.cm ∧ t.vlt = s.vlt ∧ (ecc = .clean → onlyRegs s t [tk u .TILE_VLT_PATROL])))
    ∧ ∀ v : W64,
      (fget v f_TILE_MEM_CFG_VAULT_MODE < 2 → fget v f_TILE_MEM_CFG_NWR_MODE < 3 → dfld s .BOOT_ADM_STAT f_BOOT_ADM_STAT_ADMITTED = 0 →
        answers (.tileMemCfgWrite v) s (fun t => (∀ f ∈ regFields (dk .TILE_MEM_CFG), dfld t .TILE_MEM_CFG f = fget v f)
          ∧ onlyRegs s t [dk .TILE_MEM_CFG]))
      ∧ (2 ≤ fget v f_TILE_MEM_CFG_VAULT_MODE ∨ fget v f_TILE_MEM_CFG_NWR_MODE = 3 → answers (.tileMemCfgWrite v) s (fun t =>
          dfld t .TILE_MEM_STAT f_TILE_MEM_STAT_CFG_ERR = 1 ∧ onlyRegs s t [dk .TILE_MEM_CFG, dk .TILE_MEM_STAT]
          ∧ (2 ≤ fget v f_TILE_MEM_CFG_VAULT_MODE → dfld t .TILE_MEM_CFG f_TILE_MEM_CFG_VAULT_MODE = dfld s .TILE_MEM_CFG f_TILE_MEM_CFG_VAULT_MODE)
          ∧ (fget v f_TILE_MEM_CFG_NWR_MODE = 3 → dfld t .TILE_MEM_CFG f_TILE_MEM_CFG_NWR_MODE = dfld s .TILE_MEM_CFG f_TILE_MEM_CFG_NWR_MODE)))
      ∧ (dfld s .BOOT_ADM_STAT f_BOOT_ADM_STAT_ADMITTED = 1 → answers (.tileMemCfgWrite v) s (fun t =>
          dfld t .TILE_MEM_CFG f_TILE_MEM_CFG_VAULT_MODE = dfld s .TILE_MEM_CFG f_TILE_MEM_CFG_VAULT_MODE
          ∧ dfld t .TILE_MEM_CFG f_TILE_MEM_CFG_STRIPE = dfld s .TILE_MEM_CFG f_TILE_MEM_CFG_STRIPE
          ∧ dfld t .TILE_MEM_CFG f_TILE_MEM_CFG_CM_HASH = dfld s .TILE_MEM_CFG f_TILE_MEM_CFG_CM_HASH
          ∧ (fget v f_TILE_MEM_CFG_STRIPE ≠ dfld s .TILE_MEM_CFG f_TILE_MEM_CFG_STRIPE → dfld t .TILE_MEM_STAT f_TILE_MEM_STAT_MODE_LOCKED = 1)))

/-- CORE_INSTRUCTION, CORE_FENCE and CORE_FENCE_I. A core that can execute writes an integer or upper-immediate result, a link, or
nothing for a branch, retires, and goes to the next instruction or the target; ECALL, EBREAK and an illegal instruction trap;
MRET returns to the saved mode, which user mode may not. A CSR instruction that the mode allows brings the old value, and traps
elsewhere. WFI without a pending interrupt sets the core's WFI bit. A FENCE with W or O in its predecessor set waits for the
core's outstanding stores; FENCE.I goes on. A pending interrupt, or a fetch that fails without poison, traps in place of the
instruction. A core that cannot run changes nothing. No register and no memory changes but for WFI, and no other core.
(Assumptions 9 and 27 name the architecture.) (R69, R124, R125, R126, R127, R128, R710) -/
def Obligations.CoresExecuteInstructions : Prop :=
  ∀ (s : State) (t : Tile) (c : CoreIx) (w : BitVec 32), let k := coreOf s t c; let next := k.pc + BitVec.ofNat 64 (rvLen w.toNat)
    (coreGoes s t c w.toNat = true →
      (∀ k' pc, (match rvDecode w.toNat with
          | .alu op rd rs1 rs2 => k' = k.setX rd (aluOp op (k.getX rs1) (k.getX rs2)) ∧ pc = next
          | .alui op rd rs1 imm => k' = k.setX rd (aluOp op (k.getX rs1) imm) ∧ pc = next
          | .lui rd imm => k' = k.setX rd imm ∧ pc = next
          | .auipc rd imm => k' = k.setX rd (k.pc + imm) ∧ pc = next
          | .jal rd off => k' = k.setX rd next ∧ pc = k.pc + off
          | .jalr rd rs1 off => k' = k.setX rd next ∧ pc = (k.getX rs1 + off) &&& ~~~1
          | .br f3 rs1 rs2 off => k' = k ∧ pc = if brTaken f3 (k.getX rs1) (k.getX rs2) then k.pc + off else next
          | _ => False) →
        answers (.coreInstruction t c w) s (fun u => coreOf u t c = { k'.retire false with pc := pc } ∧ onlyRegs s u [] ∧ onlyCore s u t c))
      ∧ (∀ cause tval, (match rvDecode w.toNat with
          | .ecall => cause = (if k.user then 8 else 11) ∧ tval = 0
          | .ebreak => cause = 3 ∧ tval = k.pc.toNat
          | .illegal => cause = 2 ∧ tval = if rvLen w.toNat = 4 then w.toNat else w.toNat % 2 ^ 16
          | .mret => k.user = true ∧ cause = 2 ∧ tval = if rvLen w.toNat = 4 then w.toNat else w.toNat % 2 ^ 16
          | .csr f3 _ rs1 n => k.csrOk n (decide (f3 % 4 = 1 ∨ rs1 ≠ 0)) = false ∧ cause = 2 ∧ tval = if rvLen w.toNat = 4 then w.toNat else w.toNat % 2 ^ 16
          | _ => False) →
        answers (.coreInstruction t c w) s (fun u => coreOf u t c = k.trap false cause k.pc (BitVec.ofNat 64 tval) ∧ onlyRegs s u [] ∧ onlyCore s u t c))
      ∧ (rvDecode w.toNat = .mret → k.user = false → answers (.coreInstruction t c w) s (fun u =>
          (coreOf u t c).pc = k.getCsr 0x341 ∧ (coreOf u t c).user = decide (fget (k.getCsr 0x300) mstatusMPP ≠ 3) ∧ onlyRegs s u [] ∧ onlyCore s u t c))
      ∧ (∀ f3 rd rs1 n, rvDecode w.toNat = .csr f3 rd rs1 n → k.csrOk n (decide (f3 % 4 = 1 ∨ rs1 ≠ 0)) = true →
        answers (.coreInstruction t c w) s (fun u => (coreOf u t c).pc = next
          ∧ (rd ≠ 0 → (coreOf u t c).getX rd = csrRead s t c n) ∧ onlyRegs s u [] ∧ onlyCore s u t c))
      ∧ (rvDecode w.toNat = .wfi → k.user = false → irqPend s t c = 0 → answers (.coreInstruction t c w) s (fun u =>
          coreWfi u t c = true ∧ (coreOf u t c).pc = next ∧ sameMem s u ∧ onlyCore s u t c))
      ∧ (∀ p q, rvDecode w.toNat = .fence p q →
          let waits := (bitOf p 0 ∨ bitOf p 2) ∧ k.outst.any (fun (o : CoreOut) => o.kind == .store || o.kind == .regWr)
          (waits → exec (.coreFence t c w) s = .next s)
          ∧ (¬waits → answers (.coreFence t c w) s (fun u => coreOf u t c = { k.retire false with pc := next } ∧ onlyRegs s u [] ∧ onlyCore s u t c)))
      ∧ (rvDecode w.toNat = .fenceI → answers (.coreFenceI t c w) s (fun u =>
          coreOf u t c = { k.retire false with pc := next } ∧ onlyRegs s u [] ∧ onlyCore s u t c)))
    ∧ (hasRow (rvDecode w.toNat) = false → coreRuns s t c = true → coreWfi s t c = false →
        k.outst.any (fun (o : CoreOut) => o.kind == .load || o.kind == .amo || o.kind == .regRd) = false →
        (∀ n, irqTake s t c = some n → answers (.coreInstruction t c w) s (fun u =>
          coreOf u t c = k.trap true n k.pc 0 ∧ onlyRegs s u [] ∧ onlyCore s u t c))
        ∧ (irqTake s t c = none → fetchBad s t c w.toNat = some false → answers (.coreInstruction t c w) s (fun u =>
          coreOf u t c = k.trap false 1 k.pc k.pc ∧ onlyRegs s u [] ∧ onlyCore s u t c)))
    ∧ (coreRuns s t c = false → exec (.coreInstruction t c w) s = .next s ∧ exec (.coreFence t c w) s = .next s ∧ exec (.coreFenceI t c w) s = .next s)

/-- CORE_LOAD and CORE_STORE: own memory, remote memory and exceptions. A load of a core that can execute, to the own tile's CM or
vault and with nothing to stop it, brings the bytes there to its register and goes on; one that leaves over the BN becomes
outstanding and the core goes on to the wait; a store to the own CM leaves its bytes there and every other byte as it was; a
store over the BN becomes outstanding. An access that the checks stop without poison takes its exception with its address, and
leaves every register but the core's WFI bit and all memory; one that must wait changes nothing. A core that cannot run changes
nothing. (R57, R64, R65, R66, R69, R132, R710) -/
def Obligations.CoreLoadsAndStoresGoWhereTheMapSays : Prop :=
  ∀ (s : State) (t : Tile) (c : CoreIx) (w : BitVec 32) (fs : Finds), let k := coreOf s t c; let next := k.pc + BitVec.ofNat 64 (rvLen w.toNat)
    (coreGoes s t c w.toNat = true →
      (∀ rd rs1 off size sg, rvDecode w.toNat = .load rd rs1 off size sg → let a := effAddr k rs1 off; let x := coreChk s t c a size 0 1 false true fs
        (∀ p, x = ⟨false, 0, false, none⟩ → coreWay s t a size false true = .here p → answers (.coreLoad t c w fs) s (fun u =>
          coreOf u t c = { (k.loaded (.x rd sg) size (memRead s p size fs).bytes).retire false with pc := next }
          ∧ u.cm = s.cm ∧ u.vlt = s.vlt ∧ onlyCore s u t c))
        ∧ (∀ chip dt ad, x = ⟨false, 0, false, none⟩ → coreWay s t a size false true = .bn chip dt ad → answers (.coreLoad t c w fs) s (fun u =>
          (coreOf u t c).outst = k.outst ++ [⟨.load, nextOut k, a, size, .x rd sg, k.pc⟩] ∧ (coreOf u t c).pc = next
          ∧ (niuqAt u t).length = (niuqAt s t).length + 1 ∧ onlyRegs s u [] ∧ onlyCore s u t c))
        ∧ (x.wait = true → exec (.coreLoad t c w fs) s = .next s)
        ∧ (x.wait = false → x.cause ≠ 0 → x.psn = false → x.far = none → answers (.coreLoad t c w fs) s (fun u =>
          coreOf u t c = k.faulted x.cause k.pc a (.x rd sg) ∧ onlyRegs s u [tk t .TILE_CORE_STAT] ∧ onlyCore s u t c)))
      ∧ (∀ rs1 rs2 off size, rvDecode w.toNat = .store rs1 rs2 off size → let a := effAddr k rs1 off; let x := coreChk s t c a size 1 1 false true fs
        (∀ o, x = ⟨false, 0, false, none⟩ → coreWay s t a size false true = .here (.cm t o) → answers (.coreStore t c w fs) s (fun u =>
          coreOf u t c = { k.retire false with pc := next } ∧ cmStored s u t o (leBytes size (k.getX rs2).toNat)))
        ∧ (∀ chip dt ad, x = ⟨false, 0, false, none⟩ → coreWay s t a size false true = .bn chip dt ad → answers (.coreStore t c w fs) s (fun u =>
          (coreOf u t c).outst = k.outst ++ [⟨.store, nextOut k, a, size, .none, k.pc⟩] ∧ (coreOf u t c).pc = next
          ∧ (niuqAt u t).length = (niuqAt s t).length + 1 ∧ onlyRegs s u [] ∧ onlyCore s u t c))
        ∧ (x.wait = true → exec (.coreStore t c w fs) s = .next s)
        ∧ (x.wait = false → x.cause ≠ 0 → x.psn = false → x.far = none → farUnmapped s t a = false → answers (.coreStore t c w fs) s (fun u =>
          coreOf u t c = k.faulted x.cause k.pc a .none ∧ onlyRegs s u [tk t .TILE_CORE_STAT] ∧ onlyCore s u t c))))
    ∧ (coreRuns s t c = false → exec (.coreLoad t c w fs) s = .next s ∧ exec (.coreStore t c w fs) s = .next s)

/-- CORE_AMO, CORE_LR, CORE_SC, MTIMER_EXPIRE, TILE_CORE_RUN_WRITE, CORE_STOP_COMPLETE and COMM_RSV_SET. An AMO of a core that can
execute on its own CM brings the old value and leaves what the function gives of it and the operand; an LR brings the value and
reserves the line; an SC stores and brings 0 where the reservation holds on the line, else brings 1 and stores nothing, and ends
the reservation. The time reaching TILE_MTIMECMP ends the WFI of a core of an awake tile that waits with the timer enabled. A
write to TILE_CORE_RUN of an awake tile without COMM_RSV is taken, and each core whose bit rises starts at its TILE_BOOT_PC in
machine mode. A core asked to stop stops when nothing but late answers is outstanding, and with core 23 the collective runtime.
COMM_RSV sets and stays; where core 23 is already set running, the runtime runs from there and sets the class and routing mode
of DMV3 (log entry 28). None of these touches a vault. (R64, R68, R126, R128, R129, R177) -/
def Obligations.CoreAtomicsAndControl : Prop :=
  ∀ (s : State) (t : Tile) (c : CoreIx),
    (∀ w : BitVec 32, coreGoes s t c w.toNat = true → let k := coreOf s t c; let next := k.pc + BitVec.ofNat 64 (rvLen w.toNat)
      (∀ f rd rs1 rs2 size o, rvDecode w.toNat = .amo f rd rs1 rs2 size → let a := (k.getX rs1).toNat
        coreChk s t c a size 2 1 true false [] = ⟨false, 0, false, none⟩ → coreWay s t a size true false = .here (.cm t o) →
        let old := smRead 0 s.cm (cmKey t o) size
        answers (.coreAmo t c w []) s (fun u => coreOf u t c = { (k.loaded (.x rd true) size old).retire false with pc := next }
          ∧ cmStored s u t o (leBytes size (amoNew f size (leNat old) (k.getX rs2).toNat))))
      ∧ (∀ rd rs1 size p, rvDecode w.toNat = .lr rd rs1 size → let a := (k.getX rs1).toNat
        coreChk s t c a size 3 1 true false [] = ⟨false, 0, false, none⟩ → coreWay s t a size true false = .here p →
        answers (.coreLr t c w []) s (fun u => coreOf u t c = { (k.loaded (.x rd true) size (memRead s p size []).bytes).retire false with
            pc := next, resv := resvLine p } ∧ u.cm = s.cm ∧ u.vlt = s.vlt))
      ∧ (∀ rd rs1 rs2 size o held, rvDecode w.toNat = .sc rd rs1 rs2 size → let a := (k.getX rs1).toNat
        coreChk s t c a size 2 1 true false [] = ⟨false, 0, false, none⟩ → coreWay s t a size true false = .here (.cm t o) →
        (held = true → k.resv = some (lineNo false o) → answers (.coreSc t c w held []) s (fun u =>
          coreOf u t c = { (k.setX rd 0).retire false with pc := next, resv := none } ∧ cmStored s u t o (leBytes size (k.getX rs2).toNat)))
        ∧ (held = false ∨ k.resv ≠ some (lineNo false o) → answers (.coreSc t c w held []) s (fun u =>
          coreOf u t c = { (k.setX rd 1).retire false with pc := next, resv := none } ∧ onlyRegs s u [] ∧ onlyCore s u t c))))
    ∧ (mtip s t c = true → bitOf ((coreOf s t c).getCsr 0x304).toNat 7 = true → coreWfi s t c = true → tileAsleep s t = false →
        answers (.mtimerExpire t c) s (fun u => coreWfi u t c = false ∧ sameMem s u))
    ∧ (mtip s t c = false → exec (.mtimerExpire t c) s = .next s)
    ∧ (∀ who v, tfld s t .TILE_CORE_CTRL f_TILE_CORE_CTRL_COMM_RSV = 0 → tileAsleep s t = false → answers (.tileCoreRunWrite who t v) s (fun u =>
        tfld u t .TILE_CORE_RUN f_TILE_CORE_RUN_RUN = fget v f_TILE_CORE_RUN_RUN
        ∧ onlyRegs s u [tk t .TILE_CORE_RUN, tk t .TILE_CORE_STAT]
        ∧ ∀ d : CoreIx, if bitOf (fget v f_TILE_CORE_RUN_RUN) d ∧ ¬ bitOf (tfld s t .TILE_CORE_RUN f_TILE_CORE_RUN_RUN) d
            then coreOf u t d = { CoreSt.init with pc := regOf s (tk t .TILE_BOOT_PC d), outst := (coreOf s t d).outst }
              ∧ coreStopped u t d = false ∧ coreWfi u t d = false
            else coreOf u t d = coreOf s t d ∧ coreStopped u t d = coreStopped s t d))
    ∧ (bitOf (tfld s t .TILE_CORE_RUN f_TILE_CORE_RUN_RUN) c = false → coreStopped s t c = false → (∀ o ∈ (coreOf s t c).outst, o.kind = .late) →
        answers (.coreStopComplete t c) s (fun u => coreStopped u t c = true ∧ coreWfi u t c = false ∧ coreOf u t c = { CoreSt.init with
            outst := (coreOf s t c).outst } ∧ onlyCore s u t c
            ∧ if c.val = 23 then tfld u t .COL_RT_STAT f_COL_RT_STAT_RUNNING = 0 ∧ onlyRegs s u [tk t .TILE_CORE_STAT, tk t .COL_RT_STAT]
              else onlyRegs s u [tk t .TILE_CORE_STAT]))
    ∧ (bitOf (tfld s t .TILE_CORE_RUN f_TILE_CORE_RUN_RUN) c = true ∨ coreStopped s t c = true → exec (.coreStopComplete t c) s = .next s)
    ∧ (let loads := tfld s t .TILE_CORE_CTRL f_TILE_CORE_CTRL_COMM_RSV = 0 ∧ bitOf (tfld s t .TILE_CORE_RUN f_TILE_CORE_RUN_RUN) 23 = true;
      answers (.commRsvSet t) s (fun u => tfld u t .TILE_CORE_CTRL f_TILE_CORE_CTRL_COMM_RSV = 1
        ∧ (¬loads → onlyRegs s u [tk t .TILE_CORE_CTRL])
        ∧ (loads → tfld u t .COL_RT_STAT f_COL_RT_STAT_RUNNING = 1 ∧ tfld u t .NIU_CFG f_NIU_CFG_DMV3_TC = 2 ∧ tfld u t .NIU_CFG f_NIU_CFG_DMV3_RMODE = 0
          ∧ onlyRegs s u [tk t .TILE_CORE_CTRL, tk t .COL_RT_STAT, tk t .NIU_CFG])))

/-- QUEUE_PI_WRITE, QUEUE_DESC_WRITE and CQ_CI_WRITE. A write to a queue that COMM_RSV reserves, from anyone but core 23 of the
tile, sets RSV_REFUSED and nothing else; one to a queue of an asleep tile's own engines changes nothing. Otherwise: a PI that
posts no more than the ring holds is taken, and one beyond it sets QERR and leaves PI; a write to DESC or CPL of a queue that is
disabled, or empty and idle, with LOG2_SIZE in 4 to 12 and both rings inside cluster memory, is taken; a write to DESC of a
queue that is neither, and that changes more than ENABLE, sets CFG_ERR and leaves DESC; a CQ_CI is taken. (R129, R133, R134,
R136, R158, R159) -/
def Obligations.QueueRegistersTakeWrites : Prop :=
  ∀ (s : State) (who : Requester) (t : Tile) (q : Fin 22) (v : BitVec 16) (w : W64),
    (rsvQueue q = true → rsvBlocks s t who = true →
      ∀ c, (c = Instr.queuePiWrite who t q v ∨ (∃ cpl, c = .queueDescWrite who t q cpl w) ∨ c = .cqCiWrite who t q v ∨ c = .queueAbort who t q) →
        answers c s (fun u => tfld u t .TILE_CORE_STAT f_TILE_CORE_STAT_RSV_REFUSED = 1 ∧ onlyRegs s u [tk t .TILE_CORE_STAT]))
    ∧ ((rsvQueue q && rsvBlocks s t who) = false → q.val < 9 → tileAsleep s t = true →
      ∀ c, (c = Instr.queuePiWrite who t q v ∨ (∃ cpl, c = .queueDescWrite who t q cpl w) ∨ c = .cqCiWrite who t q v ∨ c = .queueAbort who t q) →
        exec c s = .next s)
    ∧ ((rsvQueue q && rsvBlocks s t who) = false → (9 ≤ q.val ∨ tileAsleep s t = false) →
      (idxDiff v.toNat (qCI s t q) ≤ ringSize s t q → answers (.queuePiWrite who t q v) s (fun u =>
        qPI u t q = v.toNat ∧ onlyRegs s u [tk t .Q_PI q, tk t .TILE_IRQ_PEND]))
      ∧ (ringSize s t q < idxDiff v.toNat (qCI s t q) → answers (.queuePiWrite who t q v) s (fun u =>
        qPI u t q = qPI s t q ∧ tfld u t .Q_STAT f_Q_STAT_QERR q = 1 ∧ onlyRegs s u [tk t .Q_STAT q, tk t .TILE_IRQ_PEND]))
      ∧ ((tfld s t .Q_DESC f_Q_DESC_ENABLE q = 0 ∨ qIdle s t q = true) → 4 ≤ fget w f_Q_DESC_LOG2_SIZE → fget w f_Q_DESC_LOG2_SIZE ≤ 12 →
        fget w f_Q_DESC_BASE * 64 + 2 ^ fget w f_Q_DESC_LOG2_SIZE * descBytes q ≤ cmSize →
        tfld s t .Q_CPL f_Q_CPL_BASE q * 64 + 2 ^ fget w f_Q_DESC_LOG2_SIZE * 16 ≤ cmSize →
        answers (.queueDescWrite who t q false w) s (fun u => regOf u (tk t .Q_DESC q) = w &&& regMask (tk t .Q_DESC q) ∧ onlyRegs s u [tk t .Q_DESC q]))
      ∧ ((tfld s t .Q_DESC f_Q_DESC_ENABLE q = 0 ∨ qIdle s t q = true) → 4 ≤ tfld s t .Q_DESC f_Q_DESC_LOG2_SIZE q →
        tfld s t .Q_DESC f_Q_DESC_LOG2_SIZE q ≤ 12 →
        tfld s t .Q_DESC f_Q_DESC_BASE q * 64 + ringSize s t q * descBytes q ≤ cmSize → fget w f_Q_CPL_BASE * 64 + ringSize s t q * 16 ≤ cmSize →
        answers (.queueDescWrite who t q true w) s (fun u => regOf u (tk t .Q_CPL q) = w &&& regMask (tk t .Q_CPL q) ∧ onlyRegs s u [tk t .Q_CPL q]))
      ∧ (tfld s t .Q_DESC f_Q_DESC_ENABLE q = 1 → qIdle s t q = false →
        fset (w &&& regMask (tk t .Q_DESC q)) f_Q_DESC_ENABLE 1 ≠ regOf s (tk t .Q_DESC q) →
        answers (.queueDescWrite who t q false w) s (fun u => tfld u t .Q_STAT f_Q_STAT_CFG_ERR q = 1
          ∧ onlyRegs s u [tk t .Q_STAT q, tk t .TILE_IRQ_PEND]))
      ∧ answers (.cqCiWrite who t q v) s (fun u => qCqCI u t q = v.toNat ∧ onlyRegs s u [tk t .Q_CQ_CI q]))

/-- DESCRIPTOR_COMPLETE and QUEUE_ABORT. A descriptor whose work is done and whose flag write, if any, is made leaves its queue: CI
rises by one modulo 2^16; where a completion entry is due (COMPLETE set, or a status other than OK) and the ring is not full,
the entry is written to the next slot of the completion ring of a tile that is up and CQ_PI rises by one, and elsewhere no
memory changes; ERR_CNT counts one that failed. With the ring full and an entry due, or with work still to do, nothing changes.
Its flag write to the own cluster memory of a tile that is up stores FLAG_VALUE. An ABORT of a queue that holds descriptors sets
ABORTING and BUSY and takes all of them up; of an empty one it changes nothing. (R136, R137, R138, R139) -/
def Obligations.DescriptorsCompleteInTheirRings : Prop :=
  ∀ (s : State) (t : Tile) (q : Fin 22),
    (∀ (idx : BitVec 20) d, idx.toNat < 65536 → descOf s t q idx.toNat = some d → d.done = true →
      (d.refused = true ∨ d.flagAddr = 0 ∨ d.flagSt = 2) →
      let due := d.status ≠ stOK ∨ bitOf d.flags 0 = true
      (¬due ∨ cqFull s t q = false → answers (.descriptorComplete t q idx) s (fun u =>
        qCI u t q = (qCI s t q + 1) % 65536 ∧ (queueOf u t q).run = (queueOf s t q).run.filter (fun e => e.idx ≠ idx.toNat)
        ∧ tfld u t .Q_ERR_CNT f_Q_ERR_CNT_COUNT q
            = (if d.status ≠ stOK then min (tfld s t .Q_ERR_CNT f_Q_ERR_CNT_COUNT q + 1) (fmax f_Q_ERR_CNT_COUNT) else tfld s t .Q_ERR_CNT f_Q_ERR_CNT_COUNT q)
        ∧ (due → qCqPI u t q = (qCqPI s t q + 1) % 65536 ∧ (tileDown s t = false → tileAsleep s t = false →
            cmStored s u t (cplSlot s t q (qCqPI s t q)) (cplEntry d (1 - qCqPI s t q / ringSize s t q % 2))))
        ∧ (¬due → qCqPI u t q = qCqPI s t q ∧ sameMem s u)))
      ∧ (due → cqFull s t q = true → exec (.descriptorComplete t q idx) s = .next s))
    ∧ (∀ idx : BitVec 20, (∀ d, descOf s t q idx.toNat = some d → d.done = false) → exec (.descriptorComplete t q idx) s = .next s)
    ∧ (∀ (idx : BitVec 20) d o, idx.toNat < 65536 → descOf s t q idx.toNat = some d → d.done = true → d.refused = false → d.flagAddr ≠ 0 →
        d.flagSt = 0 → mapGlobal s (some t.val) d.flagAddr = .cm t o → tileDown s t = false → tileAsleep s t = false → d.status = stOK →
        bitOf d.flags 0 = false → answers (.descriptorComplete t q idx) s (fun u =>
          qCI u t q = (qCI s t q + 1) % 65536 ∧ cmStored s u t o (leBytes 8 d.flagVal)))
    ∧ (∀ who, (rsvQueue q && rsvBlocks s t who) = false → (9 ≤ q.val ∨ tileAsleep s t = false) →
        (qCI s t q = qPI s t q → exec (.queueAbort who t q) s = .next s)
        ∧ (qCI s t q ≠ qPI s t q → answers (.queueAbort who t q) s (fun u =>
          tfld u t .Q_STAT f_Q_STAT_ABORTING q = 1 ∧ tfld u t .Q_STAT f_Q_STAT_BUSY q = 1 ∧ (queueOf u t q).next = qPI s t q
          ∧ (queueOf u t q).abortPi = some (qPI s t q) ∧ (queueOf u t q).run.length
              = (queueOf s t q).run.length + idxDiff (qPI s t q) (queueOf s t q).next ∧ sameMem s u)))

/-- Twelve commands that take up a descriptor: waiting, refusing and running. For the DMV, VXE, RCX, NIU queue and RED_ARM commands:
an engine that may not read its next descriptor changes nothing. One whose ring line is poisoned, one of an opcode that the
queue does not serve, and one that fails a check is taken up refused, with FMT_ERR, FMT_ERR and the merged status, and no
register but the queue's BUSY bit and no memory changes. A descriptor of another opcode that the queue serves is left for its
own command. One that passes every check is taken up and runs. (R135, R138) -/
def Obligations.EnginesCheckTheirDescriptors : Prop :=
  ∀ (s : State) (c : Instr) (t : Tile) (q opc : Nat) (check : State → List Byte → Nat), descCommand c t q opc check →
    let nd := nextDesc s t q; let op := leAt nd.1 0 1; let flags := leAt nd.1 1 1
    (mayRead s t q (if nd.2 then 0 else flags) = false → exec c s = .next s)
    ∧ (mayRead s t q 0 = true → nd.2 = true → answers c s (fun u => onlyRegs s u [tk t .Q_STAT q]
        ∧ takenUp s u t q (fun d => d.refused = true ∧ d.status = stFmt ∧ d.poison = true ∧ d.failAddr = cmGlobal s t (descSlot s t q (queueOf s t q).next))))
    ∧ (mayRead s t q flags = true → nd.2 = false →
      (op ∉ queueServes q → answers c s (fun u => onlyRegs s u [tk t .Q_STAT q] ∧ takenUp s u t q (fun d => d.refused = true ∧ d.status = stFmt)))
      ∧ (op ∈ queueServes q → op ≠ opc → exec c s = .next s)
      ∧ (op = opc → stMerge (headerStatus s t nd.1) (check s nd.1) ≠ stOK → answers c s (fun u => onlyRegs s u [tk t .Q_STAT q]
          ∧ takenUp s u t q (fun d => d.refused = true ∧ d.status = stMerge (headerStatus s t nd.1) (check s nd.1)))))
    ∧ (descPasses s t q opc check → answers c s (fun u => takenUp s u t q (fun _ => True)))

/-- DMV_COPY, DMV_FILL, NQ_PUT and NQ_GET: what they store and send. A COPY of one row within one line of the own cluster memory,
with no byte of its source in its destination, stores the source's bytes at the destination and nothing else; a FILL of one row
within one line stores its pattern there and nothing else; each counts its bytes with nothing outstanding. A GET of another
tile's bytes on this device sends one read request for each piece, and a PUT of own bytes to another tile one write for each
piece, and wait for as many answers; neither changes a byte. (R140, R161, R187, R192) -/
def Obligations.TransfersMoveTheirBytes : Prop :=
  ∀ (s : State) (t : Tile),
    (∀ (ch : Fin 4) so o, let q := 4 + ch.val; let d := dmvD (nextDesc s t q).1
      descPasses s t q 0x01 (dmvCheck t false) → d.rows = 1 → 0 < d.len → d.mode = 0 → mapGlobal s (some t.val) d.src = .cm t so →
      mapGlobal s (some t.val) d.dst = .cm t o → so % 64 + d.len ≤ 64 → o % 64 + d.len ≤ 64 → (∀ k, k < d.len → d.overlaps (d.src + k) = false) →
      answers (.dmvCopy t ch []) s (fun u => cmStored s u t o (smRead 0 s.cm (cmKey t so) d.len)
        ∧ takenUp s u t q (fun e => e.count = d.len ∧ e.pend = 0 ∧ e.done = true ∧ (e.status = stOK ∨ e.status = stPoisoned))))
    ∧ (∀ (ch : Fin 4) o, let q := 4 + ch.val; let d := dmvD (nextDesc s t q).1
      descPasses s t q 0x02 (dmvCheck t true) → d.rows = 1 → 0 < d.len → mapGlobal s (some t.val) d.dst = .cm t o → o % 64 + d.len ≤ 64 →
      answers (.dmvFill t ch) s (fun u => cmStored s u t o (List.replicate (d.len / 8) (leBytes 8 d.src)).flatten
        ∧ takenUp s u t q (fun e => e.count = d.len ∧ e.pend = 0 ∧ e.done = true ∧ e.status = stOK)))
    ∧ (∀ (n : Fin 4) chip dt ad, let q := nqQ n; let bs := (nextDesc s t q).1; let x := putXfer t q (queueOf s t q).next bs
      let g := leAt bs 8 8; let len := leAt bs 20 4; let off := leAt bs 16 4
      pieces s g len = [(0, len)] → encGlobal s (some t.val) g = some (chip, dt, ad) →
      (descPasses s t q 0x41 (putCheck t true) → answers (.nqGet t n) s (fun u => sameMem s u
        ∧ niuqAt u t = niuqAt s t ++ [⟨mkBn s t opRdReq x.tc x.rm chip dt ad len [] [], 24 + q, .getTo q (queueOf s t q).next off g⟩]
        ∧ takenUp s u t q (fun e => e.pend = 1 ∧ e.status = stOK)))
      ∧ (descPasses s t q 0x40 (putCheck t false) → x.mode = 0 → (ownRead s t off len []).st = stOK → answers (.nqPut t n []) s (fun u =>
        u.cm = s.cm ∧ u.vlt = s.vlt ∧ (∃ r, niuqAt u t = niuqAt s t ++ [r] ∧ r.pkt.data = (ownRead s t off len []).bytes ∧ r.pkt.op.toNat = opWr
          ∧ r.pkt.dtile.toNat = dt % 512 ∧ r.pkt.addr.toNat = ad % 2 ^ 42 ∧ r.owner = .piece q (queueOf s t q).next g)
        ∧ takenUp s u t q (fun e => e.pend = 1 ∧ e.status = stOK))))

/-- MXE_MATMUL, MXE_PIECE_READY and MXE_GATE_TIMEOUT. An MXE that runs no gated descriptor takes up one that passes every check, on
a tile whose vault is scrubbed: an ungated one is done, has counted M × N elements, and has written no byte outside the range of
C where C lies in cluster memory; a gated one waits for its first piece. While a gated descriptor runs MXE_MATMUL changes
nothing. A piece that is ready is consumed and its wait counted: the next is awaited, or after the last the MXE is free and the
descriptor waits for no gate; a piece that is not ready, or none, changes nothing. A gate that has timed out ends its descriptor
with GATE_TIMEOUT and COUNT 0 and counts the wait; with GATE_TIMEOUT 0, or a piece that is ready, nothing changes. (R144, R145,
R146, R147, R149, R161) -/
def Obligations.MxeRunsItsDescriptors : Prop :=
  ∀ (s : State) (t : Tile),
    (∀ ahead, let d := mxeD (nextDesc s t 0).1
      descPasses s t 0 0x10 (fun _ bs => mxeCheck t bs) → mxeAt s t = none → tfld s t .TILE_VLT_STAT f_TILE_VLT_STAT_SCRUB_DONE = 1 →
      (d.np = 0 → answers (.mxeMatmul t ahead []) s (fun u =>
        takenUp s u t 0 (fun e => e.count = d.m * d.n ∧ e.pend = 0 ∧ e.done = true ∧ (e.status = stOK ∨ e.status = stPoisoned))
        ∧ (∀ o, ownPlace t d.c = some (.cm t o) → u.vlt = s.vlt
          ∧ ∀ a, (a < cmKey t o ∨ cmKey t o + d.rngC.2 ≤ a) → cmAt u a = cmAt s a)))
      ∧ (d.np ≠ 0 → answers (.mxeMatmul t ahead []) s (fun u => takenUp s u t 0 (fun e => e.ext = .gate ∧ e.done = false)
        ∧ (mxeAt u t).map (·.piece) = some 0 ∧ u.cm = s.cm ∧ u.vlt = s.vlt)))
    ∧ (∀ ahead fs, (mxeAt s t).isSome = true → exec (.mxeMatmul t ahead fs) s = .next s)
    ∧ (∀ waited ahead fs, mxeAt s t = none → exec (.mxePieceReady t waited ahead fs) s = .next s ∧ exec (.mxeGateTimeout t) s = .next s)
    ∧ ∀ k, mxeAt s t = some k → let d := mxeD k.raw; let waits := tfld s t .TILE_MXE_GATE_WAIT f_TILE_MXE_GATE_WAIT_COUNT
      (∀ waited ahead fs, d.ready s t k.piece = true → engineStopped s t = false →
        (k.piece + 1 < d.np → answers (.mxePieceReady t waited ahead fs) s (fun u => (mxeAt u t).map (·.piece) = some (k.piece + 1)
          ∧ tfld u t .TILE_MXE_GATE_WAIT f_TILE_MXE_GATE_WAIT_COUNT = min (waits + waited) (fmax f_TILE_MXE_GATE_WAIT_COUNT)
          ∧ u.cm = s.cm ∧ u.vlt = s.vlt))
        ∧ (d.np ≤ k.piece + 1 → answers (.mxePieceReady t waited ahead fs) s (fun u => mxeAt u t = none
          ∧ ∀ e, descOf s t 0 k.idx = some e → ∃ e', descOf u t 0 k.idx = some e' ∧ e'.ext = .none ∧ e'.pend = e.pend)))
      ∧ (∀ waited ahead fs, d.ready s t k.piece = false → exec (.mxePieceReady t waited ahead fs) s = .next s)
      ∧ (d.tmo ≠ 0 → d.ready s t k.piece = false → answers (.mxeGateTimeout t) s (fun u => mxeAt u t = none ∧ sameMem s u
          ∧ tfld u t .TILE_MXE_GATE_WAIT f_TILE_MXE_GATE_WAIT_COUNT = min (waits + d.tmo * 1024) (fmax f_TILE_MXE_GATE_WAIT_COUNT)
          ∧ ∀ e, descOf s t 0 k.idx = some e →
            descOf u t 0 k.idx = some { e with status := stMerge e.status stGate, count := 0, ext := .none }))
      ∧ (d.tmo = 0 ∨ d.ready s t k.piece = true → exec (.mxeGateTimeout t) s = .next s)

/-- RCX_CONVERT and VXE_OP: the bytes they write. On a tile whose vault is scrubbed, an RCX descriptor that passes every check, of a
format without MX scales and with its output in cluster memory, leaves there the bytes that its conversion or sum of the sources
gives, and no other byte changes; a VXE descriptor leaves the bytes of its element or row results. Each is done with nothing
outstanding and counts the elements it wrote. (Results that the spec leaves open are free values, log entry 4.) (R142, R150,
R152, R161) -/
def Obligations.RcxAndVxeWriteTheirResults : Prop :=
  ∀ (s : State) (t : Tile), tfld s t .TILE_VLT_STAT f_TILE_VLT_STAT_SCRUB_DONE = 1 →
    (∀ o, let d := rcxD (nextDesc s t 2).1; let n := arrayBytes (fmtCode d.fdst) d.count; let step := arrayBytes (fmtCode d.fsrc) d.count + d.count
      descPasses s t 2 0x20 (fun _ bs => rcxCheck t bs) → fmtMx d.fdst = false → ownPlace t d.dst = some (.cm t o) →
      answers (.rcxConvert t []) s (fun u =>
        cmStored s u t o (rcxOut d (d.srcs.zipIdx.map (fun p =>
          ownArrMix s t p.1.1 p.1.2 (fmtCode d.fsrc) (fmtMx d.fsrc) d.count [] [(d.dst, n)] (s.free + p.2 * step)))).data
        ∧ takenUp s u t 2 (fun e => e.count = d.count ∧ e.pend = 0 ∧ e.done = true ∧ (e.status = stOK ∨ e.status = stPoisoned))))
    ∧ (∀ o, let d := vxeD (nextDesc s t 1).1; let step := arrayBytes (fmtCode d.fsrc) d.count
      let ws := [(d.dst, arrayBytes (fmtCode d.fdst) d.outs)]
      let a := ownArrMix s t d.src0 0 (fmtCode d.fsrc) false d.count [] ws s.free
      let b := ownArrMix s t d.src1 0 (fmtCode d.fsrc) false d.count [] ws (s.free + step)
      descPasses s t 1 0x30 (fun _ bs => vxeCheck t bs) → ownPlace t d.dst = some (.cm t o) → answers (.vxeOp t []) s (fun u =>
        cmStored s u t o (encodeArr (fmtCode d.fdst) false d.mode ((vxeVals d a b (s.free + 2 * step)).map (·.1)) (vxeBad d a b)).data
        ∧ takenUp s u t 1 (fun e => e.count = d.outs ∧ e.pend = 0 ∧ e.done = true ∧ (e.status = stOK ∨ e.status = stPoisoned))))

/-- The five CDX commands and TBL_SWITCH. A CDX queue whose turn it is takes up a COMPRESS, DECOMPRESS or TBL_BUILD that passes
every check, and it runs with nothing outstanding in the network; a TBL_LOAD or TBL_EVICT waits with its table request behind
those that wait, and no byte changes; each notes that this queue was served last. While both CDX queues hold work the one served
last waits. A request that is not drained, or that does not exist, changes nothing at a switch. A drained eviction empties the
slot of its table; a drained load replaces the table of its ID, or with no such table takes a slot that was empty; each ends its
request and its descriptor waits no more. A load that finds no empty slot ends with LEN_ERR. (R153, R265, R266, R267, R268,
R269) -/
def Obligations.CdxBlocksAndTables : Prop :=
  ∀ (s : State) (t : Tile) (one : Bool), let q := cdxQ one; let bs := (nextDesc s t q).1
    (cdxLastAt s t ≠ q →
      (∀ fs, descPasses s t q 0x60 (compressCheck t) → answers (.cdxCompress t one fs) s (fun u =>
        takenUp s u t q (fun e => e.pend = 0 ∧ e.done = true) ∧ cdxLastAt u t = q))
      ∧ (∀ fs, descPasses s t q 0x61 (fun _ bs => decompressCheck t bs) → answers (.cdxDecompress t one fs) s (fun u =>
        takenUp s u t q (fun e => e.pend = 0 ∧ e.done = true) ∧ cdxLastAt u t = q))
      ∧ (∀ fs, descPasses s t q 0x62 (fun _ bs => buildCheck t bs) → answers (.cdxTblBuild t one fs) s (fun u =>
        takenUp s u t q (fun e => e.pend = 0 ∧ (bitOf (leAt bs 23 1) 2 = false → e.done = true)) ∧ cdxLastAt u t = q))
      ∧ (∀ fs, descPasses s t q 0x63 (loadCheck t) → answers (.cdxTblLoad t one fs) s (fun u =>
        takenUp s u t q (fun e => e.pend = 0 ∧ e.ext = .tbl) ∧ cdxLastAt u t = q ∧ u.cm = s.cm ∧ u.vlt = s.vlt
        ∧ cdxReqAt u t = cdxReqAt s t ++ [⟨q, (queueOf s t q).next, (tblOf (imageAt s t (leAt bs 8 4))).id, imageAt s t (leAt bs 8 4),
            postedAt s t q (queueOf s t q).next⟩]))
      ∧ (descPasses s t q 0x64 (fun _ bs => evictCheck bs) → answers (.cdxTblEvict t one) s (fun u =>
        takenUp s u t q (fun e => e.pend = 0 ∧ e.ext = .tbl) ∧ cdxLastAt u t = q ∧ sameMem s u
        ∧ cdxReqAt u t = cdxReqAt s t ++ [⟨q, (queueOf s t q).next, leAt bs 8 2, [], postedAt s t q (queueOf s t q).next⟩])))
    ∧ (cdxLastAt s t = q → (∀ x, x = 3 ∨ x = 8 → (queueOf s t x).next ≠ qPI s t x ∧ tfld s t .Q_DESC f_Q_DESC_ENABLE x = 1) →
        ∀ fs, exec (.cdxCompress t one fs) s = .next s ∧ exec (.cdxDecompress t one fs) s = .next s ∧ exec (.cdxTblBuild t one fs) s = .next s
          ∧ exec (.cdxTblLoad t one fs) s = .next s ∧ exec (.cdxTblEvict t one) s = .next s)
    ∧ ∀ idx : BitVec 16,
      ((∀ r ∈ cdxReqAt s t, r.q = q → r.idx = idx.toNat → tblDrained s t r = false) → exec (.tblSwitch t one idx) s = .next s)
      ∧ ∀ r, (cdxReqAt s t).find? (fun r => r.q == q && r.idx == idx.toNat) = some r → tblDrained s t r = true →
        answers (.tblSwitch t one idx) s (fun u => sameMem s u
          ∧ cdxReqAt u t = (cdxReqAt s t).filter (fun e => !(e.q == q && e.idx == idx.toNat))
          ∧ (∀ e, descOf s t q idx.toNat = some e → ∃ e', descOf u t q idx.toNat = some e' ∧ e'.ext = .none
            ∧ (slotNamed s t r.id ≠ none ∨ r.img = [] → e'.status = e.status)
            ∧ (slotNamed s t r.id = none → r.img ≠ [] → (∀ k, k < 16 → slotImg s t k ≠ []) → e'.status = stMerge e.status stLen))
          ∧ (∀ k, slotNamed s t r.id = some k → (r.img = [] ∨ (tblOf (slotImg s t k)).sum ≠ (tblOf r.img).sum) → slotImg u t k = r.img)
          ∧ (∀ k, slotNamed s t r.id = some k → r.img ≠ [] → (tblOf (slotImg s t k)).sum = (tblOf r.img).sum → slotImg u t k = slotImg s t k)
          ∧ (slotNamed s t r.id = none → r.img ≠ [] → (∃ k, k < 16 ∧ slotImg s t k = []) →
              ∃ k, k < 16 ∧ slotImg s t k = [] ∧ slotImg u t k = r.img ∧ ∀ j, j < 16 → j ≠ k → slotImg u t j = slotImg s t j))

/-- TILE_SLEEP, SLEEP_ENTRY_COMPLETE, TILE_WAKE, WAKE_COMPLETE, DOZE_ENTER and DOZE_WAKE. SLEEP of a tile in run or doze with every
core stopped, every queue idle and no reduction armed begins the entry; otherwise it sets SLEEP_REFUSED, or changes nothing of a
tile that sleeps or changes state. The end of the entry puts the vault in self-refresh and the tile to sleep, or on to its wake
where WAKE was written meanwhile. WAKE of a sleeping tile begins the wake. Its end returns the tile to the run state with every
core stopped and the vault out of self-refresh. A tile in run whose doze condition holds dozes; a dozing tile wakes. Each counts
a completed wake modulo 2^32. In any other state each changes nothing. (R88, R156, R157, R158, R166) -/
def Obligations.TilesDozeSleepAndWake : Prop :=
  ∀ (s : State) (t : Tile), let pwr := fun (u : State) => tilePwr u t; let wakes := fun (u : State) => tfld u t .TILE_PWR_STAT f_TILE_PWR_STAT_WAKES
    (pwr s < 2 → mayTileSleep s t = true → answers (.tileSleep t) s (fun u => pwr u = 3 ∧ tileLeaveAt u t = false))
    ∧ (pwr s < 2 → mayTileSleep s t = false → answers (.tileSleep t) s (fun u =>
        tfld u t .TILE_PWR_STAT f_TILE_PWR_STAT_SLEEP_REFUSED = 1 ∧ pwr u = pwr s ∧ onlyRegs s u [tk t .TILE_PWR_STAT]))
    ∧ (2 ≤ pwr s → exec (.tileSleep t) s = .next s)
    ∧ (pwr s = 3 → selfRefresh s t = false → answers (.sleepEntryComplete t) s (fun u => selfRefresh u t = true
        ∧ pwr u = (if tileLeaveAt s t then 3 else 2) ∧ onlyRegs s u [tk t .TILE_PWR_STAT, tk t .TILE_VLT_STAT]))
    ∧ (pwr s ≠ 3 ∨ selfRefresh s t = true → exec (.sleepEntryComplete t) s = .next s)
    ∧ (pwr s = 2 → answers (.tileWake t) s (fun u => pwr u = 3 ∧ tileLeaveAt u t = true ∧ onlyRegs s u [tk t .TILE_PWR_STAT]))
    ∧ (pwr s = 3 → answers (.tileWake t) s (fun u => tileLeaveAt u t = true ∧ onlyRegs s u []))
    ∧ (pwr s < 2 → exec (.tileWake t) s = .next s)
    ∧ (pwr s = 3 → selfRefresh s t = true → answers (.wakeComplete t) s (fun u => pwr u = 0 ∧ wakes u = (wakes s + 1) % 2 ^ 32
        ∧ selfRefresh u t = false ∧ tileLeaveAt u t = false ∧ tfld u t .TILE_CORE_STAT f_TILE_CORE_STAT_STOPPED = 0xFFFFFF
        ∧ tfld u t .TILE_CORE_RUN f_TILE_CORE_RUN_RUN = 0
        ∧ onlyRegs s u [tk t .TILE_PWR_STAT, tk t .TILE_VLT_STAT, tk t .TILE_CORE_STAT, tk t .TILE_CORE_RUN]))
    ∧ (pwr s ≠ 3 ∨ selfRefresh s t = false → exec (.wakeComplete t) s = .next s)
    ∧ (pwr s = 0 → mayDoze s t = true → answers (.dozeEnter t) s (fun u => pwr u = 1 ∧ onlyRegs s u [tk t .TILE_PWR_STAT]))
    ∧ (pwr s ≠ 0 ∨ mayDoze s t = false → exec (.dozeEnter t) s = .next s)
    ∧ (pwr s = 1 → answers (.dozeWake t) s (fun u => pwr u = 0 ∧ wakes u = (wakes s + 1) % 2 ^ 32 ∧ onlyRegs s u [tk t .TILE_PWR_STAT]))
    ∧ (pwr s ≠ 1 → exec (.dozeWake t) s = .next s)

/-- BN_RD_REQ, BN_WR, BN_WR_CB, BN_AMO, BN_MC_WR and BN_MC_WR_CB at their target. A request that does not wait for the scrub of
cluster memory is performed at the place its ADDR names and answered: a read of a memory brings its bytes, the status POISONED
where they are, and no byte changes; a write to cluster memory that its tile serves stores its bytes there and nothing else, and
one that the tile does not serve is answered with the status and changes nothing; an AMO stores what its function gives and
brings the old value; a codeblock stores what it decodes to; a multicast target stores and acknowledges its source. A request
with a bad ADDR is answered ADDR_ERR and changes nothing. A packet whose OP has no entry is counted; one of another OP is left
alone, and so is one that must wait. (R66, R76, R84, R177, R189, R190, R196, R201, R263, R389) -/
def Obligations.BnRequestsArePerformedAndAnswered : Prop :=
  ∀ (s : State) (t : Tile) (p : BnPkt) (fs : Finds),
    let reply := fun (q : BnPkt) st data psn => (⟨answerPkt s t q st data psn, 47, .none⟩ : NiuReq)
    (bnWaits s t p = true → exec (.bnRdReq t p fs) s = .next s ∧ exec (.bnWr t p fs) s = .next s ∧ exec (.bnWrCb t p fs) s = .next s
      ∧ exec (.bnAmo t p fs) s = .next s ∧ exec (.bnMcWr t p fs) s = .next s ∧ exec (.bnMcWrCb t p fs) s = .next s)
    ∧ (bnWaits s t p = false →
      (∀ c op, ((c = Instr.bnRdReq t p fs ∧ op = opRdReq) ∨ (c = .bnWr t p fs ∧ op = opWr) ∨ (c = .bnWrCb t p fs ∧ op = opWrCb)
          ∨ (c = .bnAmo t p fs ∧ op = opAmo) ∨ (c = .bnMcWr t p fs ∧ op = opMcWr) ∨ (c = .bnMcWrCb t p fs ∧ op = opMcWrCb)) →
        (opVc p.op.toNat ≠ none → p.op.toNat ≠ op → exec c s = .next s)
        ∧ (opVc p.op.toNat = none → answers c s (fun u => sameMem s u ∧ tfld u t .NIU_BAD_OP_CNT f_NIU_BAD_OP_CNT_COUNT
            = min (tfld s t .NIU_BAD_OP_CNT f_NIU_BAD_OP_CNT_COUNT + 1) (fmax f_NIU_BAD_OP_CNT_COUNT))))
      ∧ (p.op.toNat = opRdReq →
        (bnPlace t p p.len.toNat = none → answers (.bnRdReq t p fs) s (fun u => niuqAt u t = niuqAt s t ++ [reply p stAddr [] []] ∧ onlyRegs s u []))
        ∧ (∀ q, p.addr.toNat / 2 ^ 40 ≠ 2 → bnPlace t p p.len.toNat = some q → let r := memRead s q p.len.toNat fs
          answers (.bnRdReq t p fs) s (fun u => u.cm = s.cm ∧ u.vlt = s.vlt ∧ niuqAt u t = niuqAt s t
            ++ [reply p (if r.st = stOK ∧ r.psn = true then stPoisoned else r.st) r.bytes (if r.st = stOK then flitPsn s q p.len.toNat fs else [])])))
      ∧ (p.op.toNat = opWr →
        (bnPlace t p p.len.toNat = none → answers (.bnWr t p fs) s (fun u => niuqAt u t = niuqAt s t ++ [reply p stAddr [] []] ∧ onlyRegs s u []))
        ∧ (∀ o, bnPlace t p p.len.toNat = some (.cm t o) → let st := memStatus s (.cm t o)
          (st ≠ stOK → answers (.bnWr t p fs) s (fun u => niuqAt u t = niuqAt s t ++ [reply p st [] []] ∧ onlyRegs s u []))
          ∧ (st = stOK → answers (.bnWr t p fs) s (fun u => niuqAt u t = niuqAt s t ++ [reply p (bnWrEnd p) [] []] ∧ cmStored s u t o (bnBytes p)))))
      ∧ (∀ o, p.op.toNat = opWrCb → bnPlace t p 1 = some (.cm t o) → memStatus s (.cm t o) = stOK → p.psn.any id = false →
        answers (.bnWrCb t p fs) s (fun u => cmStored s u t o (decWire s t p.len.toNat p.addr.toNat (bnBytes p)).out
          ∧ niuqAt u t = niuqAt s t ++ [reply p (if bnDecodeBad s t p then stPoisoned else stOK) [] []]))
      ∧ (∀ o, p.op.toNat = opAmo → amoBad p = false → let n := leAt p.data 1 1; let old := leNat (smRead 0 s.cm (cmKey t o) n)
        bnPlace t p n = some (.cm t o) → memStatus s (.cm t o) = stOK → (memRead s (.cm t o) n fs).psn = false →
        answers (.bnAmo t p fs) s (fun u => cmStored s u t o (leBytes n (amoNew (leAt p.data 0 1) n old (leAt p.data 8 8)))
          ∧ niuqAt u t = niuqAt s t ++ [reply p (if p.psn.any id then stPoisoned else stOK) (leBytes 8 old) [false]]))
      ∧ (p.op.toNat = opAmo → amoBad p = true → answers (.bnAmo t p fs) s (fun u => sameMem s u ∧ niuqAt u t = niuqAt s t ++ [reply p stAddr [] []]))
      ∧ (∀ o, p.op.toNat = opMcWr → bnPlace t p p.len.toNat = some (.cm t o) → memStatus s (.cm t o) = stOK → mcFlag s p = none →
        answers (.bnMcWr t p fs) s (fun u => cmStored s u t o (bnBytes p) ∧ niuqAt u t = niuqAt s t ++ [reply (mcSource s p) (bnWrEnd p) [] []]))
      ∧ (∀ o, p.op.toNat = opMcWrCb → bnPlace t p 1 = some (.cm t o) → memStatus s (.cm t o) = stOK → mcFlag s p = none → p.psn.any id = false →
        answers (.bnMcWrCb t p fs) s (fun u => cmStored s u t o (decWire s t p.len.toNat p.addr.toNat (bnBytes p)).out
          ∧ niuqAt u t = niuqAt s t ++ [reply (mcSource s p) (if bnDecodeBad s t p then stPoisoned else stOK) [] []])))

/-- BN_RD_RSP, BN_WR_ACK, BN_AMO_RSP, BN_MC_ACK, RSP_TIMEOUT and QUARANTINE_END. An answer to a tag in quarantine is counted late
and changes nothing else; one to a free tag, or of another kind than the tag waits for, changes no register and no memory; one
that the tag waits for frees it, and a good read answer of a core's load brings the data to its register, while a good write
acknowledgement of its store ends the wait. An acknowledgement of one target of a multicast is taken off those that its tag
waits for, and the last frees the tag. With RSP_TMO 0 no wait times out; else a tag that is out goes into quarantine and a
core's register access that is outstanding becomes a late one, each counted. The end of a quarantine frees the tag, or takes the
late access away; where there is none nothing changes. (R69, R188, R197, R710, R711, R712) -/
def Obligations.AnswersAndTimeoutsEndTheirWaits : Prop :=
  ∀ (s : State) (t : Tile),
    (∀ (p : BnPkt) (fs : Finds) c op, let g := p.tag.toNat;
      ((c = Instr.bnRdRsp t p fs ∧ op = opRdRsp) ∨ (c = .bnWrAck t p ∧ op = opWrAck) ∨ (c = .bnAmoRsp t p ∧ op = opAmoRsp)
        ∨ (c = .bnMcAck t p ∧ op = opMcAck)) → p.op.toNat = op →
      (tagOf s t g = .quar → answers c s (fun u => onlyRegs s u [dk .ERR_LATE_RSP_CNT] ∧ tagOf u t g = .quar
        ∧ dfld u .ERR_LATE_RSP_CNT f_ERR_LATE_RSP_CNT_COUNT = min (dfld s .ERR_LATE_RSP_CNT f_ERR_LATE_RSP_CNT_COUNT + 1) (fmax f_ERR_LATE_RSP_CNT_COUNT)))
      ∧ (tagOf s t g = .free → answers c s (fun u => onlyRegs s u [] ∧ tagOf u t g = .free))
      ∧ (∀ o q, tagOf s t g = .out o q → op ≠ opMcAck →
        (opAnswer q.op.toNat ≠ op → answers c s (fun u => onlyRegs s u [] ∧ tagOf u t g = .out o q))
        ∧ (opAnswer q.op.toNat = op → answers c s (fun u => tagOf u t g = .free)))
      ∧ (∀ (k : CoreIx) n q o, let x := coreOf s t k;
        tagOf s t g = .out (.core k n) q → opAnswer q.op.toNat = op → p.addr.toNat % 256 = stOK → p.psn.any id = false →
        x.outst.find? (fun o => (o.kind == .load || o.kind == .store || o.kind == .amo) && o.key == n) = some o →
        (op = opRdRsp → o.kind = .load → answers c s (fun u =>
          coreOf u t k = ({ x with outst := x.outst.erase o } : CoreSt).loaded o.dst o.size p.data ∧ onlyRegs s u []))
        ∧ (op = opWrAck → o.kind = .store → answers c s (fun u => coreOf u t k = { x with outst := x.outst.erase o } ∧ onlyRegs s u []))
        ∧ (op = opAmoRsp → o.kind = .amo → answers c s (fun u =>
          coreOf u t k = ({ x with outst := x.outst.erase o } : CoreSt).loaded o.dst o.size (p.data.take o.size) ∧ onlyRegs s u []))))
    ∧ (∀ (p : BnPkt) q idx w self f k, let g := p.tag.toNat; let tgt := p.schip.toNat * 512 + p.stile.toNat;
      p.op.toNat = opMcAck → tagOf s t g = .out (.mcast q idx w self f) k →
      (tgt ∈ w → answers (.bnMcAck t p) s (fun u => tagOf u t g = if w.erase tgt = [] then .free else .out (.mcast q idx (w.erase tgt) self f) k))
      ∧ (tgt ∉ w → answers (.bnMcAck t p) s (fun u => tagOf u t g = tagOf s t g ∧ onlyRegs s u [])))
    ∧ (∀ w, dfld s .ERR_CFG f_ERR_CFG_RSP_TMO = 0 → exec (.rspTimeout w) s = .next s)
    ∧ (dfld s .ERR_CFG f_ERR_CFG_RSP_TMO ≠ 0 →
      let counted := fun (u : State) => dfld u .ERR_RSP_TMO_CNT f_ERR_RSP_TMO_CNT_COUNT = min (dfld s .ERR_RSP_TMO_CNT f_ERR_RSP_TMO_CNT_COUNT + 1) (fmax f_ERR_RSP_TMO_CNT_COUNT);
      (∀ (g : BitVec 10) o q, tagOf s t g.toNat = .out o q → answers (.rspTimeout (.tag t g)) s (fun u => tagOf u t g.toNat = .quar ∧ counted u))
      ∧ (∀ (k : CoreIx) n o, (coreOf s t k).outst[n]? = some o → (o.kind = .regRd ∨ o.kind = .regWr) →
        answers (.rspTimeout (.core t k n)) s (fun u => ((coreOf u t k).outst[n]?).map (·.kind) = some .late ∧ counted u ∧ sameMem s u)))
    ∧ (∀ g : BitVec 10, (tagOf s t g.toNat = .quar → answers (.quarantineEnd (.tag t g)) s (fun u => tagOf u t g.toNat = .free ∧ onlyRegs s u []))
      ∧ (tagOf s t g.toNat ≠ .quar → exec (.quarantineEnd (.tag t g)) s = .next s))
    ∧ (∀ (k : CoreIx) n o, (coreOf s t k).outst[n]? = some o → o.kind = .late → answers (.quarantineEnd (.core t k n)) s (fun u =>
        (coreOf u t k).outst = (coreOf s t k).outst.eraseIdx n ∧ onlyRegs s u [] ∧ onlyCore s u t k))

/-- BN_PACKET_INJECT, BN_ROUTE and BN_PLANE_CFG_WRITE. The NIU starts the packet that its order picks: a packet other than a
multicast, for this device, leaves the waiting list, takes the lowest free tag if it needs one, and enters its router; with none
to start nothing changes. A router forwards a packet to its one output where it wins there and the output has room: to the next
router, or out at its tile, once; where it does not win, or has no room, or its row has stopped, nothing changes. A header with
an uncorrectable error is discarded with HDR_UE. A write to BN_PLANE_CFG of a quiesced device is taken; of one that is not, one
that would change it is refused. None of these touches memory. (R179, R184, R186, R188, R201, R203, R372, R418) -/
def Obligations.BnPacketsStartAndHop : Prop :=
  ∀ (s : State) (t : Tile),
    (∀ (vc : Fin 4) waited, pickStart s t vc = none → exec (.bnPacketInject t vc waited) s = .next s)
    ∧ (∀ (vc : Fin 4) waited r, pickStart s t vc = some r → r.pkt.op.toNat ≠ opMcWr → r.pkt.op.toNat ≠ opMcWrCb → opRed r.pkt.op.toNat = false →
        (∀ q i w f d, r.owner ≠ .mcast q i w f d) → (∀ q i w a b f d, r.owner ≠ .xmcast q i w a b f d) → r.pkt.dchip.toNat = chipId s →
        answers (.bnPacketInject t vc waited) s (fun u => sameMem s u ∧ niuqAt u t = (niuqAt s t).erase r
          ∧ ∃ p x, u.bn = s.bn ++ [⟨p, t, 4, false, x, none⟩] ∧ p.data = r.pkt.data ∧ p.dtile = r.pkt.dtile ∧ p.addr = r.pkt.addr ∧ p.op = r.pkt.op
            ∧ (opShaped p.op.toNat = true → p.epoch = epochNow s)
            ∧ ∀ g, opTagged p.op.toNat = true → freeTag s t = some g → p.tag.toNat = g ∧ tagOf u t g = .out r.owner p))
    ∧ (∀ (inp : Fin 5) p err waited, (rowStopped s t = true ∨ ∀ f ∈ s.bn, ¬(f.at_ = t.val ∧ f.inp = inp.val ∧ f.ej = false ∧ f.pkt = p)) →
        exec (.bnRoute t inp p err waited) s = .next s)
    ∧ (∀ (inp : Fin 5) p f vc waited, s.bn.find? (fun f => f.at_ == t.val && f.inp == inp.val && !f.ej && f.pkt == p) = some f →
        opVc p.op.toNat = some vc → opRed p.op.toNat = false → rowStopped s t = false →
        let wins := fun o => arbWinner s t (bnPoint (vcPlane vc) o (vc % 2)) (rivals s t o vc) == some (flightReq f)
        (f.held = none → answers (.bnRoute t inp p .hdrUe waited) s (fun u => u.bn = s.bn.erase f ∧ sameMem s u
          ∧ tfld u t .BN_TILE_STAT f_BN_TILE_STAT_HDR_UE = 1))
        ∧ (∀ o, (flightOuts s f).1 = [o] → (wins o && outReady s t o vc p) = false → exec (.bnRoute t inp p .ok waited) s = .next s)
        ∧ (∀ o n, (flightOuts s f).1 = [o] → (wins o && outReady s t o vc p) = true → o ≠ 4 → neighTile s t o = some n → rowStopped s n = false →
          answers (.bnRoute t inp p .ok waited) s (fun u => sameMem s u
            ∧ u.bn = s.bn.erase f ++ [{ f with at_ := n, inp := opposite o, held := none }]))
        ∧ ((flightOuts s f).1 = [4] → wins 4 = true → f.exit = none → tileDown s t = false →
          answers (.bnRoute t inp p .ok waited) s (fun u => sameMem s u ∧ u.bn = s.bn.erase f ++ [{ f with ej := true }])))
    ∧ (∀ v : W64, isQuiesced s = true → answers (.bnPlaneCfgWrite v) s (fun u =>
        regOf u (dk .BN_PLANE_CFG) = accWrite (regFields (dk .BN_PLANE_CFG)) (regOf s (dk .BN_PLANE_CFG)) v allBits ∧ onlyRegs s u [dk .BN_PLANE_CFG]))
    ∧ (∀ v : W64, isQuiesced s = false → accWrite (regFields (dk .BN_PLANE_CFG)) (regOf s (dk .BN_PLANE_CFG)) v allBits ≠ regOf s (dk .BN_PLANE_CFG) →
        answers (.bnPlaneCfgWrite v) s (fun u => regOf u (dk .BN_PLANE_CFG) = regOf s (dk .BN_PLANE_CFG)
          ∧ dfld u .EPC_STAT f_EPC_STAT_NEEDS_QUIESCE = 1 ∧ sameMem s u))

/-- NQ_MCAST, NQ_XMCAST, NQ_REDUCE, RED_ARM and RED_ARM_START. An MCAST that passes every check and has no target is done with COUNT
0 and sends nothing; one of one piece sends one packet of the bytes at its local offset to its rectangle, whose tag will wait
for every target, and gathers their answers; an XMCAST sends one packet for its box. A REDUCE sends one packet for each 512
elements and waits until all have started. None changes a byte. A RED_ARM takes the lowest free context, which holds its RID and
GEN, or waits; a waiting arm takes a free context likewise; with none waiting, or none free, nothing changes. (R192, R195, R204,
R215, R219, R221, R222, R223, R491) -/
def Obligations.MulticastsReductionsAndArmsStart : Prop :=
  ∀ (s : State) (t : Tile),
    (∀ n : Fin 4, let q := nqQ n; let bs := (nextDesc s t q).1; let i := (queueOf s t q).next; let d := mcD false bs; let x := mcD true bs; let r := redD bs;
      (descPasses s t q 0x42 (mcastCheck t) →
        (d.targets t = [] → answers (.nqMcast t n []) s (fun u => sameMem s u ∧ niuqAt u t = niuqAt s t
          ∧ takenUp s u t q (fun e => e.done = true ∧ e.count = 0)))
        ∧ (d.targets t ≠ [] → d.mode = 0 → 0 < d.len → mcPieces d.inOff d.len = [(0, d.len)] → (ownRead s t d.loc d.len []).st = stOK →
          answers (.nqMcast t n []) s (fun u => u.cm = s.cm ∧ u.vlt = s.vlt
            ∧ (∃ p, niuqAt u t = niuqAt s t ++ [⟨p, 24 + q, .mcast q i ((d.targets t).map (fun k => chipId s * 512 + k)) (d.self t)
                (if d.dflag then some (d.foff, d.fval) else none)⟩] ∧ p.op.toNat = opMcWr ∧ p.dtile.toNat = d.near ∧ p.far.toNat = d.far
              ∧ p.data = (ownRead s t d.loc d.len []).bytes ∧ p.addr.toNat = offAddr d.inOff)
            ∧ takenUp s u t q (fun e => e.pend = 1 ∧ e.ext = .mcast []))))
      ∧ (descPasses s t q 0x44 (xmcastCheck t) → 0 < x.len → (ownRead s t x.loc x.len []).st = stOK →
        (x.targets t).length + (boxSize s x.lo x.hi - 1) * (rectTiles x.near x.far).length ≠ 0 →
          answers (.nqXmcast t n []) s (fun u => u.cm = s.cm ∧ u.vlt = s.vlt
            ∧ (∃ p, niuqAt u t = niuqAt s t ++ [⟨p, 24 + q, .xmcast q i (xmTargets s t x) x.lo x.hi (x.self t)
                (if x.dflag then some (x.foff, x.fval) else none)⟩] ∧ p.op.toNat = opMcWr ∧ p.dtile.toNat = x.near ∧ p.far.toNat = x.far
              ∧ p.data = (ownRead s t x.loc x.len []).bytes)
            ∧ takenUp s u t q (fun e => e.pend = 1 ∧ e.ext = .mcast [])))
      ∧ (descPasses s t q 0x43 (redCheck t) → fmtMx r.fmt = false → firstBad s t [(r.off, arrayBytes (fmtCode r.fmt) r.count)] = none →
          answers (.nqReduce t n []) s (fun u => u.cm = s.cm ∧ u.vlt = s.vlt ∧ niuqAt u t = niuqAt s t
              ++ (List.range (ceilDiv r.count 512)).map (fun k =>
                ⟨redPacket s t r (ownArr s t r.off r.soff (fmtCode r.fmt) false r.count []) k, 24 + q, .piece q i 0⟩)
            ∧ takenUp s u t q (fun e => e.pend = ceilDiv r.count 512))))
    ∧ (descPasses s t 13 0x50 (armCheck t) → let a := armD (nextDesc s t 13).1;
        (freeCtx s t = none → answers (.redArm t) s (fun u => onlyRegs s u [tk t .Q_STAT 13] ∧ takenUp s u t 13 (fun e => e.ext = .redCtx 16)))
        ∧ (∀ c, freeCtx s t = some c → answers (.redArm t) s (fun u => onlyRegs s u [tk t .Q_STAT 13, tk t .RED_CTX c, tk t .RED_STATUS]
            ∧ takenUp s u t 13 (fun e => e.ext = .redCtx c) ∧ tfld u t .RED_CTX f_RED_CTX_VALID c = 1
            ∧ tfld u t .RED_CTX f_RED_CTX_RID c = a.rid ∧ tfld u t .RED_CTX f_RED_CTX_GEN c = a.gen)))
    ∧ (∀ d c, (queueOf s t 13).run.find? (fun d => d.ext == .redCtx 16) = some d → descOf s t 13 d.idx = some d → d.tag < 65536 → freeCtx s t = some c →
        answers (.redArmStart t) s (fun u => onlyRegs s u [tk t .RED_CTX c, tk t .RED_STATUS] ∧ descOf u t 13 d.idx = some { d with ext := .redCtx c }
          ∧ tfld u t .RED_CTX f_RED_CTX_VALID c = 1 ∧ tfld u t .RED_CTX f_RED_CTX_RID c = (armD d.raw).rid))
    ∧ (((∀ d ∈ (queueOf s t 13).run, d.ext ≠ .redCtx 16) ∨ freeCtx s t = none) → exec (.redArmStart t) s = .next s)

/-- RED_ROUTER_ARRIVAL, RED_JOIN_WINDOW_CLOSE and RED_ORDERED_TIMEOUT. A partial in a router that routes it to one output: in
default mode it is added to a held partial that matches, and the sum takes its output; else it is held where it goes to another
router, has a join window, combining is enabled and a slot is free; else it goes on unchanged. In ordered mode it goes on
unchanged from an input outside the mask of its tree; with partners still missing it is held, and with all eight slots taken
nothing changes; alone in its mask it goes on; with one partner that is held the two are added in the order of inputs. One with
a broken header is discarded. A held partial whose window closes goes on unchanged, counted. An ordered hold that times out
leaves with all that it holds, with ORD cleared and ORD_BROKEN set. None of these touches memory; a packet that is no partial,
or is not held, changes nothing. (R201, R224, R225, R226, R235, R237, R239) -/
def Obligations.PartialsMeetInTheirRouters : Prop :=
  ∀ (s : State) (t : Tile) (p : BnPkt),
    (∀ (inp : Fin 5) err rs, opRed p.op.toNat = false → exec (.redRouterArrival t inp p err rs) s = .next s)
    ∧ (∀ (inp : Fin 5) f rs, let slots := redSlotAt s t; let o := (unicastOut s t p.dtile.toNat 3 p).1; let m := treeMask s t p;
      opRed p.op.toNat = true → dfld s .BN_PLANE_CFG f_BN_PLANE_CFG_B_ADAPT_EN = 0 →
      s.bn.find? (fun f => f.at_ == t.val && f.inp == inp.val && !f.ej && f.held == none && f.pkt == p) = some f →
      let leaves := fun (u : State) q out => u.bn = s.bn.erase f ++ [⟨q, t, inp, false, none, some out⟩] ∧ sameMem s u;
      (redOrd p = false →
        (∀ h, slots.find? (fun h => redMatch h.pkt p && h.out == o) = some h → answers (.redRouterArrival t inp p .ok rs) s (fun u =>
          leaves u (redCombine h.pkt p rs) o ∧ redSlotAt u t = slots.erase h))
        ∧ (slots.find? (fun h => redMatch h.pkt p && h.out == o) = none →
          let want := o ≠ 4 ∧ 0 < redJw p ∧ tfld s t .RED_CFG f_RED_CFG_COMBINE_EN = 1;
          (want → slots.length < 8 → answers (.redRouterArrival t inp p .ok rs) s (fun u =>
            u.bn = s.bn.erase f ∧ redSlotAt u t = slots ++ [⟨p, o, inp⟩] ∧ sameMem s u))
          ∧ (¬want ∨ 8 ≤ slots.length → answers (.redRouterArrival t inp p .ok rs) s (fun u => leaves u p o ∧ redSlotAt u t = slots))))
      ∧ (redOrd p = true →
        (bitOf m inp = false → answers (.redRouterArrival t inp p .ok rs) s (fun u => leaves u p o ∧ redSlotAt u t = slots))
        ∧ (bitOf m inp = true → 8 ≤ slots.length → exec (.redRouterArrival t inp p .ok rs) s = .next s)
        ∧ (slots.length < 8 → maskOrder m = [inp.val] → answers (.redRouterArrival t inp p .ok rs) s (fun u => leaves u p o))
        ∧ (∀ i, slots.length < 8 → (maskOrder m = [i, inp.val] ∨ maskOrder m = [inp.val, i]) → i ≠ inp.val →
          let mate := (slots.filter (fun h => redMatch h.pkt p && h.out == o && redJw h.pkt == redJw p)).find? (fun h => h.inp == i);
          (mate = none → answers (.redRouterArrival t inp p .ok rs) s (fun u =>
            u.bn = s.bn.erase f ∧ redSlotAt u t = slots ++ [⟨p, o, inp⟩] ∧ sameMem s u))
          ∧ (∀ h, mate = some h → answers (.redRouterArrival t inp p .ok rs) s (fun u => ∃ q, leaves u q o
            ∧ q.data = (if maskOrder m = [i, inp.val] then redCombine h.pkt p rs else redCombine p h.pkt rs).data
            ∧ redNcontrib q = redNcontrib h.pkt + redNcontrib p))))
      ∧ ((redOrd p && bitOf m inp && decide (8 ≤ slots.length)) = false → answers (.redRouterArrival t inp p .hdrUe rs) s (fun u =>
          u.bn = s.bn.erase f ∧ redSlotAt u t = slots ∧ sameMem s u ∧ tfld u t .BN_TILE_STAT f_BN_TILE_STAT_HDR_UE = 1)))
    ∧ (∀ h, (redSlotAt s t).find? (fun h => h.pkt == p && !redOrd h.pkt) = some h → answers (.redJoinWindowClose t p) s (fun u =>
        redSlotAt u t = (redSlotAt s t).erase h ∧ u.bn = s.bn ++ [⟨p, t, h.inp, false, none, some h.out⟩]
        ∧ tfld u t .RED_HOLD_EXP_CNT f_RED_HOLD_EXP_CNT_COUNT = min (tfld s t .RED_HOLD_EXP_CNT f_RED_HOLD_EXP_CNT_COUNT + 1) (fmax f_RED_HOLD_EXP_CNT_COUNT)
        ∧ onlyRegs s u [tk t .RED_STATUS, tk t .RED_HOLD_EXP_CNT]))
    ∧ ((∀ h ∈ redSlotAt s t, h.pkt = p → redOrd p = true) → exec (.redJoinWindowClose t p) s = .next s)
    ∧ (tfld s t .RED_CFG f_RED_CFG_ORD_TMO = 0 ∨ (∀ h ∈ redSlotAt s t, h.pkt = p → redOrd p = false) → exec (.redOrderedTimeout t p) s = .next s)
    ∧ (∀ h, tfld s t .RED_CFG f_RED_CFG_ORD_TMO ≠ 0 → (redSlotAt s t).find? (fun h => h.pkt == p && redOrd h.pkt) = some h →
        let held := fun (x : RedSlot) => x == h || (redMatch x.pkt p && x.out == h.out && redJw x.pkt == redJw p);
        answers (.redOrderedTimeout t p) s (fun u => redSlotAt u t = (redSlotAt s t).filter (fun x => !held x) ∧ sameMem s u
          ∧ tfld u t .RED_STATUS f_RED_STATUS_ORD_BROKEN = 1
          ∧ u.bn = s.bn ++ ((redSlotAt s t).filter held).map (fun x => ⟨clearOrd x.pkt, t, x.inp, false, none, some x.out⟩)))

/-- RED_NIU_ARRIVAL, RED_SEGMENT_ROUND, RED_NAK_RECEIVE and RED_DONE_CLR. A partial at a tile that is down or asleep is answered
with a RED_NAK of that status. With no context of its RID and GEN it is counted late or unarmed; no byte changes. One that its
context takes (the right kind, segment, count, form and length, within EXPECT) leaves in the accumulator its elements for the
first of its segment, else their sums with those there, and the segment's count rises by its contributions. One that waits for
the scrub, or is no partial, changes nothing. A segment that is complete and not rounded is rounded: the converted elements go
to the result and no other byte of cluster memory changes; the last completes the context; any other segment is left. A RED_NAK
is counted and sets NAK_SEEN. DONE_CLR clears every DONE_VALID and keeps every DONE_GEN. (R84, R229, R230, R232, R233, R241) -/
def Obligations.PartialsReachTheirContexts : Prop :=
  ∀ (s : State) (t : Tile),
    (∀ (p : BnPkt) fs rs, (opRed p.op.toNat = false ∨ cmWaits s (.cm t 0) = true) → exec (.redNiuArrival t p fs rs) s = .next s)
    ∧ (∀ (p : BnPkt) rs, opRed p.op.toNat = true → cmWaits s (.cm t 0) = false →
      ((tileDown s t = true ∨ tileAsleep s t = true) → ∀ fs, answers (.redNiuArrival t p fs rs) s (fun u => sameMem s u
        ∧ ∃ r, niuqAt u t = niuqAt s t ++ [r] ∧ r.pkt.op.toNat = opRedNak ∧ r.pkt.dtile = p.stile ∧ redRid r.pkt = redRid p
          ∧ r.pkt.far.toNat = (if tileDown s t = true then stDown else stAsleep)))
      ∧ (tileDown s t = false → tileAsleep s t = false →
        (ctxOf s t (redRid p) (redGen p) = none → let late := (doneOf s t (redRid p)).1 && (doneOf s t (redRid p)).2 == redGen p;
          ∀ fs, answers (.redNiuArrival t p fs rs) s (fun u => sameMem s u
            ∧ tfld u t .RED_STATUS (if late then f_RED_STATUS_LATE_SEEN else f_RED_STATUS_NOARM_SEEN) = 1
            ∧ (let k := if late then TReg.RED_LATE_CNT else .RED_NOARM_CNT
               tfld u t k f_RED_LATE_CNT_COUNT = min (tfld s t k f_RED_LATE_CNT_COUNT + 1) (fmax f_RED_LATE_CNT_COUNT))))
        ∧ (∀ c d, ctxOf s t (redRid p) (redGen p) = some c → ctxDesc s t c = some d → let a := armD d.raw; let g := redSegNo p; let k := redSegAt s (segKey t c g);
          (p.op.toNat = opRedI ↔ a.int = true) → 512 * g < a.elems → redCnt p = min 512 (a.elems - 512 * g) → wireOk p.op.toNat (redWfmt p) = true →
          p.data.length = wireLen (redWfmt p) (redCnt p) → k.count + redNcontrib p ≤ a.expect →
          let o := a.acc + 4096 * g; let w := if a.int then 64 else 40;
          let old := fun i => leAt (smRead 0 s.cm (cmKey t o) (8 * redCnt p)) (8 * i) 8 % 2 ^ w;
          answers (.redNiuArrival t p [] rs) s (fun u => cmStored s u t o ((wireElems p).zipIdx.flatMap (fun e =>
              leBytes 8 (if k.some_ then redAdd (!a.int) (old e.2) e.1 else e.1)))
            ∧ redSegAt u (segKey t c g) = ⟨k.count + redNcontrib p, true, k.rounded⟩))))
    ∧ (∀ (c : Fin 16) (g : BitVec 10) fs, (ctxDesc s t c = none ∨ tfld s t .RED_CTX f_RED_CTX_VALID c = 0
        ∨ ∃ d, ctxDesc s t c = some d ∧ ((redSegAt s (segKey t c g.toNat)).count ≠ (armD d.raw).expect ∨ (redSegAt s (segKey t c g.toNat)).rounded = true
          ∨ (armD d.raw).elems ≤ 512 * g.toNat)) → exec (.redSegmentRound t c g fs) s = .next s)
    ∧ (∀ (c : Fin 16) (g : BitVec 10) d o, let a := armD d.raw; let k := redSegAt s (segKey t c g.toNat); let cnt := min 512 (a.elems - 512 * g.toNat);
        let src := ownArr s t (a.acc + 4096 * g.toNat) 0 (if a.int then 0xE else 0xF) false cnt [];
        let out := convertArr src cnt (fmtCode a.fmt) false a.mode; let dst := a.dst + arrayBytes (fmtCode a.fmt) (512 * g.toNat);
        let done := tfld s t .RED_CTX f_RED_CTX_SEGS_DONE c + 1;
        ctxDesc s t c = some d → descOf s t 13 d.idx = some d → tfld s t .RED_CTX f_RED_CTX_VALID c = 1 → k.count = a.expect → k.rounded = false →
        512 * g.toNat < a.elems → fmtMx a.fmt = false → ownPlace t dst = some (.cm t o) →
        firstBad s t [(a.acc + 4096 * g.toNat, 8 * cnt), (dst, out.data.length)] = none →
        answers (.redSegmentRound t c g []) s (fun u => cmStored s u t o out.data ∧ (redSegAt u (segKey t c g.toNat)).rounded = true
          ∧ tfld u t .RED_CTX f_RED_CTX_SEGS_DONE c = done % 2 ^ 11
          ∧ ∃ e, descOf u t 13 d.idx = some e ∧ e.count = d.count + cnt ∧ e.ext = (if done = ceilDiv a.elems 512 then .redCtx (c.val + 32) else d.ext)))
    ∧ (∀ p : BnPkt, (p.op.toNat ≠ opRedNak → exec (.redNakReceive t p) s = .next s)
      ∧ (p.op.toNat = opRedNak → answers (.redNakReceive t p) s (fun u => sameMem s u ∧ tfld u t .RED_STATUS f_RED_STATUS_NAK_SEEN = 1
        ∧ tfld u t .RED_NAK_CNT f_RED_NAK_CNT_COUNT = min (tfld s t .RED_NAK_CNT f_RED_NAK_CNT_COUNT + 1) (fmax f_RED_NAK_CNT_COUNT)
        ∧ (tfld s t .RED_STATUS f_RED_STATUS_NAK_SEEN = 0 → regOf u (tk t .RED_NAK_INFO) = redInfo 5 (p.far.toNat % 256) p))))
    ∧ answers (.redDoneClr t) s (fun u => onlyRegs s u ((List.range 128).map (fun i => tk t .RED_DONE i))
        ∧ ∀ i, i < 128 → regOf u (tk t .RED_DONE i) = regOf s (tk t .RED_DONE i) &&& 0xAAAAAAAAAAAAAAAA#64)

/-- The Beacon and Taper commands: buses, beats, taps, summaries, ports and their registers. A BEACON that passes its checks waits
for its buses. A channel with no BEACON that waits, or whose next bus is taken, stays as it is; one that its point picks takes
the bus, and with its last one starts. A START makes a tap of its reach hold the entry of its bus and channel; a DATA beat moves
the tap on, lands its bytes where the tap is open and writes the flag of a piece that it ends; an END closes the tap with its
outcome. The summary, once every tap has ended, or its timeout after a cut, ends the descriptor and gives up taps and buses. A
tap write that is sound is taken, else it sets CFG_ERR. A TAPER on a broken chain is aborted. A port that is ready, with room
ahead and in its ring, takes its next beat, lands it and passes it on; a broken one, or one with no beat, does nothing. TPR_RP
beyond the ring sets RP_ERR; TPR_CFG of an enabled port changes only ENABLE, and a ring only while disabled. A BREAK marks an
enabled port and goes on upstream. (R84, R282, R284, R285, R287, R288, R290, R291, R294, R295, R297, R302) -/
def Obligations.BeaconBeatsAndTaperBeatsPass : Prop :=
  ∀ (s : State) (t : Tile),
    (∀ ch : Fin 4, let q := 4 + ch.val;
      (descPasses s t q 0x03 (bcnCheck t) → answers (.dmvBeacon t ch) s (fun u => onlyRegs s u [tk t .Q_STAT q]
        ∧ takenUp s u t q (fun e => e.ext = .beacon ⟨false, [], 0, false, []⟩)))
      ∧ (descPasses s t q 0x04 (taperCheck t ch.val) → tfld s t .TPR_STAT f_TPR_STAT_BROKEN = 1 → ∀ fs, answers (.dmvTaper t ch fs) s (fun u =>
        onlyRegs s u [tk t .Q_STAT q] ∧ takenUp s u t q (fun e => e.status = stAborted ∧ e.refused = true)))
      ∧ (bcnOf s t ch = none → ∀ n fs (v : Tile) x y e, exec (.beaconGrant t ch n fs) s = .next s ∧ exec (.beaconStartBeat t ch v x) s = .next s
        ∧ exec (.beaconDataBeat t ch v e n) s = .next s ∧ exec (.beaconEndBeat t ch v y) s = .next s ∧ exec (.beaconSummaryReturn t ch) s = .next s
        ∧ exec (.beaconSummaryTimeout t ch) s = .next s)
      ∧ ∀ d b, bcnOf s t ch = some (d, b) → descOf s t q d.idx = some d → let x := bcnD d.raw;
        (∀ p n fs, busNext t x b = some p → (busFreeNow s p = false → exec (.beaconGrant t ch n fs) s = .next s)
          ∧ (busFreeNow s p = true → (arbWinner s 512 p (bcnRivals s p)).map (·.idx) = some (bcnReq s t p x).idx → engineStopped s t = false →
            holdTraffic s = false → answers (.beaconGrant t ch n fs) s (fun u => u.cm = s.cm ∧ u.vlt = s.vlt ∧ busFreeNow u p = false
              ∧ ∃ d', bcnOf u t ch = some (d', { b with
                held := b.held ++ [p], started := decide (busNext t x { b with held := b.held ++ [p] } = none) }))))
        ∧ (∀ (v : Tile) sb, (b.started = false ∨ v.val ∉ bcnReach s t x ∨ (bcnTapAt s (tapKey v x.bus)).isSome = true →
            exec (.beaconStartBeat t ch v sb) s = .next s)
          ∧ (b.started = true → v.val ∈ bcnReach s t x → bcnTapAt s (tapKey v x.bus) = none → answers (.beaconStartBeat t ch v sb) s (fun u =>
            sameMem s u ∧ ∃ bad, (sb = true → bad = true)
              ∧ bcnTapAt u (tapKey v x.bus) = some ⟨t, q, d.idx, tapEntry s v x.bus x.chan, 0, bad, false, false⟩)))
        ∧ (∀ (v : Tile) k bs psn stop, cmWaits s (.cm v 0) = false → tapOf s v t ch d = some k →
          srcBeat (srcBufAt s (srcKey t q d.idx)) x.len k.next = some (bs, psn) → k.ended = false → k.next < x.beats → b.cut = false →
          answers (.beaconDataBeat t ch v .ok stop) s (fun u => bcnTapAt u (tapKey v x.bus) = some { k with next := k.next + 1, psn := k.psn || psn }
            ∧ (k.ent = none ∨ k.bad = true ∨ bcnAway s t v = true ∨ tileAsleep s v = true → sameMem s u)
            ∧ ∀ e, k.ent = some e → k.bad = false → bcnAway s t v = false → tileAsleep s v = false →
              (entFlags e = false ∨ pieceEnd x (32 * k.next + bs.length) = none → cmStored s u v (entBase e + x.off + 32 * k.next) bs)
              ∧ ∀ i, entFlags e = true → pieceEnd x (32 * k.next + bs.length) = some i →
                smRead 0 u.cm (cmKey v (entFlagOff e + 8 * i)) 8 = leBytes 8 x.pflag))
        ∧ (∀ (v : Tile) k miss, tapOf s v t ch d = some k →
          (k.ended = true ∨ k.next < (if b.cut then b.placed else x.beats) → exec (.beaconEndBeat t ch v miss) s = .next s)
          ∧ (k.ended = false → (if b.cut then b.placed else x.beats) ≤ k.next → answers (.beaconEndBeat t ch v miss) s (fun u => sameMem s u
            ∧ bcnTapAt u (tapKey v x.bus) = some { k with ended := true }
            ∧ (k.ent.isSome = true → ∃ d', bcnOf u t ch = some (d', { b with got := b.got ++ [(v.val, tapOutcome s v k b.cut miss)] })))))
        ∧ (let spent := b.started = true ∧ ∀ v ∈ bcnReach s t x, (tapOf s v t ch d).map (·.ended) = some true;
          let free := fun (u : State) => sameMem s u ∧ (∀ p ∈ b.held, busFreeNow u p = true) ∧ ∀ v ∈ bcnReach s t x, tapOf u v t ch d = none;
          (¬spent → exec (.beaconSummaryReturn t ch) s = .next s)
          ∧ (spent → answers (.beaconSummaryReturn t ch) s (fun u => free u ∧ ∃ e, descOf u t q d.idx = some e ∧ e.ext = .none
            ∧ (d.refused = false → e.count = (b.got.filter (fun g => g.2 == stOK || g.2 == stPoisoned)).length
              ∧ e.status = stMerge d.status (b.got.foldl (fun a g => stMerge a g.2) stOK))))
          ∧ (b.cut = false → exec (.beaconSummaryTimeout t ch) s = .next s)
          ∧ (b.cut = true → answers (.beaconSummaryTimeout t ch) s (fun u => free u
            ∧ ∃ e, descOf u t q d.idx = some e ∧ e.ext = .none ∧ e.count = 0 ∧ (d.refused = false → e.status = stMerge d.status stPoisoned)))))
    ∧ (∀ (e : Fin 4) (land : Bool) (v : W64), let k := if land then tk t .BCN_TAP_LAND e else tk t .BCN_TAP_ENT e; let new := v &&& regMask k;
        let word := fun (j : Nat) => if land = false ∧ j = e.val then new.toNat else (regOf s (tk t .BCN_TAP_ENT j)).toNat;
        let ent := word e; let lnd := if land then new.toNat else (regOf s (tk t .BCN_TAP_LAND e)).toNat;
        let good := 12 ≤ bitsOf ent 0 5 ∧ bitsOf ent 0 5 ≤ 23 ∧ bitsOf lnd 0 23 + 2 ^ bitsOf ent 0 5 ≤ cmSize ∧ (bitOf ent 7 = true → bitsOf lnd 32 23 + 2048 ≤ cmSize)
          ∧ bitsOf lnd 0 12 = 0 ∧ bitsOf lnd 32 3 = 0 ∧ tapClash ((List.range 4).map word) = false;
        (good → answers (.bcnTapWrite t e land v) s (fun u => regOf u k = new ∧ onlyRegs s u [k]))
        ∧ (¬good → answers (.bcnTapWrite t e land v) s (fun u => tfld u t .BCN_STAT f_BCN_STAT_CFG_ERR = 1
          ∧ onlyRegs s u [tk t .BCN_STAT, tk t .TILE_IRQ_PEND])))
    ∧ (∀ stall, let w := tprWord s t; let wp := tfld s t .TPR_WP f_TPR_WP_WP;
        let off := tfld s t .TPR_RING f_TPR_RING_BASE * 4096 + wp % 2 ^ tfld s t .TPR_RING f_TPR_RING_LOG2;
        (cmWaits s (.cm t 0) = true ∨ tfld s t .TPR_STAT f_TPR_STAT_READY = 0 ∨ tfld s t .TPR_STAT f_TPR_STAT_BROKEN = 1 ∨ rowStopped s t = true
            ∨ nextBeat s t = none → exec (.taperBeatAccept t stall) s = .next s)
        ∧ ∀ bs psn, cmWaits s (.cm t 0) = false → tfld s t .TPR_STAT f_TPR_STAT_READY = 1 → tfld s t .TPR_STAT f_TPR_STAT_BROKEN = 0 → rowStopped s t = false →
          (∀ n, outNeigh s t w = some n → (tprInAt s n).length < Config.taperCredits) → tileDown s t = false → tileAsleep s t = false →
          (cfgLand w = true → 32 ≤ ringSpace s t) → nextBeat s t = some (bs, psn) → answers (.taperBeatAccept t stall) s (fun u =>
            (bitsOf w 26 2 ≠ 0 → tprInAt u t = (tprInAt s t).drop 1)
            ∧ (∀ n, outNeigh s t w = some n → tprInAt u n = tprInAt s n ++ [(bs, psn)])
            ∧ (cfgLand w = false → sameMem s u)
            ∧ (cfgLand w = true → tfld u t .TPR_WP f_TPR_WP_WP = (wp + 32) % 2 ^ 32
              ∧ (off + 32 ≤ cmSize → tfld s t .TPR_FLAG_CFG f_TPR_FLAG_CFG_PIECE_LOG2 < 6 → cmStored s u t off bs))))
    ∧ (∀ v : BitVec 32, let held := (tfld s t .TPR_WP f_TPR_WP_WP + 2 ^ 32 - v.toNat) % 2 ^ 32;
        (held ≤ 2 ^ tfld s t .TPR_RING f_TPR_RING_LOG2 → answers (.tprRpWrite t v) s (fun u => tfld u t .TPR_RP f_TPR_RP_RP = v.toNat ∧ onlyRegs s u [tk t .TPR_RP]))
        ∧ (2 ^ tfld s t .TPR_RING f_TPR_RING_LOG2 < held → answers (.tprRpWrite t v) s (fun u => tfld u t .TPR_STAT f_TPR_STAT_RP_ERR = 1
          ∧ onlyRegs s u [tk t .TPR_STAT, tk t .TILE_IRQ_PEND])))
    ∧ (∀ v : W64, let new := (v &&& regMask (tk t .TPR_CFG)).toNat; let en := cfgEn (tprWord s t); let same := new % 2 ^ 31 = tprWord s t % 2 ^ 31;
        let refused := fun (u : State) => tfld u t .TPR_STAT f_TPR_STAT_CFG_ERR = 1 ∧ onlyRegs s u [tk t .TPR_STAT, tk t .TILE_IRQ_PEND];
        let sound := 1 ≤ cfgLen new ∧ cfgLen new ≤ 64 ∧ cfgPos new < cfgLen new;
        ((en = true ∧ ¬same) ∨ ¬sound → answers (.tprCfgWrite t 0 v) s refused)
        ∧ ((en = false ∨ same) → sound → answers (.tprCfgWrite t 0 v) s (fun u => sameMem s u ∧ regOf u (tk t .TPR_CFG) = v &&& regMask (tk t .TPR_CFG)
          ∧ (tfld u t .TPR_STAT f_TPR_STAT_READY = 1 ↔ cfgEn new = true ∧ portOk u t = true)))
        ∧ (en = true → answers (.tprCfgWrite t 1 v) s refused ∧ answers (.tprCfgWrite t 2 v) s refused)
        ∧ (en = false → answers (.tprCfgWrite t 2 v) s (fun u => regOf u (tk t .TPR_FLAG_CFG) = v &&& regMask (tk t .TPR_FLAG_CFG)
          ∧ onlyRegs s u [tk t .TPR_FLAG_CFG]))
        ∧ (en = false → let r := (v &&& regMask (tk t .TPR_RING)).toNat; let fits := 12 ≤ bitsOf r 0 5 ∧ bitsOf r 0 5 ≤ 22 ∧ bitsOf r 12 11 * 4096 + 2 ^ bitsOf r 0 5 ≤ cmSize;
          (fits → answers (.tprCfgWrite t 1 v) s (fun u => regOf u (tk t .TPR_RING) = v &&& regMask (tk t .TPR_RING) ∧ onlyRegs s u [tk t .TPR_RING]))
          ∧ (¬fits → answers (.tprCfgWrite t 1 v) s refused)))
    ∧ (tprBrkAt s t = false → exec (.taperBreak t) s = .next s)
    ∧ (tprBrkAt s t = true → cfgEn (tprWord s t) = false → answers (.taperBreak t) s (fun u => tprBrkAt u t = false ∧ onlyRegs s u []))
    ∧ (tprBrkAt s t = true → cfgEn (tprWord s t) = true → answers (.taperBreak t) s (fun u => sameMem s u ∧ tprBrkAt u t = false ∧ tprInAt u t = []
        ∧ tfld u t .TPR_STAT f_TPR_STAT_BROKEN = 1 ∧ ∀ n, inNeigh s t (tprWord s t) = some n → tprBrkAt u n = true))

/-- CN_ROUTE, CN_RRD, CN_RWR, CN_RRSP, CN_RWACK, CN_INTR and REGISTER_WRITE. A packet that breaks its format is discarded and
counted; one of another OP than the command's, or a request at a node with 32 answers unsent, is left alone. A register read is
answered with its status and bytes; a write that its target refuses, or that came poisoned, is answered so and changes nothing;
else it is made and answered OK. An answer to a core's register read brings the data to the register that waits, one to its
write ends the wait; an INTR makes the vector of its event pending where that is enabled. A router moves a packet on where it
wins its output and there is room, takes a packet that may start, and discards one with a broken header. A write that the target
does not serve changes nothing, one to a reserved offset no register, and one to a register that is only a setting writes its
bits there and changes no other. (R7, R44, R64, R67, R73, R310, R312, R315, R318, R320, R336, R337) -/
def Obligations.ControlPacketsAndRegisterWrites : Prop :=
  ∀ s : State,
    (∀ (p : CnPkt) c op node, ((c = Instr.cnRrd p ∧ op = 0 ∧ node = cnDst p) ∨ (c = .cnRwr p ∧ op = 1 ∧ node = cnDst p) ∨ (c = .cnRrsp p ∧ op = 8 ∧ node = cnDst p)
        ∨ (c = .cnRwack p ∧ op = 9 ∧ node = cnDst p) ∨ (c = .cnIntr p ∧ op = 4 ∧ node = hub)) →
      (op < 2 → cnRspFull s node = true → exec c s = .next s)
      ∧ (cnBad p = false → p.op.toNat ≠ op → exec c s = .next s)
      ∧ (cnBad p = true → (op < 2 → cnRspFull s node = false) → answers c s (fun u => sameMem s u
        ∧ tfld u (cnBlock node) .CN_TILE_STAT f_CN_TILE_STAT_BAD_OP = 1 ∧ tfld u (cnBlock node) .CN_BAD_OP_CNT f_CN_BAD_OP_CNT_COUNT
          = min (tfld s (cnBlock node) .CN_BAD_OP_CNT f_CN_BAD_OP_CNT_COUNT + 1) (fmax f_CN_BAD_OP_CNT_COUNT))))
    ∧ (∀ (p : CnPkt) who, cnBad p = false → cnWho p = some who → cnRspFull s (cnDst p) = false →
      (p.op.toNat = 0 → let r := regRead s (reqNo who 0) (cnPlace p) p.len.toNat;
        answers (.cnRrd p) s (fun u => sameMem s u ∧ ∃ a, cnqAt u (cnDst p) = cnqAt s (cnDst p) ++ [a] ∧ a.op.toNat = 8 ∧ cnFld a 0 8 = r.st
          ∧ cnFld a 25 5 = cnFld p 25 5 ∧ a.data = r.bytes ∧ cnDst a = cnSrc p))
      ∧ (p.op.toNat = 1 → let st := regStatus s (cnPlace p) p.len.toNat;
        (st ≠ stOK ∨ p.psn = true → answers (.cnRwr p) s (fun u => onlyRegs s u []
          ∧ cnAdds s u (cnDst p) 9 (cnSrc p) 0 8 (if st ≠ stOK then st else stPoisoned)))
        ∧ (st = stOK → p.psn = false → ∀ win off k, placeReg s (cnPlace p) = some (win, off, .reg k) → plainReg k = true →
          answers (.cnRwr p) s (fun u => cnAdds s u (cnDst p) 9 (cnSrc p) 0 8 stOK ∧ onlyRegs s u [k]
            ∧ regOf u k = accWrite (regFields k) (regOf s k) (laneData off p.len.toNat (leNat p.data)) (laneMask off p.len.toNat)))))
    ∧ (∀ (p : CnPkt) o, let node := cnDst p; let c := cnFld p 25 5; let k := coreOf s node c; cnBad p = false → c < 24 → node < 512 → cnFld p 0 8 = stOK →
      k.outst.find? (fun o => (o.kind == .regRd || o.kind == .regWr || o.kind == .late) && o.key == cnWin p) = some o →
      (p.op.toNat = 8 → o.kind = .regRd → p.psn = false → answers (.cnRrsp p) s (fun u => onlyRegs s u [] ∧ onlyCore s u node c
        ∧ coreOf u node c = ({ k with outst := k.outst.erase o } : CoreSt).loaded o.dst o.size p.data))
      ∧ (p.op.toNat = 9 → o.kind = .regWr → answers (.cnRwack p) s (fun u => onlyRegs s u [] ∧ onlyCore s u node c
        ∧ coreOf u node c = { k with outst := k.outst.erase o })))
    ∧ (∀ p : CnPkt, cnBad p = false → p.op.toNat = 4 → let ev := cnFld p 0 8; let w := (regOf s (dk .HIF_EVT_VEC (ev / 4))).toNat;
      answers (.cnIntr p) s (fun u => onlyRegs s u [] ∧ u.msixPend
        = if bitOf w (16 * (ev % 4) + 15) then s.msixPend ||| 2 ^ bitsOf w (16 * (ev % 4)) 8 else s.msixPend))
    ∧ (∀ (t : Tile) (inp : Fin 5) (p : CnPkt) err n, (cnVc p.op.toNat = none → exec (.cnRoute t inp p err n) s = .next s)
      ∧ ∀ vc, cnVc p.op.toNat = some vc → rowStopped s t = false →
        let next := fun (q : CnPkt) => match cnNext s t (cnOut t q vc) with
          | some (m, i) => (⟨q, m, if m = hub then 4 else i, m == hub⟩ : CnFlight)
          | none => ⟨q, t, 4, true⟩;
        let clear := fun (o : Nat) => (o = 4 → tileDown s t = false) ∧ ∀ m i, o ≠ 4 → cnNext s t o = some (m, i) → m ≠ hub → rowStopped s m = false;
        (∀ f, inp.val ≠ 4 → s.cn.find? (fun f => f.at_ == t.val && f.inp == inp.val && !f.ej && f.pkt == p) = some f → let o := cnOut t p vc;
          let goes := cnReady s t o vc = true ∧ arbWinner s t (cnPoint o vc) (cnRivals s t o vc) = some (cnReq inp p);
          (¬goes → exec (.cnRoute t inp p .ok n) s = .next s)
          ∧ (goes → clear o → answers (.cnRoute t inp p .ok n) s (fun u => sameMem s u ∧ u.cn = s.cn.erase f ++ [next p]))
          ∧ answers (.cnRoute t inp p .hdrUe n) s (fun u => sameMem s u ∧ u.cn = s.cn.erase f ∧ tfld u t .CN_TILE_STAT f_CN_TILE_STAT_HDR_UE = 1))
        ∧ (inp.val = 4 → p ∈ cnStartable s t vc → let q := cnStamp s p; let o := cnOut t q vc;
          cnReady s t o vc = true → arbWinner s t (cnPoint o vc) (cnRivals s t o vc ++ [cnReq inp q]) = some (cnReq inp q) → clear o →
          answers (.cnRoute t inp p .ok n) s (fun u => sameMem s u ∧ cnqAt u t = (cnqAt s t).erase p ∧ u.cn = s.cn ++ [next q]))
        ∧ (inp.val = 4 → p ∉ cnStartable s t vc → (∀ f ∈ s.cn, f.inp ≠ 4) → exec (.cnRoute t inp p err n) s = .next s))
    ∧ (∀ who (t : Option Tile) (off : BitVec 25) (wide : Bool) (v : W64), let pl := placeOf t off.toNat; let n := if wide then 8 else 4;
      (regStatus s pl n ≠ stOK → exec (.registerWrite who t off wide v) s = .next s)
      ∧ (regStatus s pl n = stOK → ∀ win o k, placeReg s pl = some (win, o, k) →
        (k = .none → answers (.registerWrite who t off wide v) s (fun u => onlyRegs s u []))
        ∧ (∀ r, k = .reg r → plainReg r = true → answers (.registerWrite who t off wide v) s (fun u => onlyRegs s u [r]
            ∧ regOf u r = accWrite (regFields r) (regOf s r) (laneData o n v.toNat) (laneMask o n)))))

/-- The active-message commands: records, ports, messages, credits and queue registers. A packet of another kind than the command's
changes nothing. LISTEN, OPEN and CLOSE move a record that they fit to its next state, OPEN and CLOSE with their packet; LISTEN
or OPEN that does not fit sets CTL_ERR. A GO sends its message for a credit, waits with BUSY for one, or ends with the code of
what is wrong. A message meets, in order, a tile that is down, one asleep, a channel not bound, a handler or queue off, and its
window; one that passes is stored and posted, or combined into its slot. A credit raises CREDITS to 255 at most; a CSTAT of 1 to
3 breaks the record. An OPEN is answered with the first reason against it or binds the record; a CLOSE closes a bound record and
is answered; their answers open or close the sender, and a CLOSE_REQ makes it close. Writes of AQ_CI, AQ_CFG and AMQ_CHAN_CFG
are taken or set CFG_ERR. (R321, R322, R323, R324, R326, R327, R328, R331, R333, R337, R338, R339) -/
def Obligations.MessagesTakeTheirChannels : Prop :=
  ∀ (s : State) (t : Tile),
    let bit := fun (u : State) f => tfld u t .AMQ_STAT f = 1 ∧ onlyRegs s u [tk t .AMQ_STAT, tk t .TILE_IRQ_PEND];
    (∀ (p : CnPkt) fs c op, ((c = Instr.cnAm t p fs ∧ op = 2) ∨ (c = .cnCred t p ∧ op = 0xA) ∨ (c = .cnCtlOpen t p ∧ op = 3) ∨ (c = .cnCtlClose t p ∧ op = 3)
        ∨ (c = .cnOpenRsp t p ∧ op = 0xB) ∨ (c = .cnCloseRsp t p ∧ op = 0xB) ∨ (c = .cnCloseReq t p ∧ op = 0xB)) →
        cnBad p = false → p.op.toNat ≠ op → exec c s = .next s)
    ∧ (∀ i : BitVec 6, let n := i.toNat; let st := chState s t n; let only := [tk t .AMQ_CHAN_STAT n];
      let q := chCfg s t n f_AMQ_CHAN_CFG_AQ; let cr := chCfg s t n f_AMQ_CHAN_CFG_CREDITS;
      let used := ((List.range 64).filter (boundTo s t q)).foldl (fun a j => a + chCfg s t j f_AMQ_CHAN_CFG_CREDITS) 0;
      let fits := isRecv s t n = true ∧ st = chClosed ∧ tfld s t .AQ_CFG f_AQ_CFG_ENABLE q = 1 ∧ 1 ≤ cr ∧ used + cr ≤ aqSize s t q
        ∧ chCfg s t n f_AMQ_CHAN_CFG_WIN_BASE * 64 + winBytes (chCfg s t n f_AMQ_CHAN_CFG_WIN) ≤ cmSize;
      (fits → answers (.amqListen t i) s (fun u => chState u t n = chListen ∧ onlyRegs s u only))
      ∧ (¬fits → answers (.amqListen t i) s (fun u => bit u f_AMQ_STAT_CTL_ERR))
      ∧ (∀ pc : BitVec 6, let peer := chCfg s t n f_AMQ_CHAN_CFG_PEER;
        let good := isSend s t n = true ∧ st = chClosed ∧ chCfg s t n f_AMQ_CHAN_CFG_SLVL ≠ 7 ∧ tileX peer < gridW s;
        (good → answers (.amqOpen t i pc) s (fun u => chState u t n = chOpening ∧ chStat u t n f_AMQ_CHAN_STAT_PEER_TILE = peer
          ∧ chStat u t n f_AMQ_CHAN_STAT_PEER_CHAN = pc.toNat ∧ cnAdds s u t 3 peer 27 3 1))
        ∧ (¬good → answers (.amqOpen t i pc) s (fun u => bit u f_AMQ_STAT_CTL_ERR)))
      ∧ (isSend s t n = true → st = chOpen → answers (.amqClose t i) s (fun u => chState u t n = chClosing
          ∧ cnAdds s u t 3 (chStat s t n f_AMQ_CHAN_STAT_PEER_TILE) 27 3 2))
      ∧ (isSend s t n = true → st = chBroken → answers (.amqClose t i) s (fun u => chState u t n = chClosed))
      ∧ (isRecv s t n = true → st = chListen → answers (.amqClose t i) s (fun u => chState u t n = chClosed ∧ onlyRegs s u only))
      ∧ (isRecv s t n = true → st = chOpen → answers (.amqClose t i) s (fun u => chState u t n = chDraining ∧ onlyRegs s u only
          ∧ cnAdds s u t 0xB (chStat s t n f_AMQ_CHAN_STAT_PEER_TILE) 27 3 4))
      ∧ (isSend s t n = false → isRecv s t n = false → exec (.amqClose t i) s = .next s))
    ∧ (∀ (c : CoreIx) (v : W64), let w := v.toNat; let i := goChan w; let last := fun (u : State) x => tfld u t .AMQ_SEND_STAT f_AMQ_SEND_STAT_LAST c = x;
      let ends := fun x => answers (.amqSendGo t c v) s (fun u => last u x ∧ onlyRegs s u [tk t .AMQ_SEND_STAT c]);
      let shaped := bitsOf w 41 23 = 0 ∧ bitsOf w 39 1 = 0 ∧ bitsOf w 6 2 = 0; let opens := isSend s t i = true ∧ chState s t i = chOpen;
      let inWin := goLoff w * 8 + goLen w ≤ winBytes (chStat s t i f_AMQ_CHAN_STAT_WIN); let cr := chStat s t i f_AMQ_CHAN_STAT_CREDITS;
      (tfld s t .AMQ_SEND_STAT f_AMQ_SEND_STAT_BUSY c = 1 → answers (.amqSendGo t c v) s (fun u => last u 7
        ∧ tfld u t .AMQ_STAT f_AMQ_STAT_OVERRUN = 1 ∧ sameMem s u))
      ∧ (tfld s t .AMQ_SEND_STAT f_AMQ_SEND_STAT_BUSY c = 0 → (¬shaped → ends 6) ∧ (shaped → 64 < goLen w → ends 5)
        ∧ (shaped → goLen w ≤ 64 → ¬opens → ends 3) ∧ (shaped → goLen w ≤ 64 → opens → ¬inWin → ends 4)
        ∧ (shaped → goLen w ≤ 64 → opens → inWin → cr = 0 → bitOf w 40 = true → ends 2)
        ∧ (shaped → goLen w ≤ 64 → opens → inWin → cr = 0 → bitOf w 40 = false → answers (.amqSendGo t c v) s (fun u => last u 1
          ∧ tfld u t .AMQ_SEND_STAT f_AMQ_SEND_STAT_BUSY c = 1 ∧ amqGoAt u (t * 24 + c) = some v ∧ onlyRegs s u [tk t .AMQ_SEND_STAT c]))
        ∧ (shaped → goLen w ≤ 64 → opens → inWin → 0 < cr → answers (.amqSendGo t c v) s (fun u => last u 0
          ∧ chStat u t i f_AMQ_CHAN_STAT_CREDITS = cr - 1 ∧ onlyRegs s u [tk t .AMQ_SEND_STAT c, tk t .AMQ_CHAN_STAT i, tk t .AMQ_TX_CNT]
          ∧ cnAdds s u t 2 (chStat s t i f_AMQ_CHAN_STAT_PEER_TILE) 16 8 (goHandler w)))))
    ∧ (∀ p : CnPkt, cnBad p = false →
      (p.op.toNat = 2 → let i := amChan p; let b := handlerByte s t (amHandler p); let q := chCfg s t i f_AMQ_CHAN_CFG_AQ;
        let off := chCfg s t i f_AMQ_CHAN_CFG_WIN_BASE * 64 + amLoff p * 8; let ctl := leNat (smRead 0 s.cm (cmKey t off) 8); let len := p.data.length;
        let count := bitsOf ctl 0 16; let target := bitsOf ctl 16 16; let pi := tfld s t .AQ_PI f_AQ_PI_PI q;
        let eo := tfld s t .AQ_CFG f_AQ_CFG_BASE q * 16 + pi % aqSize s t q * 16;
        let bounces := fun fs x => answers (.cnAm t p fs) s (fun u => onlyRegs s u [] ∧ cnAdds s u t 0xA (cnSrc p) 13 3 x);
        let on := hEn b = true ∧ tfld s t .AQ_CFG f_AQ_CFG_ENABLE q = 1;
        let fits := amLoff p * 8 + len + (if hCombine b then 8 else 0) ≤ winBytes (chCfg s t i f_AMQ_CHAN_CFG_WIN);
        (cmWaits s (.cm t 0) = true → ∀ fs, exec (.cnAm t p fs) s = .next s)
        ∧ (cmWaits s (.cm t 0) = false → (tileDown s t = true → ∀ fs, bounces fs 2)
          ∧ (tileDown s t = false → tileAsleep s t = true → ∀ fs, bounces fs 3)
          ∧ (tileDown s t = false → tileAsleep s t = false → boundPeer s t i p = false → ∀ fs, bounces fs 1)
          ∧ (tileDown s t = false → tileAsleep s t = false → boundPeer s t i p = true →
            (¬(on ∧ fits) → ∀ fs, answers (.cnAm t p fs) s (fun u => tfld u t .AMQ_STAT f_AMQ_STAT_DISCARD_SEEN = 1 ∧ cnAdds s u t 0xA (cnSrc p) 13 3 4))
            ∧ (on → fits → hCombine b = false → tfld s t .AQ_SWORD f_AQ_SWORD_OFF q = 0 → eo + 16 ≤ cmSize → (off + len ≤ eo ∨ eo + 16 ≤ off) →
              answers (.cnAm t p []) s (fun u => tfld u t .AQ_PI f_AQ_PI_PI q = (pi + 1) % 65536 ∧ smRead 0 u.cm (cmKey t off) len = p.data
                ∧ smRead 0 u.cm (cmKey t eo) 16 = aqEntry p false (p.psn && !p.data.isEmpty) (1 - pi / aqSize s t q % 2) (leNat (p.data.take 8))))
            ∧ (on → fits → hCombine b = true → len % hElem b = 0 → target ≠ 0 → bitOf ctl 63 = false → count + 1 < target →
              answers (.cnAm t p []) s (fun u => cmStored s u t off (leBytes 8 (target * 2 ^ 16 + (count + 1))
                ++ if count = 0 then p.data else combData b (smRead 0 s.cm (cmKey t (off + 8)) len) p.data))))))
      ∧ (p.op.toNat = 0xA → let i := cnFld p 24 6; let cs := cnFld p 13 3;
        let mine := isSend s t i = true ∧ (chState s t i = chOpen ∨ chState s t i = chClosing ∨ chState s t i = chBroken)
          ∧ chStat s t i f_AMQ_CHAN_STAT_PEER_TILE = p.stile.toNat;
        (¬mine → cs = 0 → answers (.cnCred t p) s (fun u => onlyRegs s u []))
        ∧ (cs ≠ 0 → answers (.cnCred t p) s (fun u => tfld u t .AMQ_STAT f_AMQ_STAT_NAK_SEEN = 1))
        ∧ (mine → cs = 0 → waitPorts s t i = [] → answers (.cnCred t p) s (fun u => chState u t i = chState s t i
          ∧ chStat u t i f_AMQ_CHAN_STAT_CREDITS = min 255 (chStat s t i f_AMQ_CHAN_STAT_CREDITS + cnFld p 16 8)))
        ∧ (mine → 1 ≤ cs → cs ≤ 3 → answers (.cnCred t p) s (fun u => chState u t i = chBroken ∧ tfld u t .AMQ_STAT f_AMQ_STAT_NAK_SEEN = 1)))
      ∧ (p.op.toNat = 3 → cnFld p 27 3 = 1 → let i := cnFld p 12 6; let q := chCfg s t i f_AMQ_CHAN_CFG_AQ;
        let why := if tileAsleep s t then 5 else if isRecv s t i && chState s t i == chListen then
          (if chCfg s t i f_AMQ_CHAN_CFG_ANY = 0 ∧ p.stile.toNat ≠ chCfg s t i f_AMQ_CHAN_CFG_PEER then 2
            else if tfld s t .AQ_CFG f_AQ_CFG_LEVEL q ≤ cnFld p 24 3 then 3 else 0) else 1;
        answers (.cnCtlOpen t p) s (fun u => cnAdds s u t 0xB (cnSrc p) 11 3 why ∧ (why ≠ 0 → onlyRegs s u [])
          ∧ (why = 0 → chState u t i = chOpen ∧ chStat u t i f_AMQ_CHAN_STAT_PEER_TILE = p.stile.toNat ∧ onlyRegs s u [tk t .AMQ_CHAN_STAT i])))
      ∧ (p.op.toNat = 3 → cnFld p 27 3 = 2 → let i := cnFld p 12 6; answers (.cnCtlClose t p) s (fun u =>
          cnAdds s u t 0xB (cnSrc p) 27 3 2 ∧ (if boundPeer s t i p && !tileAsleep s t then chState u t i = chClosed else onlyRegs s u [])))
      ∧ (p.op.toNat = 0xB → let i := cnFld p 18 6;
        (cnFld p 27 3 = 1 → (fromPeer s t i chOpening p = false → answers (.cnOpenRsp t p) s (fun u => onlyRegs s u []))
          ∧ (fromPeer s t i chOpening p = true → answers (.cnOpenRsp t p) s (fun u => chStat u t i f_AMQ_CHAN_STAT_RESULT = cnFld p 11 3
            ∧ chState u t i = (if cnFld p 11 3 = 0 then chOpen else chClosed)
            ∧ (cnFld p 11 3 = 0 → chStat u t i f_AMQ_CHAN_STAT_CREDITS = cnFld p 3 8))))
        ∧ (cnFld p 27 3 = 2 → answers (.cnCloseRsp t p) s (fun u => if fromPeer s t i chClosing p then chState u t i = chClosed else onlyRegs s u []))
        ∧ (cnFld p 27 3 = 4 → fromPeer s t i chOpen p = true → chStat s t i f_AMQ_CHAN_STAT_PEER_CHAN = p.rcd.toNat →
          answers (.cnCloseReq t p) s (fun u => chState u t i = chClosing ∧ cnAdds s u t 3 p.stile.toNat 27 3 2))))
    ∧ (∀ (q : Fin 8) (v : BitVec 16), let ci := tfld s t .AQ_CI f_AQ_CI_CI q; let pi := tfld s t .AQ_PI f_AQ_PI_PI q;
      (idxDiff v.toNat ci ≤ idxDiff pi ci → answers (.aqCiWrite t q v) s (fun u => tfld u t .AQ_CI f_AQ_CI_CI q = v.toNat ∧ onlyRegs s u [tk t .AQ_CI q]))
      ∧ (idxDiff pi ci < idxDiff v.toNat ci → answers (.aqCiWrite t q v) s (fun u => bit u f_AMQ_STAT_CFG_ERR)))
    ∧ (∀ (q : Fin 8) (v : W64), let new := v &&& regMask (tk t .AQ_CFG q); let old := regOf s (tk t .AQ_CFG q);
      let moved := fget new f_AQ_CFG_LEVEL ≠ fget old f_AQ_CFG_LEVEL ∨ fget new f_AQ_CFG_LOG2_SIZE ≠ fget old f_AQ_CFG_LOG2_SIZE
        ∨ fget new f_AQ_CFG_BASE ≠ fget old f_AQ_CFG_BASE;
      let good := (moved → ∀ i, i < 64 → boundTo s t q i = false) ∧ fget new f_AQ_CFG_LEVEL ≠ 0 ∧ 4 ≤ fget new f_AQ_CFG_LOG2_SIZE
        ∧ fget new f_AQ_CFG_LOG2_SIZE ≤ 12;
      (good → answers (.aqCfgWrite t q v) s (fun u => regOf u (tk t .AQ_CFG q) = new ∧ onlyRegs s u [tk t .AQ_CFG q]))
      ∧ (¬good → answers (.aqCfgWrite t q v) s (fun u => bit u f_AMQ_STAT_CFG_ERR)))
    ∧ (∀ (i : BitVec 6) (v : W64), let k := tk t .AMQ_CHAN_CFG i.toNat; let new := v &&& regMask k; let win := fget new f_AMQ_CHAN_CFG_WIN;
      let good := chState s t i.toNat = chClosed ∧ fget new f_AMQ_CHAN_CFG_ROLE ≠ 3 ∧ win ≤ 13 ∧ fget new f_AMQ_CHAN_CFG_WIN_BASE * 64 % winBytes win = 0;
      (good → answers (.amqChanCfgWrite t i v) s (fun u => regOf u k = new ∧ onlyRegs s u [k]))
      ∧ (¬good → answers (.amqChanCfgWrite t i v) s (fun u => bit u f_AMQ_STAT_CFG_ERR)))

/-- A Wick token that is not of its context's tree and generation is discarded and counted. Whatever its kind, a token whose context
has XCHIP 0, whose arrival port is neither a child's nor the parent's, or whose GEN differs from the low bit of the current
generation is discarded: WICK_TOKEN_DROP_CNT rises by one (it stays at all ones), TOKEN_ERR sets, no context changes and no
token is sent. (R364) -/
def Obligations.WickTokensOfOtherTreesAreDropped : Prop :=
  ∀ (s : State) (n : Port) (tok : BitVec 14) (x : Instr),
    (x = .wickTokenArrive n tok ∨ x = .wickTokenRelease n tok ∨ x = .wickTokenBreak n tok) → let c := tok.toNat % 64;
    (ctxCfg s c f_WICK_CTX_CFG_XCHIP = 0
      ∨ ¬(bitOf (ctxCfg s c f_WICK_CTX_CFG_DOWN_MASK) n = true ∨ (ctxCfg s c f_WICK_CTX_CFG_UPV = 1 ∧ ctxCfg s c f_WICK_CTX_CFG_UP_PORT = n.val))
      ∨ ctxStat s c f_WICK_CTX_STAT_GEN % 2 ≠ bitsOf tok.toNat 13 1) →
    answers x s (fun u => dfld u .WICK_DEV_STAT f_WICK_DEV_STAT_TOKEN_ERR = 1
      ∧ dfld u .WICK_TOKEN_DROP_CNT f_WICK_TOKEN_DROP_CNT_COUNT
          = min (dfld s .WICK_TOKEN_DROP_CNT f_WICK_TOKEN_DROP_CNT_COUNT + 1) (fmax f_WICK_TOKEN_DROP_CNT_COUNT)
      ∧ onlyRegs s u [dk .WICK_DEV_STAT, dk .WICK_TOKEN_DROP_CNT, dk .WICK_TOKEN_RX_CNT] ∧ (∀ k, wickAt u k = wickAt s k) ∧ ∀ m, wickTxAt u m = wickTxAt s m)

/-- A message into a combine slot whose COUNT already equals TARGET. A message that its tile takes in combine mode, on a slot with
TARGET armed, COUNT equal to TARGET and DONE 0, leaves in the slot the old data combined with its payload, COUNT one higher
(65,535 at most), TARGET as it was and DONE 0, and no other byte changes; AQ_PI stays, so no entry is posted. (R346) -/
def Obligations.FullSlotsCombineOnAndPostNothing : Prop :=
  ∀ (s : State) (t : Tile) (p : CnPkt), let i := amChan p; let b := handlerByte s t (amHandler p); let q := chCfg s t i f_AMQ_CHAN_CFG_AQ;
    let off := chCfg s t i f_AMQ_CHAN_CFG_WIN_BASE * 64 + amLoff p * 8; let ctl := leNat (smRead 0 s.cm (cmKey t off) 8); let len := p.data.length;
    cnBad p = false → p.op.toNat = 2 → cmWaits s (.cm t 0) = false → tileDown s t = false → tileAsleep s t = false → boundPeer s t i p = true →
    hEn b = true → tfld s t .AQ_CFG f_AQ_CFG_ENABLE q = 1 → hCombine b = true → len % hElem b = 0 →
    amLoff p * 8 + len + 8 ≤ winBytes (chCfg s t i f_AMQ_CHAN_CFG_WIN) →
    bitsOf ctl 16 16 ≠ 0 → bitsOf ctl 0 16 = bitsOf ctl 16 16 → bitOf ctl 63 = false →
    answers (.cnAm t p []) s (fun u => tfld u t .AQ_PI f_AQ_PI_PI q = tfld s t .AQ_PI f_AQ_PI_PI q
      ∧ cmStored s u t off (leBytes 8 (bitsOf ctl 16 16 * 2 ^ 16 + min (bitsOf ctl 0 16 + 1) 65535)
        ++ combData b (smRead 0 s.cm (cmKey t (off + 8)) len) p.data))

/-- The Wick commands, ARB_WINDOW_BOUNDARY, ARB_CNT_CLR and SNUFFER_BITE. An arrival of no member, at a broken context, or a second
one, is recorded; the first of a member is counted, and the last of a context of one chip releases it: GEN rises, every member's
bit falls and its release is pending. A timeout breaks a context that has arrivals. A configuration that is sound, with nothing
pending or in flight, is taken and clears BROKEN; an unsound one sets CFG_ERR; EN 0 with arrivals pending breaks. A flag
operation of 1 or 2 joins the queue, another sets CFG_ERR; the root applies the oldest, and a watch that it meets falls. A token
from a child is noted, and the last sends ARRIVE upward or releases and sends RELEASE; a RELEASE releases and goes on; a BREAK
breaks and goes on. A window boundary refills the credits of a point and clears its class counts; CNT_CLR clears the counters of
the point selected; a bite of an enabled Snuffer is counted and recorded, and one with RELEASE ends the ownership. (R352, R353,
R354, R358, R359, R360, R361, R363, R374, R376, R390, R391) -/
def Obligations.WickAndArbitrationCommands : Prop :=
  ∀ s : State,
    (∀ (t : Tile) (cx : BitVec 6), let c := cx.toNat; let ms := wickMembers s c; let member := ctxCfg s c f_WICK_CTX_CFG_EN = 1 ∧ t.val ∈ ms;
      let broken := ctxStat s c f_WICK_CTX_STAT_BROKEN = 1; let only := fun (u : State) k => onlyRegs s u [tk t .WICK_STAT, tk t k, tk t .TILE_IRQ_PEND];
      (¬member → answers (.wickArrive t cx) s (fun u => tfld u t .WICK_STAT f_WICK_STAT_NONMEMBER = 1 ∧ only u .WICK_NONMEM_CNT))
      ∧ (member → broken → answers (.wickArrive t cx) s (fun u => tfld u t .WICK_STAT f_WICK_STAT_BROKEN_SEEN = 1 ∧ only u .WICK_STAT))
      ∧ (member → ¬broken → hasArrived s t c = true → answers (.wickArrive t cx) s (fun u => tfld u t .WICK_STAT f_WICK_STAT_DUP = 1 ∧ only u .WICK_DUP_CNT))
      ∧ (member → ¬broken → hasArrived s t c = false → (∃ m ∈ ms, m ≠ t.val ∧ countsArrived s c m = false) → answers (.wickArrive t cx) s (fun u =>
        hasArrived u t c = true ∧ ctxStat u c f_WICK_CTX_STAT_PENDING = 1 ∧ onlyRegs s u [tk t .WICK_ARRIVED, tk t .WICK_ARRIVE_CNT, dk .WICK_CTX_STAT c]))
      ∧ (member → ¬broken → hasArrived s t c = false → (∀ m ∈ ms, m ≠ t.val → countsArrived s c m = true) → ctxCfg s c f_WICK_CTX_CFG_XCHIP = 0 →
        answers (.wickArrive t cx) s (fun u => ctxStat u c f_WICK_CTX_STAT_GEN = (ctxStat s c f_WICK_CTX_STAT_GEN + 1) % 2 ^ 32
          ∧ ctxStat u c f_WICK_CTX_STAT_LAST = 1 ∧ ctxStat u c f_WICK_CTX_STAT_PENDING = 0
          ∧ ∀ m ∈ ms, hasArrived u m c = false ∧ bitOf (regOf u (tk m .WICK_REL_PEND)).toNat c = true)))
    ∧ (∀ cx : BitVec 6, let c := cx.toNat; let ms := wickMembers s c;
      let late := ctxCfg s c f_WICK_CTX_CFG_TMO ≠ 0 ∧ ctxCfg s c f_WICK_CTX_CFG_EN = 1 ∧ ctxStat s c f_WICK_CTX_STAT_PENDING = 1
        ∧ ctxStat s c f_WICK_CTX_STAT_BROKEN = 0;
      let broke := fun (u : State) x => ctxStat u c f_WICK_CTX_STAT_BROKEN = 1 ∧ ctxStat u c f_WICK_CTX_STAT_LAST = x ∧ ctxStat u c f_WICK_CTX_STAT_PENDING = 0
        ∧ ctxStat u c f_WICK_CTX_STAT_GEN = ctxStat s c f_WICK_CTX_STAT_GEN
        ∧ ctxStat u c f_WICK_CTX_STAT_MISSING_CNT = (ms.filter (fun m => !countsArrived s c m)).length % 2 ^ 10
        ∧ ∀ m ∈ ms, hasArrived u m c = false ∧ tfld u m .WICK_STAT f_WICK_STAT_BROKEN_SEEN = 1;
      (¬late → exec (.wickCtxTimeout cx) s = .next s)
      ∧ (late → answers (.wickCtxTimeout cx) s (fun u => broke u 2))
      ∧ ∀ v : W64, let new := v &&& regMask (dk .WICK_CTX_CFG c); let down := fget new f_WICK_CTX_CFG_DOWN_MASK; let upv := fget new f_WICK_CTX_CFG_UPV;
        let x := fget new f_WICK_CTX_CFG_XCHIP; let pending := ctxStat s c f_WICK_CTX_STAT_PENDING = 1;
        let flying := ∃ n, n < 16 ∧ ∃ w ∈ wickTxAt s n ++ (wlpAt s n).wUn.flatten, w % 64 = c;
        let sound := tileX (fget new f_WICK_CTX_CFG_NEAR) < gridW s ∧ tileX (fget new f_WICK_CTX_CFG_FAR) < gridW s ∧ (x = 1 → upv = 0 → down ≠ 0)
          ∧ (upv = 1 → bitOf down (fget new f_WICK_CTX_CFG_UP_PORT) = false) ∧ (x = 0 → upv = 0 ∧ down = 0);
        (¬sound ∨ (pending ∧ fget new f_WICK_CTX_CFG_EN = 1) ∨ (flying ∧ ¬pending) → answers (.wickCtxCfgWrite cx v) s (fun u =>
          dfld u .WICK_DEV_STAT f_WICK_DEV_STAT_CFG_ERR = 1 ∧ onlyRegs s u [dk .WICK_DEV_STAT]))
        ∧ (sound → pending → fget new f_WICK_CTX_CFG_EN = 0 → answers (.wickCtxCfgWrite cx v) s (fun u => broke u 4 ∧ regOf u (dk .WICK_CTX_CFG c) = new))
        ∧ (sound → ¬pending → ¬flying → answers (.wickCtxCfgWrite cx v) s (fun u => regOf u (dk .WICK_CTX_CFG c) = new
          ∧ ctxStat u c f_WICK_CTX_STAT_BROKEN = 0 ∧ ctxStat u c f_WICK_CTX_STAT_GEN = ctxStat s c f_WICK_CTX_STAT_GEN
          ∧ onlyRegs s u [dk .WICK_CTX_CFG c, dk .WICK_CTX_STAT c])))
    ∧ (∀ (t : Option Tile), let n := match t with | some t => t.val | none => 512;
      (∀ v : BitVec 10, let op := bitsOf v.toNat 8 2;
        (op = 1 ∨ op = 2 → answers (.wickFlagOpWrite t v) s (fun u => wickFqAt u n = wickFqAt s n ++ [(op == 1, bitsOf v.toNat 0 8)] ∧ onlyRegs s u []))
        ∧ (op = 0 ∨ op = 3 → answers (.wickFlagOpWrite t v) s (fun u => sameMem s u
          ∧ (if n < 512 then tfld u n .WICK_STAT f_WICK_STAT_CFG_ERR = 1 else dfld u .WICK_DEV_STAT f_WICK_DEV_STAT_CFG_ERR = 1))))
      ∧ (wickFqAt s n = [] → exec (.wickFlagUpdate t) s = .next s)
      ∧ (∀ set f rest, wickFqAt s n = (set, f) :: rest → f < 256 → let b := BitVec.ofNat 64 (2 ^ (f % 64)); let old := regOf s (dk .WICK_FLAG_STATE (f / 64));
        answers (.wickFlagUpdate t) s (fun u => wickFqAt u n = rest ∧ regOf u (dk .WICK_FLAG_STATE (f / 64)) = (if set then old ||| b else old &&& ~~~b)
          ∧ (∀ j, j < 4 → j ≠ f / 64 → regOf u (dk .WICK_FLAG_STATE j) = regOf s (dk .WICK_FLAG_STATE j))
          ∧ dfld u .WICK_FLAG_SEQ f_WICK_FLAG_SEQ_SEQ = (dfld s .WICK_FLAG_SEQ f_WICK_FLAG_SEQ_SEQ + 1) % 2 ^ 32
          ∧ ∀ (k : Tile) w, k.val < nTiles s → w < 4 → tfld s k .WICK_WATCH f_WICK_WATCH_FLAG w = f → tfld s k .WICK_WATCH f_WICK_WATCH_VALUE w = b2n set →
            tfld u k .WICK_WATCH f_WICK_WATCH_EN w = 0)))
    ∧ (∀ (t : Tile) (w : Fin 4) (v : W64), let k := tk t .WICK_WATCH w; let new := v &&& regMask k; let f := fget new f_WICK_WATCH_FLAG;
      let on := bitOf (regOf s (dk .WICK_FLAG_STATE (f / 64))).toNat (f % 64); let fires := fget new f_WICK_WATCH_EN = 1 ∧ fget new f_WICK_WATCH_VALUE = b2n on;
      let off := 8 * fget new f_WICK_WATCH_OFF;
      (¬fires → answers (.wickWatchWrite t w v) s (fun u => regOf u k = new ∧ onlyRegs s u [k]))
      ∧ (fires → answers (.wickWatchWrite t w v) s (fun u => regOf u k = fset new f_WICK_WATCH_EN 0 ∧ (off = 0 → sameMem s u)
        ∧ (off ≠ 0 → tileDown s t = false → tileAsleep s t = false →
          cmStored s u t off (leBytes 8 (dfld s .WICK_FLAG_SEQ f_WICK_FLAG_SEQ_SEQ * 2 ^ 32 + b2n on * 2 ^ 8 + f))))))
    ∧ (∀ (n : Port) (tok : BitVec 14), let c := tok.toNat % 64; let gen := ctxStat s c f_WICK_CTX_STAT_GEN; let down := ctxCfg s c f_WICK_CTX_CFG_DOWN_MASK;
      ctxCfg s c f_WICK_CTX_CFG_EN = 1 → n.val ∈ treePorts s c → gen % 2 = bitsOf tok.toNat 13 1 → let child := bitOf down n;
      let sent := fun (u : State) m x => wickTxAt u m = wickTxAt s m ++ [x * 2 ^ 14 + gen % 2 * 2 ^ 13 + c];
      let freed := fun (u : State) => ctxStat u c f_WICK_CTX_STAT_GEN = (gen + 1) % 2 ^ 32 ∧ ctxStat u c f_WICK_CTX_STAT_LAST = 1
        ∧ ∀ m, m < 16 → bitOf down m = true → sent u m 2;
      (ctxStat s c f_WICK_CTX_STAT_BROKEN = 1 → answers (.wickTokenBreak n tok) s (fun u => onlyRegs s u [dk .WICK_TOKEN_RX_CNT])
        ∧ (child = true → answers (.wickTokenArrive n tok) s (fun u => onlyRegs s u [dk .WICK_TOKEN_RX_CNT]))
        ∧ (child = false → answers (.wickTokenRelease n tok) s (fun u => onlyRegs s u [dk .WICK_TOKEN_RX_CNT])))
      ∧ (ctxStat s c f_WICK_CTX_STAT_BROKEN = 0 →
        (child = true → let got := (wickAt s c).got ||| 2 ^ n.val; let all := ∀ m ∈ wickMembers s c, countsArrived s c m = true;
          (got &&& down ≠ down → answers (.wickTokenArrive n tok) s (fun u => wickAt u c = ⟨got, (wickAt s c).sent⟩
            ∧ ctxStat u c f_WICK_CTX_STAT_PENDING = 1 ∧ onlyRegs s u [dk .WICK_TOKEN_RX_CNT, dk .WICK_CTX_STAT c]))
          ∧ (got &&& down = down → all → ctxCfg s c f_WICK_CTX_CFG_UPV = 1 → (wickAt s c).sent = false → answers (.wickTokenArrive n tok) s (fun u =>
            sent u (ctxCfg s c f_WICK_CTX_CFG_UP_PORT) 1 ∧ (wickAt u c).sent = true ∧ sameMem s u))
          ∧ (got &&& down = down → all → ctxCfg s c f_WICK_CTX_CFG_UPV = 0 → answers (.wickTokenArrive n tok) s freed))
        ∧ (child = false → answers (.wickTokenRelease n tok) s freed)
        ∧ answers (.wickTokenBreak n tok) s (fun u => ctxStat u c f_WICK_CTX_STAT_BROKEN = 1 ∧ ctxStat u c f_WICK_CTX_STAT_LAST = 3
          ∧ ∀ m ∈ treePorts s c, m ≠ n.val → sent u m 3)))
    ∧ (∀ (t : Option Tile), let k := match t with | some t => t.val | none => 512;
      (∀ p : Fin 128, answers (.arbWindowBoundary t p) s (fun u => onlyRegs s u [] ∧ (arbOf u k p).g2 = 0 ∧ (arbOf u k p).g3 = 0 ∧ (arbOf u k p).old = false
        ∧ (arbOf u k p).owner = (arbOf s k p).owner ∧ (arbOf u k p).ws = (List.range (arbCount s k p)).map (fun r =>
          (r, ((max 1 (bitsOf (arbReq s k p r ((headEpoch s k p r).getD (epochNow s))).toNat 0 16) : Nat) : Int)))))
      ∧ (let p := if k < 512 then tfld s k .ARB_SEL f_ARB_SEL_POINT % 64 else dfld s .ARB_DEV_SEL f_ARB_DEV_SEL_POINT;
        (p ≤ 62 ∨ (k = 512 ∧ p ≤ 96) → answers (.arbCntClr t) s (fun u => sameMem s u ∧ ∀ r, r < arbCount s k p → fld u (arbGrantsK k p r) f_ARB_CNT_GRANTS_COUNT = 0
          ∧ fld u (arbWaitK k p r) f_ARB_CNT_WAIT_COUNT = 0 ∧ fld u (arbLongestK k p r) f_ARB_CNT_LONGEST_LONGEST = 0))
        ∧ (¬(p ≤ 62 ∨ (k = 512 ∧ p ≤ 96)) → exec (.arbCntClr t) s = .next s))
      ∧ ∀ (p : Fin 128) (r : Fin 512) what, let cfg := if k < 512 then tk k .SNF_CFG p else dk .SNF_DEV_CFG p;
        let stat := if k < 512 then tk k .SNF_STAT else dk .SNF_DEV_STAT; let cnt := if k < 512 then tk k .SNF_BITE_CNT p else dk .SNF_DEV_BITE_CNT p;
        (fld s cfg f_SNF_CFG_EN = 0 → exec (.snufferBite t p r what) s = .next s)
        ∧ (fld s cfg f_SNF_CFG_EN = 1 → (fld s cfg f_SNF_CFG_ACTION = 0 ∨ what = .none) → answers (.snufferBite t p r what) s (fun u => sameMem s u
          ∧ fld u stat f_SNF_STAT_BITE = 1 ∧ fld u cnt f_SNF_BITE_CNT_COUNT = min (fld s cnt f_SNF_BITE_CNT_COUNT + 1) (fmax f_SNF_BITE_CNT_COUNT)
          ∧ (fld s stat f_SNF_STAT_VALID = 0 → fld u stat f_SNF_STAT_FIRST_REQ = r.val ∧ fld u stat f_SNF_STAT_FIRST_POINT = p.val)
          ∧ (arbOf u k p).owner = if fld s cfg f_SNF_CFG_ACTION = 0 then (arbOf s k p).owner else none)))

/-- The epoch and quiesce commands, and SHADOW_WRITE. A commit written while one runs sets BUSY_REFUSED; else it begins with its ID.
At T_SW, outside a map apply, the epoch changes, and in a sound state the shadow and active registers of every table change
places. When the fabric is drained the commit records the time and copies, or ends; the end of the copy leaves both banks equal
and counts the commit. Each is nothing in another phase. A slow drain or quiesce sets its bit. A shadow write during DRAIN or
COPY is late and dropped; before, it is made. Quiesce requested again, or released again, changes nothing; requested, it begins;
it is reached when nothing is left; released, traffic resumes unless a map apply runs, and every tile takes the chip ID. (R407,
R409, R410, R411, R412, R416, R417, R430) -/
def Obligations.EpochsCommitAndTheDeviceQuiesces : Prop :=
  ∀ s : State, let phase := epcPhase s; let set := fun (u : State) f => dfld u .EPC_STAT f = 1 ∧ epcPhase u = phase ∧ sameMem s u;
    (∀ v : W64, exec (.epcCommitWrite v true) s = .next s
      ∧ (phase ≠ 0 → answers (.epcCommitWrite v false) s (fun u => set u f_EPC_STAT_BUSY_REFUSED))
      ∧ (phase = 0 → answers (.epcCommitWrite v false) s (fun u => epcPhase u = 1 ∧ dfld u .EPC_STAT f_EPC_STAT_LAST_ID = v.toNat % 65536 ∧ sameMem s u)))
    ∧ (phase ≠ 1 ∨ dfld s .TILE_MAP_STAT f_TILE_MAP_STAT_APPLYING = 1 → exec .epochSwitch s = .next s)
    ∧ (phase = 1 → dfld s .TILE_MAP_STAT f_TILE_MAP_STAT_APPLYING = 0 → answers .epochSwitch s (fun u => epcPhase u = 2 ∧ epochNow u = !epochNow s ∧ sameMem s u
        ∧ (s.Wf → (∀ k, arbAt s k ≠ ArbSt.init → (arbAt u k).old = true)
          ∧ ∀ c a b, tablePair c = some (a, b) → regOf u a = regOf s b ∧ regOf u b = regOf s a)))
    ∧ (∀ n : BitVec 32, let copy := dfld s .EPC_CFG f_EPC_CFG_COPY_ON_DRAIN = 1; let count := dfld s .EPC_COMMIT_CNT f_EPC_COMMIT_CNT_COUNT;
      (phase ≠ 2 ∨ drained s = false → exec (.epochCopyStart n) s = .next s)
      ∧ (phase = 2 → drained s = true → answers (.epochCopyStart n) s (fun u => dfld u .EPC_DRAIN_LAST f_EPC_DRAIN_LAST_FCLKS = n.toNat ∧ sameMem s u
        ∧ (copy → epcPhase u = 3 ∧ dfld u .EPC_COMMIT_CNT f_EPC_COMMIT_CNT_COUNT = count)
        ∧ (¬copy → epcPhase u = 0 ∧ dfld u .EPC_COMMIT_CNT f_EPC_COMMIT_CNT_COUNT = min (count + 1) (fmax f_EPC_COMMIT_CNT_COUNT))))
      ∧ (phase ≠ 3 → exec .epochCommitEnd s = .next s)
      ∧ (phase = 3 → answers .epochCommitEnd s (fun u => epcPhase u = 0 ∧ sameMem s u
        ∧ dfld u .EPC_COMMIT_CNT f_EPC_COMMIT_CNT_COUNT = min (count + 1) (fmax f_EPC_COMMIT_CNT_COUNT)
        ∧ (s.Wf → ∀ c a b, tablePair c = some (a, b) → regOf u a = regOf s b ∧ regOf u b = regOf s b))))
    ∧ (phase ≠ 2 → exec .epochDrainSlow s = .next s) ∧ (phase = 2 → answers .epochDrainSlow s (fun u => set u f_EPC_STAT_DRAIN_SLOW))
    ∧ (∀ (t : Option Tile) (off : BitVec 25) (wide : Bool) (v : W64) win o k, let n := if wide then 8 else 4;
      placeReg s (placeOf t off.toNat) = some (win, o, .reg k) →
      (isShadow k = false ∨ off.toNat % n ≠ 0 → exec (.shadowWrite t off wide v) s = .next s)
      ∧ (isShadow k = true → off.toNat % n = 0 → 2 ≤ phase → answers (.shadowWrite t off wide v) s (fun u => regOf u k = regOf s k ∧ set u f_EPC_STAT_LATE_WRITE
        ∧ dfld u .EPC_LATE_CNT f_EPC_LATE_CNT_COUNT = min (dfld s .EPC_LATE_CNT f_EPC_LATE_CNT_COUNT + 1) (fmax f_EPC_LATE_CNT_COUNT)))
      ∧ (isShadow k = true → off.toNat % n = 0 → phase < 2 → k ≠ dk .SYS_ORDER_SHADOW 0 → k ≠ dk .SYS_ORDER_SHADOW 1 → answers (.shadowWrite t off wide v) s (fun u =>
        regOf u k = accWrite (regFields k) (regOf s k) (laneData off.toNat n v.toNat) (laneMask off.toNat n)
        ∧ onlyRegs s u (k :: match k with | .tile t _ _ => [tk t .SHP_DIRTY] | _ => [dk .SHP_DEV_DIRTY]))))
    ∧ (let req := dfld s .EPC_QUIESCE f_EPC_QUIESCE_REQ; let on := dfld s .EPC_STAT f_EPC_STAT_QUIESCING; let is := dfld s .EPC_STAT f_EPC_STAT_QUIESCED;
      (req = 1 → exec .quiesceRequest s = .next s) ∧ (req = 0 → exec .quiesceResume s = .next s)
      ∧ (req = 0 → answers .quiesceRequest s (fun u => dfld u .EPC_QUIESCE f_EPC_QUIESCE_REQ = 1 ∧ onlyRegs s u [dk .EPC_QUIESCE, dk .EPC_STAT]
        ∧ holdTraffic u = true ∧ (is = 0 → dfld u .EPC_STAT f_EPC_STAT_QUIESCING = 1) ∧ dfld u .EPC_STAT f_EPC_STAT_QUIESCED = is))
      ∧ (on = 0 ∨ quiet s = false → exec .quiesceReached s = .next s)
      ∧ (on = 1 → quiet s = true → answers .quiesceReached s (fun u => dfld u .EPC_STAT f_EPC_STAT_QUIESCED = 1 ∧ dfld u .EPC_STAT f_EPC_STAT_QUIESCING = 0 ∧ sameMem s u))
      ∧ (on = 0 → exec .quiesceSlow s = .next s) ∧ (on = 1 → answers .quiesceSlow s (fun u => set u f_EPC_STAT_QSLOW))
      ∧ (req = 1 → dfld s .TILE_MAP_STAT f_TILE_MAP_STAT_APPLYING = 1 → answers .quiesceResume s (fun u => dfld u .EPC_QUIESCE f_EPC_QUIESCE_REQ = 0
        ∧ onlyRegs s u [dk .EPC_QUIESCE]))
      ∧ (req = 1 → dfld s .TILE_MAP_STAT f_TILE_MAP_STAT_APPLYING = 0 → answers .quiesceResume s (fun u => dfld u .EPC_QUIESCE f_EPC_QUIESCE_REQ = 0
        ∧ holdTraffic u = false ∧ (holdTraffic s = true → ∀ t : Tile, t.val < nTiles s → tfld u t .TILE_ID f_TILE_ID_CHIP_ID = chipId s))))

/-- The commands of a Wylet port: states and training, frames, replay, SIDE blocks, loss, rejoin and management words. For a port
whose power is on: EN and PORT_RST move it to OFF and DETECT; a training step advances in its own state only, and falls back. A
TRAIN block that is sound moves the handshake; with READY both sent and received the identity is judged in R444's order:
SELF_LOOP or ID_MISMATCH holds the port; the same partner in REJOIN resumes with its replay buffer less what is acknowledged,
all of it to be sent again; any other partner is recorded, sequences are 0 and credits 256. A new frame takes TX_NEXT, is
charged and kept; a replay sends the next unacknowledged frame. A frame received is judged in R446's order; an accepted one
joins its pool. A SIDE block sets HOLD_RX, adds credit, frees what it acknowledges, brings a management word in sequence and,
with NAK, starts a replay. A timeout of acknowledgement starts one, or reaches the limit, which loses the link. A loss goes to
REJOIN, or DOWN when REJOIN_MS is 0; the end of the window goes to DOWN. Management words wait in order, and the one read
leaves. (R441, R442, R443, R444, R445, R446, R448, R449, R452, R453, R454, R457) -/
def Obligations.WyletPortsTrainSendAndReplay : Prop :=
  ∀ (s : State) (n : Port), let st := portState s n; let step := wlpStep s n; let k := wlp s n;
    let at_ := fun (u : State) a b => portState u n = a ∧ wlpStep u n = b; let training := st = 1 ∨ st = 3 ∨ st = 4;
    let key := fun (r : DReg) => dk r n.val; let ev := fun (u : State) (b : Nat) => bitOf (regOf u (key .WLP_EVENT)).toNat b = true;
    let cnt := fun (u : State) (j x : Nat) => dfld u .WLP_CNT f_WLP_CNT_COUNT (18 * n.val + j)
      = min (dfld s .WLP_CNT f_WLP_CNT_COUNT (18 * n.val + j) + x) (fmax f_WLP_CNT_COUNT);
    let lanes := (List.range 16).map (fun l => dk .WLP_LANE_STAT (16 * n.val + l)); let pools := fun (u : State) => ∀ m, wlpPoolAt u m = wlpPoolAt s m;
    let moved := fun (u : State) => onlyRegs s u (key .WLP_STAT :: lanes); let rejoins := dfld s .WLP_CFG f_WLP_CFG_REJOIN_MS n ≠ 0;
    let calm := k.replay = [] ∧ (∀ q, q < 8 → eqOf s n q = []) ∧ ∀ c, c < 64 → n.val ∉ treePorts s c; let old := (k.replay.map (fun f => f.seq.toNat)).headD (wlpSeq s n f_WLP_SEQ_TX_NEXT);
    let left := fun (nx : Nat) => let d := (nx + 65536 - old) % 65536; if d ≤ k.replay.length then k.replay.drop d else k.replay;
    serdesOff s n = false →
    (∀ v : W64, let en := dfld s .WLP_CFG f_WLP_CFG_EN n; let new := accWrite (regFields (key .WLP_CFG)) (regOf s (key .WLP_CFG)) v allBits;
      (en = 0 → bitOf v.toNat 0 = true → answers (.wlpCfgWrite n v) s (fun u => at_ u 1 1 ∧ regOf u (key .WLP_CFG) = new
        ∧ onlyRegs s u (key .WLP_CFG :: key .WLP_STAT :: lanes)))
      ∧ (en = b2n (bitOf v.toNat 0) → answers (.wlpCfgWrite n v) s (fun u => regOf u (key .WLP_CFG) = new ∧ onlyRegs s u [key .WLP_CFG]))
      ∧ (en = 1 → bitOf v.toNat 0 = false → calm → answers (.wlpCfgWrite n v) s (fun u => at_ u 0 0 ∧ (wlp u n).sess = false ∧ (wlp u n).wUn = []))
      ∧ (calm → answers (.wlpPortRst n) s (fun u => (if en = 1 then at_ u 1 1 else at_ u 0 0)
        ∧ dfld u .WLP_INCARN f_WLP_INCARN_INCARN n = (dfld s .WLP_INCARN f_WLP_INCARN_INCARN n + 1) % 2 ^ f_WLP_INCARN_INCARN.len ∧ (wlp u n).sess = false))
      ∧ (st ≠ 5 → answers (.wlpExpectWrite n v) s (fun u => onlyRegs s u [key .WLP_EXPECT]
        ∧ regOf u (key .WLP_EXPECT) = accWrite (regFields (key .WLP_EXPECT)) (regOf s (key .WLP_EXPECT)) v allBits))
      ∧ (st = 5 → answers (.wlpExpectWrite n v) s (fun u => at_ u (if k.sess then 3 else 1) 1)
        ∧ answers (.wlpRetrain n) s (fun u => at_ u (if k.sess then 3 else 1) 1 ∧ moved u)))
    ∧ (st = 0 → exec (.wlpRetrain n) s = .next s) ∧ (training → answers (.wlpRetrain n) s (fun u => at_ u st 1 ∧ moved u))
    ∧ (training → step = 1 → answers (.wlpSignalDetect n) s (fun u => at_ u st 2 ∧ moved u)) ∧ (step ≠ 1 → exec (.wlpSignalDetect n) s = .next s)
    ∧ (training → step = 2 → answers (.wlpLaneLock n) s (fun u => at_ u st 3 ∧ moved u)) ∧ (step ≠ 2 → exec (.wlpLaneLock n) s = .next s)
    ∧ (∀ (logical : List (BitVec 4)) (inv : BitVec 16), logical.length = 16 →
      (step ≠ 3 → exec (.wlpLaneAlign n logical inv) s = .next s)
      ∧ (training → step = 3 → answers (.wlpLaneAlign n logical inv) s (fun u => at_ u st 4 ∧ moved u ∧ dfld u .WLP_STAT f_WLP_STAT_LANE_LOCK n = 0xFFFF
        ∧ ∀ l, l < 16 → dfld u .WLP_LANE_STAT f_WLP_LANE_STAT_LOCK (16 * n.val + l) = 1
          ∧ dfld u .WLP_LANE_STAT f_WLP_LANE_STAT_LOGICAL (16 * n.val + l) = (logical.getD l 0).toNat
          ∧ dfld u .WLP_LANE_STAT f_WLP_LANE_STAT_INVERT (16 * n.val + l) = b2n (bitOf inv.toNat l))))
    ∧ (training → 2 ≤ step → answers (.wlpTrainTimeout n) s (fun u => at_ u st 1 ∧ moved u)) ∧ (step < 2 → exec (.wlpTrainTimeout n) s = .next s)
    ∧ (∀ bs : List Byte, (step ≠ 4 ∨ parseTrain bs = none → exec (.trainBlockReceive n bs) s = .next s)
      ∧ (∀ x id echo, step = 4 → parseTrain bs = some (x, id, echo) → let hs := if x = 1 then max k.hs 2 else if x = 2 ∧ echo = ownNonce s n then 3 else k.hs;
        let done := hs = 3 ∧ (k.rdy = true ∨ x = 3); let self := id.nonce = ownNonce s n ∧ id.chip = chipId s;
        let other := dfld s .WLP_EXPECT f_WLP_EXPECT_EN n = 1 ∧ (id.chip ≠ dfld s .WLP_EXPECT f_WLP_EXPECT_CHIP_ID n ∨ id.port ≠ dfld s .WLP_EXPECT f_WLP_EXPECT_PORT n);
        let same := st = 3 ∧ id.nonce = dfld s .WLP_PARTNER_NONCE f_WLP_PARTNER_NONCE_NONCE n ∧ id.incarn = dfld s .WLP_PARTNER_ID f_WLP_PARTNER_ID_INCARN n
          ∧ id.chip = dfld s .WLP_PARTNER_ID f_WLP_PARTNER_ID_CHIP_ID n ∧ id.port = dfld s .WLP_PARTNER_ID f_WLP_PARTNER_ID_PORT n;
        (¬done → answers (.trainBlockReceive n bs) s (fun u => wlp u n = { k with hs := hs, rdy := k.rdy || x == 3, peer := some id } ∧ onlyRegs s u []))
        ∧ (done → self → answers (.trainBlockReceive n bs) s (fun u => at_ u 5 0 ∧ ev u 12 ∧ (wlp u n).replay = k.replay))
        ∧ (done → ¬self → other → answers (.trainBlockReceive n bs) s (fun u => at_ u 5 0 ∧ ev u 13 ∧ (wlp u n).replay = k.replay))
        ∧ (done → ¬self → ¬other → same → answers (.trainBlockReceive n bs) s (fun u => at_ u 2 0 ∧ ev u 1 ∧ (wlp u n).replay = left id.rxNext
          ∧ (wlp u n).rep = ((left id.rxNext).head?).map (fun f => (f.seq.toNat, f.seq.toNat)) ∧ (wlp u n).cred = k.cred ∧ pools u))
        ∧ (done → ¬self → ¬other → ¬same → answers (.trainBlockReceive n bs) s (fun u => (k.sess = false → at_ u 2 0) ∧ (k.sess = true → ev u 2)
          ∧ (wlp u n).replay = [] ∧ (wlp u n).rep = none ∧ (wlp u n).cred = List.replicate 8 256 ∧ regOf u (key .WLP_SEQ) = 0
          ∧ dfld u .WLP_PARTNER_NONCE f_WLP_PARTNER_NONCE_NONCE n = id.nonce % 2 ^ 64))))
    ∧ (∀ waited held, (st ≠ 2 → exec (.wlpFrameSend n waited held) s = .next s)
      ∧ (st = 2 → k.rep = none → egressWinner s n = none → exec (.wlpFrameSend n waited held) s = .next s)
      ∧ (∀ r f fs, st = 2 → k.rep = none → egressWinner s n = some r → r.idx < 8 → eqOf s n r.idx = f :: fs → let sq := wlpSeq s n f_WLP_SEQ_TX_NEXT;
        answers (.wlpFrameSend n waited held) s (fun u => eqOf u n r.idx = fs ∧ (wlp u n).replay = k.replay ++ [{ f with seq := BitVec.ofNat 16 sq }]
          ∧ wlpSeq u n f_WLP_SEQ_TX_NEXT = (sq + 1) % 65536 ∧ (wlp u n).cred = k.cred.modify r.idx (· - frameBlocks f)
          ∧ cnt u 0 1 ∧ cnt u 2 f.data.length ∧ sameMem s u))
      ∧ (∀ a nx, st = 2 → k.rep = some (a, nx) → let o := (k.replay.map (fun f => f.seq.toNat)).headD nx; let d := (nx + 65536 - o) % 65536;
        let rest := k.replay.drop (if d < 32768 then d else 0);
        (rest = [] → answers (.wlpFrameSend n waited held) s (fun u => (wlp u n).rep = none ∧ (wlp u n).replay = k.replay ∧ onlyRegs s u []))
        ∧ ∀ f fs, rest = f :: fs → answers (.wlpFrameSend n waited held) s (fun u => cnt u 4 1 ∧ (wlp u n).replay = k.replay
          ∧ onlyRegs s u [dk .WLP_CNT (18 * n.val + 4)] ∧ (wlp u n).rep = if fs = [] then none else some (a, (f.seq.toNat + 1) % 65536))))
    ∧ (∀ (blk : BlkErr) (bytes : List Byte) (fec : List (Fin 16 × Nat)), let z := bytes.length; let f := (parseFrame bytes).1; let q := f.eq.toNat;
      let nx := wlpSeq s n f_WLP_SEQ_RX_NEXT; let d := (nx + 65536 - f.seq.toNat) % 65536; let full := 256 < poolBlocks s n q + frameBlocks f;
      let bad : Option (Nat × Option Nat) := if blk = .fecUe then some (15, some 8) else if blk = .fmt then some (11, some 9) else if z ≤ 23 then some (8, some 5)
        else if 2073 ≤ z then some (9, some 6) else if leAt bytes (z - 8) 8 ≠ crc64 (bytes.take (z - 8)) then some (10, some 7)
        else if 2048 < (parseFrame bytes).2 ∨ 24 + (parseFrame bytes).2 ≠ z then some (11, some 9) else if 1 ≤ d ∧ d ≤ 32768 then some (13, none)
        else if d ≠ 0 then some (12, some 10) else none;
      (st ≠ 2 → exec (.wlpFrameReceive n blk bytes fec) s = .next s)
      ∧ (∀ j e, st = 2 → bad = some (j, e) → answers (.wlpFrameReceive n blk bytes fec) s (fun u => cnt u j 1 ∧ (∀ b, e = some b → ev u b) ∧ pools u
        ∧ wlpSeq u n f_WLP_SEQ_RX_NEXT = nx ∧ (wlp u n).nakOut = (k.nakOut || e.isSome) ∧ sameMem s u))
      ∧ (st = 2 → bad = none → full → rejoins → answers (.wlpFrameReceive n blk bytes fec) s (fun u => cnt u 11 1 ∧ ev u 11 ∧ at_ u 3 1 ∧ pools u
        ∧ wlpSeq u n f_WLP_SEQ_RX_NEXT = nx))
      ∧ (st = 2 → bad = none → ¬full → answers (.wlpFrameReceive n blk bytes fec) s (fun u => poolOf u n q = poolOf s n q ++ [f]
        ∧ (∀ m, m ≠ 8 * n.val + q → wlpPoolAt u m = wlpPoolAt s m) ∧ wlpSeq u n f_WLP_SEQ_RX_NEXT = (nx + 1) % 65536 ∧ (wlp u n).nakOut = false
        ∧ cnt u 1 1 ∧ cnt u 3 f.data.length ∧ sameMem s u)))
    ∧ (∀ (bs : List Byte) (fec : List (Fin 16 × Nat)), let fl := leAt bs 1 1; let rest := left ((leAt bs 2 2 + 1) % 65536);
      let ctr := fun q => bitsOf (leAt bs 4 12) (12 * q) 12; let empty := bitsOf (leAt bs 20 2) 14 2 = 0 ∧ bitsOf (leAt bs 22 2) 14 2 = 0;
      (st ≠ 2 → exec (.sideBlockReceive n bs fec) s = .next s)
      ∧ (st = 2 → bitOf fl 0 = false → bitOf fl 2 = false ∨ empty → answers (.sideBlockReceive n bs fec) s (fun u => (wlp u n).replay = rest
        ∧ dfld u .WLP_STAT f_WLP_STAT_HOLD_RX n = b2n (bitOf fl 1)
        ∧ (∀ q, q < 8 → (wlp u n).cred.getD q 0 = k.cred.getD q 0 + (ctr q + 4096 - k.seen.getD q 0) % 4096 ∧ (wlp u n).seen.getD q 0 = ctr q)
        ∧ (wlp u n).wRx = (if bitOf fl 2 = true ∧ leAt bs 16 1 = k.wRx then (k.wRx + 1) % 256 else k.wRx)
        ∧ (wlp u n).mRxq = (if bitOf fl 3 = true ∧ leAt bs 18 1 = k.mRx ∧ k.mRxq.length < 16 then k.mRxq ++ [BitVec.ofNat 64 (leAt bs 24 8)] else k.mRxq)))
      ∧ (∀ f fs, st = 2 → bitOf fl 0 = true → bitOf fl 2 = false → k.rep = none → rest = f :: fs → rest ≠ k.replay ∨ wlpSeq s n f_WLP_SEQ_REPLAYS
          < dfld s .WLP_CFG f_WLP_CFG_RETRY_LIM n → answers (.sideBlockReceive n bs fec) s (fun u => cnt u 6 1 ∧ (wlp u n).rep = some (f.seq.toNat, f.seq.toNat))))
    ∧ (let r := wlpSeq s n f_WLP_SEQ_REPLAYS; let lim := max 1 (dfld s .WLP_CFG f_WLP_CFG_RETRY_LIM n);
      (st ≠ 2 ∨ k.replay = [] ∨ k.rep ≠ none → exec (.wlpAckTimeout n) s = .next s)
      ∧ (∀ f fs, st = 2 → k.replay = f :: fs → k.rep = none → r < lim → answers (.wlpAckTimeout n) s (fun u => cnt u 7 1
        ∧ (wlp u n).rep = some (f.seq.toNat, f.seq.toNat) ∧ wlpSeq u n f_WLP_SEQ_REPLAYS = r + 1
        ∧ onlyRegs s u [dk .WLP_CNT (18 * n.val + 7), key .WLP_SEQ]))
      ∧ (st = 2 → k.replay ≠ [] → k.rep = none → lim ≤ r → rejoins → answers (.wlpAckTimeout n) s (fun u => cnt u 7 1 ∧ cnt u 16 1 ∧ ev u 4 ∧ at_ u 3 1
        ∧ (wlp u n).replay = k.replay ∧ (wlp u n).sess = true)))
    ∧ (∀ m : Bool, let none_ := if m then k.mUn = [] ∧ k.mTx = [] else k.wUn = [] ∧ wickTxAt s n = [];
      let some_ := if m then k.mUn ≠ [] else k.wUn ≠ []; (st ≠ 2 → exec (.wlpSbResendTimeout n m) s = .next s)
      ∧ (st = 2 → none_ → answers (.wlpSbResendTimeout n m) s (fun u => cnt u 17 0))
      ∧ (st = 2 → some_ → answers (.wlpSbResendTimeout n m) s (fun u => cnt u 17 1)))
    ∧ (st = 2 → rejoins → ∀ c, c = .wlpLinkLoss n ∨ c = .wlpRetrain n → answers c s (fun u => at_ u 3 1 ∧ ev u 0 ∧ cnt u 16 1 ∧ (wlp u n).sess = true
        ∧ (wlp u n).rep = none ∧ (wlp u n).replay = k.replay ∧ pools u ∧ sameMem s u))
    ∧ (st = 2 → ¬rejoins → calm → answers (.wlpLinkLoss n) s (fun u => at_ u 4 1 ∧ ev u 0 ∧ ev u 3 ∧ cnt u 16 1 ∧ (wlp u n).sess = false))
    ∧ (training → step = 4 → answers (.wlpLinkLoss n) s (fun u => at_ u st 1 ∧ moved u)) ∧ (st ≠ 2 → step ≠ 4 → exec (.wlpLinkLoss n) s = .next s)
    ∧ (k.sess = false ∨ (st ≠ 3 ∧ st ≠ 5) → exec (.wlpRejoinExpire n) s = .next s)
    ∧ (k.sess = true → st = 3 ∨ st = 5 → calm → answers (.wlpRejoinExpire n) s (fun u => portState u n = 4 ∧ ev u 3 ∧ (wlp u n).sess = false
        ∧ wlpStep u n = if st = 3 then step else 1))
    ∧ (∀ v : W64, (16 ≤ k.mTx.length → answers (.wlpMgmtTxWrite n v) s (fun u => ev u 14 ∧ wlp u n = k))
      ∧ (k.mTx.length < 16 → answers (.wlpMgmtTxWrite n v) s (fun u => (wlp u n).mUn ++ (wlp u n).mTx = k.mUn ++ k.mTx ++ [v]
        ∧ (st ≠ 2 → onlyRegs s u [key .WLP_MGMT_STAT, key .WLP_REPLAY_FILL, key .WLP_SEQ]))))
    ∧ answers (.wlpMgmtRxRead n) s (fun u => u.ansOut = leBytes 8 (k.mRxq.headD 0).toNat ∧ (wlp u n).mRxq = k.mRxq.drop 1
        ∧ (wlp u n).replay = k.replay ∧ sameMem s u)

/-- GATE_FRAME_BUILD, GATE_FRAME_INJECT, TRANSIT_FRAME and XMCAST_FRAME_RECEIVE. A packet at the gate of a usable port becomes a
frame behind those of its egress queue, where it has room, and else waits; at a port that is not usable it enters the failure
path: a request is answered DEST_DOWN, an answer is discarded and counted. A pool that is empty changes nothing, nor does any
under hold; a bad head frame is discarded and counted by each of the three commands that take frames; a good one of another kind
stays. A frame for this chip enters the BN at its gate, or fails where the row has stopped. A frame for another chip joins the
egress queue of its exit port where it has room, counted at both stations; an uncorrectable slot error discards it or sets PSN;
with no exit port it fails. A multicast frame waits for room on every way and for a tag; then it joins the queue of every onward
port, and the gate's own copy holds a tag, or every target is answered where the gate is down or asleep. (R416, R472, R485,
R486, R488, R490, R493, R494, R498, R502) -/
def Obligations.FramesLeaveArriveAndCross : Prop :=
  ∀ (s : State) (n : Port), let g := gateTile s n; let d := portDim s n; let plus := portPlus s n; let fmx := fmax f_SYS_FAIL_CNT_COUNT;
    let failed := fun (u : State) => dfld u .SYS_STAT f_SYS_STAT_FAIL = 1 ∧ sameMem s u
      ∧ dfld u .SYS_FAIL_CNT f_SYS_FAIL_CNT_COUNT = min (dfld s .SYS_FAIL_CNT f_SYS_FAIL_CNT_COUNT + 1) fmx;
    (∀ p : BnPkt, let op := p.op.toNat; let mc := op = opMcWr ∨ op = opMcWrCb;
      let mine := s.bn.find? (fun f => f.at_ == g && f.ej && f.exit == some n.val && f.pkt == p);
      (mine = none → exec (.gateFrameBuild n p) s = .next s)
      ∧ ∀ fl, mine = some fl →
        (∀ f : WlpFrame, portUsable s n = true →
          (¬mc ∧ f = frameOf p p.schip (leavesDl s d plus none) (p.psn.any id) none)
            ∨ (mc ∧ ∃ a b c lo hi y z pp, tagOf s p.stile.toNat p.tag.toNat = .out (.xmcast a b c lo hi y z) pp
              ∧ f = frameOf p (BitVec.ofNat 17 (chipId s)) false (p.psn.any id) (some (branchChip s d plus, lo, hi))) → let q := f.eq.toNat;
          (frameSize f ≤ eqFree s n q → answers (.gateFrameBuild n p) s (fun u => u.bn = s.bn.erase fl ∧ eqOf u n q = eqOf s n q ++ [f]
            ∧ (∀ m, m ≠ 8 * n.val + q → wlpEqAt u m = wlpEqAt s m) ∧ onlyRegs s u [dk .PRG_EQ_FREE (8 * n.val + q)]))
          ∧ (eqFree s n q < frameSize f → exec (.gateFrameBuild n p) s = .next s))
        ∧ (portUsable s n = false → answers (.gateFrameBuild n p) s (fun u => u.bn = s.bn.erase fl ∧ failed u
          ∧ (op ≤ 3 → niuqAt u g = niuqAt s g ++ [⟨answerPkt s g p stDown [] [], 47, .none⟩])
          ∧ (3 < op → ¬mc → niuqAt u g = niuqAt s g
            ∧ dfld u .SYS_DISCARD_CNT f_SYS_DISCARD_CNT_COUNT = min (dfld s .SYS_DISCARD_CNT f_SYS_DISCARD_CNT_COUNT + 1) (fmax f_SYS_DISCARD_CNT_COUNT)))))
    ∧ ∀ (q : Fin 8) (slot : SlotErr) (waited : Nat) (dflag : Option (Nat × Nat)) (slots : List SlotErr),
      let inj : Instr := .gateFrameInject n q; let pass : Instr := .transitFrame n q slot waited; let take : Instr := .xmcastFrameReceive n q dflag slots;
      let any := fun c => c = inj ∨ c = pass ∨ c = take;
      (poolOf s n q = [] ∨ holdTraffic s = true → ∀ c, any c → exec c s = .next s)
      ∧ ∀ f fs, poolOf s n q = f :: fs → holdTraffic s = false → let own := f.dchip.toNat = chipId s; let mc := frameMc f = true; let p := innerPkt f;
        let gone := fun (u : State) => poolOf u n q = fs ∧ (wlp u n).freed = (wlp s n).freed.modify q (fun x => (x + frameBlocks f) % 4096);
        (badFrame s n f = true → ∀ c, any c → answers c s (fun u => gone u ∧ u.bn = s.bn ∧ dfld u .SYS_STAT f_SYS_STAT_BAD_FRAME = 1 ∧ sameMem s u
          ∧ dfld u .SYS_BAD_FRAME_CNT f_SYS_BAD_FRAME_CNT_COUNT
            = min (dfld s .SYS_BAD_FRAME_CNT f_SYS_BAD_FRAME_CNT_COUNT + 1) (fmax f_SYS_BAD_FRAME_CNT_COUNT)))
        ∧ (badFrame s n f = false → ((¬own ∨ mc) → exec inj s = .next s) ∧ (own → exec pass s = .next s) ∧ ((¬own ∨ ¬mc) → exec take s = .next s)
          ∧ (own → ¬mc → (rowStopped s g = false → answers inj s (fun u => gone u ∧ onlyRegs s u []
              ∧ u.bn = s.bn ++ [⟨{ p with epoch := epochNow s }, g, 4, false, none, none⟩]))
            ∧ (rowStopped s g = true → answers inj s (fun u => gone u ∧ u.bn = s.bn ∧ failed u)))
          ∧ (¬own → let e := chooseExit s ⟨f.dchip.toNat, frameRmode f, epochNow s, hashBit p.stile.toNat p.dtile.toNat, opKind p.op.toNat,
              tcLat f.tc.toNat, false⟩ (some (d, !plus, frameDl f));
            (e.port = none → answers pass s (fun u => gone u ∧ failed u ∧ u.bn = s.bn))
            ∧ ∀ m, e.port = some m → let f' := relabel f e.dl; let q' := f'.eq.toNat; let was := eqOf s m q';
              let joined := fun (u : State) x => eqOf u m q' = was ++ [x] ∧ dfld u .PRG_OUT_CNT f_PRG_OUT_CNT_COUNT m
                = min (dfld s .PRG_OUT_CNT f_PRG_OUT_CNT_COUNT m + 1) (fmax f_PRG_OUT_CNT_COUNT);
              (eqFree s m q' < frameSize f' → exec pass s = .next s)
              ∧ (frameSize f' ≤ eqFree s m q' → answers pass s (fun u => gone u ∧ u.bn = s.bn ∧ sameMem s u
                ∧ dfld u .PRG_IN_CNT f_PRG_IN_CNT_COUNT n = min (dfld s .PRG_IN_CNT f_PRG_IN_CNT_COUNT n + 1) (fmax f_PRG_IN_CNT_COUNT)
                ∧ (slot = .ok → joined u f') ∧ (slot = .ce → joined u f' ∧ dfld u .PRG_STAT f_PRG_STAT_CE = 1)
                ∧ (slot = .ue → joined u { f' with route := f'.route ||| 0x100 } ∧ dfld u .PRG_STAT f_PRG_STAT_UE = 1)
                ∧ (slot = .hdrUe → eqOf u m q' = was ∧ dfld u .PRG_STAT f_PRG_STAT_HDR_UE = 1))))
          ∧ (own → mc → let ways := mcBranches s (frameLo f) (frameHi f) (some (d, !plus)); let f' := relabel f false; let q' := f'.eq.toNat;
            let us := rectTiles p.dtile.toNat p.far.toNat; let inn := us.filter (fun u => tileX u < gridW s);
            let off := tileDown s g = true ∨ tileAsleep s g = true;
            let room := ∀ b ∈ ways, ∀ m, (mcPort s p b.1 b.2).1 = some m → frameSize f ≤ eqFree s m q';
            (¬room ∨ (¬off ∧ freeTag s g = none) → exec take s = .next s)
            ∧ (room → off ∨ freeTag s g ≠ none → answers take s (fun u => gone u
              ∧ (∀ i b m, ways[i]? = some b → (mcPort s p b.1 b.2).1 = some m → slots.getD i .ok = .ok →
                eqOf u m q' = eqOf s m q' ++ [{ f' with dchip := BitVec.ofNat 17 (branchChip s b.1 b.2) }])
              ∧ (off → ∀ x ∈ us, ⟨answerPkt s x p (if tileDown s g then stDown else stAsleep) [] [], 47, .none⟩ ∈ niuqAt u g)
              ∧ (¬off → inn ≠ [] → ∃ tag pk, freeTag s g = some tag ∧ pk.tag = BitVec.ofNat 10 tag ∧ pk.dchip = BitVec.ofNat 17 (chipId s)
                ∧ tagOf u g tag = .out (.xgate f.schip.toNat p.stile.toNat p.tag.toNat (inn.map (fun v => chipId s * 512 + v)) dflag) pk)))))

/-- The collective commands: the six entries, chunks, slot flags, timeouts, and OPEN, CLOSE and REFORM. A group that is closed, or
that runs an entry, takes up none. An open one whose next entry is of the opcode and passes every check runs it, one that fails
a check is refused with its status, and a broken group's is aborted without running: each takes the next entry number. A chunk
that may be sent is counted, in its section too, and a DMV3 copy carries the flag word of its slot; one that may not be sent
while its stage lasts changes nothing. A slot flag of this formation, count and entry number takes the chunk: counted, and in
reduce-scatter a credit is given back; an older formation's is counted as stale; a wrong entry number breaks the group with
MISMATCH and ends the entry FMT_ERR. A wait beyond TMO counts, breaks the group with TIMEOUT and ends the entry DEST_DOWN. OPEN
is judged in R531's order; it takes the lowest free group number and zeroes the flag block. CLOSE frees it. REFORM ends a
running entry ABORTED, takes the exclusions, raises FORM, sets the credit words and opens the group; in the wrong state OPEN and
REFORM set CFG_ERR. (R514, R515, R516, R520, R521, R522, R529, R530, R531) -/
def Obligations.CollectivesRunTheirEntries : Prop :=
  ∀ (s : State) (t : Tile) (g : Fin 8), let q := 14 + g.val; let st := gState s t g; let k := queueOf s t q; let num := (tfld s t .COL_GSTAT f_COL_GSTAT_ENTRY g + 1) % 2 ^ 32;
    let up := tileDown s t = false ∧ tileAsleep s t = false; let gs := fun (u : State) f => tfld u t .COL_GSTAT f g; let grp := colG s t g;
    let ended := fun (u : State) (e : Desc) x => ∃ d ∈ (queueOf u t q).run, d.idx = e.idx ∧ d.status = stMerge e.status x ∧ d.ext = .none;
    let bad := fun c => answers c s (fun u => tfld u t .Q_STAT f_Q_STAT_CFG_ERR q = 1 ∧ onlyRegs s u [tk t .Q_STAT q, tk t .TILE_IRQ_PEND]);
    (∀ ecc op c, (op, c) ∈ [(0x70, Instr.colAllreduce t g ecc), (0x71, .colReduceScatter t g ecc), (0x72, .colAllgather t g ecc), (0x73, .colBroadcast t g ecc),
        (0x74, .colAlltoall t g ecc), (0x75, .colBarrier t g ecc)] →
      let took := fun (u : State) (P : Desc → Prop) => gs u f_COL_GSTAT_ENTRY = num ∧ (queueOf u t q).next = (k.next + 1) % 65536
        ∧ ∃ d, (queueOf u t q).run = [d] ∧ d.idx = k.next ∧ P d;
      (st = 0 ∨ k.run ≠ [] → exec c s = .next s)
      ∧ (k.run = [] → st = 2 → k.next ≠ qPI s t q → answers c s (fun u => took u (fun d => d.status = stAborted ∧ d.refused = true)))
      ∧ (k.run = [] → st = 1 → descReady s t q → leAt (nextDesc s t q).1 0 1 = op → let x := stMerge (headerStatus s t (nextDesc s t q).1) (colCheck t g s (nextDesc s t q).1);
        (x = stOK → answers c s (fun u => took u (fun d => d.op = op)))
        ∧ (x ≠ stOK → answers c s (fun u => took u (fun d => d.status = x ∧ d.refused = true)))))
    ∧ (∀ (dir : Fin 2) ecc, let send : Instr := .colChunkSend t g dir ecc; let see : Instr := .colSlotFlagSeen t g dir ecc;
      (colEntry s t g = none → exec send s = .next s ∧ exec see s = .next s ∧ exec (.colWaitTimeout t g) s = .next s)
      ∧ ∀ e x stg a, colEntry s t g = some e → e.ext = .col x → let d := colD e.raw; (colStages s t g d)[x.stage]? = some stg → stageAxis stg = some a →
        let i := 2 * a + dir.val; let rs := stg = .rs a;
        (ringReady s t g d x e.pend dir a stg = false → stageOver s t g d e x stg = false → exec send s = .next s)
        ∧ (ringReady s t g d x e.pend dir a stg = true → let n := grp.sent.getD i 0 + 1; let ch := ringChunk s t g d dir (if dir = 0 then x.s0 else x.s1) false stg;
          answers send s (fun u => (colG u t g).sent = grp.sent.modify i (· + 1) ∧ (colG u t g).slots = (if rs then grp.slots.modify i (· + 1) else grp.slots)
            ∧ tfld u t .COL_TX_BYTES f_COL_TX_BYTES_COUNT g = min (tfld s t .COL_TX_BYTES f_COL_TX_BYTES_COUNT g + ch.n) (fmax f_COL_TX_BYTES_COUNT)
            ∧ ∃ c ∈ (queueOf u t 7).run, c.idx = 65536 * (g.val + 1) + childNum g (queueOf s t 7).run % 65536 ∧ c.op = 1 ∧ c.flagVal = slotWord (gForm s t g) x.num n
              ∧ c.flagAddr = chipCm s t (ringNext s t g a (dir == 0)) (flagOff s t g i ((n - 1) % gSlots s t g))))
        ∧ (let n := grp.took.getD i 0 + 1; let w := cm8 s t (flagOff s t g i ((n - 1) % gSlots s t g)); let r := if dir = 0 then x.r0 else x.r1;
          let form := gForm s t g; let due := r < stageWaits s t g d dir stg ∧ w / 2 ^ 56 = form ∧ w % 2 ^ 32 = n % 2 ^ 32;
          let stale := r < stageWaits s t g d dir stg ∧ 128 ≤ (w / 2 ^ 56 + 256 - form) % 256;
          (due → bitsOf w 32 24 = x.num % 2 ^ 24 → (∀ b, stg ≠ .gat b) → answers see s (fun u => (colG u t g).took = grp.took.modify i (· + 1)
            ∧ (colG u t g).freed = (if rs then grp.freed.modify i (· + 1) else grp.freed)
            ∧ tfld u t .COL_RX_BYTES f_COL_RX_BYTES_COUNT g
              = min (tfld s t .COL_RX_BYTES f_COL_RX_BYTES_COUNT g + (ringChunk s t g d dir r true stg).n) (fmax f_COL_RX_BYTES_COUNT)))
          ∧ (due → bitsOf w 32 24 ≠ x.num % 2 ^ 24 → st = 1 → answers see s (fun u => gState u t g = 2 ∧ gs u f_COL_GSTAT_CAUSE = 6 ∧ ended u e stFmt))
          ∧ (stale → answers see s (fun u => (colG u t g).took = grp.took
            ∧ tfld u t .COL_STALE_CNT f_COL_STALE_CNT_COUNT g = min (tfld s t .COL_STALE_CNT f_COL_STALE_CNT_COUNT g + 1) (fmax f_COL_STALE_CNT_COUNT)))))
    ∧ (∀ e x, colEntry s t g = some e → e.ext = .col x → let tmo := tfld s t .COL_GCFG1 f_COL_GCFG1_TMO g;
      (tmo = 0 → exec (.colWaitTimeout t g) s = .next s)
      ∧ (tmo ≠ 0 → st = 1 → answers (.colWaitTimeout t g) s (fun u => gState u t g = 2 ∧ gs u f_COL_GSTAT_CAUSE = 5 ∧ ended u e stDown
        ∧ tfld u t .COL_GFAIL f_COL_GFAIL_VALID g = 1
        ∧ tfld u t .COL_TMO_CNT f_COL_TMO_CNT_COUNT g = min (tfld s t .COL_TMO_CNT f_COL_TMO_CNT_COUNT g + 1) (fmax f_COL_TMO_CNT_COUNT))))
    ∧ (let ready := tfld s t .TILE_CORE_CTRL f_TILE_CORE_CTRL_COMM_RSV = 1 ∧ tfld s t .COL_RT_STAT f_COL_RT_STAT_RUNNING = 1;
      let no := fun x => answers (.colGctrlOpen t g) s (fun u => gState u t g = 0 ∧ gs u f_COL_GSTAT_CAUSE = x ∧ sameMem s u);
      (st ≠ 0 → bad (.colGctrlOpen t g)) ∧ (st = 0 → ¬ready → no 1) ∧ (st = 0 → ready → freeGid s = none → no 2)
      ∧ ∀ gid, st = 0 → ready → freeGid s = some gid → (gBad s t g = true → no 3) ∧ (gBad s t g = false → onchipBusy s t g = true → no 4)
        ∧ (gBad s t g = false → onchipBusy s t g = false → answers (.colGctrlOpen t g) s (fun u => gState u t g = 1 ∧ gs u f_COL_GSTAT_FORM = 0
          ∧ gs u f_COL_GSTAT_ENTRY = 0 ∧ gs u f_COL_GSTAT_GID = gid ∧ gs u f_COL_GSTAT_NAX = gNax u t g ∧ regOf u (tk t .COL_GFAIL g) = 0
          ∧ dfld u .COL_DEV_GRP f_COL_DEV_GRP_VALID gid = 1 ∧ dfld u .COL_DEV_GRP f_COL_DEV_GRP_HOME gid = t.val ∧ dfld u .COL_DEV_GRP f_COL_DEV_GRP_SLOT gid = g.val
          ∧ (colG u t g).excl = exclNow s t g ∧ (up → stgFlags u t g + 2048 ≤ cmSize → cmStored s u t (stgFlags u t g) (List.replicate 2048 0)))))
    ∧ (st = 0 → exec (.colGctrlClose t g) s = .next s ∧ bad (.colGctrlReform t g))
    ∧ (st ≠ 0 → answers (.colGctrlClose t g) s (fun u => gState u t g = 0 ∧ regOf u (dk .COL_DEV_GRP (gs s f_COL_GSTAT_GID)) = 0
        ∧ colG u t g = ColGrp.init))
    ∧ (st ≠ 0 → answers (.colGctrlReform t g) s (fun u => let form := (gForm s t g + 1) % 256; gState u t g = 1 ∧ gForm u t g = form
        ∧ gs u f_COL_GSTAT_CAUSE = 0 ∧ regOf u (tk t .COL_GFAIL g) = 0 ∧ gs u f_COL_GSTAT_ENTRY = gs s f_COL_GSTAT_ENTRY
        ∧ colG u t g = { ColGrp.init with excl := exclNow s t g, gen := grp.gen } ∧ (∀ e, colEntry s t g = some e → ended u e stAborted)
        ∧ (up → stgFlags u t g + 2048 ≤ cmSize → ∀ j, j < 2 * gNax u t g → leNat (smRead 0 u.cm (cmKey t (creditOff u t g j)) 8) = form * 2 ^ 56)))

/-- The host port: BAR requests, the host memory window, the watchdog, MSI-X, resets, link and power states. With the link down no
BAR request comes. In D3hot, or with Memory Space Enable 0, a read gets Unsupported Request. A read of BAR4 gives 0. A request
with nothing before it: BAR0 of a wrong size, alignment or enables, or of an unmapped window, sets BAR_ERR, and a read is
refused; a right one enters the CN at the hub. A doorbell is one write of its entry's target, or is dropped, counted and sets
DB_ERR. BAR2 becomes packets of a gate's NIU; of an unmapped part a read is refused whole, a write drops it. Behind an
unacknowledged BAR2 write a BAR0 request waits. A host-window packet ends DEST_DOWN or ADDR_ERR where the port or its entry does
not serve; a write is sent and answered, a read is sent and waits; its last completion answers it, one refused or late ends it.
The watchdog gives Completer Abort. A vector is sent when pending, unmasked and enabled. PERST_N, link loss and FLR reset the
port's registers; D3hot, link up and the resize of BAR2 do what R571 and R556 say. (A BAR0 request's enables and the split of
completions: log entry 22.) (R556, R558, R559, R560, R561, R562, R563, R564, R566, R568, R569, R571) -/
def Obligations.HostRequestsWindowsAndResets : Prop :=
  ∀ s : State, let id := s.hostSeq; let stat := fun (u : State) f => dfld u .HIF_STAT f; let up := stat s f_HIF_STAT_LINK_UP = 1;
    let on := up ∧ stat s f_HIF_STAT_D3HOT = 0 ∧ s.pci.mse = true; let fits := fun (o : BitVec 37) => o.toNat < 2 ^ s.pci.bar2;
    let ct := fun (u : State) (r : DReg) => dfld u r f_HIF_DB_CNT_COUNT 0 = min (dfld s r f_HIF_DB_CNT_COUNT 0 + 1) (2 ^ 48 - 1);
    let barErr := fun (u : State) => stat u f_HIF_STAT_BAR_ERR = 1; let dbErr := fun (u : State) => stat u f_HIF_STAT_DB_ERR = 1 ∧ ct u .HIF_DB_ERR_CNT;
    let refused := fun (u : State) x => u.hostCpl = [⟨id, x, false, []⟩] ∧ u.hostQ = s.hostQ.filter (fun r => r.id != id);
    let taken := fun (u : State) ds => ∃ r, u.hostQ = [r] ∧ r.id = id ∧ r.taken = true ∧ r.dests = ds ∧ u.hostCpl = [];
    let answered := fun (u : State) (g : Nat) (p : BnPkt) st (bs : List Byte) psn => niuqAt u g = niuqAt s g ++ [⟨answerPkt s g p st bs psn, 47, .none⟩];
    (∀ (o : BitVec 26) (o2 : BitVec 37) (o4 : BitVec 20) (n : BitVec 13) (bs : List Byte) (b : Bool), let rd : List Instr := [.bar0Read o n b, .bar2Read o2 n, .bar4Read o4 n];
      let wr : List Instr := [.bar0Write o bs b, .bar2Write o2 bs b, .bar4DoorbellWrite o4 bs];
      (¬up → ∀ c ∈ rd ++ wr, exec c s = .next s) ∧ (¬fits o2 → exec (.bar2Read o2 n) s = .next s ∧ exec (.bar2Write o2 bs b) s = .next s)
      ∧ (up → ¬on → fits o2 → (∀ c ∈ rd, answers c s (fun u => refused u 1 ∧ u.hostSeq = id + 1 ∧ onlyRegs s u []))
        ∧ ∀ c ∈ wr, answers c s (fun u => u.hostCpl = [] ∧ u.hostQ = s.hostQ.filter (fun r => r.id != id) ∧ onlyRegs s u []))
      ∧ (on → answers (.bar4Read o4 n) s (fun u => u.hostCpl = [⟨id, 0, false, List.replicate n.toNat 0⟩] ∧ u.hostQ = s.hostQ ∧ onlyRegs s u []))
      ∧ (on → (∀ r ∈ s.hostQ, r.taken = true ∧ r.id ≠ id) → (∃ w ∈ s.hostQ, w.bar = 2 ∧ w.wr = true) → ∀ c, c = .bar0Read o n b ∨ c = .bar0Write o bs b →
        answers c s (fun u => onlyRegs s u [] ∧ cnqAt u hub = cnqAt s hub ∧ ∃ r, u.hostQ = s.hostQ ++ [r] ∧ r.taken = false ∧ r.id = id))
      ∧ (on → s.hostQ = [] →
        (∀ c len op, (c = .bar0Read o n b ∧ len = n.toNat ∧ op = 0) ∨ (c = .bar0Write o bs b ∧ len = bs.length ∧ op = 1) →
          let good := (len = 4 ∨ len = 8) ∧ o.toNat % len = 0 ∧ b = true;
          let turned := fun x => answers c s (fun u => barErr u ∧ ct u .HIF_BAR_ERR_CNT ∧ u.hostQ = [] ∧ u.hostCpl = if op = 0 then [⟨id, x, false, []⟩] else []);
          (¬good → turned 2) ∧ (good → bar0Place s o.toNat = none → turned 1)
          ∧ (∀ t x, good → bar0Place s o.toNat = some (.treg t x) → t < 512 → answers c s (fun u => taken u [t] ∧ cnAdds s u hub op t 0 25 x ∧ onlyRegs s u []))
          ∧ (∀ x, good → bar0Place s o.toNat = some (.dreg x) → answers c s (fun u => taken u [hub] ∧ cnAdds s u hub op hub 0 25 x ∧ onlyRegs s u [])))
        ∧ (let d := o4.toNat / 4096; let e := regOf s (dk .HIF_DB_MAP d); let size := if fget e f_HIF_DB_MAP_W32 = 1 then 4 else 8;
          let good := fget e f_HIF_DB_MAP_EN = 1 ∧ o4.toNat % 4096 = 0 ∧ bs.length = size;
          let dev := fget e f_HIF_DB_MAP_DEV = 1; let x := fget e f_HIF_DB_MAP_OFFSET; let win := if dev then hub else fget e f_HIF_DB_MAP_TILE;
          (¬good → answers (.bar4DoorbellWrite o4 bs) s (fun u => dbErr u ∧ u.hostQ = [] ∧ u.hostCpl = []))
          ∧ (good → answers (.bar4DoorbellWrite o4 bs) s (fun u => taken u [win] ∧ ct u .HIF_DB_CNT ∧ cnAdds s u hub 1 win 0 25 (if dev then x else x % 2 ^ 16)
            ∧ onlyRegs s u [dk .HIF_DB_CNT])))
        ∧ ∀ c r wr, (c = .bar2Read o2 n ∧ wr = false ∧ r = ⟨id, 2, false, o2.toNat, n.toNat, [], false, false, [], 0, 0, [], [], false⟩)
            ∨ (c = .bar2Write o2 bs b ∧ wr = true ∧ r = ⟨id, 2, true, o2.toNat, bs.length, bs, b, false, [], 0, 0, [], [], false⟩) →
          let mapped := fun (p : Nat × Nat) => (bar2Tile s (bar2Local s o2.toNat + p.1)).isSome; let ps := bar2Pieces s r; fits o2 → ps ≠ [] →
          (wr = false → (∃ p ∈ ps, mapped p = false) → answers c s (fun u => refused u 1 ∧ barErr u ∧ ct u .HIF_BAR_ERR_CNT))
          ∧ (wr = true → (∀ p ∈ ps, mapped p = false) → answers c s (fun u => barErr u ∧ u.hostQ = [] ∧ u.hostCpl = []))
          ∧ ((∀ p ∈ ps, mapped p = true) → answers c s (fun u => taken u (bar2Dests s r) ∧ onlyRegs s u []
            ∧ ∀ p ∈ ps, ∃ g x, (g = 7 ∨ g = 8) ∧ x ∈ niuqAt u g ∧ x.owner = .host id p.1 ∧ x.pkt.op.toNat = (if wr then opWr else opRdReq)
              ∧ x.pkt.data = (if wr then (bs.drop p.1).take p.2 else [])
              ∧ x.pkt.tc.toNat = dfld s .HIF_CFG f_HIF_CFG_BAR2_TC))))
    ∧ (∀ p : BnPkt, (hostFlight s p = none → exec (.hostWindowRequest p) s = .next s)
      ∧ ∀ f, hostFlight s p = some f → let o := hostOff p; let e := regOf s (dk .HIF_HWIN (o / 2 ^ 30)); let valid := fget e f_HIF_HWIN_VALID = 1;
        let base := fget e f_HIF_HWIN_HADDR * 2 ^ 30 + o % 2 ^ 30; let off := fun (u : State) => u.bn = s.bn.erase f; let op := p.op.toNat;
        (hostBusOk s = false → op ≤ 3 → answers (.hostWindowRequest p) s (fun u => off u ∧ stat u f_HIF_STAT_HWIN_ERR = 1 ∧ ct u .HIF_HWIN_DOWN_CNT
          ∧ answered u f.at_ p stDown [] []))
        ∧ (hostBusOk s = true → ¬valid → op ≤ 3 → answers (.hostWindowRequest p) s (fun u => off u ∧ stat u f_HIF_STAT_HWIN_ERR = 1 ∧ ct u .HIF_HWIN_INV_CNT
          ∧ answered u f.at_ p stAddr [] []))
        ∧ (hostBusOk s = true → valid → op = opWr → answers (.hostWindowRequest p) s (fun u => off u ∧ answered u f.at_ p stOK [] [] ∧ onlyRegs s u []
          ∧ u.tlpOut.map (fun x => (x.wr, x.addr, x.len)) = (tlpCuts s.pci.mps p.data.length base p.data.length).map (fun c => (true, c.1, c.2))))
        ∧ (hostBusOk s = true → valid → op = opRdReq → let cuts := tlpCuts s.pci.mrrs p.len.toNat base p.len.toNat;
          answers (.hostWindowRequest p) s (fun u => off u ∧ onlyRegs s u [] ∧ u.tlpOut.map (fun x => (x.wr, x.addr, x.len)) = cuts.map (fun c => (false, c.1, c.2))
            ∧ ∃ r, u.hostRd = s.hostRd ++ [r] ∧ r.pkt = p ∧ r.gate = f.at_ ∧ r.left = cuts.map (fun c => (c.1 - base, c.2)) ∧ r.st = stOK)))
    ∧ (∀ (i off : Nat) (bs : List Byte), (hostRdAt s i off = none → (∀ x, exec (.hostCompletionReceive i off x bs) s = .next s) ∧ exec (.hostCplTimeout i off) s = .next s)
      ∧ (s.pci.ctoDis = true → exec (.hostCplTimeout i off) s = .next s)
      ∧ ∀ r n, hostRdAt s i off = some (r, n) → r.pkt.op.toNat = opRdReq → let rest := r.left.filter (fun c => c.1 != off); let left := fun (u : State) => u.hostRd = s.hostRd.eraseIdx i;
        let got := r.got.take off ++ sliceZ bs 0 n ++ r.got.drop (off + n);
        (r.st = stOK → rest = [] → answers (.hostCompletionReceive i off .data bs) s (fun u => left u ∧ answered u r.gate r.pkt stOK got r.psn ∧ onlyRegs s u []))
        ∧ (rest ≠ [] → answers (.hostCompletionReceive i off .data bs) s (fun u => onlyRegs s u []
          ∧ u.hostRd = s.hostRd.eraseIdx i ++ [{ r with left := rest, got := got }] ∧ niuqAt u r.gate = niuqAt s r.gate))
        ∧ (r.st = stOK → rest = [] → answers (.hostCompletionReceive i off .ep bs) s (fun u => left u ∧ ct u .HIF_HWIN_PSN_CNT
          ∧ ∃ psn, answered u r.gate r.pkt stPoisoned got psn ∧ ∀ j, j < r.psn.length → off < 64 * (j + 1) → 64 * j < off + n → psn.getD j false = true))
        ∧ answers (.hostCompletionReceive i off .refused bs) s (fun u => left u ∧ ct u .HIF_HWIN_ERR_CNT ∧ answered u r.gate r.pkt stAddr [] [])
        ∧ (s.pci.ctoDis = false → answers (.hostCplTimeout i off) s (fun u => left u ∧ ct u .HIF_HWIN_TMO_CNT ∧ answered u r.gate r.pkt stDown [] []
          ∧ stat u f_HIF_STAT_HWIN_ERR = 1)))
    ∧ (∀ i, let req := s.hostQ.find? (fun r => r.id == i && !r.wr && !r.dead); (req = none → exec (.hifCplWatchdog i) s = .next s)
      ∧ ∀ r, req = some r → answers (.hifCplWatchdog i) s (fun u => stat u f_HIF_STAT_CPL_WD = 1 ∧ ct u .HIF_CPL_WD_CNT
        ∧ (r.taken = true → u.hostCpl = [⟨i, 2, false, []⟩] ∧ { r with dead := true } ∈ u.hostQ)))
    ∧ (∀ v : BitVec 8, let i := v.toNat; let goes := bitOf s.msixPend i = true ∧ s.pci.msixEn = true ∧ s.pci.fmask = false ∧ msixUnmasked s i = true ∧ hostBusOk s = true;
      (¬goes → exec (.msixSend v) s = .next s)
      ∧ (goes → answers (.msixSend v) s (fun u => bitOf u.msixPend i = false ∧ (∀ j, j < 256 → j ≠ i → bitOf u.msixPend j = bitOf s.msixPend j) ∧ ct u .HIF_MSIX_CNT
        ∧ onlyRegs s u [dk .HIF_MSIX_CNT] ∧ ∃ x, u.tlpOut = [x] ∧ x.wr = true ∧ x.addr = (msixTblAt s (2 * i)).toNat ∧ x.len = 4
          ∧ x.data = leBytes 4 ((msixTblAt s (2 * i + 1)).toNat % 2 ^ 32)))
      ∧ answers (.hifMsixTrigWrite v) s (fun u => bitOf u.msixPend i = true ∧ (∀ j, j < 256 → j ≠ i → bitOf u.msixPend j = bitOf s.msixPend j) ∧ onlyRegs s u []))
    ∧ (∀ c, ((∃ hot, c = .perstNAssert hot) ∨ c = .hostLinkDown ∨ (c = .flr ∧ dfld s .HIF_CFG f_HIF_CFG_FLR_WARM = 0)) → answers c s (fun u => u.hostRd = [] ∧ u.pci = PciCfg.init
        ∧ (∀ r ∈ u.hostQ, r.dead = true ∧ r.taken = true) ∧ u.doe = none ∧ sameMem s u ∧ stat u f_HIF_STAT_LINK_UP = 0 ∧ stat u f_HIF_STAT_D3HOT = 0
        ∧ stat u f_HIF_STAT_BME = 0 ∧ regOf u (dk .HIF_BAR2_VBASE) = regReset (dk .HIF_BAR2_VBASE) ∧ (∀ i, msixTblAt u i = 0)
        ∧ (s.hostRd = [] → regOf u (dk .HIF_STAT) = regReset (dk .HIF_STAT) ∧ dfld u .HIF_HWIN_DOWN_CNT f_HIF_HWIN_DOWN_CNT_COUNT = 0)
        ∧ (s.hostRd = [] → ¬up → u.msixPend = 0)
        ∧ ∀ k, ((∃ i, i < 1024 ∧ k = dk .HIF_HWIN i) ∨ (∃ i, i < 256 ∧ k = dk .HIF_DB_MAP i) ∨ (∃ i, i < 64 ∧ k = dk .HIF_EVT_VEC i) ∨ k = dk .HIF_CFG) →
          regOf u k = if c = .flr then regReset k else regOf s k))
    ∧ answers .d3hotEnter s (fun u => stat u f_HIF_STAT_D3HOT = 1 ∧ u.hostRd = [] ∧ sameMem s u ∧ (s.hostRd = [] → onlyRegs s u [dk .HIF_STAT]))
    ∧ answers .d3hotExit s (fun u => stat u f_HIF_STAT_D3HOT = 0 ∧ onlyRegs s u [dk .HIF_STAT])
    ∧ (∀ (flit : Bool) (speed : BitVec 3) (width : BitVec 5) (bme : Bool) (cfg : PciCfg), answers (.hostLinkUp flit speed width bme cfg) s (fun u => stat u f_HIF_STAT_LINK_UP = 1
        ∧ stat u f_HIF_STAT_FLIT = b2n flit ∧ stat u f_HIF_STAT_SPEED = speed.toNat ∧ stat u f_HIF_STAT_WIDTH = width.toNat
        ∧ stat u f_HIF_STAT_BME = b2n bme ∧ u.pci = cfg ∧ onlyRegs s u [dk .HIF_STAT]))
    ∧ ∀ l : BitVec 6, let ok := s.pci.mse = false ∧ 30 ≤ l.toNat ∧ l.toNat ≤ 37; (¬ok → exec (.bar2Resize l) s = .next s)
      ∧ (ok → answers (.bar2Resize l) s (fun u => u.pci = { s.pci with bar2 := l.toNat } ∧ onlyRegs s u []))
end

