-- ==== Sys2Proof/Laws/Sparse.lean ====
section
/-!
SUPPORT. Sys2Proof/Laws/Sparse.lean: reading a sparse map after each of its operations, and that each keeps the canonical form.
-/
namespace Sys2Proof.Machine

variable {α : Type}

/-! ### Reading -/

theorem smGet_append (d : α) (a b : List (Nat × α)) (k : Nat) :
    smGet d (a ++ b) k = if k ∈ a.map (·.1) then smGet d a k else smGet d b k := by
  induction a with
  | nil => simp
  | cons e a ih =>
    obtain ⟨i, v⟩ := e
    by_cases h : k = i
    · simp [smGet, h]
    · simp only [List.cons_append, smGet, h, if_false, ih, List.map_cons, List.mem_cons, false_or]

theorem smGet_filter (d : α) (p : Nat → Bool) (m : List (Nat × α)) (k : Nat) (h : p k = true) :
    smGet d (m.filter (fun e => p e.1)) k = smGet d m k := by
  induction m with
  | nil => rfl
  | cons e m ih =>
    obtain ⟨i, v⟩ := e
    by_cases hk : k = i
    · subst hk; simp [smGet, h]
    · by_cases hi : p i = true
      · simp [smGet, hk, hi, ih]
      · simp [smGet, hk, hi, ih]

theorem smGet_of_not_mem (d : α) (m : List (Nat × α)) (k : Nat) (h : k ∉ m.map (·.1)) : smGet d m k = d := by
  induction m with
  | nil => rfl
  | cons e m ih =>
    obtain ⟨i, v⟩ := e
    simp at h
    simp [smGet, h.1]
    apply ih
    simpa using h.2

theorem smGet_filter_out (d : α) (p : Nat → Bool) (m : List (Nat × α)) (k : Nat) (h : p k = false) :
    smGet d (m.filter (fun e => p e.1)) k = d := by
  apply smGet_of_not_mem
  simp [h]

/-- A read after a write to the same key gives the value written. -/
@[simp] theorem smGet_smSet_same [DecidableEq α] (d : α) (m : List (Nat × α)) (k : Nat) (v : α) :
    smGet d (smSet d m k v) k = v := by
  have h1 := smGet_filter_out d (fun i => decide (i < k)) m k (by simp)
  have h2 := smGet_filter_out d (fun i => decide (k < i)) m k (by simp)
  unfold smSet
  rw [smGet_append]
  rw [if_neg (by simp)]
  by_cases hv : v = d
  · simp [hv, h2]
  · simp [hv, smGet]

/-- A write leaves every other key alone. -/
theorem smGet_smSet_ne [DecidableEq α] (d d' : α) (m : List (Nat × α)) (k k' : Nat) (v : α) (h : k' ≠ k) :
    smGet d' (smSet d m k v) k' = smGet d' m k' := by
  have hmid : ∀ l : List (Nat × α), smGet d' ((if v = d then [] else [(k, v)]) ++ l) k' = smGet d' l k' := by
    intro l; by_cases hv : v = d <;> simp [hv, smGet, h]
  unfold smSet
  rw [smGet_append]
  rcases Nat.lt_or_gt_of_ne h with hl | hg
  · have h1 := smGet_filter d' (fun i => decide (i < k)) m k' (by simpa using hl)
    have h2 := smGet_filter_out d' (fun i => decide (k < i)) m k' (by simp; omega)
    rw [hmid]
    split
    · exact h1
    · rename_i hn
      rw [h2, ← h1]
      exact (smGet_of_not_mem _ _ _ hn).symm
  · have h2 := smGet_filter d' (fun i => decide (k < i)) m k' (by simpa using hg)
    rw [if_neg (by simp; omega), hmid]
    exact h2

theorem smGet_smSet [DecidableEq α] (d : α) (m : List (Nat × α)) (k k' : Nat) (v : α) :
    smGet d (smSet d m k v) k' = if k' = k then v else smGet d m k' := by
  by_cases h : k' = k
  · subst h; simp
  · simp [h, smGet_smSet_ne d d m k k' v h]

theorem smGet_smClr (d : α) (m : List (Nat × α)) (ks : List Nat) (k : Nat) :
    smGet d (smClr m ks) k = if k ∈ ks then d else smGet d m k := by
  unfold smClr
  split
  · exact smGet_filter_out d (fun i => !ks.contains i) m k (by simpa)
  · exact smGet_filter d (fun i => !ks.contains i) m k (by simpa)

theorem smGet_smClrRange (d : α) (m : List (Nat × α)) (lo hi k : Nat) :
    smGet d (smClrRange m lo hi) k = if lo ≤ k ∧ k < hi then d else smGet d m k := by
  unfold smClrRange
  split
  · exact smGet_filter_out d (fun i => decide (i < lo) || decide (hi ≤ i)) m k (by simp; omega)
  · exact smGet_filter d (fun i => decide (i < lo) || decide (hi ≤ i)) m k (by simp; omega)

theorem smGet_smRun [DecidableEq α] (d : α) (m : List (Nat × α)) (k : Nat) (vs : List α) (j : Nat) :
    smGet d (smRun d m k vs) j = if k ≤ j then (vs[j - k]?).getD (smGet d m j) else smGet d m j := by
  induction vs generalizing m k with
  | nil => simp [smRun]
  | cons v vs ih =>
    simp only [smRun, ih, smGet_smSet]
    by_cases h1 : k + 1 ≤ j
    · have h2 : j ≠ k := by omega
      have h3 : k ≤ j := by omega
      have h4 : j - k = (j - (k + 1)) + 1 := by omega
      simp [h1, h2, h3, h4]
    · by_cases h2 : j = k
      · subst h2; rw [if_neg h1]; simp
      · have h3 : ¬ k ≤ j := by omega
        simp [h1, h2, h3]

/-- Bytes read back from a run of values that was set. -/
theorem smRead_smRun [DecidableEq α] (d : α) (m : List (Nat × α)) (k : Nat) (vs : List α) (j n : Nat) (h : j + n ≤ vs.length) :
    smRead d (smRun d m k vs) (k + j) n = (vs.drop j).take n := by
  induction n generalizing j with
  | zero => simp [smRead]
  | succ n ih =>
    have hj : j < vs.length := by omega
    rw [smRead, show k + j + 1 = k + (j + 1) by omega, ih (j + 1) (by omega), smGet_smRun, if_pos (by omega),
      show k + j - k = j by omega, List.drop_eq_getElem_cons hj, List.take_succ_cons, List.getElem?_eq_getElem hj]
    rfl

/-! ### The canonical form -/

theorem smSorted_iff (m : List (Nat × α)) : smSorted m = true ↔ m.Pairwise (fun a b => a.1 < b.1) := by
  induction m with
  | nil => simp [smSorted]
  | cons a m ih =>
    cases m with
    | nil => simp [smSorted]
    | cons b m =>
      obtain ⟨i, v⟩ := a
      obtain ⟨j, w⟩ := b
      simp only [smSorted, Bool.and_eq_true, decide_eq_true_eq, ih]
      constructor
      · rintro ⟨h, hp⟩
        refine List.pairwise_cons.2 ⟨?_, hp⟩
        intro e he
        rcases List.mem_cons.1 he with rfl | he
        · exact h
        · exact Nat.lt_trans h ((List.pairwise_cons.1 hp).1 e he)
      · intro hp
        exact ⟨(List.pairwise_cons.1 hp).1 (j, w) (by simp), (List.pairwise_cons.1 hp).2⟩

theorem smSorted_filter (m : List (Nat × α)) (p : Nat × α → Bool) (h : smSorted m = true) : smSorted (m.filter p) = true := by
  rw [smSorted_iff] at *
  exact h.filter p

theorem smSorted_mid (m : List (Nat × α)) (mid : List (Nat × α)) (k : Nat) (hm : mid = [] ∨ ∃ v, mid = [(k, v)])
    (h : smSorted m = true) :
    smSorted (m.filter (fun p => p.1 < k) ++ (mid ++ m.filter (fun p => k < p.1))) = true := by
  rw [smSorted_iff] at *
  have hl := h.filter (fun p : Nat × α => decide (p.1 < k))
  have hr := h.filter (fun p : Nat × α => decide (k < p.1))
  refine List.pairwise_append.2 ⟨hl, ?_, ?_⟩
  · rcases hm with rfl | ⟨v, rfl⟩
    · simpa using hr
    · refine List.pairwise_cons.2 ⟨?_, hr⟩
      intro e he
      simpa using (List.mem_filter.1 he).2
  · intro a ha b hb
    have h1 : a.1 < k := by simpa using (List.mem_filter.1 ha).2
    rcases List.mem_append.1 hb with hb | hb
    · rcases hm with rfl | ⟨v, rfl⟩
      · simp at hb
      · simp at hb; subst hb; exact h1
    · have h2 : k < b.1 := by simpa using (List.mem_filter.1 hb).2
      omega

theorem smSorted_smSet [DecidableEq α] (d : α) (m : List (Nat × α)) (k : Nat) (v : α) (h : smSorted m = true) :
    smSorted (smSet d m k v) = true := by
  apply smSorted_mid _ _ _ _ h
  by_cases hv : v = d
  · simp [hv]
  · right; exact ⟨v, by simp [hv]⟩

theorem smSorted_smIns (m : List (Nat × α)) (k : Nat) (v : α) (h : smSorted m = true) : smSorted (smIns m k v) = true := by
  have := smSorted_mid m [(k, v)] k (Or.inr ⟨v, rfl⟩) h
  simpa [smIns] using this

theorem mem_smSet [DecidableEq α] (d : α) (m : List (Nat × α)) (k : Nat) (v : α) (e : Nat × α) (h : e ∈ smSet d m k v) :
    e ∈ m ∨ (e = (k, v) ∧ v ≠ d) := by
  unfold smSet at h
  rcases List.mem_append.1 h with h | h
  · exact Or.inl (List.mem_filter.1 h).1
  · rcases List.mem_append.1 h with h | h
    · by_cases hv : v = d
      · simp [hv] at h
      · simp [hv] at h; exact Or.inr ⟨h, hv⟩
    · exact Or.inl (List.mem_filter.1 h).1

theorem mem_smIns (m : List (Nat × α)) (k : Nat) (v : α) (e : Nat × α) (h : e ∈ smIns m k v) : e ∈ m ∨ e = (k, v) := by
  unfold smIns at h
  rcases List.mem_append.1 h with h | h
  · exact Or.inl (List.mem_filter.1 h).1
  · rcases List.mem_cons.1 h with h | h
    · exact Or.inr h
    · exact Or.inl (List.mem_filter.1 h).1

theorem smWf_iff [DecidableEq α] (d : Nat → α) (m : List (Nat × α)) :
    smWf d m = true ↔ smSorted m = true ∧ ∀ e ∈ m, e.2 ≠ d e.1 := by
  simp [smWf]

theorem smWf_filter [DecidableEq α] (d : Nat → α) (m : List (Nat × α)) (p : Nat × α → Bool) (h : smWf d m = true) :
    smWf d (m.filter p) = true := by
  rw [smWf_iff] at *
  exact ⟨smSorted_filter _ _ h.1, fun e he => h.2 e (List.mem_filter.1 he).1⟩

/-- Writing a key keeps the canonical form. -/
theorem smWf_smSet [DecidableEq α] (d : α) (m : List (Nat × α)) (k : Nat) (v : α) (h : smWf (fun _ => d) m = true) :
    smWf (fun _ => d) (smSet d m k v) = true := by
  rw [smWf_iff] at *
  refine ⟨smSorted_smSet _ _ _ _ h.1, ?_⟩
  intro e he
  rcases mem_smSet _ _ _ _ _ he with he | ⟨rfl, hv⟩
  · exact h.2 e he
  · exact hv

theorem smWf_smClr [DecidableEq α] (d : Nat → α) (m : List (Nat × α)) (ks : List Nat) (h : smWf d m = true) :
    smWf d (smClr m ks) = true := smWf_filter d m _ h

theorem smWf_smClrRange [DecidableEq α] (d : Nat → α) (m : List (Nat × α)) (lo hi : Nat) (h : smWf d m = true) :
    smWf d (smClrRange m lo hi) = true := smWf_filter d m _ h

theorem smWf_smRun [DecidableEq α] (d : α) (m : List (Nat × α)) (k : Nat) (vs : List α) (h : smWf (fun _ => d) m = true) :
    smWf (fun _ => d) (smRun d m k vs) = true := by
  induction vs generalizing m k with
  | nil => exact h
  | cons v vs ih => exact ih _ _ (smWf_smSet d m k v h)

theorem smWf_smMove [DecidableEq α] (d : α) (w : Nat) (f : Nat → Nat) (m : List (Nat × α)) :
    smWf (fun _ => d) (smMove d w f m) = true := by
  have : ∀ (m acc : List (Nat × α)), smWf (fun _ => d) acc = true →
      smWf (fun _ => d) (m.foldl (fun acc e => smSet d acc (f (e.1 / w) * w + e.1 % w) e.2) acc) = true := by
    intro m
    induction m with
    | nil => intro acc h; exact h
    | cons e m ih => intro acc h; exact ih _ (smWf_smSet d acc _ _ h)
  exact this m [] rfl

end Sys2Proof.Machine
end

