-- ==== Sys2Proof/Laws/State.lean ====
section
/-!
SUPPORT. Sys2Proof/Laws/State.lean: what each field of the state is after one update, for every update at once.
-/
namespace Sys2Proof.Machine

@[simp] theorem applyAll_nil (s : State) : applyAll s [] = s := rfl

@[simp] theorem applyAll_cons (s : State) (e : Eff) (es : List Eff) : applyAll s (e :: es) = applyAll (applyEff s e) es := rfl

theorem applyAll_append (s : State) (a b : List Eff) : applyAll s (a ++ b) = applyAll (applyAll s a) b := by
  simp [applyAll, List.foldl_append]

@[simp] theorem applyEff_pending (s : State) (e : Eff) : (applyEff s e).pending = s.pending := by
  cases e <;> rfl

@[simp] theorem applyEff_regs (s : State) (e : Eff) : (applyEff s e).regs =
    match e with
    | .reg k v => smSet (regReset k) s.regs k.code (v &&& regMask k)
    | .fld k f x => smSet (regReset k) s.regs k.code (fset (regOf s k) f x &&& regMask k)
    | .cnt k f n => smSet (regReset k) s.regs k.code (satAdd f (regOf s k) n &&& regMask k)
    | .regsClr cs => smClr s.regs cs
    | .fresh ids _ => s.regs.filter (fun e => ids.contains (e.1 / 65536))
    | .relabel ps => relabelRegs ps s.regs
    | _ => s.regs := by
  cases e <;> rfl

@[simp] theorem applyEff_cm (s : State) (e : Eff) : (applyEff s e).cm =
    match e with
    | .runCm k vs => smRun 0 s.cm k vs
    | .wipeCm lo hi => smClrRange s.cm lo hi
    | .fresh _ _ => []
    | .relabel ps => smMove 0 (2 ^ 23) (moved ps) s.cm
    | _ => s.cm := by
  cases e <;> rfl

@[simp] theorem applyEff_vlt (s : State) (e : Eff) : (applyEff s e).vlt =
    match e with
    | .runVlt k vs => smRun 0 s.vlt k vs
    | .wipeVlt lo hi => smClrRange s.vlt lo hi
    | .fresh _ vault => if vault then s.vlt else []
    | .relabel ps => smMove 0 (2 ^ 28) (moved ps) s.vlt
    | _ => s.vlt := by
  cases e <;> rfl

@[simp] theorem applyEff_cmPsn (s : State) (e : Eff) : (applyEff s e).cmPsn =
    match e with
    | .putCmPsn k v => smSet false s.cmPsn k v
    | .clrCmPsn ks => smClr s.cmPsn ks
    | .fresh _ _ => []
    | .relabel ps => smMove false (2 ^ 17) (moved ps) s.cmPsn
    | _ => s.cmPsn := by
  cases e <;> rfl

@[simp] theorem applyEff_vltLn (s : State) (e : Eff) : (applyEff s e).vltLn =
    match e with
    | .putVltLn k v => smSet ⟨false, false⟩ s.vltLn k v
    | .clrVltLn ks => smClr s.vltLn ks
    | .fresh _ vault => if vault then s.vltLn else []
    | .relabel ps => smMove ⟨false, false⟩ (2 ^ 22) (moved ps) s.vltLn
    | _ => s.vltLn := by
  cases e <;> rfl

@[simp] theorem applyEff_cores (s : State) (e : Eff) : (applyEff s e).cores =
    match e with
    | .putCores k v => smSet CoreSt.init s.cores k v
    | .clrCores ks => smClr s.cores ks
    | .fresh _ _ => []
    | .relabel ps => smMove CoreSt.init (24) (moved ps) s.cores
    | _ => s.cores := by
  cases e <;> rfl

@[simp] theorem applyEff_queues (s : State) (e : Eff) : (applyEff s e).queues =
    match e with
    | .putQueues k v => smSet QueueSt.init s.queues k v
    | .clrQueues ks => smClr s.queues ks
    | .fresh _ _ => []
    | .relabel ps => smMove QueueSt.init (22) (moved ps) s.queues
    | _ => s.queues := by
  cases e <;> rfl

@[simp] theorem applyEff_tags (s : State) (e : Eff) : (applyEff s e).tags =
    match e with
    | .putTags k v => smSet TagSt.free s.tags k v
    | .clrTags ks => smClr s.tags ks
    | .fresh _ _ => []
    | .relabel ps => smMove TagSt.free (1024) (moved ps) s.tags
    | _ => s.tags := by
  cases e <;> rfl

@[simp] theorem applyEff_niuq (s : State) (e : Eff) : (applyEff s e).niuq =
    match e with
    | .putNiuq k v => smSet [] s.niuq k v
    | .clrNiuq ks => smClr s.niuq ks
    | .fresh _ _ => []
    | .relabel ps => smMove [] (1) (moved ps) s.niuq
    | _ => s.niuq := by
  cases e <;> rfl

@[simp] theorem applyEff_niuRr (s : State) (e : Eff) : (applyEff s e).niuRr =
    match e with
    | .putNiuRr k v => smSet 0 s.niuRr k v
    | .clrNiuRr ks => smClr s.niuRr ks
    | .fresh _ _ => []
    | .relabel ps => smMove 0 (4) (moved ps) s.niuRr
    | _ => s.niuRr := by
  cases e <;> rfl

@[simp] theorem applyEff_bn (s : State) (e : Eff) : (applyEff s e).bn =
    match e with
    | .setBn v => v
    | .fresh _ _ => []
    | _ => s.bn := by
  cases e <;> rfl

@[simp] theorem applyEff_cn (s : State) (e : Eff) : (applyEff s e).cn =
    match e with
    | .setCn v => v
    | .fresh _ _ => []
    | _ => s.cn := by
  cases e <;> rfl

@[simp] theorem applyEff_cnq (s : State) (e : Eff) : (applyEff s e).cnq =
    match e with
    | .putCnq k v => smSet [] s.cnq k v
    | .clrCnq ks => smClr s.cnq ks
    | .fresh _ _ => []
    | .relabel ps => smMove [] (1) (moved ps) s.cnq
    | _ => s.cnq := by
  cases e <;> rfl

@[simp] theorem applyEff_latches (s : State) (e : Eff) : (applyEff s e).latches =
    match e with
    | .setLatches v => v
    | .fresh _ _ => []
    | _ => s.latches := by
  cases e <;> rfl

@[simp] theorem applyEff_arb (s : State) (e : Eff) : (applyEff s e).arb =
    match e with
    | .putArb k v => smSet ArbSt.init s.arb k v
    | .clrArb ks => smClr s.arb ks
    | .fresh _ _ => []
    | .relabel ps => smMove ArbSt.init (128) (moved ps) s.arb
    | _ => s.arb := by
  cases e <;> rfl

@[simp] theorem applyEff_tok (s : State) (e : Eff) : (applyEff s e).tok =
    match e with
    | .putTok k v => smSet 0 s.tok k v
    | .clrTok ks => smClr s.tok ks
    | .fresh _ _ => []
    | .relabel ps => smMove 0 (4) (moved ps) s.tok
    | _ => s.tok := by
  cases e <;> rfl

@[simp] theorem applyEff_wtok (s : State) (e : Eff) : (applyEff s e).wtok =
    match e with
    | .putWtok k v => smSet 0 s.wtok k v
    | .clrWtok ks => smClr s.wtok ks
    | .fresh _ _ => []
    | _ => s.wtok := by
  cases e <;> rfl

@[simp] theorem applyEff_embQ (s : State) (e : Eff) : (applyEff s e).embQ =
    match e with
    | .setEmbQ v => v
    | .fresh _ _ => []
    | _ => s.embQ := by
  cases e <;> rfl

@[simp] theorem applyEff_free (s : State) (e : Eff) : (applyEff s e).free =
    match e with
    | .setFree v => v
    | _ => s.free := by
  cases e <;> rfl

@[simp] theorem applyEff_msixPend (s : State) (e : Eff) : (applyEff s e).msixPend =
    match e with
    | .setMsixPend v => v
    | .fresh _ _ => 0
    | _ => s.msixPend := by
  cases e <;> rfl

@[simp] theorem applyEff_glvWakeReq (s : State) (e : Eff) : (applyEff s e).glvWakeReq =
    match e with
    | .setGlvWakeReq v => v
    | .fresh _ _ => false
    | _ => s.glvWakeReq := by
  cases e <;> rfl

@[simp] theorem applyEff_admittedSince (s : State) (e : Eff) : (applyEff s e).admittedSince =
    match e with
    | .setAdmittedSince v => v
    | .fresh _ _ => false
    | _ => s.admittedSince := by
  cases e <;> rfl

@[simp] theorem applyEff_mxeHeld (s : State) (e : Eff) : (applyEff s e).mxeHeld =
    match e with
    | .putMxeHeld k v => smSet [] s.mxeHeld k v
    | .clrMxeHeld ks => smClr s.mxeHeld ks
    | .fresh _ _ => []
    | .relabel ps => smMove [] (1) (moved ps) s.mxeHeld
    | _ => s.mxeHeld := by
  cases e <;> rfl

@[simp] theorem applyEff_mxe (s : State) (e : Eff) : (applyEff s e).mxe =
    match e with
    | .putMxe k v => smSet none s.mxe k v
    | .clrMxe ks => smClr s.mxe ks
    | .fresh _ _ => []
    | .relabel ps => smMove none (1) (moved ps) s.mxe
    | _ => s.mxe := by
  cases e <;> rfl

@[simp] theorem applyEff_cdxTbl (s : State) (e : Eff) : (applyEff s e).cdxTbl =
    match e with
    | .putCdxTbl k v => smSet [] s.cdxTbl k v
    | .clrCdxTbl ks => smClr s.cdxTbl ks
    | .fresh _ _ => []
    | .relabel ps => smMove [] (16) (moved ps) s.cdxTbl
    | _ => s.cdxTbl := by
  cases e <;> rfl

@[simp] theorem applyEff_cdxReq (s : State) (e : Eff) : (applyEff s e).cdxReq =
    match e with
    | .putCdxReq k v => smSet [] s.cdxReq k v
    | .clrCdxReq ks => smClr s.cdxReq ks
    | .fresh _ _ => []
    | .relabel ps => smMove [] (1) (moved ps) s.cdxReq
    | _ => s.cdxReq := by
  cases e <;> rfl

@[simp] theorem applyEff_cdxMark (s : State) (e : Eff) : (applyEff s e).cdxMark =
    match e with
    | .putCdxMark k v => smSet [] s.cdxMark k v
    | .clrCdxMark ks => smClr s.cdxMark ks
    | .fresh _ _ => []
    | .relabel ps => smMove [] (22) (moved ps) s.cdxMark
    | _ => s.cdxMark := by
  cases e <;> rfl

@[simp] theorem applyEff_cdxLast (s : State) (e : Eff) : (applyEff s e).cdxLast =
    match e with
    | .putCdxLast k v => smSet 0 s.cdxLast k v
    | .clrCdxLast ks => smClr s.cdxLast ks
    | .fresh _ _ => []
    | .relabel ps => smMove 0 (1) (moved ps) s.cdxLast
    | _ => s.cdxLast := by
  cases e <;> rfl

@[simp] theorem applyEff_aqDisc (s : State) (e : Eff) : (applyEff s e).aqDisc =
    match e with
    | .putAqDisc k v => smSet 0 s.aqDisc k v
    | .clrAqDisc ks => smClr s.aqDisc ks
    | .fresh _ _ => []
    | .relabel ps => smMove 0 (8) (moved ps) s.aqDisc
    | _ => s.aqDisc := by
  cases e <;> rfl

@[simp] theorem applyEff_amqNaks (s : State) (e : Eff) : (applyEff s e).amqNaks =
    match e with
    | .putAmqNaks k v => smSet 0 s.amqNaks k v
    | .clrAmqNaks ks => smClr s.amqNaks ks
    | .fresh _ _ => []
    | .relabel ps => smMove 0 (64) (moved ps) s.amqNaks
    | _ => s.amqNaks := by
  cases e <;> rfl

@[simp] theorem applyEff_amqTc (s : State) (e : Eff) : (applyEff s e).amqTc =
    match e with
    | .putAmqTc k v => smSet 0 s.amqTc k v
    | .clrAmqTc ks => smClr s.amqTc ks
    | .fresh _ _ => []
    | .relabel ps => smMove 0 (64) (moved ps) s.amqTc
    | _ => s.amqTc := by
  cases e <;> rfl

@[simp] theorem applyEff_amqNext (s : State) (e : Eff) : (applyEff s e).amqNext =
    match e with
    | .putAmqNext k v => smSet 0 s.amqNext k v
    | .clrAmqNext ks => smClr s.amqNext ks
    | .fresh _ _ => []
    | .relabel ps => smMove 0 (64) (moved ps) s.amqNext
    | _ => s.amqNext := by
  cases e <;> rfl

@[simp] theorem applyEff_amqGo (s : State) (e : Eff) : (applyEff s e).amqGo =
    match e with
    | .putAmqGo k v => smSet none s.amqGo k v
    | .clrAmqGo ks => smClr s.amqGo ks
    | .fresh _ _ => []
    | .relabel ps => smMove none (24) (moved ps) s.amqGo
    | _ => s.amqGo := by
  cases e <;> rfl

@[simp] theorem applyEff_redSlot (s : State) (e : Eff) : (applyEff s e).redSlot =
    match e with
    | .putRedSlot k v => smSet [] s.redSlot k v
    | .clrRedSlot ks => smClr s.redSlot ks
    | .fresh _ _ => []
    | .relabel ps => smMove [] (1) (moved ps) s.redSlot
    | _ => s.redSlot := by
  cases e <;> rfl

@[simp] theorem applyEff_redSeg (s : State) (e : Eff) : (applyEff s e).redSeg =
    match e with
    | .putRedSeg k v => smSet ⟨0, false, false⟩ s.redSeg k v
    | .clrRedSeg ks => smClr s.redSeg ks
    | .fresh _ _ => []
    | .relabel ps => smMove ⟨0, false, false⟩ (16384) (moved ps) s.redSeg
    | _ => s.redSeg := by
  cases e <;> rfl

@[simp] theorem applyEff_srcBuf (s : State) (e : Eff) : (applyEff s e).srcBuf =
    match e with
    | .putSrcBuf k v => smSet [] s.srcBuf k v
    | .clrSrcBuf ks => smClr s.srcBuf ks
    | .fresh _ _ => []
    | .relabel ps => smMove [] (1441792) (moved ps) s.srcBuf
    | _ => s.srcBuf := by
  cases e <;> rfl

@[simp] theorem applyEff_bcnTap (s : State) (e : Eff) : (applyEff s e).bcnTap =
    match e with
    | .putBcnTap k v => smSet none s.bcnTap k v
    | .clrBcnTap ks => smClr s.bcnTap ks
    | .fresh _ _ => []
    | .relabel ps => smMove none (2) (moved ps) s.bcnTap
    | _ => s.bcnTap := by
  cases e <;> rfl

@[simp] theorem applyEff_tprIn (s : State) (e : Eff) : (applyEff s e).tprIn =
    match e with
    | .putTprIn k v => smSet [] s.tprIn k v
    | .clrTprIn ks => smClr s.tprIn ks
    | .fresh _ _ => []
    | .relabel ps => smMove [] (1) (moved ps) s.tprIn
    | _ => s.tprIn := by
  cases e <;> rfl

@[simp] theorem applyEff_tprPc (s : State) (e : Eff) : (applyEff s e).tprPc =
    match e with
    | .putTprPc k v => smSet 0 s.tprPc k v
    | .clrTprPc ks => smClr s.tprPc ks
    | .fresh _ _ => []
    | .relabel ps => smMove 0 (1) (moved ps) s.tprPc
    | _ => s.tprPc := by
  cases e <;> rfl

@[simp] theorem applyEff_tprBrk (s : State) (e : Eff) : (applyEff s e).tprBrk =
    match e with
    | .putTprBrk k v => smSet false s.tprBrk k v
    | .clrTprBrk ks => smClr s.tprBrk ks
    | .fresh _ _ => []
    | .relabel ps => smMove false (1) (moved ps) s.tprBrk
    | _ => s.tprBrk := by
  cases e <;> rfl

@[simp] theorem applyEff_wick (s : State) (e : Eff) : (applyEff s e).wick =
    match e with
    | .putWick k v => smSet ⟨0, false⟩ s.wick k v
    | .clrWick ks => smClr s.wick ks
    | .fresh _ _ => []
    | _ => s.wick := by
  cases e <;> rfl

@[simp] theorem applyEff_wickFq (s : State) (e : Eff) : (applyEff s e).wickFq =
    match e with
    | .putWickFq k v => smSet [] s.wickFq k v
    | .clrWickFq ks => smClr s.wickFq ks
    | .fresh _ _ => []
    | .relabel ps => smMove [] (1) (moved ps) s.wickFq
    | _ => s.wickFq := by
  cases e <;> rfl

@[simp] theorem applyEff_wickTx (s : State) (e : Eff) : (applyEff s e).wickTx =
    match e with
    | .putWickTx k v => smSet [] s.wickTx k v
    | .clrWickTx ks => smClr s.wickTx ks
    | .fresh _ _ => []
    | _ => s.wickTx := by
  cases e <;> rfl

@[simp] theorem applyEff_wlp (s : State) (e : Eff) : (applyEff s e).wlp =
    match e with
    | .putWlp k v => smSet WlpSt.init s.wlp k v
    | .clrWlp ks => smClr s.wlp ks
    | .fresh _ _ => []
    | _ => s.wlp := by
  cases e <;> rfl

@[simp] theorem applyEff_wlpEq (s : State) (e : Eff) : (applyEff s e).wlpEq =
    match e with
    | .putWlpEq k v => smSet [] s.wlpEq k v
    | .clrWlpEq ks => smClr s.wlpEq ks
    | .fresh _ _ => []
    | _ => s.wlpEq := by
  cases e <;> rfl

@[simp] theorem applyEff_wlpPool (s : State) (e : Eff) : (applyEff s e).wlpPool =
    match e with
    | .putWlpPool k v => smSet [] s.wlpPool k v
    | .clrWlpPool ks => smClr s.wlpPool ks
    | .fresh _ _ => []
    | _ => s.wlpPool := by
  cases e <;> rfl

@[simp] theorem applyEff_ansOut (s : State) (e : Eff) : (applyEff s e).ansOut =
    match e with
    | .setAnsOut v => v
    | .fresh _ _ => []
    | _ => s.ansOut := by
  cases e <;> rfl

@[simp] theorem applyEff_colGrp (s : State) (e : Eff) : (applyEff s e).colGrp =
    match e with
    | .putColGrp k v => smSet ColGrp.init s.colGrp k v
    | .clrColGrp ks => smClr s.colGrp ks
    | .fresh _ _ => []
    | .relabel ps => smMove ColGrp.init (8) (moved ps) s.colGrp
    | _ => s.colGrp := by
  cases e <;> rfl

@[simp] theorem applyEff_admSeq (s : State) (e : Eff) : (applyEff s e).admSeq =
    match e with
    | .setAdmSeq v => v
    | .fresh _ _ => 0
    | _ => s.admSeq := by
  cases e <;> rfl

@[simp] theorem applyEff_pci (s : State) (e : Eff) : (applyEff s e).pci =
    match e with
    | .setPci v => v
    | .fresh _ _ => PciCfg.init
    | _ => s.pci := by
  cases e <;> rfl

@[simp] theorem applyEff_hostQ (s : State) (e : Eff) : (applyEff s e).hostQ =
    match e with
    | .setHostQ v => v
    | .fresh _ _ => []
    | _ => s.hostQ := by
  cases e <;> rfl

@[simp] theorem applyEff_hostSeq (s : State) (e : Eff) : (applyEff s e).hostSeq =
    match e with
    | .setHostSeq v => v
    | .fresh _ _ => 0
    | _ => s.hostSeq := by
  cases e <;> rfl

@[simp] theorem applyEff_hostCpl (s : State) (e : Eff) : (applyEff s e).hostCpl =
    match e with
    | .setHostCpl v => v
    | .fresh _ _ => []
    | _ => s.hostCpl := by
  cases e <;> rfl

@[simp] theorem applyEff_tlpOut (s : State) (e : Eff) : (applyEff s e).tlpOut =
    match e with
    | .setTlpOut v => v
    | .fresh _ _ => []
    | _ => s.tlpOut := by
  cases e <;> rfl

@[simp] theorem applyEff_hostRd (s : State) (e : Eff) : (applyEff s e).hostRd =
    match e with
    | .setHostRd v => v
    | .fresh _ _ => []
    | _ => s.hostRd := by
  cases e <;> rfl

@[simp] theorem applyEff_msixTbl (s : State) (e : Eff) : (applyEff s e).msixTbl =
    match e with
    | .putMsixTbl k v => smSet 0 s.msixTbl k v
    | .clrMsixTbl ks => smClr s.msixTbl ks
    | .fresh _ _ => []
    | _ => s.msixTbl := by
  cases e <;> rfl

@[simp] theorem applyEff_doe (s : State) (e : Eff) : (applyEff s e).doe =
    match e with
    | .setDoe v => v
    | .fresh _ _ => none
    | _ => s.doe := by
  cases e <;> rfl

@[simp] theorem applyEff_doeAns (s : State) (e : Eff) : (applyEff s e).doeAns =
    match e with
    | .setDoeAns v => v
    | .fresh _ _ => none
    | _ => s.doeAns := by
  cases e <;> rfl

@[simp] theorem applyEff_flash (s : State) (e : Eff) : (applyEff s e).flash =
    match e with
    | .runFlash k vs => smRun 0xFF s.flash k vs
    | .wipeFlash lo hi => smClrRange s.flash lo hi
    | _ => s.flash := by
  cases e <;> rfl

@[simp] theorem applyEff_excHold (s : State) (e : Eff) : (applyEff s e).excHold =
    match e with
    | .setExcHold v => v
    | .fresh _ _ => false
    | _ => s.excHold := by
  cases e <;> rfl

@[simp] theorem applyEff_capHold (s : State) (e : Eff) : (applyEff s e).capHold =
    match e with
    | .setCapHold v => v
    | .fresh _ _ => false
    | _ => s.capHold := by
  cases e <;> rfl

@[simp] theorem applyEff_critical (s : State) (e : Eff) : (applyEff s e).critical =
    match e with
    | .setCritical v => v
    | .fresh _ _ => false
    | _ => s.critical := by
  cases e <;> rfl

@[simp] theorem applyEff_warnTail (s : State) (e : Eff) : (applyEff s e).warnTail =
    match e with
    | .setWarnTail v => v
    | .fresh _ _ => none
    | _ => s.warnTail := by
  cases e <;> rfl

@[simp] theorem applyEff_pwrHist (s : State) (e : Eff) : (applyEff s e).pwrHist =
    match e with
    | .setPwrHist v => v
    | .fresh _ _ => []
    | _ => s.pwrHist := by
  cases e <;> rfl

@[simp] theorem applyEff_pwrAvg (s : State) (e : Eff) : (applyEff s e).pwrAvg =
    match e with
    | .setPwrAvg v => v
    | .fresh _ _ => ⟨0, 0, 0, 0, 0, []⟩
    | _ => s.pwrAvg := by
  cases e <;> rfl

@[simp] theorem applyEff_tempFail (s : State) (e : Eff) : (applyEff s e).tempFail =
    match e with
    | .putTempFail k v => smSet 0 s.tempFail k v
    | .clrTempFail ks => smClr s.tempFail ks
    | .fresh _ _ => []
    | _ => s.tempFail := by
  cases e <;> rfl

@[simp] theorem applyEff_vTgt (s : State) (e : Eff) : (applyEff s e).vTgt =
    match e with
    | .putVTgt k v => smSet 0 s.vTgt k v
    | .clrVTgt ks => smClr s.vTgt ks
    | .fresh _ _ => []
    | _ => s.vTgt := by
  cases e <;> rfl

@[simp] theorem applyEff_stretchOn (s : State) (e : Eff) : (applyEff s e).stretchOn =
    match e with
    | .putStretchOn k v => smSet false s.stretchOn k v
    | .clrStretchOn ks => smClr s.stretchOn ks
    | .fresh _ _ => []
    | _ => s.stretchOn := by
  cases e <;> rfl

@[simp] theorem applyEff_ivrNext (s : State) (e : Eff) : (applyEff s e).ivrNext =
    match e with
    | .setIvrNext v => v
    | .fresh _ _ => 0
    | _ => s.ivrNext := by
  cases e <;> rfl

@[simp] theorem applyEff_rstReq (s : State) (e : Eff) : (applyEff s e).rstReq =
    match e with
    | .setRstReq v => v
    | .fresh _ _ => []
    | _ => s.rstReq := by
  cases e <;> rfl

@[simp] theorem applyEff_slotSt (s : State) (e : Eff) : (applyEff s e).slotSt =
    match e with
    | .putSlotSt k v => smSet 0 s.slotSt k v
    | .clrSlotSt ks => smClr s.slotSt ks
    | _ => s.slotSt := by
  cases e <;> rfl

@[simp] theorem applyEff_imgErased (s : State) (e : Eff) : (applyEff s e).imgErased =
    match e with
    | .setImgErased v => v
    | .fresh _ _ => 0
    | _ => s.imgErased := by
  cases e <;> rfl

@[simp] theorem applyEff_imgCheck (s : State) (e : Eff) : (applyEff s e).imgCheck =
    match e with
    | .setImgCheck v => v
    | .fresh _ _ => none
    | _ => s.imgCheck := by
  cases e <;> rfl

@[simp] theorem applyEff_rfl (s : State) (e : Eff) : (applyEff s e).rfl =
    match e with
    | .setRfl v => v
    | .fresh _ _ => ⟨0, 0, 0, 0, 0, []⟩
    | _ => s.rfl := by
  cases e <;> rfl

@[simp] theorem applyEff_bootCnt (s : State) (e : Eff) : (applyEff s e).bootCnt =
    match e with
    | .setBootCnt v => v
    | _ => s.bootCnt := by
  cases e <;> rfl

@[simp] theorem applyEff_bootSkip (s : State) (e : Eff) : (applyEff s e).bootSkip =
    match e with
    | .setBootSkip v => v
    | .fresh _ _ => []
    | _ => s.bootSkip := by
  cases e <;> rfl

@[simp] theorem applyEff_fuse (s : State) (e : Eff) : (applyEff s e).fuse =
    match e with
    | .putFuse k v => smSet 0 s.fuse k v
    | .clrFuse ks => smClr s.fuse ks
    | _ => s.fuse := by
  cases e <;> rfl

@[simp] theorem applyEff_fuseGrade (s : State) (e : Eff) : (applyEff s e).fuseGrade =
    match e with
    | .setFuseGrade v => v
    | _ => s.fuseGrade := by
  cases e <;> rfl

@[simp] theorem applyEff_strapKeeper (s : State) (e : Eff) : (applyEff s e).strapKeeper =
    match e with
    | .setStrapKeeper v => v
    | _ => s.strapKeeper := by
  cases e <;> rfl

@[simp] theorem applyEff_testMode (s : State) (e : Eff) : (applyEff s e).testMode =
    match e with
    | .setTestMode v => v
    | _ => s.testMode := by
  cases e <;> rfl

@[simp] theorem applyEff_mapDoms (s : State) (e : Eff) : (applyEff s e).mapDoms =
    match e with
    | .setMapDoms v => v
    | .fresh _ _ => 0
    | _ => s.mapDoms := by
  cases e <;> rfl

@[simp] theorem applyEff_applyDoms (s : State) (e : Eff) : (applyEff s e).applyDoms =
    match e with
    | .setApplyDoms v => v
    | .fresh _ _ => 0
    | _ => s.applyDoms := by
  cases e <;> rfl

@[simp] theorem applyEff_softFail (s : State) (e : Eff) : (applyEff s e).softFail =
    match e with
    | .setSoftFail v => v
    | .fresh _ _ => 0
    | _ => s.softFail := by
  cases e <;> rfl

@[simp] theorem applyEff_glvCauseAt (s : State) (e : Eff) : (applyEff s e).glvCauseAt =
    match e with
    | .setGlvCauseAt v => v
    | .fresh _ _ => 0
    | _ => s.glvCauseAt := by
  cases e <;> rfl

@[simp] theorem applyEff_glvRst (s : State) (e : Eff) : (applyEff s e).glvRst =
    match e with
    | .setGlvRst v => v
    | .fresh _ _ => []
    | _ => s.glvRst := by
  cases e <;> rfl

@[simp] theorem applyEff_spiRx (s : State) (e : Eff) : (applyEff s e).spiRx =
    match e with
    | .setSpiRx v => v
    | .fresh _ _ => []
    | _ => s.spiRx := by
  cases e <;> rfl

@[simp] theorem applyEff_spiTx (s : State) (e : Eff) : (applyEff s e).spiTx =
    match e with
    | .setSpiTx v => v
    | .fresh _ _ => []
    | _ => s.spiTx := by
  cases e <;> rfl

@[simp] theorem applyEff_spiSkip (s : State) (e : Eff) : (applyEff s e).spiSkip =
    match e with
    | .setSpiSkip v => v
    | .fresh _ _ => false
    | _ => s.spiSkip := by
  cases e <;> rfl

@[simp] theorem applyEff_spiTxn (s : State) (e : Eff) : (applyEff s e).spiTxn =
    match e with
    | .setSpiTxn v => v
    | .fresh _ _ => 0
    | _ => s.spiTxn := by
  cases e <;> rfl

@[simp] theorem applyEff_spiPrev (s : State) (e : Eff) : (applyEff s e).spiPrev =
    match e with
    | .setSpiPrev v => v
    | .fresh _ _ => 0
    | _ => s.spiPrev := by
  cases e <;> rfl

@[simp] theorem applyEff_glvWdog (s : State) (e : Eff) : (applyEff s e).glvWdog =
    match e with
    | .setGlvWdog v => v
    | .fresh _ _ => 0
    | _ => s.glvWdog := by
  cases e <;> rfl

@[simp] theorem applyEff_helloDue (s : State) (e : Eff) : (applyEff s e).helloDue =
    match e with
    | .setHelloDue v => v
    | .fresh _ _ => false
    | _ => s.helloDue := by
  cases e <;> rfl

@[simp] theorem applyEff_rflQ (s : State) (e : Eff) : (applyEff s e).rflQ =
    match e with
    | .setRflQ v => v
    | .fresh _ _ => []
    | _ => s.rflQ := by
  cases e <;> rfl

@[simp] theorem applyEff_canRx (s : State) (e : Eff) : (applyEff s e).canRx =
    match e with
    | .setCanRx v => v
    | .fresh _ _ => []
    | _ => s.canRx := by
  cases e <;> rfl

@[simp] theorem applyEff_canAsm (s : State) (e : Eff) : (applyEff s e).canAsm =
    match e with
    | .setCanAsm v => v
    | .fresh _ _ => []
    | _ => s.canAsm := by
  cases e <;> rfl

@[simp] theorem applyEff_canOut (s : State) (e : Eff) : (applyEff s e).canOut =
    match e with
    | .setCanOut v => v
    | .fresh _ _ => []
    | _ => s.canOut := by
  cases e <;> rfl

@[simp] theorem applyEff_canWait (s : State) (e : Eff) : (applyEff s e).canWait =
    match e with
    | .setCanWait v => v
    | .fresh _ _ => []
    | _ => s.canWait := by
  cases e <;> rfl

@[simp] theorem applyEff_canBt (s : State) (e : Eff) : (applyEff s e).canBt =
    match e with
    | .setCanBt v => v
    | .fresh _ _ => none
    | _ => s.canBt := by
  cases e <;> rfl

@[simp] theorem applyEff_dictQ (s : State) (e : Eff) : (applyEff s e).dictQ =
    match e with
    | .setDictQ v => v
    | .fresh _ _ => []
    | _ => s.dictQ := by
  cases e <;> rfl

@[simp] theorem applyEff_spiRsp (s : State) (e : Eff) : (applyEff s e).spiRsp =
    match e with
    | .setSpiRsp v => v
    | .fresh _ _ => []
    | _ => s.spiRsp := by
  cases e <;> rfl

@[simp] theorem applyEff_obj (s : State) (e : Eff) : (applyEff s e).obj =
    match e with
    | .putObj k v => smSet none s.obj k v
    | .clrObj ks => smClr s.obj ks
    | _ => s.obj := by
  cases e <;> rfl

@[simp] theorem applyEff_jrn (s : State) (e : Eff) : (applyEff s e).jrn =
    match e with
    | .setJrn v => v
    | _ => s.jrn := by
  cases e <;> rfl

@[simp] theorem applyEff_jseq (s : State) (e : Eff) : (applyEff s e).jseq =
    match e with
    | .setJseq v => v
    | _ => s.jseq := by
  cases e <;> rfl

@[simp] theorem applyEff_sess (s : State) (e : Eff) : (applyEff s e).sess =
    match e with
    | .setSess v => v
    | .fresh _ _ => []
    | _ => s.sess := by
  cases e <;> rfl

@[simp] theorem applyEff_authFail (s : State) (e : Eff) : (applyEff s e).authFail =
    match e with
    | .putAuthFail k v => smSet 0 s.authFail k v
    | .clrAuthFail ks => smClr s.authFail ks
    | .fresh _ _ => []
    | _ => s.authFail := by
  cases e <;> rfl

@[simp] theorem applyEff_lockout (s : State) (e : Eff) : (applyEff s e).lockout =
    match e with
    | .putLockout k v => smSet none s.lockout k v
    | .clrLockout ks => smClr s.lockout ks
    | .fresh _ _ => []
    | _ => s.lockout := by
  cases e <;> rfl

@[simp] theorem applyEff_embOpen (s : State) (e : Eff) : (applyEff s e).embOpen =
    match e with
    | .setEmbOpen v => v
    | .fresh _ _ => none
    | _ => s.embOpen := by
  cases e <;> rfl

@[simp] theorem applyEff_embBseq (s : State) (e : Eff) : (applyEff s e).embBseq =
    match e with
    | .setEmbBseq v => v
    | _ => s.embBseq := by
  cases e <;> rfl

@[simp] theorem applyEff_tileLeave (s : State) (e : Eff) : (applyEff s e).tileLeave =
    match e with
    | .putTileLeave k v => smSet false s.tileLeave k v
    | .clrTileLeave ks => smClr s.tileLeave ks
    | .fresh _ _ => []
    | .relabel ps => smMove false (1) (moved ps) s.tileLeave
    | _ => s.tileLeave := by
  cases e <;> rfl

@[simp] theorem applyEff_topoUp (s : State) (e : Eff) : (applyEff s e).topoUp =
    match e with
    | .setTopoUp v => v
    | .fresh _ _ => false
    | _ => s.topoUp := by
  cases e <;> rfl

end Sys2Proof.Machine
end

