-- ==== Sys2Proof/Laws/Regs.lean ====
section
/-!
SUPPORT. Sys2Proof/Laws/Regs.lean: the fields of a register word, register keys, and what a register reads after each update.
-/
namespace Sys2Proof.Machine

/-! ### Fields of a word -/

theorem getLsbD_fmask (f : Fld) (i : Nat) :
    (fmask f).getLsbD i = (decide (i < 64) && decide (f.lo ≤ i) && decide (i < f.lo + f.len)) := by
  simp only [fmask, BitVec.getLsbD_ofNat, Nat.testBit_mul_two_pow, Nat.testBit_two_pow_sub_one]
  by_cases h1 : f.lo ≤ i <;> by_cases h2 : i < f.lo + f.len <;> simp [h1, h2] <;> omega

theorem testBit_fget (v : W64) (f : Fld) (i : Nat) :
    (fget v f).testBit i = (decide (i < f.len) && v.getLsbD (f.lo + i)) := by
  simp only [fget, Nat.testBit_mod_two_pow, Nat.testBit_div_two_pow, BitVec.getLsbD]
  rw [Nat.add_comm]

theorem getLsbD_fset (v : W64) (f : Fld) (x i : Nat) (hi : i < 64) :
    (fset v f x).getLsbD i = if f.lo ≤ i ∧ i < f.lo + f.len then x.testBit (i - f.lo) else v.getLsbD i := by
  simp only [fset, BitVec.getLsbD_or, BitVec.getLsbD_and, BitVec.getLsbD_not, getLsbD_fmask, BitVec.getLsbD_ofNat,
    Nat.testBit_mul_two_pow, Nat.testBit_mod_two_pow, hi]
  by_cases h1 : f.lo ≤ i
  · by_cases h2 : i < f.lo + f.len
    · have h3 : i - f.lo < f.len := by omega
      simp [h1, h2, h3]
    · have h3 : ¬ i - f.lo < f.len := by omega
      simp [h1, h2, h3]
  · simp [h1]

/-- A field reads what was put into it. -/
theorem fget_fset_same (v : W64) (f : Fld) (x : Nat) (h : f.lo + f.len ≤ 64) : fget (fset v f x) f = x % 2 ^ f.len := by
  apply Nat.eq_of_testBit_eq
  intro i
  simp only [testBit_fget, Nat.testBit_mod_two_pow]
  by_cases hi : i < f.len
  · rw [getLsbD_fset _ _ _ _ (by omega)]
    simp [hi]
  · simp [hi]

/-- Putting a field leaves a field that shares no bit with it. -/
theorem fget_fset_of_disjoint (v : W64) (f g : Fld) (x : Nat) (hf : f.lo + f.len ≤ 64)
    (h : f.lo + f.len ≤ g.lo ∨ g.lo + g.len ≤ f.lo) : fget (fset v g x) f = fget v f := by
  apply Nat.eq_of_testBit_eq
  intro i
  simp only [testBit_fget]
  by_cases hi : i < f.len
  · rw [getLsbD_fset _ _ _ _ (by omega), if_neg (by omega)]
  · simp [hi]

/-- A mask that holds a field leaves it. -/
theorem fget_and_mask (v m : W64) (f : Fld) (hm : fmask f &&& ~~~m = 0) : fget (v &&& m) f = fget v f := by
  apply Nat.eq_of_testBit_eq
  intro i
  simp only [testBit_fget, BitVec.getLsbD_and]
  by_cases hi : i < f.len
  · by_cases h64 : f.lo + i < 64
    · have hb : (fmask f &&& ~~~m).getLsbD (f.lo + i) = false := by rw [hm]; simp
      rw [BitVec.getLsbD_and, BitVec.getLsbD_not, getLsbD_fmask] at hb
      have hx : m.getLsbD (f.lo + i) = true := by
        cases hx : m.getLsbD (f.lo + i) with
        | true => rfl
        | false => rw [hx] at hb; simp [h64, hi] at hb
      rw [hx, Bool.and_true]
    · have hv := BitVec.getLsbD_of_ge v (f.lo + i) (by omega)
      simp [hv]
  · simp [hi]

theorem fget_lt (v : W64) (f : Fld) : fget v f < 2 ^ f.len := Nat.mod_lt _ (Nat.two_pow_pos _)

/-! ### Keys -/

theorem dreg_ctorIdx_lt (r : DReg) : r.ctorIdx < 1024 := by cases r <;> decide

theorem treg_ctorIdx_lt (r : TReg) : r.ctorIdx < 1024 := by cases r <;> decide

theorem dreg_ctorIdx_inj {a b : DReg} (h : a.ctorIdx = b.ctorIdx) : a = b := by
  have := congrArg DReg.ofNat h
  simpa [DReg.ofNat_ctorIdx] using this

theorem treg_ctorIdx_inj {a b : TReg} (h : a.ctorIdx = b.ctorIdx) : a = b := by
  have := congrArg TReg.ofNat h
  simpa [TReg.ofNat_ctorIdx] using this

/-- The register store keeps every register under a number of its own. -/
theorem RKey.code_inj {a b : RKey} (h : a.code = b.code) : a = b := by
  cases a with
  | dev r i =>
    cases b with
    | dev r' i' =>
      simp only [RKey.code] at h
      have h1 := i.isLt; have h2 := i'.isLt
      have hr : r.ctorIdx = r'.ctorIdx := by omega
      have hi : i = i' := Fin.ext (by omega)
      rw [dreg_ctorIdx_inj hr, hi]
    | tile t r' i' =>
      simp only [RKey.code] at h
      have h1 := i.isLt; have h2 := i'.isLt; have := dreg_ctorIdx_lt r
      omega
  | tile t r i =>
    cases b with
    | dev r' i' =>
      simp only [RKey.code] at h
      have h1 := i.isLt; have h2 := i'.isLt; have := dreg_ctorIdx_lt r'
      omega
    | tile t' r' i' =>
      simp only [RKey.code] at h
      have h1 := i.isLt; have h2 := i'.isLt; have := treg_ctorIdx_lt r; have := treg_ctorIdx_lt r'
      have hr : r.ctorIdx = r'.ctorIdx := by omega
      have hi : i = i' := Fin.ext (by omega)
      have ht : t = t' := Fin.ext (by omega)
      rw [treg_ctorIdx_inj hr, hi, ht]

theorem RKey.code_ne {a b : RKey} (h : a ≠ b) : a.code ≠ b.code := fun e => h (RKey.code_inj e)

/-! ### Registers after one update -/

@[simp] theorem regOf_setReg_same (s : State) (k : RKey) (v : W64) : regOf (setReg s k v) k = v &&& regMask k := by
  simp [regOf, setReg]

theorem regOf_setReg_ne (s : State) (k k' : RKey) (v : W64) (h : k' ≠ k) : regOf (setReg s k v) k' = regOf s k' := by
  simp [regOf, setReg, smGet_smSet_ne _ _ _ _ _ _ (RKey.code_ne h)]

theorem regOf_setReg (s : State) (k k' : RKey) (v : W64) :
    regOf (setReg s k v) k' = if k' = k then v &&& regMask k else regOf s k' := by
  by_cases h : k' = k
  · subst h; simp
  · simp [h, regOf_setReg_ne]

/-- The register that an update writes: a value, as a function of what it held. -/
def Eff.target : Eff → Option RKey
  | .reg k _ => some k
  | .fld k _ _ => some k
  | .cnt k _ _ => some k
  | _ => none

/-- An update that touches the registers other than one at a time. -/
def Eff.sweeps : Eff → Bool
  | .regsClr _ => true
  | .fresh _ _ => true
  | .relabel _ => true
  | _ => false

/-- An update of another register, or of none, leaves a register as it was. -/
theorem regOf_applyEff_other (s : State) (e : Eff) (k : RKey) (h : e.target ≠ some k) (hs : e.sweeps = false) :
    regOf (applyEff s e) k = regOf s k := by
  cases e with
  | reg k' v => exact regOf_setReg_ne s k' k v (fun x => h (by simp [Eff.target, x]))
  | fld k' f x => exact regOf_setReg_ne s k' k _ (fun x => h (by simp [Eff.target, x]))
  | cnt k' f n => exact regOf_setReg_ne s k' k _ (fun x => h (by simp [Eff.target, x]))
  | regsClr cs => simp [Eff.sweeps] at hs
  | fresh ids vault => simp [Eff.sweeps] at hs
  | relabel ps => simp [Eff.sweeps] at hs
  | _ => simp [regOf]

@[simp] theorem regOf_reg_same (s : State) (k : RKey) (v : W64) : regOf (applyEff s (.reg k v)) k = v &&& regMask k :=
  regOf_setReg_same s k v

/-- A field of a register after an update puts it. -/
theorem fld_fld_same (s : State) (k : RKey) (f : Fld) (x : Nat) (h : f.lo + f.len ≤ 64) (hm : fmask f &&& ~~~(regMask k) = 0) :
    fld (applyEff s (.fld k f x)) k f = x % 2 ^ f.len := by
  simp only [fld, applyEff, regOf_setReg_same]
  rw [fget_and_mask _ _ _ hm, fget_fset_same _ _ _ h]

/-- A field of a register after an update puts another field of it. -/
theorem fld_fld_other (s : State) (k : RKey) (f g : Fld) (x : Nat) (h : f.lo + f.len ≤ 64)
    (hd : f.lo + f.len ≤ g.lo ∨ g.lo + g.len ≤ f.lo) (hm : fmask f &&& ~~~(regMask k) = 0) :
    fld (applyEff s (.fld k g x)) k f = fld s k f := by
  simp only [fld, applyEff, regOf_setReg_same]
  rw [fget_and_mask _ _ _ hm, fget_fset_of_disjoint _ _ _ _ h hd]

/-- R11: a counter after it is raised. -/
theorem fld_cnt_same (s : State) (k : RKey) (f : Fld) (n : Nat) (h : f.lo + f.len ≤ 64) (hm : fmask f &&& ~~~(regMask k) = 0) :
    fld (applyEff s (.cnt k f n)) k f = min (fld s k f + n) (2 ^ f.len - 1) := by
  simp only [fld, applyEff, regOf_setReg_same, satAdd, fmax]
  rw [fget_and_mask _ _ _ hm, fget_fset_same _ _ _ h]
  have := Nat.two_pow_pos f.len
  exact Nat.mod_eq_of_lt (by omega)

/-- An update of another register, or of none, leaves a field as it was. -/
theorem fld_applyEff_other (s : State) (e : Eff) (k : RKey) (f : Fld) (h : e.target ≠ some k) (hs : e.sweeps = false) :
    fld (applyEff s e) k f = fld s k f := by
  rw [fld, regOf_applyEff_other s e k h hs, fld]

/-- Updates of other registers leave a register as it was. -/
theorem regOf_applyAll_other (s : State) (es : List Eff) (k : RKey)
    (h : ∀ e ∈ es, e.target ≠ some k ∧ e.sweeps = false) : regOf (applyAll s es) k = regOf s k := by
  induction es generalizing s with
  | nil => rfl
  | cons e es ih =>
    rw [applyAll_cons, ih _ (fun e' he => h e' (List.mem_cons_of_mem _ he))]
    exact regOf_applyEff_other s e k (h e (by simp)).1 (h e (by simp)).2

end Sys2Proof.Machine
end

