-- ==== Sys2Proof/Laws/Canon.lean ====
section
/-!
SUPPORT. Sys2Proof/Laws/Canon.lean: every update keeps the two memories, the flash, every sparse map and the register store in
canonical form.
-/
namespace Sys2Proof.Machine

theorem canon_cm (s : State) (e : Eff) (h : smWf (fun _ => 0) s.cm = true) :
    smWf (fun _ => 0) (applyEff s e).cm = true := by
  rw [applyEff_cm]
  split
  · exact smWf_smRun _ _ _ _ h
  · exact smWf_smClrRange _ _ _ _ h
  · rfl
  · exact smWf_smMove _ _ _ _
  · exact h

theorem canon_vlt (s : State) (e : Eff) (h : smWf (fun _ => 0) s.vlt = true) :
    smWf (fun _ => 0) (applyEff s e).vlt = true := by
  rw [applyEff_vlt]
  split
  · exact smWf_smRun _ _ _ _ h
  · exact smWf_smClrRange _ _ _ _ h
  · split
    · exact h
    · rfl
  · exact smWf_smMove _ _ _ _
  · exact h

theorem canon_cmPsn (s : State) (e : Eff) (h : smWf (fun _ => false) s.cmPsn = true) :
    smWf (fun _ => false) (applyEff s e).cmPsn = true := by
  rw [applyEff_cmPsn]
  split
  · exact smWf_smSet _ _ _ _ h
  · exact smWf_smClr _ _ _ h
  · rfl
  · exact smWf_smMove _ _ _ _
  · exact h

theorem canon_vltLn (s : State) (e : Eff) (h : smWf (fun _ => ⟨false, false⟩) s.vltLn = true) :
    smWf (fun _ => ⟨false, false⟩) (applyEff s e).vltLn = true := by
  rw [applyEff_vltLn]
  split
  · exact smWf_smSet _ _ _ _ h
  · exact smWf_smClr _ _ _ h
  · split
    · exact h
    · rfl
  · exact smWf_smMove _ _ _ _
  · exact h

theorem canon_cores (s : State) (e : Eff) (h : smWf (fun _ => CoreSt.init) s.cores = true) :
    smWf (fun _ => CoreSt.init) (applyEff s e).cores = true := by
  rw [applyEff_cores]
  split
  · exact smWf_smSet _ _ _ _ h
  · exact smWf_smClr _ _ _ h
  · rfl
  · exact smWf_smMove _ _ _ _
  · exact h

theorem canon_queues (s : State) (e : Eff) (h : smWf (fun _ => QueueSt.init) s.queues = true) :
    smWf (fun _ => QueueSt.init) (applyEff s e).queues = true := by
  rw [applyEff_queues]
  split
  · exact smWf_smSet _ _ _ _ h
  · exact smWf_smClr _ _ _ h
  · rfl
  · exact smWf_smMove _ _ _ _
  · exact h

theorem canon_tags (s : State) (e : Eff) (h : smWf (fun _ => TagSt.free) s.tags = true) :
    smWf (fun _ => TagSt.free) (applyEff s e).tags = true := by
  rw [applyEff_tags]
  split
  · exact smWf_smSet _ _ _ _ h
  · exact smWf_smClr _ _ _ h
  · rfl
  · exact smWf_smMove _ _ _ _
  · exact h

theorem canon_niuq (s : State) (e : Eff) (h : smWf (fun _ => []) s.niuq = true) :
    smWf (fun _ => []) (applyEff s e).niuq = true := by
  rw [applyEff_niuq]
  split
  · exact smWf_smSet _ _ _ _ h
  · exact smWf_smClr _ _ _ h
  · rfl
  · exact smWf_smMove _ _ _ _
  · exact h

theorem canon_niuRr (s : State) (e : Eff) (h : smWf (fun _ => 0) s.niuRr = true) :
    smWf (fun _ => 0) (applyEff s e).niuRr = true := by
  rw [applyEff_niuRr]
  split
  · exact smWf_smSet _ _ _ _ h
  · exact smWf_smClr _ _ _ h
  · rfl
  · exact smWf_smMove _ _ _ _
  · exact h

theorem canon_cnq (s : State) (e : Eff) (h : smWf (fun _ => []) s.cnq = true) :
    smWf (fun _ => []) (applyEff s e).cnq = true := by
  rw [applyEff_cnq]
  split
  · exact smWf_smSet _ _ _ _ h
  · exact smWf_smClr _ _ _ h
  · rfl
  · exact smWf_smMove _ _ _ _
  · exact h

theorem canon_arb (s : State) (e : Eff) (h : smWf (fun _ => ArbSt.init) s.arb = true) :
    smWf (fun _ => ArbSt.init) (applyEff s e).arb = true := by
  rw [applyEff_arb]
  split
  · exact smWf_smSet _ _ _ _ h
  · exact smWf_smClr _ _ _ h
  · rfl
  · exact smWf_smMove _ _ _ _
  · exact h

theorem canon_tok (s : State) (e : Eff) (h : smWf (fun _ => 0) s.tok = true) :
    smWf (fun _ => 0) (applyEff s e).tok = true := by
  rw [applyEff_tok]
  split
  · exact smWf_smSet _ _ _ _ h
  · exact smWf_smClr _ _ _ h
  · rfl
  · exact smWf_smMove _ _ _ _
  · exact h

theorem canon_wtok (s : State) (e : Eff) (h : smWf (fun _ => 0) s.wtok = true) :
    smWf (fun _ => 0) (applyEff s e).wtok = true := by
  rw [applyEff_wtok]
  split
  · exact smWf_smSet _ _ _ _ h
  · exact smWf_smClr _ _ _ h
  · rfl
  · exact h

theorem canon_mxeHeld (s : State) (e : Eff) (h : smWf (fun _ => []) s.mxeHeld = true) :
    smWf (fun _ => []) (applyEff s e).mxeHeld = true := by
  rw [applyEff_mxeHeld]
  split
  · exact smWf_smSet _ _ _ _ h
  · exact smWf_smClr _ _ _ h
  · rfl
  · exact smWf_smMove _ _ _ _
  · exact h

theorem canon_mxe (s : State) (e : Eff) (h : smWf (fun _ => none) s.mxe = true) :
    smWf (fun _ => none) (applyEff s e).mxe = true := by
  rw [applyEff_mxe]
  split
  · exact smWf_smSet _ _ _ _ h
  · exact smWf_smClr _ _ _ h
  · rfl
  · exact smWf_smMove _ _ _ _
  · exact h

theorem canon_cdxTbl (s : State) (e : Eff) (h : smWf (fun _ => []) s.cdxTbl = true) :
    smWf (fun _ => []) (applyEff s e).cdxTbl = true := by
  rw [applyEff_cdxTbl]
  split
  · exact smWf_smSet _ _ _ _ h
  · exact smWf_smClr _ _ _ h
  · rfl
  · exact smWf_smMove _ _ _ _
  · exact h

theorem canon_cdxReq (s : State) (e : Eff) (h : smWf (fun _ => []) s.cdxReq = true) :
    smWf (fun _ => []) (applyEff s e).cdxReq = true := by
  rw [applyEff_cdxReq]
  split
  · exact smWf_smSet _ _ _ _ h
  · exact smWf_smClr _ _ _ h
  · rfl
  · exact smWf_smMove _ _ _ _
  · exact h

theorem canon_cdxMark (s : State) (e : Eff) (h : smWf (fun _ => []) s.cdxMark = true) :
    smWf (fun _ => []) (applyEff s e).cdxMark = true := by
  rw [applyEff_cdxMark]
  split
  · exact smWf_smSet _ _ _ _ h
  · exact smWf_smClr _ _ _ h
  · rfl
  · exact smWf_smMove _ _ _ _
  · exact h

theorem canon_cdxLast (s : State) (e : Eff) (h : smWf (fun _ => 0) s.cdxLast = true) :
    smWf (fun _ => 0) (applyEff s e).cdxLast = true := by
  rw [applyEff_cdxLast]
  split
  · exact smWf_smSet _ _ _ _ h
  · exact smWf_smClr _ _ _ h
  · rfl
  · exact smWf_smMove _ _ _ _
  · exact h

theorem canon_aqDisc (s : State) (e : Eff) (h : smWf (fun _ => 0) s.aqDisc = true) :
    smWf (fun _ => 0) (applyEff s e).aqDisc = true := by
  rw [applyEff_aqDisc]
  split
  · exact smWf_smSet _ _ _ _ h
  · exact smWf_smClr _ _ _ h
  · rfl
  · exact smWf_smMove _ _ _ _
  · exact h

theorem canon_amqNaks (s : State) (e : Eff) (h : smWf (fun _ => 0) s.amqNaks = true) :
    smWf (fun _ => 0) (applyEff s e).amqNaks = true := by
  rw [applyEff_amqNaks]
  split
  · exact smWf_smSet _ _ _ _ h
  · exact smWf_smClr _ _ _ h
  · rfl
  · exact smWf_smMove _ _ _ _
  · exact h

theorem canon_amqTc (s : State) (e : Eff) (h : smWf (fun _ => 0) s.amqTc = true) :
    smWf (fun _ => 0) (applyEff s e).amqTc = true := by
  rw [applyEff_amqTc]
  split
  · exact smWf_smSet _ _ _ _ h
  · exact smWf_smClr _ _ _ h
  · rfl
  · exact smWf_smMove _ _ _ _
  · exact h

theorem canon_amqNext (s : State) (e : Eff) (h : smWf (fun _ => 0) s.amqNext = true) :
    smWf (fun _ => 0) (applyEff s e).amqNext = true := by
  rw [applyEff_amqNext]
  split
  · exact smWf_smSet _ _ _ _ h
  · exact smWf_smClr _ _ _ h
  · rfl
  · exact smWf_smMove _ _ _ _
  · exact h

theorem canon_amqGo (s : State) (e : Eff) (h : smWf (fun _ => none) s.amqGo = true) :
    smWf (fun _ => none) (applyEff s e).amqGo = true := by
  rw [applyEff_amqGo]
  split
  · exact smWf_smSet _ _ _ _ h
  · exact smWf_smClr _ _ _ h
  · rfl
  · exact smWf_smMove _ _ _ _
  · exact h

theorem canon_redSlot (s : State) (e : Eff) (h : smWf (fun _ => []) s.redSlot = true) :
    smWf (fun _ => []) (applyEff s e).redSlot = true := by
  rw [applyEff_redSlot]
  split
  · exact smWf_smSet _ _ _ _ h
  · exact smWf_smClr _ _ _ h
  · rfl
  · exact smWf_smMove _ _ _ _
  · exact h

theorem canon_redSeg (s : State) (e : Eff) (h : smWf (fun _ => ⟨0, false, false⟩) s.redSeg = true) :
    smWf (fun _ => ⟨0, false, false⟩) (applyEff s e).redSeg = true := by
  rw [applyEff_redSeg]
  split
  · exact smWf_smSet _ _ _ _ h
  · exact smWf_smClr _ _ _ h
  · rfl
  · exact smWf_smMove _ _ _ _
  · exact h

theorem canon_srcBuf (s : State) (e : Eff) (h : smWf (fun _ => []) s.srcBuf = true) :
    smWf (fun _ => []) (applyEff s e).srcBuf = true := by
  rw [applyEff_srcBuf]
  split
  · exact smWf_smSet _ _ _ _ h
  · exact smWf_smClr _ _ _ h
  · rfl
  · exact smWf_smMove _ _ _ _
  · exact h

theorem canon_bcnTap (s : State) (e : Eff) (h : smWf (fun _ => none) s.bcnTap = true) :
    smWf (fun _ => none) (applyEff s e).bcnTap = true := by
  rw [applyEff_bcnTap]
  split
  · exact smWf_smSet _ _ _ _ h
  · exact smWf_smClr _ _ _ h
  · rfl
  · exact smWf_smMove _ _ _ _
  · exact h

theorem canon_tprIn (s : State) (e : Eff) (h : smWf (fun _ => []) s.tprIn = true) :
    smWf (fun _ => []) (applyEff s e).tprIn = true := by
  rw [applyEff_tprIn]
  split
  · exact smWf_smSet _ _ _ _ h
  · exact smWf_smClr _ _ _ h
  · rfl
  · exact smWf_smMove _ _ _ _
  · exact h

theorem canon_tprPc (s : State) (e : Eff) (h : smWf (fun _ => 0) s.tprPc = true) :
    smWf (fun _ => 0) (applyEff s e).tprPc = true := by
  rw [applyEff_tprPc]
  split
  · exact smWf_smSet _ _ _ _ h
  · exact smWf_smClr _ _ _ h
  · rfl
  · exact smWf_smMove _ _ _ _
  · exact h

theorem canon_tprBrk (s : State) (e : Eff) (h : smWf (fun _ => false) s.tprBrk = true) :
    smWf (fun _ => false) (applyEff s e).tprBrk = true := by
  rw [applyEff_tprBrk]
  split
  · exact smWf_smSet _ _ _ _ h
  · exact smWf_smClr _ _ _ h
  · rfl
  · exact smWf_smMove _ _ _ _
  · exact h

theorem canon_wick (s : State) (e : Eff) (h : smWf (fun _ => ⟨0, false⟩) s.wick = true) :
    smWf (fun _ => ⟨0, false⟩) (applyEff s e).wick = true := by
  rw [applyEff_wick]
  split
  · exact smWf_smSet _ _ _ _ h
  · exact smWf_smClr _ _ _ h
  · rfl
  · exact h

theorem canon_wickFq (s : State) (e : Eff) (h : smWf (fun _ => []) s.wickFq = true) :
    smWf (fun _ => []) (applyEff s e).wickFq = true := by
  rw [applyEff_wickFq]
  split
  · exact smWf_smSet _ _ _ _ h
  · exact smWf_smClr _ _ _ h
  · rfl
  · exact smWf_smMove _ _ _ _
  · exact h

theorem canon_wickTx (s : State) (e : Eff) (h : smWf (fun _ => []) s.wickTx = true) :
    smWf (fun _ => []) (applyEff s e).wickTx = true := by
  rw [applyEff_wickTx]
  split
  · exact smWf_smSet _ _ _ _ h
  · exact smWf_smClr _ _ _ h
  · rfl
  · exact h

theorem canon_wlp (s : State) (e : Eff) (h : smWf (fun _ => WlpSt.init) s.wlp = true) :
    smWf (fun _ => WlpSt.init) (applyEff s e).wlp = true := by
  rw [applyEff_wlp]
  split
  · exact smWf_smSet _ _ _ _ h
  · exact smWf_smClr _ _ _ h
  · rfl
  · exact h

theorem canon_wlpEq (s : State) (e : Eff) (h : smWf (fun _ => []) s.wlpEq = true) :
    smWf (fun _ => []) (applyEff s e).wlpEq = true := by
  rw [applyEff_wlpEq]
  split
  · exact smWf_smSet _ _ _ _ h
  · exact smWf_smClr _ _ _ h
  · rfl
  · exact h

theorem canon_wlpPool (s : State) (e : Eff) (h : smWf (fun _ => []) s.wlpPool = true) :
    smWf (fun _ => []) (applyEff s e).wlpPool = true := by
  rw [applyEff_wlpPool]
  split
  · exact smWf_smSet _ _ _ _ h
  · exact smWf_smClr _ _ _ h
  · rfl
  · exact h

theorem canon_colGrp (s : State) (e : Eff) (h : smWf (fun _ => ColGrp.init) s.colGrp = true) :
    smWf (fun _ => ColGrp.init) (applyEff s e).colGrp = true := by
  rw [applyEff_colGrp]
  split
  · exact smWf_smSet _ _ _ _ h
  · exact smWf_smClr _ _ _ h
  · rfl
  · exact smWf_smMove _ _ _ _
  · exact h

theorem canon_msixTbl (s : State) (e : Eff) (h : smWf (fun _ => 0) s.msixTbl = true) :
    smWf (fun _ => 0) (applyEff s e).msixTbl = true := by
  rw [applyEff_msixTbl]
  split
  · exact smWf_smSet _ _ _ _ h
  · exact smWf_smClr _ _ _ h
  · rfl
  · exact h

theorem canon_flash (s : State) (e : Eff) (h : smWf (fun _ => 0xFF) s.flash = true) :
    smWf (fun _ => 0xFF) (applyEff s e).flash = true := by
  rw [applyEff_flash]
  split
  · exact smWf_smRun _ _ _ _ h
  · exact smWf_smClrRange _ _ _ _ h
  · exact h

theorem canon_tempFail (s : State) (e : Eff) (h : smWf (fun _ => 0) s.tempFail = true) :
    smWf (fun _ => 0) (applyEff s e).tempFail = true := by
  rw [applyEff_tempFail]
  split
  · exact smWf_smSet _ _ _ _ h
  · exact smWf_smClr _ _ _ h
  · rfl
  · exact h

theorem canon_vTgt (s : State) (e : Eff) (h : smWf (fun _ => 0) s.vTgt = true) :
    smWf (fun _ => 0) (applyEff s e).vTgt = true := by
  rw [applyEff_vTgt]
  split
  · exact smWf_smSet _ _ _ _ h
  · exact smWf_smClr _ _ _ h
  · rfl
  · exact h

theorem canon_stretchOn (s : State) (e : Eff) (h : smWf (fun _ => false) s.stretchOn = true) :
    smWf (fun _ => false) (applyEff s e).stretchOn = true := by
  rw [applyEff_stretchOn]
  split
  · exact smWf_smSet _ _ _ _ h
  · exact smWf_smClr _ _ _ h
  · rfl
  · exact h

theorem canon_slotSt (s : State) (e : Eff) (h : smWf (fun _ => 0) s.slotSt = true) :
    smWf (fun _ => 0) (applyEff s e).slotSt = true := by
  rw [applyEff_slotSt]
  split
  · exact smWf_smSet _ _ _ _ h
  · exact smWf_smClr _ _ _ h
  · exact h

theorem canon_fuse (s : State) (e : Eff) (h : smWf (fun _ => 0) s.fuse = true) :
    smWf (fun _ => 0) (applyEff s e).fuse = true := by
  rw [applyEff_fuse]
  split
  · exact smWf_smSet _ _ _ _ h
  · exact smWf_smClr _ _ _ h
  · exact h

theorem canon_obj (s : State) (e : Eff) (h : smWf (fun _ => none) s.obj = true) :
    smWf (fun _ => none) (applyEff s e).obj = true := by
  rw [applyEff_obj]
  split
  · exact smWf_smSet _ _ _ _ h
  · exact smWf_smClr _ _ _ h
  · exact h

theorem canon_authFail (s : State) (e : Eff) (h : smWf (fun _ => 0) s.authFail = true) :
    smWf (fun _ => 0) (applyEff s e).authFail = true := by
  rw [applyEff_authFail]
  split
  · exact smWf_smSet _ _ _ _ h
  · exact smWf_smClr _ _ _ h
  · rfl
  · exact h

theorem canon_lockout (s : State) (e : Eff) (h : smWf (fun _ => none) s.lockout = true) :
    smWf (fun _ => none) (applyEff s e).lockout = true := by
  rw [applyEff_lockout]
  split
  · exact smWf_smSet _ _ _ _ h
  · exact smWf_smClr _ _ _ h
  · rfl
  · exact h

theorem canon_tileLeave (s : State) (e : Eff) (h : smWf (fun _ => false) s.tileLeave = true) :
    smWf (fun _ => false) (applyEff s e).tileLeave = true := by
  rw [applyEff_tileLeave]
  split
  · exact smWf_smSet _ _ _ _ h
  · exact smWf_smClr _ _ _ h
  · rfl
  · exact smWf_smMove _ _ _ _
  · exact h

/-- Every update keeps the memories in canonical form. -/
theorem applyEff_memWf (s : State) (e : Eff) (h : s.memWf = true) : (applyEff s e).memWf = true := by
  simp only [State.memWf, Bool.and_eq_true] at *
  exact ⟨⟨canon_cm s e h.1.1, canon_vlt s e h.1.2⟩, canon_flash s e h.2⟩

/-- Every update keeps the other sparse maps in canonical form. -/
theorem applyEff_mapsWf (s : State) (e : Eff) (h : s.mapsWf = true) : (applyEff s e).mapsWf = true := by
  simp only [State.mapsWf, Bool.and_eq_true] at *
  refine ⟨⟨⟨⟨⟨⟨⟨⟨⟨⟨⟨⟨⟨⟨⟨⟨⟨⟨⟨⟨⟨⟨⟨⟨⟨⟨⟨⟨⟨⟨⟨⟨⟨⟨⟨⟨⟨⟨⟨⟨⟨⟨⟨⟨⟨?_, ?_⟩, ?_⟩, ?_⟩, ?_⟩, ?_⟩, ?_⟩, ?_⟩, ?_⟩, ?_⟩, ?_⟩, ?_⟩, ?_⟩, ?_⟩, ?_⟩, ?_⟩, ?_⟩, ?_⟩, ?_⟩, ?_⟩, ?_⟩, ?_⟩, ?_⟩, ?_⟩, ?_⟩, ?_⟩, ?_⟩, ?_⟩, ?_⟩, ?_⟩, ?_⟩, ?_⟩, ?_⟩, ?_⟩, ?_⟩, ?_⟩, ?_⟩, ?_⟩, ?_⟩, ?_⟩, ?_⟩, ?_⟩, ?_⟩, ?_⟩, ?_⟩, ?_⟩
  · exact canon_cmPsn s e h.1.1.1.1.1.1.1.1.1.1.1.1.1.1.1.1.1.1.1.1.1.1.1.1.1.1.1.1.1.1.1.1.1.1.1.1.1.1.1.1.1.1.1.1.1
  · exact canon_vltLn s e h.1.1.1.1.1.1.1.1.1.1.1.1.1.1.1.1.1.1.1.1.1.1.1.1.1.1.1.1.1.1.1.1.1.1.1.1.1.1.1.1.1.1.1.1.2
  · exact canon_cores s e h.1.1.1.1.1.1.1.1.1.1.1.1.1.1.1.1.1.1.1.1.1.1.1.1.1.1.1.1.1.1.1.1.1.1.1.1.1.1.1.1.1.1.1.2
  · exact canon_queues s e h.1.1.1.1.1.1.1.1.1.1.1.1.1.1.1.1.1.1.1.1.1.1.1.1.1.1.1.1.1.1.1.1.1.1.1.1.1.1.1.1.1.1.2
  · exact canon_tags s e h.1.1.1.1.1.1.1.1.1.1.1.1.1.1.1.1.1.1.1.1.1.1.1.1.1.1.1.1.1.1.1.1.1.1.1.1.1.1.1.1.1.2
  · exact canon_niuq s e h.1.1.1.1.1.1.1.1.1.1.1.1.1.1.1.1.1.1.1.1.1.1.1.1.1.1.1.1.1.1.1.1.1.1.1.1.1.1.1.1.2
  · exact canon_niuRr s e h.1.1.1.1.1.1.1.1.1.1.1.1.1.1.1.1.1.1.1.1.1.1.1.1.1.1.1.1.1.1.1.1.1.1.1.1.1.1.1.2
  · exact canon_cnq s e h.1.1.1.1.1.1.1.1.1.1.1.1.1.1.1.1.1.1.1.1.1.1.1.1.1.1.1.1.1.1.1.1.1.1.1.1.1.1.2
  · exact canon_arb s e h.1.1.1.1.1.1.1.1.1.1.1.1.1.1.1.1.1.1.1.1.1.1.1.1.1.1.1.1.1.1.1.1.1.1.1.1.1.2
  · exact canon_tok s e h.1.1.1.1.1.1.1.1.1.1.1.1.1.1.1.1.1.1.1.1.1.1.1.1.1.1.1.1.1.1.1.1.1.1.1.1.2
  · exact canon_wtok s e h.1.1.1.1.1.1.1.1.1.1.1.1.1.1.1.1.1.1.1.1.1.1.1.1.1.1.1.1.1.1.1.1.1.1.1.2
  · exact canon_mxeHeld s e h.1.1.1.1.1.1.1.1.1.1.1.1.1.1.1.1.1.1.1.1.1.1.1.1.1.1.1.1.1.1.1.1.1.1.2
  · exact canon_mxe s e h.1.1.1.1.1.1.1.1.1.1.1.1.1.1.1.1.1.1.1.1.1.1.1.1.1.1.1.1.1.1.1.1.1.2
  · exact canon_cdxTbl s e h.1.1.1.1.1.1.1.1.1.1.1.1.1.1.1.1.1.1.1.1.1.1.1.1.1.1.1.1.1.1.1.1.2
  · exact canon_cdxReq s e h.1.1.1.1.1.1.1.1.1.1.1.1.1.1.1.1.1.1.1.1.1.1.1.1.1.1.1.1.1.1.1.2
  · exact canon_cdxMark s e h.1.1.1.1.1.1.1.1.1.1.1.1.1.1.1.1.1.1.1.1.1.1.1.1.1.1.1.1.1.1.2
  · exact canon_cdxLast s e h.1.1.1.1.1.1.1.1.1.1.1.1.1.1.1.1.1.1.1.1.1.1.1.1.1.1.1.1.1.2
  · exact canon_aqDisc s e h.1.1.1.1.1.1.1.1.1.1.1.1.1.1.1.1.1.1.1.1.1.1.1.1.1.1.1.1.2
  · exact canon_amqNaks s e h.1.1.1.1.1.1.1.1.1.1.1.1.1.1.1.1.1.1.1.1.1.1.1.1.1.1.1.2
  · exact canon_amqTc s e h.1.1.1.1.1.1.1.1.1.1.1.1.1.1.1.1.1.1.1.1.1.1.1.1.1.1.2
  · exact canon_amqNext s e h.1.1.1.1.1.1.1.1.1.1.1.1.1.1.1.1.1.1.1.1.1.1.1.1.1.2
  · exact canon_amqGo s e h.1.1.1.1.1.1.1.1.1.1.1.1.1.1.1.1.1.1.1.1.1.1.1.1.2
  · exact canon_redSlot s e h.1.1.1.1.1.1.1.1.1.1.1.1.1.1.1.1.1.1.1.1.1.1.1.2
  · exact canon_redSeg s e h.1.1.1.1.1.1.1.1.1.1.1.1.1.1.1.1.1.1.1.1.1.1.2
  · exact canon_srcBuf s e h.1.1.1.1.1.1.1.1.1.1.1.1.1.1.1.1.1.1.1.1.1.2
  · exact canon_bcnTap s e h.1.1.1.1.1.1.1.1.1.1.1.1.1.1.1.1.1.1.1.1.2
  · exact canon_tprIn s e h.1.1.1.1.1.1.1.1.1.1.1.1.1.1.1.1.1.1.1.2
  · exact canon_tprPc s e h.1.1.1.1.1.1.1.1.1.1.1.1.1.1.1.1.1.1.2
  · exact canon_tprBrk s e h.1.1.1.1.1.1.1.1.1.1.1.1.1.1.1.1.1.2
  · exact canon_wick s e h.1.1.1.1.1.1.1.1.1.1.1.1.1.1.1.1.2
  · exact canon_wickFq s e h.1.1.1.1.1.1.1.1.1.1.1.1.1.1.1.2
  · exact canon_wickTx s e h.1.1.1.1.1.1.1.1.1.1.1.1.1.1.2
  · exact canon_wlp s e h.1.1.1.1.1.1.1.1.1.1.1.1.1.2
  · exact canon_wlpEq s e h.1.1.1.1.1.1.1.1.1.1.1.1.2
  · exact canon_wlpPool s e h.1.1.1.1.1.1.1.1.1.1.1.2
  · exact canon_colGrp s e h.1.1.1.1.1.1.1.1.1.1.2
  · exact canon_msixTbl s e h.1.1.1.1.1.1.1.1.1.2
  · exact canon_tempFail s e h.1.1.1.1.1.1.1.1.2
  · exact canon_vTgt s e h.1.1.1.1.1.1.1.2
  · exact canon_stretchOn s e h.1.1.1.1.1.1.2
  · exact canon_slotSt s e h.1.1.1.1.1.2
  · exact canon_fuse s e h.1.1.1.1.2
  · exact canon_obj s e h.1.1.1.2
  · exact canon_authFail s e h.1.1.2
  · exact canon_lockout s e h.1.2
  · exact canon_tileLeave s e h.2

/-! ### The register store -/

theorem code_block (k : RKey) : k.code / 2 ^ 26 = (match k with | .dev _ _ => 0 | .tile t _ _ => t.val + 1) := by
  cases k with
  | dev r i => have := i.isLt; have := dreg_ctorIdx_lt r; simp only [RKey.code]; omega
  | tile t r i => have := i.isLt; have := treg_ctorIdx_lt r; simp only [RKey.code]; omega

theorem code_place (k : RKey) : k.code % 2 ^ 26 = (match k with | .dev r i => r.ctorIdx * 65536 + i.val | .tile _ r i => r.ctorIdx * 65536 + i.val) := by
  cases k with
  | dev r i => have := i.isLt; have := dreg_ctorIdx_lt r; simp only [RKey.code]; omega
  | tile t r i => have := i.isLt; have := treg_ctorIdx_lt r; simp only [RKey.code]; omega

/-- The same register of two tiles has the same fields and the same reset value. -/
theorem sameReg_code (a b : RKey) (h : sameReg a.code b.code) : regMask a = regMask b ∧ regReset a = regReset b := by
  obtain ⟨h1, h2⟩ := h
  rw [code_place, code_place] at h1
  rw [code_block, code_block] at h2
  cases a with
  | dev r i =>
    cases b with
    | dev r' i' =>
      have := i.isLt; have := i'.isLt
      have hr : r = r' := dreg_ctorIdx_inj (by simp only at h1; omega)
      have hi : i = i' := Fin.ext (by simp only at h1; omega)
      subst hr; subst hi; exact ⟨rfl, rfl⟩
    | tile t' r' i' => simp at h2
  | tile t r i =>
    cases b with
    | dev r' i' => simp at h2
    | tile t' r' i' =>
      have := i.isLt; have := i'.isLt
      have hr : r = r' := treg_ctorIdx_inj (by simp only at h1; omega)
      have hi : i = i' := Fin.ext (by simp only at h1; omega)
      subst hr; subst hi
      refine ⟨?_, ?_⟩
      · cases r <;> rfl
      · cases r <;> rfl

theorem setReg_regsWf (s : State) (k : RKey) (v : W64) (h : s.regsWf) : (setReg s k v).regsWf := by
  refine ⟨smSorted_smSet _ _ _ _ h.1, ?_⟩
  intro e he
  rcases mem_smSet _ _ _ _ _ he with he | ⟨rfl, hv⟩
  · exact h.2 e he
  · intro k' hs
    obtain ⟨hm, hr⟩ := sameReg_code k k' hs
    rw [← hm, ← hr]
    refine ⟨hv, ?_⟩
    simp only [BitVec.and_assoc]
    simp

theorem relabelRegs_ok (ps : List (Nat × Nat)) (m acc : List (Nat × W64)) (ha : smSorted acc = true ∧ ∀ e ∈ acc, regEntryOk e)
    (hm : ∀ e ∈ m, regEntryOk e) :
    smSorted (m.foldl (fun acc e => smIns acc (if e.1 / 2 ^ 26 = 0 then e.1 else (moved ps (e.1 / 2 ^ 26 - 1) + 1) * 2 ^ 26 + e.1 % 2 ^ 26) e.2) acc) = true
    ∧ ∀ e ∈ m.foldl (fun acc e => smIns acc (if e.1 / 2 ^ 26 = 0 then e.1 else (moved ps (e.1 / 2 ^ 26 - 1) + 1) * 2 ^ 26 + e.1 % 2 ^ 26) e.2) acc,
      regEntryOk e := by
  induction m generalizing acc with
  | nil => exact ha
  | cons e m ih =>
    refine ih _ ⟨smSorted_smIns _ _ _ ha.1, ?_⟩ (fun e' he => hm e' (List.mem_cons_of_mem _ he))
    intro e' he
    rcases mem_smIns _ _ _ _ he with he | rfl
    · exact ha.2 e' he
    · intro k hs
      apply hm e (by simp) k
      obtain ⟨h1, h2⟩ := hs
      simp only at h1 h2
      by_cases h0 : e.1 / 2 ^ 26 = 0
      · rw [if_pos h0] at h1 h2
        exact ⟨h1, h2⟩
      · simp only [h0, if_false] at h1 h2
        refine ⟨by omega, ?_⟩
        constructor
        · intro hx; exact absurd hx h0
        · intro hx; have := h2.2 hx; omega

/-- Every update keeps the register store in canonical form, and with it every RSVD bit 0 (R8). -/
theorem applyEff_regsWf (s : State) (e : Eff) (h : s.regsWf) : (applyEff s e).regsWf := by
  cases e
  case reg k v => exact setReg_regsWf s k v h
  case fld k f x => exact setReg_regsWf s k _ h
  case cnt k f n => exact setReg_regsWf s k _ h
  case regsClr cs => exact ⟨smSorted_filter _ _ h.1, fun e he => h.2 e (List.mem_filter.1 he).1⟩
  case fresh ids vault => exact ⟨smSorted_filter _ _ h.1, fun e he => h.2 e (List.mem_filter.1 he).1⟩
  case relabel ps => exact relabelRegs_ok ps s.regs [] ⟨rfl, by simp⟩ h.2
  all_goals exact h

/-- Every update keeps a sound state sound. -/
theorem applyEff_Wf (s : State) (e : Eff) (h : s.Wf) : (applyEff s e).Wf :=
  ⟨applyEff_memWf s e h.1, applyEff_mapsWf s e h.2.1, applyEff_regsWf s e h.2.2⟩

end Sys2Proof.Machine
end

