-- ==== Sys2Proof/Laws/Ops.lean ====
section
/-!
SUPPORT. Sys2Proof/Laws/Ops.lean: what a meaning does as a whole: its own updates, then what climbs from them, which touches only
the interrupt sources of tiles, the CN packets that wait in NIUs and the pending MSI-X vectors.
-/
namespace Sys2Proof.Machine

/-- `forceNat` only fixes the order of an evaluation. -/
@[simp] theorem forceNat_eq {α : Type} (n : Nat) (f : Nat → α) : forceNat n f = f n := by cases n <;> rfl

/-! ### Parts of a meaning -/

theorem seqA_nil (s : State) : seqA [] s = [] := rfl

theorem seqA_cons (a : Act) (as : List Act) (s : State) : seqA (a :: as) s = a s ++ seqA as (applyAll s (a s)) := rfl

/-- A property of updates that every part of a sequence keeps to holds of the whole. -/
theorem seqA_all (P : Eff → Prop) (as : List Act) (h : ∀ a ∈ as, ∀ s, ∀ e ∈ a s, P e) : ∀ s, ∀ e ∈ seqA as s, P e := by
  induction as with
  | nil => intro s e he; simp [seqA] at he
  | cons a as ih =>
    intro s e he
    rcases List.mem_append.1 he with he | he
    · exact h a (by simp) s e he
    · exact ih (fun b hb => h b (List.mem_cons_of_mem _ hb)) _ e he

theorem eachA_all {β : Type} (P : Eff → Prop) (l : List β) (f : β → Act) (h : ∀ x ∈ l, ∀ s, ∀ e ∈ f x s, P e) :
    ∀ s, ∀ e ∈ eachA l f s, P e := by
  apply seqA_all
  intro a ha
  obtain ⟨x, hx, rfl⟩ := List.mem_map.1 ha
  exact h x hx

/-- What holds of a state and is kept by every update holds after a list of updates. -/
theorem applyAll_keeps (P : State → Prop) (h : ∀ s e, P s → P (applyEff s e)) (es : List Eff) : ∀ s, P s → P (applyAll s es) := by
  induction es with
  | nil => intro s hs; exact hs
  | cons e es ih => intro s hs; exact ih _ (h s e hs)

/-- What holds of a state and is kept by the updates that occur holds after them. -/
theorem applyAll_keeps_of (P : State → Prop) (es : List Eff) (h : ∀ e ∈ es, ∀ s, P s → P (applyEff s e)) :
    ∀ s, P s → P (applyAll s es) := by
  induction es with
  | nil => intro s hs; exact hs
  | cons e es ih => intro s hs; exact ih (fun e' he => h e' (List.mem_cons_of_mem _ he)) _ (h e (by simp) s hs)

@[simp] theorem applyAll_pending (es : List Eff) (s : State) : (applyAll s es).pending = s.pending :=
  applyAll_keeps (fun t => t.pending = s.pending) (fun t e ht => by simp [ht]) es s rfl

/-! ### The climb -/

/-- The updates that the climb makes (R704, R706). -/
def climbEff : Eff → Prop
  | .reg (.tile _ .TILE_IRQ_PEND _) _ => True
  | .putCnq _ _ => True
  | .setMsixPend _ => True
  | _ => False

theorem hostEvt_climb (n : Nat) (s : State) : ∀ e ∈ hostEvt n s, climbEff e := by
  intro e he
  unfold hostEvt at he
  simp only at he
  split at he
  · simp at he; subst he; trivial
  · simp at he

theorem tileRise_climb (old : State) (t : Nat) (s : State) : ∀ e ∈ tileRise old t s, climbEff e := by
  intro e he
  unfold tileRise at he
  simp only at he
  split at he
  · simp at he
  · refine seqA_all climbEff _ ?_ s e he
    intro a ha s' e' he'
    rcases List.mem_cons.1 ha with rfl | ha
    · simp [irq, tk] at he'; subst he'; trivial
    · obtain ⟨b, _, rfl⟩ := List.mem_map.1 ha
      simp [cnSend] at he'; subst he'; trivial

theorem climb_climb (old : State) (es : List Eff) (s : State) : ∀ e ∈ climb old es s, climbEff e := by
  intro e he
  unfold climb at he
  simp only at he
  refine seqA_all climbEff _ ?_ s e he
  intro a ha s' e' he'
  rcases List.mem_append.1 ha with ha | ha
  · obtain ⟨t, _, rfl⟩ := List.mem_map.1 ha; exact tileRise_climb _ _ _ _ he'
  · obtain ⟨n, _, rfl⟩ := List.mem_map.1 ha; exact hostEvt_climb _ _ _ he'

/-! ### A whole meaning -/

/-- The state after a meaning. -/
def after (a : Act) (s : State) : State := applyAll (applyAll s (a s)) (climb s (a s) (applyAll s (a s)))

/-- Every meaning answers a next state. -/
theorem runA_next (a : Act) (s : State) : runA a s = .next (after a s) := rfl

/-- The queue of waiting commands is no meaning's to change. -/
@[simp] theorem after_pending (a : Act) (s : State) : (after a s).pending = s.pending := by simp [after]

/-- What every update keeps, a meaning keeps. -/
theorem after_keeps (P : State → Prop) (h : ∀ s e, P s → P (applyEff s e)) (a : Act) (s : State) (hs : P s) : P (after a s) :=
  applyAll_keeps P h _ _ (applyAll_keeps P h _ _ hs)

/-- A register other than TILE_IRQ_PEND is after a meaning what its own updates leave. -/
theorem regOf_after (a : Act) (s : State) (k : RKey) (h : ∀ t i, k ≠ .tile t .TILE_IRQ_PEND i) :
    regOf (after a s) k = regOf (applyAll s (a s)) k := by
  apply regOf_applyAll_other
  intro e he
  have hc := climb_climb _ _ _ e he
  cases e with
  | reg k' v =>
    refine ⟨?_, rfl⟩
    intro hk
    simp [Eff.target] at hk
    subst hk
    cases k' with
    | dev r i => simp [climbEff] at hc
    | tile t r i =>
      by_cases hr : r = .TILE_IRQ_PEND
      · exact h t i (by rw [hr])
      · unfold climbEff at hc
        split at hc
        · rename_i heq; simp at heq; exact h t i (by rw [heq.1.2.1])
        · rename_i heq; simp at heq
        · rename_i heq; simp at heq
        · exact hc
  | putCnq k' v => exact ⟨by simp [Eff.target], rfl⟩
  | setMsixPend v => exact ⟨by simp [Eff.target], rfl⟩
  | _ => simp [climbEff] at hc

/-- What neither the climb's registers, nor the waiting CN packets, nor the pending vectors tell about is after a meaning what its own
updates leave. -/
theorem after_eq_of_climb {β : Type} (f : State → β) (h : ∀ s e, climbEff e → f (applyEff s e) = f s) (a : Act) (s : State) :
    f (after a s) = f (applyAll s (a s)) := by
  refine applyAll_keeps_of (fun t => f t = f (applyAll s (a s))) _ ?_ _ rfl
  intro e he t ht
  rw [h t e (climb_climb _ _ _ e he), ht]

/-- Where no update touches a tile's registers or ERR_CORE_BUS, only MSI-X vectors climb. -/
theorem climb_device (old : State) (es : List Eff) (s : State) (h : ∀ e ∈ es, touchedTile e = none) :
    ∀ e ∈ climb old es s, ∃ v, e = .setMsixPend v := by
  have hts : (es.filterMap touchedTile).eraseDups = [] := by
    have : es.filterMap touchedTile = [] := List.filterMap_eq_nil_iff.2 h
    rw [this]; rfl
  intro e he
  unfold climb at he
  simp only [hts, List.map_nil, List.nil_append] at he
  refine seqA_all (fun e => ∃ v, e = .setMsixPend v) _ ?_ s e he
  intro a ha s' e' he'
  obtain ⟨n, _, rfl⟩ := List.mem_map.1 ha
  unfold hostEvt at he'
  simp only at he'
  split at he'
  · simp at he'; exact ⟨_, he'⟩
  · simp at he'

/-- What the pending vectors tell nothing about is, after a meaning that touches no tile's registers, what its own updates leave. -/
theorem after_eq_of_device {β : Type} (f : State → β) (hf : ∀ s v, f (applyEff s (.setMsixPend v)) = f s) (a : Act) (s : State)
    (h : ∀ e ∈ a s, touchedTile e = none) : f (after a s) = f (applyAll s (a s)) := by
  refine applyAll_keeps_of (fun t => f t = f (applyAll s (a s))) _ ?_ _ rfl
  intro e he t ht
  obtain ⟨v, rfl⟩ := climb_device _ _ _ h e he
  rw [hf t v, ht]

/-- A meaning without updates leaves the state as it was. -/
theorem after_of_nil (a : Act) (s : State) (h : a s = []) : after a s = s := by
  simp [after, h, climb, applyAll]
  rfl

end Sys2Proof.Machine
end

