-- ==== Sys2Proof/Laws/Exec.lean ====
section
/-!
SUPPORT. Sys2Proof/Laws/Exec.lean: every command answers a next state, which is a list of updates of the state it starts in.
-/
namespace Sys2Proof.Machine

/-- Every command's meaning is a run of updates. -/
theorem exec_runs (i : Instr) (s : State) : ∃ a, exec i s = runA a s := by
  cases i <;> exact ⟨_, rfl⟩

/-- Every command answers a next state, which leaves the queue of waiting commands as it was. -/
theorem exec_next (i : Instr) (s : State) : ∃ t, exec i s = .next t ∧ t.pending = s.pending := by
  obtain ⟨a, ha⟩ := exec_runs i s
  exact ⟨after a s, by rw [ha, runA_next], after_pending a s⟩

end Sys2Proof.Machine
end

