-- ==== Sys2Proof/WellFormed.lean ====
section
/-!
DEFINITION. Sys2Proof/WellFormed.lean: which commands are well-formed: the lengths that a packet, a frame, a block, a bus transaction
or a request may have by the spec, and lists of findings that name nothing twice. Everything else is bounded by its type.
-/
namespace Sys2Proof

/-- R175, R172: LEN and the payload are at most 4,096 B, and each 64 B data flit of the payload has its POISON bit. -/
def BnPkt.wf (p : BnPkt) : Bool :=
  decide (p.len.toNat ≤ 4096) && decide (p.data.length ≤ 4096) && p.psn.length == (p.data.length + 63) / 64

/-- R311: LEN and the payload are at most 64 B, and DTILE and STILE are 0 beside DHUB and SHUB. -/
def CnPkt.wf (p : CnPkt) : Bool :=
  decide (p.len.toNat ≤ 64) && decide (p.data.length ≤ 64) && (!p.dhub || p.dtile == 0) && (!p.shub || p.stile == 0)

/-- R601: a CAN FD frame carries at most 64 B. -/
def CanFrame.wf (f : CanFrame) : Bool := decide (f.data.length ≤ 64)

/-- R556, R564: the sizes that PCIe allows for MPS and MRRS, and the sizes of BAR2. -/
def PciCfg.wf (c : PciCfg) : Bool :=
  [128, 256, 512, 1024, 2048, 4096].contains c.mps && [128, 256, 512, 1024, 2048, 4096].contains c.mrrs
    && decide (30 ≤ c.bar2) && decide (c.bar2 ≤ 37)

/-- R572: certificate slots are 0 to 7, and an SPDM nonce is 32 B. -/
def DoeReq.wf : DoeReq → Bool
  | .discovery i => decide (i < 256)
  | .getCertificate slot off len => decide (slot < 8) && decide (off < 65536) && decide (len < 65536)
  | .challenge slot nonce => decide (slot < 8) && nonce.length == 32
  | .getMeasurements i _ slot nonce => decide (i < 256) && decide (slot < 8) && nonce.length == 32
  | .getVersion | .getCapabilities | .negotiateAlgorithms | .getDigests | .other => true

/-- A packet that a bitten point was moving is well-formed. -/
def Bitten.wf : Bitten → Bool
  | .bn p _ _ | .bnSent p _ _ => p.wf
  | .cn p _ _ | .cnSent p _ => p.wf
  | .none | .egress _ _ | .ring _ _ | .beacon _ _ => true

/-- A list of findings names no line, segment or item twice. -/
def onceEach {α β : Type} [DecidableEq α] (l : List (α × β)) : Bool := decide ((l.map (·.1)).Nodup)

/-- A PCIe request carries 1 to 4,096 B. -/
def tlpLen (data : List Byte) : Bool := decide (1 ≤ data.length) && decide (data.length ≤ 4096)

/-- Whether a command is well-formed. -/
def Instr.wf : Instr → Bool
  | .pilotPowerOn _ _ => true
  | .vstby33Loss => true
  | .pclkLoss => true
  | .coldReset _ => true
  | .warmReset _ => true
  | .fabricReset => true
  | .tileReset => true
  | .rstCtrlCold => true
  | .rstCtrlWarm => true
  | .rstCtrlFabric => true
  | .rstCtrlTile _ _ => true
  | .ivrGroupStart => true
  | .ivrSoftstartCheck _ _ _ => true
  | .ivrFaultInOperation _ _ => true
  | .ivrRetryStart _ => true
  | .bootFirmwareVerified _ => true
  | .mapForm => true
  | .scrubComplete _ => true
  | .bootVerifyPass _ => true
  | .bootApplyPass _ => true
  | .tileMapApply => true
  | .mapApplyComplete => true
  | .applyCnDiscard _ _ p => p.wf
  | .tileMemCfgWrite _ => true
  | .patrolVisit _ _ => true
  | .coreInstruction _ _ _ => true
  | .coreLoad _ _ _ ecc => onceEach ecc
  | .coreStore _ _ _ ecc => onceEach ecc
  | .coreAmo _ _ _ ecc => onceEach ecc
  | .coreLr _ _ _ ecc => onceEach ecc
  | .coreSc _ _ _ _ ecc => onceEach ecc
  | .coreFence _ _ _ => true
  | .coreFenceI _ _ _ => true
  | .mtimerExpire _ _ => true
  | .tileCoreRunWrite _ _ _ => true
  | .coreStopComplete _ _ => true
  | .commRsvSet _ => true
  | .queuePiWrite _ _ _ _ => true
  | .queueDescWrite _ _ _ _ _ => true
  | .cqCiWrite _ _ _ _ => true
  | .queueAbort _ _ _ => true
  | .descriptorComplete _ _ _ => true
  | .dmvCopy _ _ ecc => onceEach ecc
  | .dmvFill _ _ => true
  | .dmvBeacon _ _ => true
  | .dmvTaper _ _ ecc => onceEach ecc
  | .mxeMatmul _ _ ecc => onceEach ecc
  | .mxePieceReady _ _ _ ecc => onceEach ecc
  | .mxeGateTimeout _ => true
  | .rcxConvert _ ecc => onceEach ecc
  | .vxeOp _ ecc => onceEach ecc
  | .cdxCompress _ _ ecc => onceEach ecc
  | .cdxDecompress _ _ ecc => onceEach ecc
  | .cdxTblBuild _ _ ecc => onceEach ecc
  | .cdxTblLoad _ _ ecc => onceEach ecc
  | .cdxTblEvict _ _ => true
  | .tblSwitch _ _ _ => true
  | .tileSleep _ => true
  | .sleepEntryComplete _ => true
  | .tileWake _ => true
  | .wakeComplete _ => true
  | .dozeEnter _ => true
  | .dozeWake _ => true
  | .bnPacketInject _ _ _ => true
  | .bnRoute _ _ p _ _ => p.wf
  | .bnRdReq _ p ecc => p.wf && onceEach ecc
  | .bnWr _ p ecc => p.wf && onceEach ecc
  | .bnWrCb _ p ecc => p.wf && onceEach ecc
  | .bnAmo _ p ecc => p.wf && onceEach ecc
  | .bnMcWr _ p ecc => p.wf && onceEach ecc
  | .bnMcWrCb _ p ecc => p.wf && onceEach ecc
  | .bnRdRsp _ p ecc => p.wf && onceEach ecc
  | .bnWrAck _ p => p.wf
  | .bnAmoRsp _ p => p.wf
  | .bnMcAck _ p => p.wf
  | .nqPut _ _ ecc => onceEach ecc
  | .nqGet _ _ => true
  | .nqMcast _ _ ecc => onceEach ecc
  | .nqReduce _ _ ecc => onceEach ecc
  | .nqXmcast _ _ ecc => onceEach ecc
  | .bnPlaneCfgWrite _ => true
  | .redArm _ => true
  | .redArmStart _ => true
  | .redRouterArrival _ _ p _ res => p.wf && onceEach res
  | .redJoinWindowClose _ p => p.wf
  | .redOrderedTimeout _ p => p.wf
  | .redNiuArrival _ p ecc res => p.wf && onceEach ecc && onceEach res
  | .redSegmentRound _ _ _ ecc => onceEach ecc
  | .redNakReceive _ p => p.wf
  | .redDoneClr _ => true
  | .beaconGrant _ _ _ ecc => onceEach ecc
  | .beaconStartBeat _ _ _ _ => true
  | .beaconDataBeat _ _ _ _ _ => true
  | .beaconEndBeat _ _ _ _ => true
  | .beaconSummaryReturn _ _ => true
  | .beaconSummaryTimeout _ _ => true
  | .bcnTapWrite _ _ _ _ => true
  | .taperBeatAccept _ _ => true
  | .tprRpWrite _ _ => true
  | .tprCfgWrite _ _ _ => true
  | .taperBreak _ => true
  | .cnRoute _ _ p _ _ => p.wf
  | .cnRrd p => p.wf
  | .cnRwr p => p.wf
  | .cnRrsp p => p.wf
  | .cnRwack p => p.wf
  | .cnIntr p => p.wf
  | .cnAm _ p ecc => p.wf && onceEach ecc
  | .cnCred _ p => p.wf
  | .cnCtlOpen _ p => p.wf
  | .cnCtlClose _ p => p.wf
  | .cnOpenRsp _ p => p.wf
  | .cnCloseRsp _ p => p.wf
  | .cnCloseReq _ p => p.wf
  | .amqListen _ _ => true
  | .amqOpen _ _ _ => true
  | .amqClose _ _ => true
  | .amqSendGo _ _ _ => true
  | .aqCiWrite _ _ _ => true
  | .aqCfgWrite _ _ _ => true
  | .amqChanCfgWrite _ _ _ => true
  | .wickArrive _ _ => true
  | .wickCtxTimeout _ => true
  | .wickCtxCfgWrite _ _ => true
  | .wickFlagOpWrite _ _ => true
  | .wickFlagUpdate _ => true
  | .wickWatchWrite _ _ _ => true
  | .wickTokenArrive _ _ => true
  | .wickTokenRelease _ _ => true
  | .wickTokenBreak _ _ => true
  | .arbWindowBoundary _ _ => true
  | .snufferBite _ _ _ what => what.wf
  | .arbCntClr _ => true
  | .epcCommitWrite _ _ => true
  | .epochSwitch => true
  | .epochCopyStart _ => true
  | .epochCommitEnd => true
  | .epochDrainSlow => true
  | .shadowWrite _ _ _ _ => true
  | .quiesceRequest => true
  | .quiesceReached => true
  | .quiesceSlow => true
  | .quiesceResume => true
  | .wlpCfgWrite _ _ => true
  | .wlpRetrain _ => true
  | .wlpPortRst _ => true
  | .wlpSignalDetect _ => true
  | .wlpLaneLock _ => true
  | .wlpLaneAlign _ logical _ => logical.length == 16 && decide logical.Nodup
  | .wlpTrainTimeout _ => true
  | .trainBlockReceive _ bs => bs.length == 32
  | .wlpFrameSend _ _ _ => true
  | .wlpFrameReceive _ _ bytes fec => decide (bytes.length ≤ 2073) && onceEach fec
  | .sideBlockReceive _ bs fec => bs.length == 32 && onceEach fec
  | .wlpAckTimeout _ => true
  | .wlpSbResendTimeout _ _ => true
  | .wlpLinkLoss _ => true
  | .wlpRejoinExpire _ => true
  | .wlpExpectWrite _ _ => true
  | .wlpMgmtTxWrite _ _ => true
  | .wlpMgmtRxRead _ => true
  | .gateFrameBuild _ p => p.wf
  | .gateFrameInject _ _ => true
  | .transitFrame _ _ _ _ => true
  | .xmcastFrameReceive _ _ _ _ => true
  | .colAllreduce _ _ ecc => onceEach ecc
  | .colReduceScatter _ _ ecc => onceEach ecc
  | .colAllgather _ _ ecc => onceEach ecc
  | .colBroadcast _ _ ecc => onceEach ecc
  | .colAlltoall _ _ ecc => onceEach ecc
  | .colBarrier _ _ ecc => onceEach ecc
  | .colChunkSend _ _ _ ecc => onceEach ecc
  | .colSlotFlagSeen _ _ _ ecc => onceEach ecc
  | .colWaitTimeout _ _ => true
  | .colGctrlOpen _ _ => true
  | .colGctrlClose _ _ => true
  | .colGctrlReform _ _ => true
  | .admitWrite => true
  | .admitJudgementComplete ecc => onceEach ecc
  | .admRelease => true
  | .bar0Read _ len _ => decide (1 ≤ len.toNat) && decide (len.toNat ≤ 4096)
  | .bar0Write _ data _ => tlpLen data
  | .bar2Read _ len => decide (1 ≤ len.toNat) && decide (len.toNat ≤ 4096)
  | .bar2Write _ data _ => tlpLen data
  | .bar4DoorbellWrite _ data => tlpLen data
  | .bar4Read _ len => decide (1 ≤ len.toNat) && decide (len.toNat ≤ 4096)
  | .hostWindowRequest p => p.wf
  | .hostCompletionReceive _ _ _ data => decide (data.length ≤ 4096)
  | .hostCplTimeout _ _ => true
  | .hifCplWatchdog _ => true
  | .msixSend _ => true
  | .hifMsixTrigWrite _ => true
  | .perstNAssert _ => true
  | .flr => true
  | .hostLinkDown => true
  | .d3hotEnter => true
  | .doeRequest req => req.wf
  | .doeAbort => true
  | .bar2Resize log2 => decide (30 ≤ log2.toNat) && decide (log2.toNat ≤ 37)
  | .glvWakeEvent => true
  | .glvWakeComplete => true
  | .glvSleepEnter => true
  | .glvLockstepMismatch => true
  | .glvWatchdogExpire => true
  | .glvSramUe => true
  | .glvFirmwareRestart => true
  | .glvCtrlRestart => true
  | .glvCtrlWake => true
  | .glvRestartComplete => true
  | .glvWdogKick => true
  | .glvAlertSetWrite _ => true
  | .helloTimer => true
  | .mgmtWordReceive _ => true
  | .spiNop _ _ _ => true
  | .spiReadWindow _ _ _ _ => true
  | .spiReadMailbox _ _ _ => true
  | .spiWriteWindow _ _ data _ => decide (data.length ≤ 256)
  | .spiWriteMailbox _ data _ => decide (data.length ≤ 256)
  | .spiAbort _ _ _ data => decide (data.length ≤ 256)
  | .spiEarlySelect _ => true
  | .canFrameReceive f _ => f.wf
  | .canReassemblyTimeout _ _ => true
  | .pwrbrakeNAssert => true
  | .pwrbrakeNRelease => true
  | .dictRead => true
  | .dictWrite _ => true
  | .dictOpen => true
  | .dictAuth => true
  | .dictClose => true
  | .glvMbxGo _ => true
  | .sessionPendingTimeout _ => true
  | .sessionIdleTimeout _ => true
  | .lockoutExpire _ => true
  | .mbxResponseDrop => true
  | .imageVerifyComplete _ => true
  | .reflashReq => true
  | .reflashStart => true
  | .reflashData => true
  | .reflashEnd _ => true
  | .reflashAck => true
  | .reflashReqTimer => true
  | .reflashAckTimeout => true
  | .keeperAnswerDelay => true
  | .servicePrepare => true
  | .serviceSafe => true
  | .powerLoopTick _ _ _ _ _ => true
  | .excursionHoldEnd => true
  | .voltageLoopTick _ _ _ _ => true
  | .tempSample _ => true
  | .thermWarnThrottle => true
  | .thermTripClear => true
  | .vinUndervoltage => true
  | .vinUvClear => true
  | .criticalShutdown _ _ => true
  | .pwrHostCapWrite _ => true
  | .pwrCapLatchWrite _ _ => true
  | .pwrClkCfgWrite _ => true
  | .pwrVmaxWrite _ => true
  | .rspTimeout _ => true
  | .quarantineEnd _ => true
  | .embQueueWrite => true
  | .embUnfreeze => true
  | .embCopyNow => true
  | .embCopyTimer => true
  | .embSwWrite _ _ => true
  | .registerWrite _ _ _ _ _ => true
  | .pclkRestore _ _ => true
  | .hostLinkUp _ _ _ _ cfg => cfg.wf
  | .d3hotExit => true
  | .spiInvalidCommand _ _ _ => true
  | .canBusError _ _ => true
  | .canBusOffRecovery => true
  | .slotEraseComplete => true
  | .embCopyComplete => true

end Sys2Proof
end

