-- ==== Sys2Proof/Tests/Slice0.lean ====
section
/-!
SUPPORT. Sys2Proof/Tests/Slice0.lean: tests of single commands on small states, which also show states and operands that meet the
hypotheses of the statements in Sys2Proof/Certificates/Slice0/Obligations.lean, and ill-formed terms that each check of WellFormed refuses.
What a test expects is taken from the rule named beside it.
-/
namespace Sys2Proof.Tests
set_option Elab.async false
open Sys2Proof.Machine

/-- What holds of the state that a command answers. -/
def ok (c : Instr) (s : State) (P : State → Bool) : Bool :=
  match exec c s with
  | .next t => P t
  | _ => false

/-- A command changes nothing. -/
def stays (c : Instr) (s : State) : Bool := ok c s (fun u => decide (u = s))

/-- The state after reset and some updates. -/
def small (es : List Eff) : State := applyAll State.reset es

/-- The same on a grid of two columns, so that tiles 0 to 31 exist. -/
def tiles (es : List Eff) : State := small (.fld (dk .TILE_GRID) f_TILE_GRID_WIDTH 2 :: es)

/-- A register as a number. -/
def rg (s : State) (k : RKey) : Nat := (regOf s k).toNat

/-- No register changes but some. -/
def frame (s u : State) (ks : List RKey) : Bool :=
  decide (s.regs.filter (fun e => !(ks.map RKey.code).contains e.1) = u.regs.filter (fun e => !(ks.map RKey.code).contains e.1))

/-! ### The queue -/

theorem test_stepRunsFront : (match step { State.reset with
    pending := [.hifMsixTrigWrite 3, .quiesceSlow] } with
  | .next t => t.pending == [.quiesceSlow] && t.msixPend == 8
  | _ => false) = true := by decide +kernel
theorem test_idleCounts : (match step (small []) with
  | .next t => pilotNow t == if pilotRuns (small []) then 1 else 0
  | _ => false) = true := by decide +kernel
theorem test_resetStepIsSound : (match step { State.reset with
    pending := [.embSwWrite .host 5] } with
  | .next t => t.memWf && t.mapsWf && smSorted t.regs
  | _ => false) = true := by decide +kernel

/-! ### The Ember log and admission -/

def evt (cls : Nat) : EmbEvt := ⟨7, 0x0301, cls, false, 2, 3, 4⟩
def frozen : Eff := .fld (dk .EMB_STAT) f_EMB_STAT_FROZEN 1

/-- R716, R717, R718. -/
theorem test_embQueueWrite : (stays .embQueueWrite (small [])
  && ok .embQueueWrite (small [.setEmbQ [evt 2]]) (fun u => u.embQ == [] && embNext u == 1 && dfld u .EMB_STAT f_EMB_STAT_COUNT == 1)
  && ok .embQueueWrite (small [.setEmbQ [evt 2], frozen]) (fun u => dfld u .EMB_LOST f_EMB_LOST_COUNT == 1 && embNext u == 0)) = true := by
  decide +kernel
theorem test_embQueueWriteEnds : (let s := small [.setEmbQ [evt 0, evt 0]]
  ok .embQueueWrite s (fun s => embMerges s (evt 0) && ok .embQueueWrite s (fun u => dfld u .EMB_MERGE_CNT f_EMB_MERGE_CNT_COUNT == 1 && embNext u == 1))
  && ok .embQueueWrite (small [.setEmbQ [evt 3]]) (fun u => dfld u .EMB_STAT f_EMB_STAT_FROZEN == 1 && embNext u == 1)) = true := by decide +kernel
/-- R718, R720. -/
theorem test_embUnfreeze : (ok .embUnfreeze (small [frozen, .fld (dk .EMB_STAT) f_EMB_STAT_COPIED 1]) (fun u =>
    dfld u .EMB_STAT f_EMB_STAT_FROZEN == 0 && u.embQ.map (·.kind) == [0x0F02])
  && stays .embUnfreeze (small [frozen])) = true := by decide +kernel
theorem test_embCopyNow : ok .embCopyNow (small []) (fun u => dfld u .EMB_STAT f_EMB_STAT_COPY_BUSY == 1 && u.glvWakeReq) = true := by decide +kernel
theorem test_embCopyTimer : ok .embCopyTimer (small []) (fun u => dfld u .EMB_STAT f_EMB_STAT_COPY_BUSY == 1) = true := by decide +kernel
def awake : Eff := .fld (dk .GLV_STAT) f_GLV_STAT_STATE 2
theorem test_embCopyComplete : ok .embCopyComplete (small [frozen, .fld (dk .EMB_STAT) f_EMB_STAT_COPY_BUSY 1, awake]) (fun u =>
  dfld u .EMB_STAT f_EMB_STAT_COPY_BUSY == 0 && dfld u .EMB_STAT f_EMB_STAT_COPIED == 1) = true := by decide +kernel
/-- R715. -/
theorem test_embSwWrite : (ok (.embSwWrite .host 5) (small []) (fun u => u.embQ.map (fun e => (e.kind, e.data)) == [(0x0F01, 5)])
  && ok (.embSwWrite .host 5) (small [.setEmbQ (List.replicate 256 (evt 0))]) (fun u => dfld u .EMB_LOST f_EMB_LOST_COUNT == 1)) = true := by decide +kernel
/-- R544. -/
theorem test_admitWrite : (ok .admitWrite (small []) (fun u => dfld u .BOOT_ADM_STAT f_BOOT_ADM_STAT_BUSY == 1)
  && ok .admitWrite (small [.fld (dk .BOOT_ADM_STAT) f_BOOT_ADM_STAT_ADMITTED 1]) (fun u =>
    dfld u .BOOT_ADM_STAT f_BOOT_ADM_STAT_CODE == 1 && dfld u .BOOT_ADM_STAT f_BOOT_ADM_STAT_REFUSED == 1)) = true := by decide +kernel
/-- R547. -/
theorem test_admRelease : (ok .admRelease (small [.fld (dk .BOOT_ADM_STAT) f_BOOT_ADM_STAT_ADMITTED 1]) (fun u =>
    dfld u .BOOT_ADM_STAT f_BOOT_ADM_STAT_ADMITTED == 0)
  && stays .admRelease (small [.fld (dk .BOOT_ADM_STAT) f_BOOT_ADM_STAT_BUSY 1])) = true := by decide +kernel

/-- R543: a manifest of one column of idle tiles. -/
def manifest : List Byte :=
  let h := leBytes 4 0x4E464D31 ++ leBytes 2 1 ++ leBytes 2 1 ++ leBytes 8 77 ++ List.replicate 304 0
  h.take 24 ++ leBytes 4 (crc32c h) ++ h.drop 28
def judging (bs : List Byte) : State := tiles [.fld (dk .TILE_GRID) f_TILE_GRID_GRADE 1, .fld (dk .BOOT_ADM_STAT) f_BOOT_ADM_STAT_BUSY 1,
  .reg (dk .BOOT_ADM_ADDR) (BitVec.ofNat 64 (cmGlobal (tiles []) 0 0)), .runCm (cmKey 0 0) bs]
theorem test_admitJudged : ok (.admitJudgementComplete []) (judging manifest) (fun u => dfld u .BOOT_ADM_STAT f_BOOT_ADM_STAT_ADMITTED == 1
  && rg u (dk .BOOT_ADM_MODEL) == 77 && dfld u .BOOT_ADM_STAT f_BOOT_ADM_STAT_BUSY == 0) = true := by decide +kernel
theorem test_admitRefused : ok (.admitJudgementComplete []) (judging [1]) (fun u => dfld u .BOOT_ADM_STAT f_BOOT_ADM_STAT_ADMITTED == 0
  && dfld u .BOOT_ADM_STAT f_BOOT_ADM_STAT_CODE == 3 && dfld u .BOOT_ADM_STAT f_BOOT_ADM_STAT_REFUSED == 1) = true := by decide +kernel

/-! ### Power -/

def ivr2 (i st : Nat) : Eff := .fld (dk .IVR_STAT i) f_IVR_STAT_STATE st
/-- R649, R650. -/
theorem test_ivrGroupStart : ok .ivrGroupStart (small []) (fun u => u.ivrNext == 1 && (ivrGroup 0).all (fun i => ivrState u i == 1)) = true := by decide +kernel
theorem test_ivrSoftstart : (ok (.ivrSoftstartCheck 4 true false) (small [ivr2 4 1]) (fun u => ivrState u 4 == 2)
  && ok (.ivrSoftstartCheck 4 false true) (small [ivr2 4 1]) (fun u => ivrState u 4 == 3 && ivr u 4 f_IVR_STAT_FAULT == 1)
  && stays (.ivrSoftstartCheck 4 true true) (small [])) = true := by decide +kernel
/-- R651. -/
theorem test_ivrFault : (ok (.ivrFaultInOperation 4 true) (small [ivr2 4 2]) (fun u => ivrState u 4 == 3 && ivr u 4 f_IVR_STAT_FAULT == 4)
  && ok (.ivrFaultInOperation 4 false) (small [ivr2 4 2, .fld (dk .IVR_STAT 4) f_IVR_STAT_ATTEMPTS 3]) (fun u => ivrState u 4 == 4)) = true := by
  decide +kernel
theorem test_ivrRetry : ok (.ivrRetryStart 4) (small [ivr2 4 3, .putVTgt 4 2900]) (fun u => ivrState u 4 == 1) = true := by decide +kernel
/-- R657, R663. -/
theorem test_brake : (ok .pwrbrakeNAssert (small []) (fun u => pst u f_PWR_STAT_BRAKE == 1 && dfld u .GLV_FAST f_GLV_FAST_PWRBRAKE == 1)
  && ok .vinUndervoltage (small []) (fun u => pst u f_PWR_STAT_BRAKE == 1 && pst u f_PWR_STAT_VIN_UV == 1)) = true := by decide +kernel
def braked (es : List Eff) : State := small (setBit (dk .PWR_STAT) f_PWR_STAT_BRAKE :: es)
theorem test_brakeEnds : (ok .pwrbrakeNRelease (braked [setBit (dk .GLV_FAST) f_GLV_FAST_PWRBRAKE]) (fun u => pst u f_PWR_STAT_BRAKE == 0)
  && ok .vinUvClear (braked [setBit (dk .PWR_STAT) f_PWR_STAT_VIN_UV]) (fun u => pst u f_PWR_STAT_BRAKE == 0 && pst u f_PWR_STAT_VIN_UV == 0)
  && ok .excursionHoldEnd (braked [.setExcHold true]) (fun u => pst u f_PWR_STAT_BRAKE == 0 && !u.excHold)) = true := by decide +kernel
/-- R647: 40 °C on every sensor. -/
theorem test_tempSample : ok (.tempSample (Vector.replicate 16 (some 640))) (small []) (fun u =>
  dfld u .PWR_TEMP f_PWR_TEMP_VALID 5 == 1 && dfld u .PWR_TEMP f_PWR_TEMP_TEMP 5 == 640) = true := by decide +kernel
/-- R661: 25 MHz down. -/
theorem test_thermWarn : ok .thermWarnThrottle (small [setBit (dk .PWR_STAT) f_PWR_STAT_WARN, .fld (dk .PWR_CLK_STAT) f_PWR_CLK_STAT_CCLK 80,
  .fld (dk .PWR_CLK_CFG) f_PWR_CLK_CFG_CCLK_MIN 40]) (fun u => cclk u == 79) = true := by decide +kernel
theorem test_thermTripClear : ok .thermTripClear (small [setBit (dk .PWR_STAT) f_PWR_STAT_TRIP, setBit (dk .GLV_FAST) f_GLV_FAST_THERM])
  (fun u => !tripped u && dfld u .GLV_FAST f_GLV_FAST_THERM == 0) = true := by decide +kernel
/-- R663. -/
theorem test_critical : (ok (.criticalShutdown true 60000) (small [ivr2 3 2]) (fun u => u.critical && ivrState u 3 == 0 && bitOf (rg u (dk .ERR_STAT)) 3)
  && stays (.criticalShutdown true 60000) (small [.setCritical true])) = true := by decide +kernel
/-- R656: above the cap of 400 W, CCLK comes down by 50 MHz. -/
theorem test_powerLoop : ok (.powerLoopTick 900 0 0 0 true) (small [.fld (dk .PWR_CAP_LATCH) f_PWR_CAP_LATCH_IN_FORCE 400,
  .fld (dk .PWR_CLK_STAT) f_PWR_CLK_STAT_CCLK 50, .fld (dk .PWR_CLK_STAT) f_PWR_CLK_STAT_FCLK 30]) (fun u => dfld u .PWR_MEAS f_PWR_MEAS_P_NOW == 900
  && decide (cclk u ≤ 50)) = true := by decide +kernel
/-- R659. -/
theorem test_voltageLoop : (let s := small [ivr2 4 2, .putVTgt 4 2900, .fld (dk .PWR_VMAX) f_PWR_VMAX_VMAX_F 900, .fld (dk .PWR_VMAX) f_PWR_VMAX_VMAX_T 900]
  ok (.voltageLoopTick 4 .short 700 5) s (fun u => vTgtAt u 4 == 2920 && ivr u 4 f_IVR_STAT_VOUT == 700)
  && ok (.voltageLoopTick 4 .excess 700 5) s (fun u => vTgtAt u 4 == 2899) && stays (.voltageLoopTick 4 .short 0 0) (small [])) = true := by decide +kernel
/-- R655, R665. -/
theorem test_hostCap : (ok (.pwrHostCapWrite 400) (small []) (fun u => dfld u .PWR_HOST_CAP f_PWR_HOST_CAP_CAP == 400)
  && ok (.pwrHostCapWrite 399) (small []) (fun u => dfld u .PWR_HOST_CAP f_PWR_HOST_CAP_CAP == 0 && pst u f_PWR_STAT_CFG_ERR == 1)) = true := by decide +kernel
def capWord : W64 := fset (fset 0 f_PWR_CAP_LATCH_DICT_CAP 1500) f_PWR_CAP_LATCH_BRAKE_LEVEL 400
theorem test_capLatch : (ok (.pwrCapLatchWrite .glovos capWord) (small []) (fun u => dfld u .PWR_CAP_LATCH f_PWR_CAP_LATCH_DICT_CAP == 1500)
  && ok (.pwrCapLatchWrite .host capWord) (small []) (fun u => pst u f_PWR_STAT_CFG_ERR == 1)) = true := by decide +kernel
theorem test_clkCfg : (let s := small []
  let v := regReset (dk .PWR_CLK_CFG)
  (clkBad (wouldBe s (dk .PWR_CLK_CFG) v allBits)).isNone && ok (.pwrClkCfgWrite v) s (fun u => regOf u (dk .PWR_CLK_CFG) == v)
  && ok (.pwrClkCfgWrite 0) s (fun u => pst u f_PWR_STAT_CFG_ERR == 1 && regOf u (dk .PWR_CLK_CFG) == v)) = true := by decide +kernel
theorem test_vmax : ok (.pwrVmaxWrite (fset (fset 0 f_PWR_VMAX_VMAX_F 600) f_PWR_VMAX_VMAX_T 950)) (small [.putVTgt 4 3600]) (fun u =>
  dfld u .PWR_VMAX f_PWR_VMAX_VMAX_T == 950 && decide (vTgtAt u 4 ≤ ceiling u 4)) = true := by decide +kernel

/-! ### The Glovos plane and its ports -/

def glv (st : Nat) (es : List Eff) : State := small (.fld (dk .GLV_STAT) f_GLV_STAT_STATE st :: setBit (dk .GLV_FAST) f_GLV_FAST_PRSNT :: es)
def stage7 : Eff := .fld (dk .BOOT_STAT) f_BOOT_STAT_STAGE 7
/-- R583, R584, R585. -/
theorem test_glvWake : (ok .glvWakeEvent (glv 0 [.setGlvWakeReq true]) (fun u => glvState u == 1 && dfld u .GLV_WAKE_CNT f_GLV_WAKE_CNT_COUNT == 1)
  && stays .glvWakeEvent (glv 2 [.setGlvWakeReq true])
  && ok .glvWakeComplete (glv 1 [.setGlvWakeReq true, stage7]) (fun u => glvState u == 2 && !u.glvWakeReq)) = true := by decide +kernel
theorem test_glvSleep : (let s := glv 2 [.fld (dk .GLV_CFG) f_GLV_CFG_SLEEP_EN 1, .fld (dk .BOOT_STAT) f_BOOT_STAT_STAGE 6]
  mayGlvSleep s && ok .glvSleepEnter s (fun u => glvState u == 0) && stays .glvSleepEnter (glv 1 [])) = true := by decide +kernel
theorem test_glvCtrlWake : (ok .glvCtrlWake (glv 0 []) (fun u => u.glvWakeReq) && stays .glvCtrlWake (glv 2 [])) = true := by decide +kernel
theorem test_glvWdogKick : ok .glvWdogKick (glv 2 [.setGlvWdog 99]) (fun u => u.glvWdog == 0) = true := by decide +kernel
theorem test_glvAlertSet : (ok (.glvAlertSetWrite 0x100) (glv 2 []) (fun u => bitOf (rg u (dk .GLV_ALERT_SRC)) 8)
  && stays (.glvAlertSetWrite 0x200) (glv 2 [])) = true := by decide +kernel
/-- R586, R588. -/
theorem test_glvRestarts : ([(Instr.glvLockstepMismatch, 1), (.glvSramUe, 3), (.glvFirmwareRestart, 4), (.glvCtrlRestart, 5)].all (fun p =>
  causeArises (glv 2 []) p.2 && !fourthCause (glv 2 []) && ok p.1 (glv 2 [.setSpiRx [some 1]]) (fun u =>
    glvState u == 3 && dfld u .GLV_STAT f_GLV_STAT_LAST_CAUSE == p.2 && u.spiRx == []))) = true := by decide +kernel
theorem test_glvWatchdog : (ok .glvWatchdogExpire (glv 2 [.setGlvWdog (2 ^ 40)]) (fun u => dfld u .GLV_STAT f_GLV_STAT_LAST_CAUSE == 2 && glvState u == 3)
  && stays .glvWatchdogExpire (glv 2 [])) = true := by decide +kernel
theorem test_glvFromHalted : (ok .glvCtrlRestart (glv 4 []) (fun u => glvState u == 3) && ok .glvRestartComplete (glv 2 []) (fun u => frame (glv 2 []) u [])) = true := by
  decide +kernel
/-- R605. -/
theorem test_helloTimer : (stays .helloTimer (glv 0 [.fld (dk .GLV_CFG) f_GLV_CFG_HELLO_S 0])
  && ok .helloTimer (glv 0 [.fld (dk .GLV_CFG) f_GLV_CFG_HELLO_S 1]) (fun u => u.helloDue && u.glvWakeReq)
  && ok .helloTimer (glv 2 [.fld (dk .GLV_CFG) f_GLV_CFG_HELLO_S 1, .setHelloDue true]) (fun u => !u.helloDue)) = true := by decide +kernel
def mgmtIn (w : W64) : Eff := .putWlp 5 { WlpSt.init with mRxq := [w, 7] }
theorem test_mgmtWord : (ok (.mgmtWordReceive 5) (glv 2 [mgmtIn 0]) (fun u => (wlp u 5).mRxq == [7] && dfld u .GLV_MGMT_BAD_CNT f_GLV_MGMT_BAD_CNT_COUNT == 1)
  && stays (.mgmtWordReceive 5) (glv 0 [mgmtIn 0])) = true := by decide +kernel
/-- R572. -/
theorem test_doe : (ok (.doeRequest .getVersion) (glv 2 []) (fun u => u.doe == none && u.doeAns == some (.version 1 2))
  && ok (.doeRequest .getVersion) (glv 0 []) (fun u => u.doe == some .getVersion && stays (.doeRequest .getDigests) u)
  && ok .doeAbort (glv 0 [.setDoe (some .getVersion)]) (fun u => u.doe == none)) = true := by decide +kernel

/-- R592 to R599. -/
theorem test_spiNop : ok (.spiNop false 0 0) (glv 0 []) (fun u => u.spiTxn == 1 && dfld u .SPT_TXN_CNT f_SPT_TXN_CNT_COUNT == 1) = true := by decide +kernel
theorem test_spiXtra : ok (.spiNop true 0 3) (glv 0 []) (fun u => dfld u .SPT_STAT f_SPT_STAT_XTRA == 1 && dfld u .SPT_XTRA f_SPT_XTRA_CLOCKS == 3) = true := by
  decide +kernel
theorem test_spiReads : (ok (.spiReadWindow false 1 0 0) (glv 0 []) (fun u => u.spiTxn == 1)
  && ok (.spiReadMailbox false 1 0) (glv 0 [.setSpiTx [1, 2]]) (fun u => u.spiTx == [2])) = true := by decide +kernel
theorem test_spiWrites : (ok (.spiWriteWindow false 10 [0x100] 0) (glv 0 [.reg (dk .GLV_ALERT_SRC) 0x180]) (fun u => rg u (dk .GLV_ALERT_SRC) == 0x80)
  && ok (.spiWriteMailbox false [9] 0) (glv 0 []) (fun u => u.spiRx == [some 9] && u.glvWakeReq)) = true := by decide +kernel
theorem test_spiBad : (ok (.spiAbort false 0 31 []) (glv 0 []) (fun u => dfld u .SPT_STAT f_SPT_STAT_ABORT == 1 && u.spiTxn == 0)
  && ok (.spiInvalidCommand false 0xC0000000 0) (glv 0 []) (fun u => dfld u .SPT_STAT f_SPT_STAT_CMD_ERR == 1 && u.spiPrev == 4)
  && ok (.spiEarlySelect 17) (glv 0 []) (fun u => dfld u .SPT_STAT f_SPT_STAT_EARLY == 1 && u.ansOut == [0xFF, 0xFF])) = true := by decide +kernel
theorem test_spiHeld : ([Instr.spiAbort false 0 1 [], .spiInvalidCommand false 0xC0000000 0, .spiEarlySelect 9].all (fun c =>
  ok c (small [.fld (dk .GLV_FAST) f_GLV_FAST_PRSNT 0]) (fun u => frame (small [.fld (dk .GLV_FAST) f_GLV_FAST_PRSNT 0]) u []))) = true := by decide +kernel

/-- R600 to R602. -/
def canAt (es : List Eff) : State := glv 0 (.fld (dk .GLV_CAN_CFG) f_GLV_CAN_CFG_NODE 5 :: es)
def canF (dst : BitVec 7) : CanFrame := ⟨0, dst, 9, 0, 1, [1]⟩
theorem test_canFrame : (ok (.canFrameReceive (canF 5) true) (canAt []) (fun u => dfld u .GLV_CAN_CLASSIC_CNT f_GLV_CAN_CLASSIC_CNT_COUNT == 1)
  && ok (.canFrameReceive (canF 127) false) (canAt []) (fun u => u.canRx == [canF 127] && u.glvWakeReq)
  && ok (.canFrameReceive (canF 5) false) (canAt [.setCanRx (List.replicate 32 (canF 5))]) (fun u => dfld u .GLV_CAN_DROP_CNT f_GLV_CAN_DROP_CNT_COUNT == 1)) = true := by
  decide +kernel
theorem test_canReassembly : (ok (.canReassemblyTimeout 9 1) (canAt [.setCanAsm [⟨0, 9, 1, []⟩]]) (fun u => u.canAsm == []
    && dfld u .GLV_CAN_REASM_ERR_CNT f_GLV_CAN_REASM_ERR_CNT_COUNT == 1)
  && stays (.canReassemblyTimeout 9 1) (canAt [])) = true := by decide +kernel
theorem test_canErrors : (ok (.canBusError true false) (canAt [.fld (dk .GLV_CAN_STAT) f_GLV_CAN_STAT_TEC 248]) (fun u => canOff u)
  && ok (.canBusError false true) (canAt []) (fun u => canStat u f_GLV_CAN_STAT_REC == 8)
  && ok .canBusOffRecovery (canAt [.fld (dk .GLV_CAN_STAT) f_GLV_CAN_STAT_ERRSTATE 2, .setCanWait [canF 9]]) (fun u => !canOff u && u.canOut == [canF 9])
  && ok .canBusOffRecovery (canAt []) (fun u => !canOff u)) = true := by decide +kernel


/-! ### The dictionary -/

/-- A request frame without a session (R619). -/
def reqFrame (op sid seq idx sub : Nat) (p : List Byte) : List Byte :=
  leBytes 1 (16 + op) ++ leBytes 1 sid ++ leBytes 2 p.length ++ leBytes 2 idx ++ leBytes 1 sub ++ [0] ++ leBytes 4 seq ++ leBytes 4 0 ++ p
def pcie (bs : List Byte) : DictReq := ⟨2, 0, 0, 0, bs⟩
def asking (bs : List Byte) (es : List Eff) : State := glv 2 (.setDictQ [pcie bs] :: es)
/-- An installer's session, and its frames. -/
def sess2 : Sess := ⟨3, 2, 0, 1, 0, true, List.replicate 32 1, List.replicate 32 2, List.replicate 32 3, 4, [7], 0⟩
def spi (bs : List Byte) (es : List Eff) : State := glv 2 (.setDictQ [⟨1, 0, 0, 0, bs⟩] :: es)
def mbx0 (u : State) : Nat := rg u (dk .GLV_MBX_RSP 0)
theorem test_sha256 : (sha256 []).take 4 = [0xE3, 0xB0, 0xC4, 0x42] := by decide +kernel
theorem test_sha384 : (sha384 [0x61, 0x62, 0x63]).take 4 = [0xCB, 0x00, 0x75, 0x3F] := by decide +kernel
/-- R613, R620. -/
theorem test_dictRead : (let s := asking (reqFrame 1 0 0 0x1000 1 []) []
  decide (readStatus 0 0x1000 1 = dsOK) && ok .dictRead s (fun u => u.dictQ == [] && mbxStat u f_GLV_MBX_STAT_DONE == 1)
  && ok .dictRead (asking [1, 2, 3] []) (fun u => u.dictQ == [] && mbxStat u f_GLV_MBX_STAT_DONE == 1)) = true := by decide +kernel
theorem test_dictWrite : (let s := spi (reqFrame 2 3 5 0x6010 1 [30, 0] ++
    [0x62, 0x04, 0x48, 0x5B, 0xD4, 0xDA, 0xE4, 0x09, 0x8B, 0x5F, 0x9E, 0x78, 0xF4, 0x97, 0x1D, 0x5C]) [.setSess [sess2]]
  ok (.dictWrite false) s (fun u => u.dictQ == [] && objStored u okSESS_IDLE_S == [30, 0] && u.jseq == 1 && u.sess.map (·.seq) == [5])) = true := by decide +kernel
theorem test_dictWriteRefused : (let s := asking (reqFrame 2 0 0 0x6010 1 [30, 0]) []
  ok (.dictWrite false) s (fun u => u.dictQ == [] && objAt u okSESS_IDLE_S == none && objNat u okREFUSED_CNT == 1 && u.jseq == 1)) = true := by decide +kernel
/-- R622, R623. -/
theorem test_dictOpen : (let s := canAt [.fld (dk .GLV_STAT) f_GLV_STAT_STATE 2, .setDictQ [⟨0, 9, 0, 0, reqFrame 3 0 0 0 0 (2 :: List.replicate 32 1)⟩]]
  ok .dictOpen s (fun u => u.sess.map (fun x => (x.sid, x.role, x.open_)) == [(1, 2, false)])) = true := by decide +kernel
def operKey : Eff := .putObj (okOPER_KEY 1) (some (List.replicate 32 9))
def pend1 : Sess := ⟨3, 1, 1, 1, 0, false, List.replicate 32 1, List.replicate 32 2, [], 0, [], 0⟩
/-- PC as RFC 2104 gives it. -/
def pcBytes : List Byte := [0x6A, 0xAF, 0x9C, 0xFF, 0x19, 0xFF, 0x77, 0x4E, 0x0E, 0x53, 0x3A, 0x54, 0x31, 0x6E, 0x7E, 0x55] ++
  [0x88, 0x18, 0x21, 0xD2, 0x00, 0xEA, 0xDD, 0x5F, 0xEF, 0x55, 0xAD, 0xD0, 0x4F, 0xC1, 0xCC, 0x87]
theorem test_dictAuth : (ok .dictAuth (spi (reqFrame 4 3 0 0 0 pcBytes) [operKey, .setSess [pend1]])
    (fun u => u.sess.map (fun x => (x.sid, x.open_, x.key)) == [(3, true, List.replicate 32 9)])
  && ok .dictAuth (spi (reqFrame 4 3 0 0 0 (List.replicate 32 0)) [operKey, .setSess [pend1]])
    (fun u => u.sess == [] && authFailAt u 128 == 1)) = true := by decide +kernel
theorem test_dictClose : ok .dictClose (spi (reqFrame 5 3 5 0 0 [] ++
    [0xB8, 0xB4, 0x6E, 0xF2, 0xC1, 0x67, 0x09, 0xAB, 0x22, 0x54, 0x25, 0x28, 0xDD, 0x38, 0x8D, 0x1C]) [.setSess [sess2]]) (fun u => u.sess == [] && u.dictQ == []) = true := by
  decide +kernel
/-- R635. -/
def goWord : W64 := BitVec.ofNat 64 (2 ^ 63 + 16)
theorem test_mbxGo : (ok (.glvMbxGo goWord) (glv 0 []) (fun u => mbxStat u f_GLV_MBX_STAT_BUSY == 1 && u.glvWakeReq
    && u.dictQ == [pcie (List.replicate 16 0)])
  && ok (.glvMbxGo goWord) (glv 0 [setBit (dk .GLV_MBX_STAT) f_GLV_MBX_STAT_BUSY]) (fun u => mbxStat u f_GLV_MBX_STAT_DROP == 1 && u.dictQ == [])) = true := by
  decide +kernel
/-- R624. -/
def at_ (t : Nat) : Eff := .fld (dk .GLV_PILOT) f_GLV_PILOT_TICKS t
theorem test_sessTimers : (ok (.sessionPendingTimeout 3) (glv 2 [at_ 25000000, .setSess [pend1]]) (fun u => u.sess == [])
  && stays (.sessionPendingTimeout 3) (glv 2 [at_ 24999999, .setSess [pend1]])
  && ok (.sessionIdleTimeout 3) (glv 2 [at_ (2 ^ 40), .setSess [sess2]]) (fun u => u.sess == [])
  && ok (.lockoutExpire 129) (glv 2 [at_ (2 ^ 40), .putLockout 129 (some 0)]) (fun u => lockoutAt u 129 == none)) = true := by decide +kernel
theorem test_rspDrop : ok .mbxResponseDrop (glv 2 [.setSpiRsp [[1]]]) (fun u => u.spiRsp == [] && objNat u okRSP_DROP == 1) = true := by decide +kernel

/-! ### Images, service and re-flash -/

theorem test_imageVerify : ok (.imageVerifyComplete false) (glv 2 [.setImgCheck (some 1)]) (fun u => u.imgCheck == none && slotStAt u 1 == 2) = true := by
  decide +kernel
theorem test_slotErase : (let s := glv 2 [.putObj okTARGET (some [1]), .putSlotSt 1 3]
  decide (slotStatus s (dlTarget s) = 3) && ok .slotEraseComplete s (fun u => u.imgErased == 1)) = true := by decide +kernel
theorem test_service : (ok .servicePrepare (glv 2 [.fld (dk .EPC_STAT) f_EPC_STAT_QUIESCED 1]) (fun u => svcStat u f_BOOT_SVC_STAT_STATE == 1)
  && ok .servicePrepare (glv 2 []) (fun u => svcStat u f_BOOT_SVC_STAT_SVC_REFUSED == 1)
  && ok .serviceSafe (glv 2 [.fld (dk .BOOT_SVC_STAT) f_BOOT_SVC_STAT_STATE 1, ivr2 4 2]) (fun u => svcStat u f_BOOT_SVC_STAT_STATE == 2 && ivrState u 4 == 0)) = true := by
  decide +kernel
def rflF (d : List Byte) : Eff := .setRflQ [⟨0, 5, 9, 0, 8, d⟩]
def rflAt (st frame : Nat) (es : List Eff) : State := canAt (.fld (dk .BOOT_RFL_STAT) f_BOOT_RFL_STAT_STATE st ::
  .fld (dk .BOOT_RFL_STAT) f_BOOT_RFL_STAT_FRAME frame :: .fld (dk .GLV_STAT) f_GLV_STAT_STATE 2 :: es)
/-- R691, R692. -/
theorem test_reflashStart : ok .reflashStart (rflAt 0 0 [rflF [0x52, 1, 0, 0, 4, 0, 0, 0]]) (fun u => u.rflQ == [] && rflStat u f_BOOT_RFL_STAT_STATE == 2
  && u.rfl.peer == 9 && u.rfl.len == 4) = true := by decide +kernel
def target2 (n : Nat) : Eff := .setRfl ⟨9, 2, 0, n, 0, []⟩
theorem test_reflashData : (ok .reflashData (rflAt 2 0 [target2 4, rflF [0x53, 0, 0, 0, 1, 2, 3, 4]]) (fun u => rflStat u f_BOOT_RFL_STAT_FRAME == 1
    && flashRead u (slotBase 1) 4 == [1, 2, 3, 4])
  && ok .reflashData (rflAt 2 0 [target2 4, rflF [0x53, 7, 0, 0, 1, 2, 3, 4]]) (fun u => u.rfl.since == 1)) = true := by decide +kernel
theorem test_reflashEnd : (ok (.reflashEnd false) (rflAt 2 0 [target2 70, rflF [0x54]]) (fun u => u.canOut.length == 1 && rflStat u f_BOOT_RFL_STAT_STATE == 2)
  && ok (.reflashEnd false) (rflAt 2 1 [target2 4, rflF [0x54]]) (fun u => rflStat u f_BOOT_RFL_STAT_STATE == 0)) = true := by decide +kernel
theorem test_reflashReq : (let s := rflAt 0 0 [rflF [0x51, 1], .setStrapKeeper true, .putSlotSt 0 1]
  keeperServes s && ok .reflashReq s (fun u => u.rfl.wait.map (·.1) == [9])) = true := by decide +kernel
theorem test_reflashAck : ok .reflashAck (rflAt 1 0 [target2 4, rflF [0x55, 1, 0, 0, 0, 0, 0]]) (fun u => rflStat u f_BOOT_RFL_STAT_STATE == 0) = true := by decide +kernel
theorem test_reflashTimers : (ok .reflashReqTimer (rflAt 0 0 [.fld (dk .BOOT_STAT) f_BOOT_STAT_STAGE 7]) (fun u => u.canOut.length == 1)
  && ok .reflashAckTimeout (rflAt 1 0 [target2 4]) (fun u => u.rfl.acked == 0)
  && (let s := rflAt 0 0 [.setRfl ⟨0, 0, 0, 0, 0, [(9, 1)]⟩, .setStrapKeeper true, .putSlotSt 0 1]
    ok .keeperAnswerDelay s (fun u => rflStat u f_BOOT_RFL_STAT_STATE == 1 && u.rfl.peer == 9))) = true := by decide +kernel

/-! ### A signed image: the key is the base point of the curve, so a signature is (x of the base point, hash + x) -/

def testKey : List Byte := 4 :: beBytes 48 g384.1 ++ beBytes 48 g384.2
def imgHead : List Byte := leBytes 4 0x4D49464E ++ leBytes 2 1 ++ [0, 1] ++ leBytes 4 7 ++ leBytes 4 4096 ++ List.replicate 112 0 ++ testKey
  ++ List.replicate 31 0 ++ leBytes 4 1 ++ leBytes 4 4096 ++ leBytes 8 0 ++ sha384 [] ++ List.replicate 3648 0
/-- An image with an empty GLV_FW section (R677, R678). -/
def image : List Byte := imgHead ++ beBytes 48 g384.1 ++ beBytes 48 ((beNat (sha384 imgHead) + g384.1) % n384) ++ List.replicate 32 0
/-- The SHA-384 of the key. -/
def keyFuses : List Eff := List.zipWith (fun i w => .putFuse (fuseRoot 0 i) w) (List.range 6)
  [0xEDF9B71224264F8C, 0xE50D135A70067686, 0x388CAFFB48D02F21, 0xA05BB4F440A2F442, 0x3EDACD4C19820FC9, 0x1DD5E1AFB0969CD8]
def imaged (es : List Eff) : State :=
  { small (.putObj okACTIVE_SLOT (some [1]) :: keyFuses ++ es) with
    flash := smRun 0xFF [] (slotBase 1) image }
theorem imaged_flash (es : List Eff) : (imaged es).flash = smRun 0xFF [] (slotBase 1) image := by rw [imaged]
theorem image_length : image.length = 4096 := by decide +kernel
theorem image_signed : imgSig image = true := by decide +kernel
theorem image_good : imgFormat image = true ∧ sectionsOf image = [⟨1, 0, 0, 4096, 0, 0, sha384 []⟩] := by decide +kernel
/-- The image as read from the slot, once other updates leave the flash alone. -/
theorem image_read (s : State) (h : s.flash = smRun 0xFF [] (slotBase 1) image) : slotRead s 1 0 4096 = image := by
  have hl := image_length
  have := smRead_smRun (0xFF : Byte) [] (slotBase 1) image 0 4096 (by omega)
  rw [slotRead, flashRead, h, this, List.drop_zero]
  exact List.take_of_length_le (Nat.le_of_eq image_length)
/-- What a boot of the image needs of the state (R680, R682). -/
theorem image_boots (s : State) (h : s.flash = smRun 0xFF [] (slotBase 1) image) (hk : imgKey s image = true) :
    firmwareOk s 1 = true ∧ verifySlot s 1 false = 0 := by
  have hr := image_read s h
  have hs := image_good.2
  have hf := image_good.1
  have hg := image_signed
  have h0 : ∀ a, slotRead s 1 a 0 = [] := fun _ => rfl
  have hd : ∀ store, digestOk s 1 store ⟨1, 0, 0, 4096, 0, 0, sha384 []⟩ = true := by intro store; simp [digestOk, sectionBytes, h0]
  constructor
  · simp only [firmwareOk, hr, hs, hf, hg, hk, ofType, List.filter_cons, List.filter_nil, beq_self_eq_true, if_true, List.all_cons, hd,
      List.all_nil, Bool.and_self]
  · have hc : imgContent s 1 = true := by simp only [imgContent, imgSection, hr, hs, ofType, List.filter_cons, List.filter_nil]; rfl
    simp only [verifySlot, hr, hs, hf, hg, hk, hc, hd, List.all_cons, List.all_nil, Bool.and_self, Bool.not_true, Bool.false_eq_true, if_false]
def bootEs (st glv : Nat) : List Eff := [.fld (dk .BOOT_STAT) f_BOOT_STAT_STAGE st, ivr2 74 2, .fld (dk .GLV_STAT) f_GLV_STAT_STATE glv]
theorem imaged_key : (imgKey (imaged (bootEs 1 1)) image && imgKey (imaged (bootEs 4 2)) image) = true := by decide +kernel
theorem test_bootImage : (let s := imaged (bootEs 1 1)
  decide (stage s = 1 ∧ ivrState s 74 = 2 ∧ (slotOrder s).head? = some 1 ∧ s.canRx = [] ∧ s.spiRx = [] ∧ s.dictQ = [])
  && (let s := imaged (bootEs 4 2)
      decide (stage s = 4 ∧ glvAwake s = true ∧ (slotOrder s).filter (fun k => !slotFailed s k) = [1, 2, 0] ∧ slotStAt s 1 = 0))) = true := by decide +kernel
theorem test_bootImagePasses : firmwareOk (imaged (bootEs 1 1)) 1 = true ∧ verifySlot (imaged (bootEs 4 2)) 1 false = 0 := by
  have h := imaged_key
  rw [Bool.and_eq_true] at h
  exact ⟨(image_boots _ (imaged_flash _) h.1).1, (image_boots _ (imaged_flash _) h.2).2⟩
/-- R681, R698: with no slot that passes, RECOVERY. -/
theorem test_bootRecovery : ok (.bootVerifyPass 0) (small (bootEs 4 2)) (fun u => stage u == 7 && glvState u == 2) = true := by decide +kernel
theorem test_bootFirmware : ok (.bootFirmwareVerified 0) (small (bootEs 1 1)) (fun u => stage u == 1) = true := by decide +kernel
theorem test_bootApplyFails : ok (.bootApplyPass true) (small (bootEs 5 2)) (fun u => stage u == 4 && slotStAt u 0 == 2) = true := by decide +kernel
theorem test_bootApply : (let s := small (bootEs 5 2)
  decide (stage s = 5 ∧ glvAwake s = true) && stays (.bootApplyPass false) (small (bootEs 4 2))) = true := by decide +kernel

/-! ### Resets, the map and memory modes -/

def asked (rank tile : Nat) (es : List Eff) : State := tiles (.setRstReq [⟨rank, tile, false, .register⟩] :: es)
/-- R674, R733, R736, R743. -/
theorem test_pilotPowerOn : (ok (.pilotPowerOn true false) (small []) (fun u => u.strapKeeper && pilotRuns u && dfld u .GLV_FAST f_GLV_FAST_PRSNT == 1)
  && ok (.pilotPowerOn false true) (small []) (fun u => u.testMode && dfld u .GLV_FAST f_GLV_FAST_PRSNT == 0)) = true := by decide +kernel
theorem test_pilotStops : (ok .vstby33Loss (small [.fld (dk .PWR_HOST_CAP) f_PWR_HOST_CAP_CAP 500]) (fun u => !pilotRuns u && dfld u .PWR_HOST_CAP f_PWR_HOST_CAP_CAP == 0)
  && ok .pclkLoss (small [.setEmbQ [evt 0], at_ 9]) (fun u => !pilotRuns u && u.embQ == [])) = true := by decide +kernel
theorem test_pclkRestore : (stays (.pclkRestore false false) (small [])
  && ok .pclkLoss (small []) (fun s => ok (.pclkRestore true false) s (fun u => pilotRuns u && u.strapKeeper))) = true := by decide +kernel
/-- R674, R675, R682. -/
theorem test_coldReset : (pilotRuns (small []) && !rstBusy (small []) 1 && rstAsked (asked 1 0 []) 1 .register && pilotRuns (asked 1 0 [])
  && stays (.coldReset .flr) (small []) && stays (.coldReset .register) (small [])
  && stays (.coldReset .pin) (small [.setRstReq [⟨1, 0, false, .register⟩]])) = true := by decide +kernel
theorem test_warmReset : stays (.warmReset .register) (small []) = true := by decide +kernel
theorem test_warmResetAsked : (rstAsked (asked 2 0 []) 2 .register && !rstBusy (asked 2 0 []) 1) = true := by decide +kernel
theorem test_rstCtrl : ([(Instr.rstCtrlCold, 1), (.rstCtrlWarm, 2), (.rstCtrlFabric, 3)].all (fun p =>
  ok p.1 (small []) (fun u => u.rstReq == [⟨p.2, 0, false, .register⟩]) && stays p.1 (asked 1 0 []))) = true := by decide +kernel
theorem test_rstCtrlTile : (ok (.rstCtrlTile 3 false) (tiles []) (fun u => u.rstReq == [⟨4, 3, false, .register⟩] && tileDown u 3
    && dfld u .BOOT_RST_STAT f_BOOT_RST_STAT_TILE_BUSY == 1)
  && ok (.rstCtrlTile 40 false) (tiles []) (fun u => dfld u .BOOT_RST_STAT f_BOOT_RST_STAT_CFG_ERR == 1)
  && stays (.rstCtrlTile 3 false) (asked 4 5 [])) = true := by decide +kernel
/-- R686. -/
theorem test_fabricReset : (rstAsked (asked 3 0 []) 3 .register && stays .fabricReset (asked 2 0 [])
  && stays .fabricReset (asked 3 0 [.fld (dk .TILE_MAP_STAT) f_TILE_MAP_STAT_APPLYING 1])) = true := by decide +kernel
theorem test_tileReset : (ok .tileReset (asked 4 3 []) (fun u => u.rstReq == [] && dfld u .BOOT_RST_STAT f_BOOT_RST_STAT_LAST == 4
    && tfld u 3 .TILE_CORE_STAT f_TILE_CORE_STAT_STOPPED == 0xFFFFFF)
  && stays .tileReset (asked 3 0 [])) = true := by decide +kernel
/-- R34, R45, R46. -/
theorem test_tileMapApply : (ok .tileMapApply (small []) (fun u => dfld u .TILE_MAP_STAT f_TILE_MAP_STAT_APPLYING == 1 && u.applyDoms == domSets (small []))
  && stays .tileMapApply (small [.fld (dk .TILE_MAP_STAT) f_TILE_MAP_STAT_APPLYING 1])
  && ok .tileMapApply (small [.setAdmittedSince true]) (fun u => dfld u .EPC_STAT f_EPC_STAT_NEEDS_QUIESCE == 1)) = true := by decide +kernel
theorem test_mapApplyComplete : stays .mapApplyComplete (small []) = true := by decide +kernel
def cnReq : CnPkt := ⟨0, 1, 0, 2, false, 0, false, false, 0, [], false, 0⟩
def cnF : CnFlight := ⟨cnReq, 1, 0, false⟩
theorem test_applyCnDiscard : (ok (.applyCnDiscard 1 0 cnReq) (tiles [.fld (dk .TILE_MAP_STAT) f_TILE_MAP_STAT_APPLYING 1, .setCn [cnF]]) (fun u => u.cn == [])
  && stays (.applyCnDiscard 1 0 cnReq) (tiles [.setCn [cnF]])) = true := by decide +kernel
/-- R82, R86, R91. -/
theorem test_scrubComplete : (let s := tiles ((List.range 75).map (ivr2 · 2) ++ [.reg (dk .TILE_DOWN_MAP 0) 8])
  ok (.scrubComplete 3) s (fun u => tfld u 3 .CM_STAT f_CM_STAT_SCRUB_DONE == 1 && !tileDown u 3) && stays (.scrubComplete 3) (tiles [])) = true := by decide +kernel
def patrolled (n : Nat) : State := tiles [.fld (dk .TILE_MEM_CFG) f_TILE_MEM_CFG_SCRUB_HOURS 24, .fld (tk 3 .TILE_VLT_STAT) f_TILE_VLT_STAT_SCRUB_DONE 1,
  .fld (tk 3 .TILE_VLT_PATROL) f_TILE_VLT_PATROL_NEXT_LINE n]
theorem test_patrol : (ok (.patrolVisit 3 .clean) (patrolled 7) (fun u => tfld u 3 .TILE_VLT_PATROL f_TILE_VLT_PATROL_NEXT_LINE == 8)
  && ok (.patrolVisit 3 .clean) (patrolled 3145727) (fun u => tfld u 3 .TILE_VLT_PATROL f_TILE_VLT_PATROL_NEXT_LINE == 0
    && tfld u 3 .TILE_VLT_PATROL f_TILE_VLT_PATROL_PASSES == 1)
  && stays (.patrolVisit 30 .clean) (patrolled 7)) = true := by decide +kernel
theorem test_tileMemCfg : (ok (.tileMemCfgWrite (fset 0 f_TILE_MEM_CFG_STRIPE 2)) (small []) (fun u => dfld u .TILE_MEM_CFG f_TILE_MEM_CFG_STRIPE == 2)
  && ok (.tileMemCfgWrite (fset 0 f_TILE_MEM_CFG_VAULT_MODE 2)) (small []) (fun u => dfld u .TILE_MEM_STAT f_TILE_MEM_STAT_CFG_ERR == 1)
  && ok (.tileMemCfgWrite (fset 0 f_TILE_MEM_CFG_STRIPE 2)) (small [.fld (dk .BOOT_ADM_STAT) f_BOOT_ADM_STAT_ADMITTED 1]) (fun u =>
    dfld u .TILE_MEM_STAT f_TILE_MEM_STAT_MODE_LOCKED == 1 && dfld u .TILE_MEM_CFG f_TILE_MEM_CFG_STRIPE == 1)) = true := by decide +kernel

/-! ### Cores -/

def pc0 : W64 := 0x10000000000
/-- Core 0 of tile 0 at the start of its cluster memory; x2 holds an address 64 bytes on, x3 holds 9. -/
def core0 : CoreSt := { CoreSt.init with
  pc := pc0, x := [(2, pc0 + 64), (3, 9)] }
def running (k : CoreSt) (es : List Eff) : State := tiles (.fld (tk 0 .TILE_CORE_RUN) f_TILE_CORE_RUN_RUN 1 ::
  .fld (tk 0 .TILE_CORE_STAT) f_TILE_CORE_STAT_STOPPED 0xFFFFFE :: .putCores (coreKey 0 0) k :: .fld (tk 0 .CM_STAT) f_CM_STAT_SCRUB_DONE 1 :: es)
def runs (w : BitVec 32) (k : CoreSt) (P : CoreSt → Bool) : Bool :=
  coreGoes (running k []) 0 0 w.toNat && ok (.coreInstruction 0 0 w) (running k []) (fun u => P (coreOf u 0 0))
/-- Words from the RISC-V encoding: ADDI x1, x0, 5; LUI x1, 1; AUIPC x1, 1; ADD x1, x3, x3; BEQ x0, x0, +8; JAL x1, +16; JALR x1, 0(x2). -/
theorem test_coreComputes : (runs 0x00500093 core0 (fun k => k.getX 1 == 5 && k.pc == pc0 + 4 && k.getCsr 0xB02 == 1)
  && runs 0x000010B7 core0 (fun k => k.getX 1 == 0x1000) && runs 0x00001097 core0 (fun k => k.getX 1 == pc0 + 0x1000)
  && runs 0x003180B3 core0 (fun k => k.getX 1 == 18)
  && runs 0x00000463 core0 (fun k => k.pc == pc0 + 8) && runs 0x010000EF core0 (fun k => k.pc == pc0 + 16 && k.getX 1 == pc0 + 4)
  && runs 0x000100E7 core0 (fun k => k.pc == pc0 + 64)) = true := by decide +kernel
def user0 : CoreSt := { core0 with
  user := true, csr := [(0x3A0, 0x1F), (0x3B0, 0x3FFFFFFFFFFFFF)] }
/-- ECALL, EBREAK, a word of zeros, MRET; CSRRW x1, mscratch, x2; WFI. -/
theorem test_coreTraps : (runs 0x00000073 core0 (fun k => k.getCsr 0x342 == 11 && k.getCsr 0x341 == pc0)
  && runs 0x00100073 core0 (fun k => k.getCsr 0x342 == 3) && runs 0 core0 (fun k => k.getCsr 0x342 == 2)
  && runs 0x00000073 user0 (fun k => k.getCsr 0x342 == 8 && !k.user) && runs 0x30200073 user0 (fun k => k.getCsr 0x342 == 2)
  && runs 0x340110F3 user0 (fun k => k.getCsr 0x342 == 2)
  && runs 0x30200073 (core0.setCsr 0x341 (pc0 + 128)) (fun k => k.pc == pc0 + 128 && k.user)
  && runs 0x340110F3 core0 (fun k => k.getCsr 0x340 == pc0 + 64 && k.getX 1 == 0)) = true := by decide +kernel
theorem test_coreWfi : (ok (.coreInstruction 0 0 0x10500073) (running core0 []) (fun u => coreWfi u 0 0)
  && stays (.coreInstruction 0 0 0x00500093) (tiles [])) = true := by decide +kernel
def stores1 : CoreSt := { core0 with
  outst := [⟨.store, 0, 0, 8, .none, 0⟩] }
/-- FENCE RW, RW and FENCE.I. -/
theorem test_coreFence : (ok (.coreFence 0 0 0x0330000F) (running core0 []) (fun u => (coreOf u 0 0).pc == pc0 + 4)
  && stays (.coreFence 0 0 0x0330000F) (running stores1 [])
  && ok (.coreFenceI 0 0 0x0000100F) (running core0 []) (fun u => (coreOf u 0 0).pc == pc0 + 4)) = true := by decide +kernel
/-- An interrupt that is pending and enabled; a fetch outside memory. -/
theorem test_coreIrq : (let s := running ((core0.setCsr 0x304 0x800).setCsr 0x300 8) [.reg (tk 0 .TILE_IRQ_ROUTE 0) 0x80, .fld (tk 0 .TILE_IRQ_PEND) f_TILE_IRQ_PEND_PEND 1]
  irqTake s 0 0 == some 11 && ok (.coreInstruction 0 0 0x00500093) s (fun u => (coreOf u 0 0).getCsr 0x342 == 0x800000000000000B)) = true := by decide +kernel
def far0 : CoreSt := { core0 with
  pc := 0x7000000000 }
theorem test_coreFetchFault : (let s := running far0 []
  fetchBad s 0 0 0x00500093 == some false && ok (.coreInstruction 0 0 0x00500093) s (fun u => (coreOf u 0 0).getCsr 0x342 == 1)) = true := by decide +kernel
def nine : Eff := .runCm (cmKey 0 72) [9]
/-- LD x1, 8(x2); SD x3, 8(x2). -/
theorem test_coreLoadStore : (ok (.coreLoad 0 0 0x00813083 []) (running core0 [nine]) (fun u => (coreOf u 0 0).getX 1 == 9 && (coreOf u 0 0).pc == pc0 + 4)
  && ok (.coreStore 0 0 0x00313423 []) (running core0 []) (fun u => cmAt u (cmKey 0 72) == 9)
  && stays (.coreLoad 0 0 0x00813083 []) (tiles [])) = true := by decide +kernel
def at2 (a : W64) : CoreSt := { core0 with
  x := [(2, a), (3, 9)] }
/-- Another tile's memory, and no memory. -/
theorem test_coreFar : (ok (.coreLoad 0 0 0x00813083 []) (running (at2 (pc0 + 0x800000)) []) (fun u => (coreOf u 0 0).outst.length == 1 && (niuqAt u 0).length == 1)
  && ok (.coreStore 0 0 0x00313423 []) (running (at2 (pc0 + 0x800000)) []) (fun u => (coreOf u 0 0).outst.length == 1)
  && ok (.coreLoad 0 0 0x00813083 []) (running (at2 0x7000000000) []) (fun u => (coreOf u 0 0).getCsr 0x342 == 5)
  && ok (.coreStore 0 0 0x00313423 []) (running (at2 0x7000000000) []) (fun u => (coreOf u 0 0).getCsr 0x342 == 7)) = true := by decide +kernel
def reserved : CoreSt := { core0 with
  resv := some (lineNo false 64) }
/-- AMOADD.D x1, x3, (x2); LR.D x1, (x2); SC.D x1, x3, (x2). -/
theorem test_coreAtomics : (ok (.coreAmo 0 0 0x003130AF []) (running core0 [.runCm (cmKey 0 64) [5]]) (fun u => (coreOf u 0 0).getX 1 == 5 && cmAt u (cmKey 0 64) == 14)
  && ok (.coreLr 0 0 0x100130AF []) (running core0 []) (fun u => (coreOf u 0 0).resv == some (lineNo false 64))
  && ok (.coreSc 0 0 0x183130AF true []) (running reserved []) (fun u => (coreOf u 0 0).getX 1 == 0 && cmAt u (cmKey 0 64) == 9)
  && ok (.coreSc 0 0 0x183130AF false []) (running reserved []) (fun u => (coreOf u 0 0).getX 1 == 1 && cmAt u (cmKey 0 64) == 0)) = true := by decide +kernel
def vec0 : CoreSt := { core0 with
  csr := [(0x300, 0x600), (0xC20, 9), (0xC21, 0)], v := [(8, 0x030303030303030303), (16, 0x040404040404040404)] }
/-- VSETVLI x1, x3, e8, m1; VADD.VV v24, v16, v8 with a vl of 9, of bytes of 3 and of 4. -/
theorem test_coreVector : (runs 0x0001F0D7 vec0 (fun k => k.getX 1 == 9 && k.getCsr 0xC20 == 9)
  && runs 0x03040C57 vec0 (fun k => (k.getV 24).toNat % 2 ^ 72 == 0x070707070707070707)) = true := by decide +kernel
theorem test_mtimer : (let s := running (core0.setCsr 0x304 0x80) [.fld (tk 0 .TILE_CORE_STAT) f_TILE_CORE_STAT_WFI 1, .reg (tk 0 .TILE_MTIMECMP 0) 5, at_ 9]
  mtip s 0 0 && ok (.mtimerExpire 0 0) s (fun u => !coreWfi u 0 0)) = true := by decide +kernel
theorem test_coreRun : (ok (.tileCoreRunWrite .host 0 2) (tiles [.reg (tk 0 .TILE_BOOT_PC 1) 64]) (fun u => tfld u 0 .TILE_CORE_RUN f_TILE_CORE_RUN_RUN == 2
    && (coreOf u 0 1).pc == 64 && !coreStopped u 0 1)
  && ok (.coreStopComplete 0 0) (running core0 [.fld (tk 0 .TILE_CORE_RUN) f_TILE_CORE_RUN_RUN 0]) (fun u => coreStopped u 0 0)
  && stays (.coreStopComplete 0 0) (running core0 [])
  && ok (.commRsvSet 0) (tiles []) (fun u => tfld u 0 .TILE_CORE_CTRL f_TILE_CORE_CTRL_COMM_RSV == 1)
  && (let s := tiles [.fld (tk 0 .TILE_CORE_RUN) f_TILE_CORE_RUN_RUN (2 ^ 23)]; tfld s 0 .TILE_CORE_CTRL f_TILE_CORE_CTRL_COMM_RSV == 0
    && bitOf (tfld s 0 .TILE_CORE_RUN f_TILE_CORE_RUN_RUN) 23)
  && ok (.coreStopComplete 0 23) (tiles [.fld (tk 0 .TILE_CORE_STAT) f_TILE_CORE_STAT_STOPPED 0, .fld (tk 0 .COL_RT_STAT) f_COL_RT_STAT_RUNNING 1])
    (fun u => tfld u 0 .COL_RT_STAT f_COL_RT_STAT_RUNNING == 0)) = true := by decide +kernel

/-! ### Queues and engines -/

/-- A descriptor of 64 B: opcode, flags, tag 0x1234, its own bytes from byte 8, no completion flag. -/
def d64 (op flags : Byte) (b : List Byte) : List Byte := [op, flags, 0x34, 0x12, 0, 0, 0, 0] ++ b ++ List.replicate (56 - b.length) 0
def d128 (op : Byte) (b : List Byte) : List Byte := [op, 0, 0x34, 0x12, 0, 0, 0, 0] ++ b ++ List.replicate (120 - b.length) 0
/-- Tile 0, both its memories scrubbed, with queue `q` of 16 entries enabled, its ring at 0x10000. -/
def queued (q : Nat) (es : List Eff) : State := tiles (.fld (tk 0 .CM_STAT) f_CM_STAT_SCRUB_DONE 1 :: .fld (tk 0 .TILE_VLT_STAT) f_TILE_VLT_STAT_SCRUB_DONE 1
  :: .fld (tk 0 .Q_DESC q) f_Q_DESC_ENABLE 1 :: .fld (tk 0 .Q_DESC q) f_Q_DESC_BASE 0x400 :: .fld (tk 0 .Q_DESC q) f_Q_DESC_LOG2_SIZE 4
  :: .fld (tk 0 .Q_CPL q) f_Q_CPL_BASE 0x800 :: es)
/-- The same with a descriptor posted. -/
def posted (q : Nat) (bs : List Byte) (es : List Eff) : State := queued q (.fld (tk 0 .Q_PI q) f_Q_PI_PI 1 :: .runCm (cmKey 0 0x10000) bs :: es)
def cmAre (u : State) (o : Nat) (bs : List Byte) : Bool := smRead 0 u.cm (cmKey 0 o) bs.length == bs
/-- The one descriptor that a queue runs: status, count, refused, done. -/
def runsOne (u : State) (q st n : Nat) (refused done : Bool) : Bool :=
  (queueOf u 0 q).run.map (fun d => (d.status, d.count, d.refused, d.done, d.tag)) == [(st, n, refused, done, 0x1234)] && tfld u 0 .Q_STAT f_Q_STAT_BUSY q == 1
def rsvd (es : List Eff) : State := queued 8 (.fld (tk 0 .TILE_CORE_CTRL) f_TILE_CORE_CTRL_COMM_RSV 1 :: es)
/-- R133, R134, R158: reserved, asleep, and taken. -/
theorem test_queueRsv : ([Instr.queuePiWrite .host 0 7 1, .queueDescWrite .host 0 7 false 0, .cqCiWrite .host 0 7 1, .queueAbort .host 0 7].all (fun c =>
  rsvQueue 7 && rsvBlocks (rsvd []) 0 .host && ok c (rsvd []) (fun u => tfld u 0 .TILE_CORE_STAT f_TILE_CORE_STAT_RSV_REFUSED == 1)
  && stays c (queued 7 [.fld (tk 0 .TILE_PWR_STAT) f_TILE_PWR_STAT_STATE 2]))) = true := by decide +kernel
def descWord : W64 := fset (fset (fset 0 f_Q_DESC_ENABLE 1) f_Q_DESC_BASE 0x400) f_Q_DESC_LOG2_SIZE 4
theorem test_queueWrites : (ok (.queuePiWrite .host 0 4 16) (queued 4 []) (fun u => qPI u 0 4 == 16)
  && ok (.queuePiWrite .host 0 4 17) (queued 4 []) (fun u => qPI u 0 4 == 0 && tfld u 0 .Q_STAT f_Q_STAT_QERR 4 == 1)
  && ok (.queueDescWrite .host 0 4 false descWord) (tiles []) (fun u => regOf u (tk 0 .Q_DESC 4) == descWord)
  && ok (.queueDescWrite .host 0 4 true (fset 0 f_Q_CPL_BASE 7)) (queued 4 []) (fun u => tfld u 0 .Q_CPL f_Q_CPL_BASE 4 == 7)
  && ok (.queueDescWrite .host 0 4 false (fset descWord f_Q_DESC_BASE 8)) (posted 4 [] []) (fun u => tfld u 0 .Q_STAT f_Q_STAT_CFG_ERR 4 == 1)
  && ok (.cqCiWrite .host 0 4 3) (queued 4 []) (fun u => qCqCI u 0 4 == 3)) = true := by decide +kernel
/-- R136 to R139. -/
def doneDesc (flags status flagAddr : Nat) : Desc := { descRecord 0 (d64 1 0 []) with
  flags := flags, status := status, flagAddr := flagAddr, flagVal := 0x55, tag := 7, count := 9 }
def finishing (d : Desc) (es : List Eff) : State := posted 4 [] (.putQueues (queueKey 0 4) ⟨1, [d], none⟩ :: es)
theorem test_descComplete : (ok (.descriptorComplete 0 4 0) (finishing (doneDesc 0 0 0) []) (fun u => qCI u 0 4 == 1 && (queueOf u 0 4).run == [] && qCqPI u 0 4 == 0)
  && ok (.descriptorComplete 0 4 0) (finishing (doneDesc 1 0 0) []) (fun u => qCqPI u 0 4 == 1 && smRead 0 u.cm (cmKey 0 0x20000) 2 == [7, 0])
  && ok (.descriptorComplete 0 4 0) (finishing (doneDesc 0 3 0) []) (fun u => qCqPI u 0 4 == 1 && tfld u 0 .Q_ERR_CNT f_Q_ERR_CNT_COUNT 4 == 1)
  && stays (.descriptorComplete 0 4 0) (finishing (doneDesc 1 0 0) [.fld (tk 0 .Q_CQ_PI 4) f_Q_CQ_PI_CQ_PI 16])
  && stays (.descriptorComplete 0 4 1) (finishing (doneDesc 1 0 0) [])
  && ok (.descriptorComplete 0 4 0) (finishing (doneDesc 0 0 0x10000000100) []) (fun u => cmAt u (cmKey 0 0x100) == 0x55 && qCI u 0 4 == 1)) = true := by decide +kernel
theorem test_queueAbort : (stays (.queueAbort .host 0 4) (queued 4 [])
  && ok (.queueAbort .host 0 4) (posted 4 (d64 1 0 []) []) (fun u => tfld u 0 .Q_STAT f_Q_STAT_ABORTING 4 == 1 && (queueOf u 0 4).next == 1)) = true := by decide +kernel

/-- A COPY of `n` bytes, one row, from cluster memory 0x100 to 0x200. -/
def copyD (n : Byte) : List Byte := d64 1 0 (leBytes 8 0x10000000100 ++ leBytes 8 0x10000000200 ++ [n, 0, 0, 0, 1, 0, 0, 0])
def fillD : List Byte := d64 2 0 (leBytes 8 0x0807060504030201 ++ leBytes 8 0x10000000200 ++ [8, 0, 0, 0, 1, 0, 0, 0])
def rcxDesc : List Byte := d64 0x20 0 (leBytes 4 0x100 ++ leBytes 4 0x180 ++ leBytes 4 1 ++ leBytes 4 0 ++ [1, 1, 2, 0])
def vxeDesc : List Byte := d64 0x30 0 (leBytes 4 0x100 ++ leBytes 4 0x104 ++ leBytes 4 0x180 ++ leBytes 4 1 ++ [1, 1, 0, 0])
def compressD : List Byte := d64 0x60 0 (leBytes 4 0x100 ++ leBytes 4 0x200 ++ leBytes 4 4 ++ [1])
def decompressD : List Byte := d64 0x61 0 (leBytes 4 0x300 ++ leBytes 4 0x400 ++ leBytes 4 1)
def src4 : Eff := .runCm (cmKey 0 0x100) [1, 2, 3, 4, 5, 6, 7, 8]
/-- R135, R138: nothing posted; a poisoned ring line; an opcode of another queue; one left to its command; a check that fails; and one that passes. -/
theorem test_descTaken : (stays (.dmvCopy 0 0 []) (queued 4 [])
  && ok (.dmvCopy 0 0 []) (posted 4 (copyD 4) [.putCmPsn (0x10000 / 64) true]) (fun u => runsOne u 4 stFmt 0 true true || (queueOf u 0 4).run.length == 1)
  && ok (.dmvCopy 0 0 []) (posted 4 (d64 0x30 0 []) []) (fun u => runsOne u 4 stFmt 0 true true)
  && stays (.dmvFill 0 0) (posted 4 (copyD 4) [])
  && ok (.dmvCopy 0 0 []) (posted 4 (d64 1 0 [1]) []) (fun u => (queueOf u 0 4).run.all (fun d => d.refused && d.status != stOK))) = true := by decide +kernel
/-- R140. -/
theorem test_dmvCopy : ok (.dmvCopy 0 0 []) (posted 4 (copyD 4) [src4]) (fun u => cmAre u 0x200 [1, 2, 3, 4, 0] && runsOne u 4 stOK 4 false true) = true := by decide +kernel
theorem test_dmvFill : ok (.dmvFill 0 0) (posted 4 fillD []) (fun u =>
  cmAre u 0x200 [1, 2, 3, 4, 5, 6, 7, 8, 0] && runsOne u 4 stOK 8 false true) = true := by decide +kernel
/-- R187, R192: tile 1's cluster memory. -/
def putD (op : Byte) : List Byte := d64 op 0 (leBytes 8 0x10000800200 ++ leBytes 4 0x100 ++ leBytes 4 4)
theorem test_nqGet : ok (.nqGet 0 0) (posted (nqQ 0) (putD 0x41) []) (fun u => (niuqAt u 0).length == 1
  && (queueOf u 0 (nqQ 0)).run.map (fun d => (d.pend, d.status)) == [(1, stOK)]) = true := by decide +kernel
theorem test_nqPut : ok (.nqPut 0 0 []) (posted (nqQ 0) (putD 0x40) [src4]) (fun u => (niuqAt u 0).map (fun r => (r.pkt.data, r.pkt.dtile.toNat, r.pkt.op.toNat)) == [([1, 2, 3, 4], 1, opWr)]
  && (queueOf u 0 (nqQ 0)).run.map (fun d => (d.pend, d.status)) == [(1, stOK)]) = true := by decide +kernel

/-- R144, R145: a 1 × 1 product of INT8 2 and 3 over K = 1, into INT32; gated with one piece where np is 1. -/
def mxeDesc (np : Byte) : List Byte := d128 0x10 (leBytes 4 0x100 ++ leBytes 4 0x140 ++ leBytes 4 0x180 ++ leBytes 4 0 ++ [1, 0, 1, 0, 1, 0, 0, 0]
  ++ leBytes 4 4 ++ leBytes 4 4 ++ leBytes 4 4 ++ [0xB, 0xB, 9, 0] ++ List.replicate 16 0 ++ leBytes 4 0x200 ++ leBytes 4 1 ++ [np, 0, np, 0, 0, 0, 5, 0])
def mats : List Eff := [.runCm (cmKey 0 0x100) [2], .runCm (cmKey 0 0x140) [3]]
theorem test_mxe : ok (.mxeMatmul 0 0 []) (posted 0 (mxeDesc 0) mats) (fun u => cmAre u 0x180 [6, 0, 0, 0] && runsOne u 0 stOK 1 false true) = true := by decide +kernel
theorem test_mxeGated : ok (.mxeMatmul 0 0 []) (posted 0 (mxeDesc 1) mats) (fun u => (mxeAt u 0).isSome && cmAre u 0x180 [0]
  && stays (.mxeMatmul 0 0 []) u && stays (.mxePieceReady 0 1 0 []) u
  && ok (.mxeGateTimeout 0) u (fun v => mxeAt v 0 == none && (queueOf v 0 0).run.map (·.status) == [stGate])) = true := by decide +kernel
theorem test_mxePiece : ok (.mxeMatmul 0 0 []) (posted 0 (mxeDesc 1) (.runCm (cmKey 0 0x200) [1] :: mats)) (fun u =>
  ok (.mxePieceReady 0 1 0 []) u (fun v => mxeAt v 0 == none && cmAre v 0x180 [6, 0, 0, 0]) && stays (.mxeGateTimeout 0) u) = true := by decide +kernel
/-- R150: FP32 1.0 to FP16 is 0x3C00; R152: 1.0 + 2.0 in FP32. -/
def ones : Eff := .runCm (cmKey 0 0x100) [0, 0, 0x80, 0x3F, 0, 0, 0, 0x40]
theorem test_rcx : ok (.rcxConvert 0 []) (posted 2 rcxDesc [ones]) (fun u =>
  runsOne u 2 stOK 1 false true && cmAre u 0x180 [0, 0x3C, 0]) = true := by decide +kernel
theorem test_vxe : ok (.vxeOp 0 []) (posted 1 vxeDesc [ones]) (fun u =>
  runsOne u 1 stOK 1 false true && cmAre u 0x180 [0, 0, 0x40, 0x40, 0]) = true := by decide +kernel

/-- R265 to R269: four bytes stored as they are; an eviction; a load whose image is all zero fails its check. -/
theorem test_cdxCompress : ok (.cdxCompress 0 false []) (posted 3 compressD [src4]) (fun u =>
  (queueOf u 0 3).run.map (fun d => (d.status, d.done)) == [(stOK, true)] && cdxLastAt u 0 == 3) = true := by decide +kernel
def blk4 : State → List Byte := fun s => match exec (.cdxCompress 0 false []) s with
  | .next u => smRead 0 u.cm (cmKey 0 0x200) 64
  | _ => []
theorem test_cdxDecompress : (let b := blk4 (posted 3 compressD [src4])
  ok (.cdxDecompress 0 false []) (posted 3 decompressD [.runCm (cmKey 0 0x300) b]) (fun u =>
    cmAre u 0x400 [1, 2, 3, 4, 0] && (queueOf u 0 3).run.map (fun d => (d.status, d.done)) == [(stOK, true)])) = true := by decide +kernel
theorem test_cdxEvict : (ok (.cdxTblEvict 0 false) (posted 3 (d64 0x64 0 [7, 0]) []) (fun u => (cdxReqAt u 0).map (fun r => (r.q, r.id)) == [(3, 7)]
    && (queueOf u 0 3).run.map (fun d => (d.pend, d.ext == .tbl)) == [(0, true)]
    && ok (.tblSwitch 0 false 0) u (fun v => cdxReqAt v 0 == []) && stays (.tblSwitch 0 false 1) u)) = true := by decide +kernel
def buildState : State := posted 3 (d64 0x62 0 (leBytes 4 0x100 ++ leBytes 4 0x400 ++ leBytes 4 8 ++ [9, 0, 1, 0, 0, 0])) [src4]
theorem test_cdxBuild : ok (.cdxTblBuild 0 false []) buildState (fun u => (queueOf u 0 3).run.map (fun d => (d.status, d.done)) == [(stOK, true)]
  && cmAre u 0x400 [9, 0]) = true := by decide +kernel
def image16 : List Byte := match exec (.cdxTblBuild 0 false []) buildState with
  | .next u => smRead 0 u.cm (cmKey 0 0x400) 16
  | _ => []
theorem test_cdxLoad : (let img := image16
  ok (.cdxTblLoad 0 false []) (posted 3 (d64 0x63 0 (leBytes 4 0x400)) [.runCm (cmKey 0 0x400) img]) (fun u =>
    (cdxReqAt u 0).map (fun r => (r.q, r.id, r.img)) == [(3, 9, img)] && tblDrained u 0 ⟨3, 0, 9, img, []⟩)) = true := by decide +kernel

/-! ### Sleep -/

def pwrAt (st : Nat) (es : List Eff) : State := tiles (.fld (tk 3 .TILE_PWR_STAT) f_TILE_PWR_STAT_STATE st :: es)
def selfRef : Eff := setBit (tk 3 .TILE_VLT_STAT) f_TILE_VLT_STAT_SELF_REFRESH
/-- R157, R158. -/
theorem test_sleep : (ok (.tileSleep 3) (pwrAt 0 []) (fun u => tilePwr u 3 == 3)
  && ok (.tileSleep 3) (pwrAt 1 [.fld (tk 3 .TILE_CORE_STAT) f_TILE_CORE_STAT_STOPPED 1]) (fun u => tfld u 3 .TILE_PWR_STAT f_TILE_PWR_STAT_SLEEP_REFUSED == 1 && tilePwr u 3 == 1)
  && stays (.tileSleep 3) (pwrAt 2 [])
  && ok (.sleepEntryComplete 3) (pwrAt 3 []) (fun u => tilePwr u 3 == 2 && selfRefresh u 3)
  && ok (.sleepEntryComplete 3) (pwrAt 3 [.putTileLeave 3 true]) (fun u => tilePwr u 3 == 3)
  && stays (.sleepEntryComplete 3) (pwrAt 2 []) && stays (.sleepEntryComplete 3) (pwrAt 3 [selfRef])) = true := by decide +kernel
theorem test_wake : (ok (.tileWake 3) (pwrAt 2 []) (fun u => tilePwr u 3 == 3 && tileLeaveAt u 3) && ok (.tileWake 3) (pwrAt 3 []) (fun u => tileLeaveAt u 3)
  && stays (.tileWake 3) (pwrAt 1 [])
  && ok (.wakeComplete 3) (pwrAt 3 [selfRef]) (fun u => tilePwr u 3 == 0 && tfld u 3 .TILE_PWR_STAT f_TILE_PWR_STAT_WAKES == 1 && !selfRefresh u 3)
  && stays (.wakeComplete 3) (pwrAt 3 [])) = true := by decide +kernel
def dozing : List Eff := [.fld (tk 3 .TILE_PWR_CTRL) f_TILE_PWR_CTRL_DOZE_EN 1]
theorem test_doze : (mayDoze (pwrAt 0 dozing) 3 && ok (.dozeEnter 3) (pwrAt 0 dozing) (fun u => tilePwr u 3 == 1)
  && stays (.dozeEnter 3) (pwrAt 1 dozing) && stays (.dozeEnter 3) (pwrAt 0 [.fld (tk 3 .TILE_PWR_CTRL) f_TILE_PWR_CTRL_DOZE_EN 0])
  && ok (.dozeWake 3) (pwrAt 1 []) (fun u => tilePwr u 3 == 0 && tfld u 3 .TILE_PWR_STAT f_TILE_PWR_STAT_WAKES == 1)
  && stays (.dozeWake 3) (pwrAt 0 [])) = true := by decide +kernel

/-! ### The Burst Network -/

/-- A packet from tile 1 to tile 3 of this chip. -/
def bnp (op : BitVec 5) (len : BitVec 13) (addr : BitVec 42) (data : List Byte) : BnPkt := ⟨0, 0, 0, 3, len, op, 1, false, 0, 9, 1, addr, data, []⟩
def served (es : List Eff) : State := tiles (.fld (tk 3 .CM_STAT) f_CM_STAT_SCRUB_DONE 1 :: .fld (tk 3 .TILE_VLT_STAT) f_TILE_VLT_STAT_SCRUB_DONE 1 :: es)
def mem3 : Eff := .runCm (cmKey 3 64) [1, 2, 3, 4, 5, 6, 7, 8]
/-- The one packet that the NIU of tile 3 holds: its OP, destination, tag, status and bytes. -/
def answered (u : State) (op st : Nat) (bs : List Byte) : Bool :=
  (niuqAt u 3).map (fun r => (r.pkt.op.toNat, r.pkt.dtile.toNat, r.pkt.tag.toNat, r.pkt.addr.toNat % 256, r.pkt.data)) == [(op, 1, 9, st, bs)]
/-- R189. -/
theorem test_bnRead : (ok (.bnRdReq 3 (bnp 0 4 64 []) []) (served [mem3]) (fun u => answered u opRdRsp stOK [1, 2, 3, 4])
  && ok (.bnRdReq 3 (bnp 0 4 (2 ^ 39) []) []) (served []) (fun u => answered u opRdRsp stAddr [])
  && ok (.bnRdReq 3 (bnp 5 4 64 []) []) (served []) (fun u => tfld u 3 .NIU_BAD_OP_CNT f_NIU_BAD_OP_CNT_COUNT == 1)
  && stays (.bnRdReq 3 (bnp 1 4 64 []) []) (served [])) = true := by decide +kernel
theorem test_bnWrite : (ok (.bnWr 3 (bnp 1 4 64 [9, 8, 7, 6]) []) (served [mem3]) (fun u => answered u opWrAck stOK [] && smRead 0 u.cm (cmKey 3 64) 5 == [9, 8, 7, 6, 5])
  && ok (.bnWr 3 (bnp 1 4 (2 ^ 39) [9, 8, 7, 6]) []) (served []) (fun u => answered u opWrAck stAddr [])
  && ok (.bnWr 3 (bnp 1 4 64 [9, 8, 7, 6]) []) (served [.reg (dk .TILE_DOWN_MAP 0) 8]) (fun u => answered u opWrAck stDown [] && u.cm == [])) = true := by decide +kernel
def amoP (size : Byte) : BnPkt := bnp 3 16 64 ([1, size] ++ List.replicate 6 0 ++ leBytes 8 5)
theorem test_bnAmo : (ok (.bnAmo 3 (amoP 8) []) (served [.runCm (cmKey 3 64) [7]]) (fun u => answered u opAmoRsp stOK (leBytes 8 7) && cmAt u (cmKey 3 64) == 12)
  && ok (.bnAmo 3 (amoP 3) []) (served []) (fun u => answered u opAmoRsp stAddr [])) = true := by decide +kernel
theorem test_bnMcWr : ok (.bnMcWr 3 (bnp 8 4 64 [9, 8, 7, 6]) []) (served []) (fun u => answered u opMcAck stOK [] && cmAt u (cmKey 3 64) == 9) = true := by decide +kernel
theorem test_bnScrubWaits : (let p := bnp 0 4 64 []
  bnWaits (tiles []) 3 p && [Instr.bnRdReq 3 p [], .bnWr 3 p [], .bnWrCb 3 p [], .bnAmo 3 p [], .bnMcWr 3 p [], .bnMcWrCb 3 p []].all (fun c => stays c (tiles []))) = true := by
  decide +kernel
/-- A codeblock of 32 zero bytes (R252); the CRC-32C of 32 zero bytes is that of RFC 3720. -/
def zeroBlk : List Byte := [0x1F, 0x10, 0, 0, 0, 0, 0, 0, 0x12, 0, 0, 0x10, 0xAA, 0x36, 0x91, 0x8A, 0, 0]
theorem test_bnCodeblock : (ok (.bnWrCb 3 (bnp 2 18 64 zeroBlk) []) (served [mem3]) (fun u => cmAt u (cmKey 3 65) == 0 && answered u opWrAck stOK [])
  && ok (.bnMcWrCb 3 (bnp 9 18 64 zeroBlk) []) (served [mem3]) (fun u => cmAt u (cmKey 3 65) == 0 && answered u opMcAck stOK [])) = true := by decide +kernel

/-- R188, R712: an answer to tag 9 of tile 3. -/
def tagged (o : Owner) (op : BitVec 5) : Eff := .putTags (tagKey 3 9) (.out o (bnp op 4 64 []))
def quar : Eff := .putTags (tagKey 3 9) .quar
theorem test_bnAnswers : ([(Instr.bnRdRsp 3 (bnp 0x10 4 0 []) [], 0), (.bnWrAck 3 (bnp 0x11 0 0 []), 1), (.bnAmoRsp 3 (bnp 0x12 8 0 []), 3), (.bnMcAck 3 (bnp 0x13 0 0 []), 4)].all (fun p =>
  ok p.1 (tiles [quar]) (fun u => dfld u .ERR_LATE_RSP_CNT f_ERR_LATE_RSP_CNT_COUNT == 1 && tagOf u 3 9 == .quar)
  && ok p.1 (tiles []) (fun u => tagOf u 3 9 == .free)
  && ok p.1 (tiles [tagged (.flag 4 0) 2]) (fun u => p.2 == 1 || tagOf u 3 9 != .free)
  && (p.2 == 4 || ok p.1 (tiles [tagged (.flag 4 0) (BitVec.ofNat 5 p.2)]) (fun u => tagOf u 3 9 == .free)))) = true := by decide +kernel
def coreWaits (k : CoreAcc) : Eff := .putCores (coreKey 3 0) { CoreSt.init with
  outst := [⟨k, 5, 64, 4, .x 1 false, 0⟩] }
theorem test_bnCoreAnswers : (ok (.bnRdRsp 3 (bnp 0x10 4 0 [1, 2, 0, 0]) []) (tiles [tagged (.core 0 5) 0, coreWaits .load]) (fun u => (coreOf u 3 0).getX 1 == 0x201 && (coreOf u 3 0).outst == [])
  && ok (.bnWrAck 3 (bnp 0x11 0 0 [])) (tiles [tagged (.core 0 5) 1, coreWaits .store]) (fun u => (coreOf u 3 0).outst == [])
  && ok (.bnAmoRsp 3 (bnp 0x12 8 0 [7, 0, 0, 0, 0, 0, 0, 0])) (tiles [tagged (.core 0 5) 3, coreWaits .amo]) (fun u => (coreOf u 3 0).getX 1 == 7)) = true := by decide +kernel
def mcTag (w : List Nat) : Eff := tagged (.mcast 9 0 w false none) 8
theorem test_bnMcAck : (ok (.bnMcAck 3 (bnp 0x13 0 0 [])) (tiles [mcTag [1, 2]]) (fun u => tagOf u 3 9 == .out (.mcast 9 0 [2] false none) (bnp 8 4 64 []))
  && ok (.bnMcAck 3 (bnp 0x13 0 0 [])) (tiles [mcTag [1]]) (fun u => tagOf u 3 9 == .free)
  && ok (.bnMcAck 3 (bnp 0x13 0 0 [])) (tiles [mcTag [2]]) (fun u => tagOf u 3 9 != .free)) = true := by decide +kernel
def tmo (n : Nat) : Eff := .fld (dk .ERR_CFG) f_ERR_CFG_RSP_TMO n
theorem test_rspTimeout : (stays (.rspTimeout (.tag 3 9)) (tiles [tmo 0, tagged (.flag 4 0) 1])
  && ok (.rspTimeout (.tag 3 9)) (tiles [tmo 1, tagged (.flag 4 0) 1]) (fun u => tagOf u 3 9 == .quar && dfld u .ERR_RSP_TMO_CNT f_ERR_RSP_TMO_CNT_COUNT == 1)
  && ok (.rspTimeout (.core 3 0 0)) (tiles [tmo 1, coreWaits .regRd]) (fun u => (coreOf u 3 0).outst.map (·.kind) == [.late])) = true := by decide +kernel
theorem test_quarantineEnd : (ok (.quarantineEnd (.tag 3 9)) (tiles [quar]) (fun u => tagOf u 3 9 == .free) && stays (.quarantineEnd (.tag 3 9)) (tiles [tagged (.flag 4 0) 1])
  && ok (.quarantineEnd (.core 3 0 0)) (tiles [coreWaits .late]) (fun u => (coreOf u 3 0).outst == [])) = true := by decide +kernel

/-- R186, R188: a packet starts at tile 1. -/
def starting : Eff := .putNiuq 1 [⟨bnp 1 4 64 [9, 8, 7, 6], 0, .core 0 5⟩]
theorem test_bnInject : (ok (.bnPacketInject 1 0 0) (tiles [starting]) (fun u => u.bn.map (fun f => (f.at_, f.inp, f.pkt.tag.toNat)) == [(1, 4, 0)] && niuqAt u 1 == [] && tagOf u 1 0 != .free)
  && stays (.bnPacketInject 1 0 0) (tiles [])) = true := by decide +kernel
/-- R179: the tile number is 16 × column + row, as R31 lays it out; from tile 1 a packet to tile 3 goes on; at tile 3 it leaves. -/
def onBn (t : Nat) : Eff := .setBn [⟨bnp 1 4 64 [9, 8, 7, 6], t, 4, false, none, none⟩]
theorem test_bnRoute : (let p := bnp 1 4 64 [9, 8, 7, 6]
  ok (.bnRoute 3 4 p .ok 0) (tiles [onBn 3]) (fun u => u.bn.map (fun f => (f.at_, f.ej)) == [(3, true)])
  && ok (.bnRoute 1 4 p .ok 0) (tiles [onBn 1]) (fun u => u.bn.length == 1 && u.bn.all (fun f => f.at_ != 1 && !f.ej))
  && ok (.bnRoute 1 4 p .hdrUe 0) (tiles [onBn 1]) (fun u => u.bn == [] && tfld u 1 .BN_TILE_STAT f_BN_TILE_STAT_HDR_UE == 1)
  && stays (.bnRoute 1 0 p .ok 0) (tiles [onBn 1])) = true := by decide +kernel
theorem test_bnPlaneCfg : (ok (.bnPlaneCfgWrite 1) (tiles []) (fun u => regOf u (dk .BN_PLANE_CFG) == accWrite (regFields (dk .BN_PLANE_CFG)) (regReset (dk .BN_PLANE_CFG)) 1 allBits)
  && ok (.bnPlaneCfgWrite allBits) (tiles [.setAdmittedSince true]) (fun u => dfld u .EPC_STAT f_EPC_STAT_NEEDS_QUIESCE == 1)) = true := by decide +kernel

/-! ### Multicasts and reductions -/

/-- R192, R193: 4 bytes at 0x100 to offset 0x300 of tiles 1 to 3. -/
def mcast (near far : Byte) : List Byte := d64 0x42 0 (leBytes 4 0x300 ++ [near, 0, far, 0] ++ leBytes 4 0x100 ++ leBytes 4 4)
theorem test_nqMcast : (ok (.nqMcast 0 0 []) (posted (nqQ 0) (mcast 1 3) [src4]) (fun u => (niuqAt u 0).map (fun r => (r.pkt.op.toNat, r.pkt.dtile.toNat, r.pkt.far.toNat, r.pkt.data)) == [(opMcWr, 1, 3, [1, 2, 3, 4])]
    && (queueOf u 0 (nqQ 0)).run.map (fun d => (d.pend, d.status)) == [(1, stOK)])
  && ok (.nqMcast 0 0 []) (posted (nqQ 0) (mcast 3 1) [src4]) (fun u => (niuqAt u 0).length == 0 || (queueOf u 0 (nqQ 0)).run.length == 1)) = true := by decide +kernel
/-- SKIP_SELF with only the own tile in the rectangle: no target. -/
theorem test_nqMcastNone : ok (.nqMcast 0 0 []) (posted (nqQ 0) (d64 0x42 0 (leBytes 4 0x300 ++ [0, 0, 0, 0] ++ leBytes 4 0x100 ++ leBytes 4 4 ++ [0, 0, 0, 1])) [src4]) (fun u =>
  (niuqAt u 0) == [] && (queueOf u 0 (nqQ 0)).run.map (fun d => (d.done, d.status, d.count)) == [(true, stOK, 0)]) = true := by decide +kernel
/-- R215: two INT32 elements to tile 3, RID 7. -/
def redDesc : List Byte := d64 0x43 0 ([3, 0, 7, 0] ++ leBytes 4 0x100 ++ leBytes 4 0 ++ leBytes 4 2 ++ [0, 0, 0, 0, 9, 0, 0, 0])
theorem test_nqReduce : ok (.nqReduce 0 0 []) (posted (nqQ 0) redDesc [src4]) (fun u => (niuqAt u 0).length == 1
  && (queueOf u 0 (nqQ 0)).run.map (fun d => (d.pend, d.status)) == [(1, stOK)]) = true := by decide +kernel
/-- R491: an XMCAST for the box of this chip alone. -/
def xmcast : List Byte := d64 0x44 0 (leBytes 4 0x300 ++ [1, 0, 3, 0] ++ leBytes 4 0x100 ++ [4, 0, 0, 0] ++ leBytes 4 0 ++ leBytes 4 0x800 ++ leBytes 8 0)
theorem test_nqXmcast : ok (.nqXmcast 0 0 []) (posted (nqQ 0) xmcast [src4]) (fun u => (niuqAt u 0).map (fun r => (r.pkt.op.toNat, r.pkt.dtile.toNat, r.pkt.far.toNat, r.pkt.data)) == [(opMcWr, 1, 3, [1, 2, 3, 4])]
  && (queueOf u 0 (nqQ 0)).run.map (fun d => (d.pend, d.status)) == [(1, stOK)]) = true := by decide +kernel
/-- R222: RID 7, EXPECT 2, one INT64 accumulator at 0x400, its INT32 result at 0x500. -/
def armDesc : List Byte := d64 0x50 0 ([7, 0, 2, 0] ++ leBytes 4 1 ++ leBytes 4 0x400 ++ leBytes 4 0x500 ++ [9, 0, 4, 0])
def ctxsTaken : List Eff := (List.range 16).map (fun c => .fld (tk 0 .RED_CTX c) f_RED_CTX_VALID 1)
theorem test_redArm : (ok (.redArm 0) (posted 13 armDesc []) (fun u => (queueOf u 0 13).run.map (·.ext) == [.redCtx 0] && tfld u 0 .RED_CTX f_RED_CTX_RID 0 == 7)
  && ok (.redArm 0) (posted 13 armDesc ctxsTaken) (fun u => (queueOf u 0 13).run.map (·.ext) == [.redCtx 16]
    && stays (.redArmStart 0) u && ok (.redArmStart 0) (applyAll u [.fld (tk 0 .RED_CTX 5) f_RED_CTX_VALID 0]) (fun v => (queueOf v 0 13).run.map (·.ext) == [.redCtx 5]))
  && stays (.redArmStart 0) (tiles [])) = true := by decide +kernel

/-- The descriptors of the tests pass every check (R135, R138). -/
def passes (s : State) (q opc : Nat) (check : State → List Byte → Nat) : Bool :=
  let nd := nextDesc s 0 q
  mayRead s 0 q (leAt nd.1 1 1) && !nd.2 && (queueOf s 0 q).run == [] && leAt nd.1 0 1 == opc && stMerge (headerStatus s 0 nd.1) (check s nd.1) == stOK
theorem test_passes : (passes (posted 4 (copyD 4) []) 4 1 (dmvCheck 0 false) && passes (posted (nqQ 0) (putD 0x40) []) (nqQ 0) 0x40 (putCheck 0 false)
  && passes (posted (nqQ 0) (putD 0x41) []) (nqQ 0) 0x41 (putCheck 0 true) && passes (posted 0 (mxeDesc 0) []) 0 0x10 (fun _ bs => mxeCheck 0 bs)
  && passes (posted 0 (mxeDesc 1) []) 0 0x10 (fun _ bs => mxeCheck 0 bs) && passes (posted (nqQ 0) (mcast 1 3) []) (nqQ 0) 0x42 (mcastCheck 0)
  && passes (posted (nqQ 0) xmcast []) (nqQ 0) 0x44 (xmcastCheck 0) && passes (posted (nqQ 0) redDesc []) (nqQ 0) 0x43 (redCheck 0)
  && passes (posted 13 armDesc []) 13 0x50 (armCheck 0)) = true := by decide +kernel
theorem test_passesToo : (passes (posted 4 fillD []) 4 2 (dmvCheck 0 true) && passes (posted 2 rcxDesc []) 2 0x20 (fun _ bs => rcxCheck 0 bs)
  && passes (posted 1 vxeDesc []) 1 0x30 (fun _ bs => vxeCheck 0 bs) && passes (posted 3 compressD []) 3 0x60 (compressCheck 0)
  && passes (posted 3 decompressD []) 3 0x61 (fun _ bs => decompressCheck 0 bs) && passes buildState 3 0x62 (fun _ bs => buildCheck 0 bs)
  && passes (posted 3 (d64 0x64 0 [7, 0]) []) 3 0x64 (fun _ bs => evictCheck bs)) = true := by decide +kernel
theorem test_passesLoad : (let img := image16
  passes (posted 3 (d64 0x63 0 (leBytes 4 0x400)) [.runCm (cmKey 0 0x400) img]) 3 0x63 (loadCheck 0)) = true := by decide +kernel

/-! ### In the routers -/

/-- A partial of one INT64 element for tile 3, RID 7, from tile 1. -/
def part (jw : Nat) (ord : Bool) (x : Nat) : BnPkt := ⟨0, 0, 0, 3, 8, 0x19, 1, false, 0, 1, 1, redAddr 0xE 0 0 7 jw ord, leBytes 8 x, []⟩
def arriving (p : BnPkt) (t : Nat) (es : List Eff) : State := tiles (.setBn [⟨p, t, 4, false, none, none⟩] :: es)
/-- The output towards tile 3 from tile 1. -/
def outOf : Nat := (unicastOut (tiles []) 1 3 3 (part 0 false 1)).1
def holds1 (p : BnPkt) (inp : Nat) : Eff := .putRedSlot 1 [⟨p, outOf, inp⟩]
def arr (p : BnPkt) (es : List Eff) (P : State → Bool) : Bool := ok (.redRouterArrival 1 4 p .ok []) (arriving p 1 es) P
def gone1 (u : State) (x : Nat) : Bool := u.bn.map (fun f => (f.pkt.data, f.held)) == [(leBytes 8 x, some outOf)]
/-- R225: held; combined; gone on without a join window. -/
theorem test_redDefault : (arr (part 5 false 2) [] (fun u => u.bn == [] && (redSlotAt u 1).length == 1)
  && arr (part 5 false 2) [holds1 (part 5 false 40) 3] (fun u => gone1 u 42 && redSlotAt u 1 == [])
  && arr (part 0 false 2) [] (fun u => gone1 u 2 && redSlotAt u 1 == [])
  && stays (.redRouterArrival 1 4 (bnp 1 4 64 []) .ok []) (arriving (bnp 1 4 64 []) 1 [])
  && ok (.redRouterArrival 1 4 (part 5 false 2) .hdrUe []) (arriving (part 5 false 2) 1 []) (fun u => u.bn == [] && tfld u 1 .BN_TILE_STAT f_BN_TILE_STAT_HDR_UE == 1)) = true := by
  decide +kernel
def mask0 (m : Nat) : Eff := .fld (tk 1 .RED_OTREE_ACTIVE 0) f_RED_OTREE_ACTIVE_MASK0 m
/-- R235: input 4 is the local one; a tree of inputs 4 and 3. -/
theorem test_redOrdered : (arr (part 0 true 2) [mask0 0] (fun u => gone1 u 2) && arr (part 0 true 2) [mask0 16] (fun u => gone1 u 2)
  && arr (part 0 true 2) [mask0 24] (fun u => u.bn == [] && (redSlotAt u 1).length == 1)
  && arr (part 0 true 2) [mask0 24, holds1 (part 0 true 40) 3] (fun u => gone1 u 42)
  && stays (.redRouterArrival 1 4 (part 0 true 2) .ok []) (arriving (part 0 true 2) 1 [mask0 24, .putRedSlot 1 (List.replicate 8 ⟨part 0 true 1, 4, 0⟩)])) = true := by decide +kernel
theorem test_redWindows : (ok (.redJoinWindowClose 1 (part 5 false 2)) (tiles [holds1 (part 5 false 2) 3]) (fun u => gone1 u 2 && redSlotAt u 1 == []
    && tfld u 1 .RED_HOLD_EXP_CNT f_RED_HOLD_EXP_CNT_COUNT == 1)
  && stays (.redJoinWindowClose 1 (part 5 false 2)) (tiles [])
  && ok (.redOrderedTimeout 1 (part 0 true 2)) (tiles [holds1 (part 0 true 2) 3]) (fun u => gone1 u 2 && tfld u 1 .RED_STATUS f_RED_STATUS_ORD_BROKEN == 1)
  && stays (.redOrderedTimeout 1 (part 0 true 2)) (tiles [holds1 (part 0 true 2) 3, .fld (tk 1 .RED_CFG) f_RED_CFG_ORD_TMO 0])) = true := by decide +kernel

/-! ### At their contexts -/

def armed (k : RedSegSt) (es : List Eff) : State := served (.fld (tk 3 .RED_CTX 0) f_RED_CTX_VALID 1 :: .fld (tk 3 .RED_CTX 0) f_RED_CTX_RID 7
  :: .putQueues (queueKey 3 13) ⟨1, [{ descRecord 0 armDesc with
    ext := .redCtx 0 }], none⟩ :: .putRedSeg (segKey 3 0 0) k :: es)
/-- R229 to R233. -/
theorem test_redNiu : (ok (.redNiuArrival 3 (part 0 false 2) [] []) (armed ⟨0, false, false⟩ []) (fun u => smRead 0 u.cm (cmKey 3 0x400) 2 == [2, 0] && redSegAt u (segKey 3 0 0) == ⟨1, true, false⟩)
  && ok (.redNiuArrival 3 (part 0 false 2) [] []) (armed ⟨1, true, false⟩ [.runCm (cmKey 3 0x400) [40]]) (fun u => smRead 0 u.cm (cmKey 3 0x400) 2 == [42, 0] && redSegAt u (segKey 3 0 0) == ⟨2, true, false⟩)
  && stays (.redNiuArrival 3 (part 0 false 2) [] []) (tiles [])) = true := by decide +kernel
theorem test_redNiuNone : (ok (.redNiuArrival 3 (part 0 false 2) [] []) (served []) (fun u => tfld u 3 .RED_STATUS f_RED_STATUS_NOARM_SEEN == 1)
  && ok (.redNiuArrival 3 (part 0 false 2) [] []) (served [.reg (tk 3 .RED_DONE 0) 0x4000]) (fun u => tfld u 3 .RED_STATUS f_RED_STATUS_LATE_SEEN == 1)
  && ok (.redNiuArrival 3 (part 0 false 2) [] []) (served [.reg (dk .TILE_DOWN_MAP 0) 8]) (fun u => (niuqAt u 3).map (fun r => (r.pkt.op.toNat, r.pkt.dtile.toNat)) == [(opRedNak, 1)])) = true := by
  decide +kernel
theorem test_redRound : (ok (.redSegmentRound 3 0 0 []) (armed ⟨2, true, false⟩ [.runCm (cmKey 3 0x400) [42]]) (fun u => smRead 0 u.cm (cmKey 3 0x500) 4 == [42, 0, 0, 0]
    && (redSegAt u (segKey 3 0 0)).rounded && (queueOf u 3 13).run.map (fun d => (d.count, d.ext)) == [(1, .redCtx 32)])
  && stays (.redSegmentRound 3 0 0 []) (armed ⟨1, true, false⟩ []) && stays (.redSegmentRound 3 0 0 []) (tiles [])) = true := by decide +kernel
def nakP : BnPkt := { part 0 false 2 with
  op := 0x1A, far := 5 }
theorem test_redNak : (ok (.redNakReceive 3 nakP) (tiles []) (fun u => tfld u 3 .RED_NAK_CNT f_RED_NAK_CNT_COUNT == 1 && tfld u 3 .RED_STATUS f_RED_STATUS_NAK_SEEN == 1)
  && stays (.redNakReceive 3 (part 0 false 2)) (tiles [])
  && ok (.redDoneClr 3) (tiles [.reg (tk 3 .RED_DONE 0) 0xF]) (fun u => regOf u (tk 3 .RED_DONE 0) == 0xA)) = true := by decide +kernel

/-! ### Beacon and Taper -/

/-- A BEACON of 8 bytes at 0x100 of tile 0, on its row bus, channel 5, with its piece flag 0x77 (R282). -/
def beaconD : List Byte := d64 3 0 (leBytes 8 0x10000000100 ++ leBytes 4 8 ++ leBytes 4 0 ++ [0, 5, 0, 0, 0, 0, 0, 0] ++ leBytes 8 0x77)
theorem test_dmvBeacon : passes (posted 4 beaconD []) 4 3 (bcnCheck 0) && ok (.dmvBeacon 0 0) (posted 4 beaconD []) (fun u =>
  (queueOf u 0 4).run.map (·.ext) == [.beacon ⟨false, [], 0, false, []⟩]) = true := by decide +kernel
def ent16 : List Eff := [.fld (tk 16 .CM_STAT) f_CM_STAT_SCRUB_DONE 1, .reg (tk 16 .BCN_TAP_ENT 0) 0x858C, .reg (tk 16 .BCN_TAP_LAND 0) 0x200000001000]
/-- The transfer on its way; taps at the tiles of the row, 0 and 16. -/
def beaming (b : BcnX) (es : List Eff) : State := posted 4 beaconD (.putQueues (queueKey 0 4) ⟨1, [{ descRecord 0 beaconD with
  ext := .beacon b }], none⟩ :: ent16 ++ es)
def tapAt (next : Nat) (ended : Bool) : TapSt := ⟨0, 4, 0, some (0x858C, 0x200000001000), next, false, false, ended⟩
def onBus : BcnX := ⟨true, [48], 0, false, []⟩
def bytesRead : Eff := .putSrcBuf (srcKey 0 4 0) [⟨0, [1, 2, 3, 4, 5, 6, 7, 8], [false]⟩]
theorem test_beaconGrant : (ok (.beaconGrant 0 0 0 []) (beaming ⟨false, [], 0, false, []⟩ [src4]) (fun u => (bcnOf u 0 0).map (fun e => (e.2.started, e.2.held)) == some (true, [48])
    && busFreeNow u 48 == false)
  && stays (.beaconGrant 0 0 0 []) (beaming ⟨false, [], 0, false, []⟩ [.reg (dk .BCN_DEV_HELD) 1])
  && [Instr.beaconGrant 0 0 0 [], .beaconStartBeat 0 0 16 false, .beaconDataBeat 0 0 16 .ok 0, .beaconEndBeat 0 0 16 false, .beaconSummaryReturn 0 0, .beaconSummaryTimeout 0 0].all
    (fun c => stays c (tiles []))) = true := by decide +kernel
theorem test_beaconStart : (ok (.beaconStartBeat 0 0 16 false) (beaming onBus []) (fun u => bcnTapAt u (tapKey 16 0) == some (tapAt 0 false))
  && stays (.beaconStartBeat 0 0 16 false) (beaming ⟨false, [], 0, false, []⟩ []) && stays (.beaconStartBeat 0 0 1 false) (beaming onBus [])) = true := by decide +kernel
theorem test_beaconData : ok (.beaconDataBeat 0 0 16 .ok 0) (beaming onBus [bytesRead, .putBcnTap (tapKey 16 0) (some (tapAt 0 false))]) (fun u =>
  smRead 0 u.cm (cmKey 16 0x1000) 3 == [1, 2, 3] && cmAt u (cmKey 16 0x2000) == 0x77 && bcnTapAt u (tapKey 16 0) == some (tapAt 1 false)) = true := by decide +kernel
theorem test_beaconEnd : (ok (.beaconEndBeat 0 0 16 false) (beaming onBus [.putBcnTap (tapKey 16 0) (some (tapAt 1 false))]) (fun u =>
    bcnTapAt u (tapKey 16 0) == some (tapAt 1 true) && (bcnOf u 0 0).map (·.2.got) == some [(16, stOK)])
  && stays (.beaconEndBeat 0 0 16 false) (beaming onBus [.putBcnTap (tapKey 16 0) (some (tapAt 0 false))])) = true := by decide +kernel
def bothEnded : List Eff := [.putBcnTap (tapKey 16 0) (some (tapAt 1 true)), .putBcnTap (tapKey 0 0) (some ⟨0, 4, 0, none, 1, false, false, true⟩), .reg (dk .BCN_DEV_HELD) 1]
theorem test_beaconSummary : (ok (.beaconSummaryReturn 0 0) (beaming ⟨true, [48], 1, false, [(16, stOK)]⟩ bothEnded) (fun u => busFreeNow u 48
    && (queueOf u 0 4).run.map (fun d => (d.ext, d.status, d.count)) == [(.none, stOK, 1)] && bcnTapAt u (tapKey 16 0) == none)
  && stays (.beaconSummaryReturn 0 0) (beaming onBus [])
  && stays (.beaconSummaryTimeout 0 0) (beaming onBus [])
  && ok (.beaconSummaryTimeout 0 0) (beaming ⟨true, [48], 1, true, []⟩ []) (fun u => (queueOf u 0 4).run.map (fun d => (d.ext, d.status, d.count)) == [(.none, stPoisoned, 0)])) = true := by
  decide +kernel
theorem test_bcnTap : (ok (.bcnTapWrite 16 0 false 0x8510) (tiles []) (fun u => regOf u (tk 16 .BCN_TAP_ENT 0) == 0x8510)
  && ok (.bcnTapWrite 16 0 true 0x1000) (tiles []) (fun u => regOf u (tk 16 .BCN_TAP_LAND 0) == 0x1000)
  && ok (.bcnTapWrite 16 0 false 0x8503) (tiles []) (fun u => tfld u 16 .BCN_STAT f_BCN_STAT_CFG_ERR == 1)) = true := by decide +kernel

/-- A chain of one port: head and tail, landing, its ring of 4 KiB at 0x3000 (R293, R301). -/
def portW : W64 := 0xC0010000
def port0 (es : List Eff) : State := tiles (.fld (tk 0 .CM_STAT) f_CM_STAT_SCRUB_DONE 1 :: .reg (tk 0 .TPR_CFG) portW :: .fld (tk 0 .TPR_RING) f_TPR_RING_BASE 3
  :: .fld (tk 0 .TPR_RING) f_TPR_RING_LOG2 12 :: .fld (tk 0 .TPR_STAT) f_TPR_STAT_READY 1 :: es)
def taperD : List Byte := d64 4 0 (leBytes 8 0x10000000100 ++ leBytes 4 32)
def stream : List Eff := [.putQueues (queueKey 0 4) ⟨1, [{ descRecord 0 taperD with
  ext := .taper 1 }], none⟩, .putSrcBuf (srcKey 0 4 0) [⟨0, List.replicate 32 9, [false]⟩]]
theorem test_taperBeat : (ok (.taperBeatAccept 0 0) (port0 stream) (fun u => tfld u 0 .TPR_WP f_TPR_WP_WP == 32 && cmAt u (cmKey 0 0x3000) == 9)
  && stays (.taperBeatAccept 0 0) (port0 []) && stays (.taperBeatAccept 0 0) (tiles [])) = true := by decide +kernel
theorem test_dmvTaper : ok (.dmvTaper 0 0 []) (posted 4 taperD [.reg (tk 0 .TPR_CFG) portW, .fld (tk 0 .TPR_STAT) f_TPR_STAT_READY 1, .fld (tk 0 .TPR_STAT) f_TPR_STAT_BROKEN 1]) (fun u =>
  (queueOf u 0 4).run.map (fun d => (d.status, d.refused)) == [(stAborted, true)]) = true := by decide +kernel
theorem test_tprRp : (ok (.tprRpWrite 0 32) (port0 [.reg (tk 0 .TPR_WP) 64]) (fun u => tfld u 0 .TPR_RP f_TPR_RP_RP == 32)
  && ok (.tprRpWrite 0 32) (port0 []) (fun u => tfld u 0 .TPR_STAT f_TPR_STAT_RP_ERR == 1)) = true := by decide +kernel
theorem test_tprCfg : (ok (.tprCfgWrite 0 0 portW) (tiles []) (fun u => regOf u (tk 0 .TPR_CFG) == portW && tfld u 0 .TPR_STAT f_TPR_STAT_READY == 1)
  && ok (.tprCfgWrite 0 0 0) (tiles []) (fun u => tfld u 0 .TPR_STAT f_TPR_STAT_CFG_ERR == 1)
  && ok (.tprCfgWrite 0 2 5) (tiles []) (fun u => regOf u (tk 0 .TPR_FLAG_CFG) == (5 : W64) &&& regMask (tk 0 .TPR_FLAG_CFG))
  && ok (.tprCfgWrite 0 1 0x300C) (tiles []) (fun u => tfld u 0 .TPR_RING f_TPR_RING_BASE == 3)
  && ok (.tprCfgWrite 0 1 3) (tiles []) (fun u => tfld u 0 .TPR_STAT f_TPR_STAT_CFG_ERR == 1)
  && ok (.tprCfgWrite 0 1 0x300C) (port0 []) (fun u => tfld u 0 .TPR_STAT f_TPR_STAT_CFG_ERR == 1)) = true := by decide +kernel
def brk0 : Eff := .putTprBrk 0 true
theorem test_taperBreak : (stays (.taperBreak 0) (tiles []) && ok (.taperBreak 0) (tiles [brk0]) (fun u => !tprBrkAt u 0)
  && ok (.taperBreak 0) (port0 [brk0]) (fun u => tfld u 0 .TPR_STAT f_TPR_STAT_BROKEN == 1)) = true := by decide +kernel

/-! ### The CN and the AMQ -/

/-- CN request and answer packets: from a node, to a node (R312). -/
def rrdP (req off : Nat) : CnPkt := mkCn 1 0 0 0 8 (req * 2 ^ 25 + off) []
def rwrP (off : Nat) (v : List Byte) : CnPkt := mkCn 1 0 1 0 8 off v
def ansP (op req st : Nat) (v : List Byte) : CnPkt := mkCn 1 0 op 0 v.length (req * 2 ^ 25 + st) v
def full32 : Eff := .putCnq 0 (List.replicate 32 (ansP 8 0 0 []))
def kindGuards : List (Nat × (CnPkt → Instr)) := [(0, .cnRrd), (1, .cnRwr), (8, .cnRrsp), (9, .cnRwack)]
theorem test_cnBad : (kindGuards.all (fun e => stays (e.2 (mkCn 1 hub 4 0 0 0 [])) (tiles []))
  && stays (.cnRrd (ansP 8 0 0 [])) (tiles []) && stays (.cnRwack (ansP 8 0 0 [])) (tiles []) && stays (.cnIntr (ansP 8 0 0 [])) (tiles [])
  && stays (.cnRrd (rrdP 0 36864)) (tiles [full32]) && stays (.cnRwr (rwrP 36864 [])) (tiles [full32])
  && ok (.cnRrd (mkCn 1 0 0 0 3 0 [])) (tiles []) (fun u => tfld u 0 .CN_TILE_STAT f_CN_TILE_STAT_BAD_OP == 1 && tfld u 0 .CN_BAD_OP_CNT f_CN_BAD_OP_CNT_COUNT == 1
    && (cnqAt u 0).any (fun a => a.op == 8 && cnFld a 0 8 == stAddr))
  && ok (.cnIntr (mkCn 1 hub 4 0 1 0 [])) (tiles []) (fun u => tfld u 8 .CN_BAD_OP_CNT f_CN_BAD_OP_CNT_COUNT == 1)) = true := by decide +kernel
theorem test_cnRegs : (ok (.cnRrd (rrdP 2 36864)) (tiles [.reg (tk 0 .AMQ_CFG) 9]) (fun u => cnqAt u 0 == [mkCn 0 1 8 0 8 (2 * 2 ^ 25) [9, 0, 0, 0, 0, 0, 0, 0]])
  && ok (.cnRwr (rwrP 36864 [9, 0, 0, 0, 0, 0, 0, 0])) (tiles []) (fun u => regOf u (tk 0 .AMQ_CFG) == 9 && cnqAt u 0 == [mkCn 0 1 9 0 0 0 []]
    && frame (tiles []) u [tk 0 .AMQ_CFG])
  && ok (.cnRwr (rwrP 36865 [9, 0, 0, 0, 0, 0, 0, 0])) (tiles []) (fun u => cnqAt u 0 == [mkCn 0 1 9 0 0 stAddr []] && frame (tiles []) u [])
  && ok (.cnRwr { rwrP 36864 [9] with psn := true }) (tiles []) (fun u => cnqAt u 0 == [mkCn 0 1 9 0 0 stPoisoned []])
  && ok (.cnRwr (mkCn 0 hub 1 0 8 (28 * 2 ^ 25 + 262152) [0, 0, 0, 0, 0, 0, 0, 0])) (tiles []) (fun u => (cnqAt u hub).map (fun a => (a.op.toNat, cnDst a)) == [(9, 0)])) = true := by
  decide +kernel
def waitsFor (k : CoreAcc) (d : LdDst) : Eff := .putCores (coreKey 0 3) { CoreSt.init with outst := [⟨k, 1, 0, 8, d, 0⟩] }
theorem test_cnAnswers : (ok (.cnRrsp (ansP 8 3 0 [7, 0, 0, 0, 0, 0, 0, 0])) (tiles [waitsFor .regRd (.x 5 false)]) (fun u =>
    (coreOf u 0 3).outst == [] && (coreOf u 0 3).x == [(5, 7)])
  && ok (.cnRwack (ansP 9 3 0 [])) (tiles [waitsFor .regWr .none]) (fun u => (coreOf u 0 3).outst == [])) = true := by decide +kernel
theorem test_cnIntr : (ok (.cnIntr (mkCn 0 hub 4 0 0 5 [])) (tiles [.reg (dk .HIF_EVT_VEC 1) 0x80030000]) (fun u => u.msixPend == 8)
  && ok (.cnIntr (mkCn 0 hub 4 0 0 5 [])) (tiles [.reg (dk .HIF_EVT_VEC 1) 0]) (fun u => u.msixPend == 0)) = true := by decide +kernel
/-- A packet for tile 3 on its way at tile 0, and one that tile 0 starts (R315). -/
def passP : CnPkt := mkCn 0 3 0 0 8 0 []
def atTile0 : Eff := .setCn [⟨passP, 0, 2, false⟩]
theorem test_cnRoute : (stays (.cnRoute 0 4 (mkCn 0 3 12 0 0 0 []) .ok 0) (tiles [])
  && stays (.cnRoute 0 4 passP .ok 0) (tiles [])
  && ok (.cnRoute 0 2 passP .ok 0) (tiles [atTile0]) (fun u => u.cn == [⟨passP, 1, 0, false⟩])
  && ok (.cnRoute 0 2 passP .hdrUe 0) (tiles [atTile0]) (fun u => u.cn == [] && tfld u 0 .CN_TILE_STAT f_CN_TILE_STAT_HDR_UE == 1)
  && stays (.cnRoute 0 2 passP .ok 0) (tiles [.setCn [⟨passP, 0, 2, false⟩, ⟨{ mkCn 1 3 2 0 64 0 (List.replicate 64 1) with rcd := 1 }, 1, 0, false⟩,
    ⟨mkCn 1 3 2 0 64 0 (List.replicate 64 2), 1, 0, false⟩, ⟨mkCn 1 3 2 0 64 0 (List.replicate 64 3), 1, 0, false⟩, ⟨mkCn 1 3 2 0 64 0 (List.replicate 64 4), 1, 0, false⟩]])
  && ok (.cnRoute 0 4 passP .ok 0) (tiles [.putCnq 0 [passP]]) (fun u => u.cn == [⟨passP, 1, 0, false⟩] && cnqAt u 0 == [])) = true := by decide +kernel
theorem test_registerWrite : (ok (.registerWrite (.core 0 0) (some 0) 36864 true 9) (tiles []) (fun u => regOf u (tk 0 .AMQ_CFG) == 9)
  && ok (.registerWrite .host none 262152 false 0) (tiles []) (fun u => regOf u (dk .ERR_CFG) != regOf (tiles []) (dk .ERR_CFG) || rg (tiles []) (dk .ERR_CFG) % 2 ^ 32 == 0)
  && stays (.registerWrite .host none 262153 false 0) (tiles [])
  && ok (.registerWrite .host (some 0) 0xFFF8 true 9) (tiles []) (fun u => frame (tiles []) u [])) = true := by decide +kernel

/-- Channel records: a sender 1 and a receiver 2, their states set (R321). -/
def sendRec (st : Nat) (es : List Eff) : State := tiles (.fld (tk 0 .CM_STAT) f_CM_STAT_SCRUB_DONE 1 :: .fld (tk 0 .AMQ_CHAN_CFG 1) f_AMQ_CHAN_CFG_ROLE 1
  :: .fld (tk 0 .AMQ_CHAN_CFG 1) f_AMQ_CHAN_CFG_PEER 3 :: .fld (tk 0 .AMQ_CHAN_STAT 1) f_AMQ_CHAN_STAT_STATE st :: .fld (tk 0 .AMQ_CHAN_STAT 1) f_AMQ_CHAN_STAT_PEER_TILE 3 :: es)
def recvRec (st : Nat) (es : List Eff) : State := tiles (.fld (tk 0 .CM_STAT) f_CM_STAT_SCRUB_DONE 1 :: .fld (tk 0 .AMQ_CHAN_CFG 2) f_AMQ_CHAN_CFG_ROLE 2
  :: .fld (tk 0 .AMQ_CHAN_CFG 2) f_AMQ_CHAN_CFG_PEER 3 :: .fld (tk 0 .AMQ_CHAN_CFG 2) f_AMQ_CHAN_CFG_CREDITS 4 :: .fld (tk 0 .AMQ_CHAN_CFG 2) f_AMQ_CHAN_CFG_WIN_BASE 8
  :: .fld (tk 0 .AQ_CFG 0) f_AQ_CFG_ENABLE 1 :: .fld (tk 0 .AQ_CFG 0) f_AQ_CFG_BASE 0x100 :: .fld (tk 0 .AMQ_CHAN_STAT 2) f_AMQ_CHAN_STAT_STATE st
  :: .fld (tk 0 .AMQ_CHAN_STAT 2) f_AMQ_CHAN_STAT_PEER_TILE 3 :: .fld (tk 0 .AMQ_CHAN_STAT 2) f_AMQ_CHAN_STAT_PEER_CHAN 1 :: es)
def st1 (u : State) (n : Nat) : Bool := chState u 0 1 == n
def st2 (u : State) (n : Nat) : Bool := chState u 0 2 == n
def bit0 (f : Fld) (u : State) : Bool := tfld u 0 .AMQ_STAT f == 1
/-- A packet of tile 3 to tile 0, of its channel 1. -/
def fromThree (op flds : Nat) (data : List Byte) : CnPkt := { mkCn 3 0 op 0 data.length flds data with rcd := 1 }
theorem test_amqListen : (ok (.amqListen 0 2) (recvRec chClosed []) (fun u => st2 u chListen && frame (recvRec chClosed []) u [tk 0 .AMQ_CHAN_STAT 2])
  && ok (.amqListen 0 2) (recvRec chOpen []) (bit0 f_AMQ_STAT_CTL_ERR)) = true := by decide +kernel
theorem test_amqOpen : (ok (.amqOpen 0 1 2) (sendRec chClosed []) (fun u => st1 u chOpening && (cnqAt u 0).map (fun p => (p.op.toNat, cnDst p, cnFld p 27 3)) == [(3, 3, 1)])
  && ok (.amqOpen 0 1 2) (sendRec chOpen []) (bit0 f_AMQ_STAT_CTL_ERR)) = true := by decide +kernel
theorem test_amqClose : (ok (.amqClose 0 1) (sendRec chOpen []) (fun u => st1 u chClosing && (cnqAt u 0).map (fun p => (p.op.toNat, cnDst p, cnFld p 27 3)) == [(3, 3, 2)])
  && ok (.amqClose 0 1) (sendRec chBroken []) (st1 · chClosed) && ok (.amqClose 0 2) (recvRec chListen []) (st2 · chClosed)
  && ok (.amqClose 0 2) (recvRec chOpen []) (fun u => st2 u chDraining && (cnqAt u 0).map (fun p => (p.op.toNat, cnDst p, cnFld p 27 3)) == [(11, 3, 4)])
  && stays (.amqClose 0 5) (tiles [])) = true := by decide +kernel
def lastIs (n : Nat) (u : State) : Bool := tfld u 0 .AMQ_SEND_STAT f_AMQ_SEND_STAT_LAST 0 == n
def amGo : W64 := 0x0000000800000501
theorem test_amqGo : (ok (.amqSendGo 0 0 amGo) (sendRec chOpen [.fld (tk 0 .AMQ_SEND_STAT 0) f_AMQ_SEND_STAT_BUSY 1]) (fun u => lastIs 7 u && bit0 f_AMQ_STAT_OVERRUN u)
  && ok (.amqSendGo 0 0 0xC1) (sendRec chOpen []) (lastIs 6) && ok (.amqSendGo 0 0 0x4100000001) (sendRec chOpen []) (lastIs 5)
  && ok (.amqSendGo 0 0 amGo) (sendRec chClosed []) (lastIs 3) && ok (.amqSendGo 0 0 0x00010001) (sendRec chOpen [.fld (tk 0 .AMQ_CHAN_STAT 1) f_AMQ_CHAN_STAT_CREDITS 2]) (lastIs 0)
  && ok (.amqSendGo 0 0 0x4000010001) (sendRec chOpen []) (lastIs 4)
  && ok (.amqSendGo 0 0 (amGo ||| 0x10000000000)) (sendRec chOpen []) (lastIs 2)
  && ok (.amqSendGo 0 0 amGo) (sendRec chOpen []) (fun u => lastIs 1 u && amqGoAt u 0 == some amGo)
  && ok (.amqSendGo 0 0 amGo) (sendRec chOpen [.fld (tk 0 .AMQ_CHAN_STAT 1) f_AMQ_CHAN_STAT_CREDITS 2, .reg (tk 0 .AMQ_SEND_BUF 0) 0x11]) (fun u => lastIs 0 u
    && chStat u 0 1 f_AMQ_CHAN_STAT_CREDITS == 1 && (cnqAt u 0).map (fun p => (p.op.toNat, cnDst p, cnFld p 16 8, p.data)) == [(2, 3, 5, [0x11, 0, 0, 0, 0, 0, 0, 0])])) = true := by
  decide +kernel
def amP (h : Nat) : CnPkt := fromThree 2 (2 * 2 ^ 24 + h * 2 ^ 16 + 1) [1, 0, 0, 0, 2, 0, 0, 0]
def handlers : Eff := .reg (tk 0 .AMQ_HANDLER 0) 0xC080
def bounced (x : Nat) (u : State) : Bool := ((cnqAt u 0).take 1).map (fun p => (p.op.toNat, cnDst p, cnFld p 13 3)) == [(10, 3, x)]
theorem test_cnAmRefused : (stays (.cnAm 0 (fromThree 3 0 []) []) (tiles []) && stays (.cnAm 0 (amP 0) []) (tiles [])
  && ok (.cnAm 0 (amP 0) []) (recvRec chOpen [.reg (dk .TILE_DOWN_MAP 0) 1]) (bounced 2)
  && ok (.cnAm 0 (amP 0) []) (recvRec chOpen [.fld (tk 0 .TILE_PWR_STAT) f_TILE_PWR_STAT_STATE 2]) (bounced 3)
  && ok (.cnAm 0 (amP 0) []) (recvRec chListen []) (bounced 1)
  && ok (.cnAm 0 (amP 0) []) (recvRec chOpen []) (fun u => bounced 4 u && bit0 f_AMQ_STAT_DISCARD_SEEN u)) = true := by decide +kernel
theorem test_cnAm : (ok (.cnAm 0 (amP 0) []) (recvRec chOpen [handlers, .fld (tk 0 .AMQ_CHAN_CFG 2) f_AMQ_CHAN_CFG_WIN 2]) (fun u => tfld u 0 .AQ_PI f_AQ_PI_PI 0 == 1
    && smRead 0 u.cm (cmKey 0 0x208) 8 == [1, 0, 0, 0, 2, 0, 0, 0] && smRead 0 u.cm (cmKey 0 0x1000) 16 == aqEntry (amP 0) false false 1 0x200000001)
  && ok (.cnAm 0 (amP 1) []) (recvRec chOpen [handlers, .fld (tk 0 .AMQ_CHAN_CFG 2) f_AMQ_CHAN_CFG_WIN 2, .runCm (cmKey 0 0x208) [0, 0, 3, 0]]) (fun u =>
    smRead 0 u.cm (cmKey 0 0x208) 16 == [1, 0, 3, 0, 0, 0, 0, 0, 1, 0, 0, 0, 2, 0, 0, 0])) = true := by decide +kernel
theorem test_cnCred : (ok (.cnCred 0 (fromThree 0xA (1 * 2 ^ 24 + 5 * 2 ^ 16) [])) (sendRec chOpen []) (fun u => chStat u 0 1 f_AMQ_CHAN_STAT_CREDITS == 5 && st1 u chOpen)
  && ok (.cnCred 0 (fromThree 0xA (1 * 2 ^ 24 + 1 * 2 ^ 13) [])) (sendRec chOpen []) (fun u => st1 u chBroken && bit0 f_AMQ_STAT_NAK_SEEN u)
  && ok (.cnCred 0 (fromThree 0xA (5 * 2 ^ 24) [])) (sendRec chOpen []) (fun u => frame (sendRec chOpen []) u [])
  && stays (.cnCred 0 (fromThree 3 (2 ^ 27) [])) (tiles [])) = true := by decide +kernel
theorem test_cnCtl : (ok (.cnCtlOpen 0 (fromThree 3 (2 ^ 27 + 2 * 2 ^ 12 + 1 * 2 ^ 18) [])) (recvRec chListen []) (fun u => st2 u chOpen
    && (cnqAt u 0).map (fun p => (p.op.toNat, cnDst p, cnFld p 11 3)) == [(11, 3, 0)])
  && ok (.cnCtlOpen 0 (fromThree 3 (2 ^ 27 + 2 * 2 ^ 12 + 1 * 2 ^ 18) [])) (recvRec chOpen []) (fun u => (cnqAt u 0).map (fun p => cnFld p 11 3) == [1])
  && ok (.cnCtlClose 0 (fromThree 3 (2 * 2 ^ 27 + 2 * 2 ^ 12) [])) (recvRec chOpen []) (st2 · chClosed)
  && stays (.cnCtlOpen 0 (fromThree 0xA 0 [])) (tiles []) && stays (.cnCtlClose 0 (fromThree 0xA 0 [])) (tiles [])) = true := by decide +kernel
def rspP (cmd res : Nat) : CnPkt := fromThree 0xB (cmd * 2 ^ 27 + 1 * 2 ^ 18 + res * 2 ^ 11 + 6 * 2 ^ 3) []
theorem test_cnRsp : (ok (.cnOpenRsp 0 (rspP 1 0)) (sendRec chOpening []) (fun u => st1 u chOpen && chStat u 0 1 f_AMQ_CHAN_STAT_CREDITS == 6)
  && ok (.cnOpenRsp 0 (rspP 1 3)) (sendRec chOpening []) (fun u => st1 u chClosed && chStat u 0 1 f_AMQ_CHAN_STAT_RESULT == 3)
  && ok (.cnOpenRsp 0 (rspP 1 0)) (sendRec chOpen []) (fun u => frame (sendRec chOpen []) u [])
  && ok (.cnCloseRsp 0 (rspP 2 0)) (sendRec chClosing []) (st1 · chClosed)
  && ok (.cnCloseReq 0 (rspP 4 0)) (sendRec chOpen [.fld (tk 0 .AMQ_CHAN_STAT 1) f_AMQ_CHAN_STAT_PEER_CHAN 1]) (fun u => st1 u chClosing
    && (cnqAt u 0).map (fun p => (p.op.toNat, cnFld p 27 3)) == [(3, 2)])
  && stays (.cnOpenRsp 0 (fromThree 0xA 0 [])) (tiles []) && stays (.cnCloseRsp 0 (fromThree 0xA 0 [])) (tiles [])
  && stays (.cnCloseReq 0 (fromThree 0xA 0 [])) (tiles [])) = true := by decide +kernel
theorem test_aqWrites : (ok (.aqCiWrite 0 0 1) (tiles [.reg (tk 0 .AQ_PI 0) 2]) (fun u => tfld u 0 .AQ_CI f_AQ_CI_CI 0 == 1)
  && ok (.aqCiWrite 0 0 3) (tiles [.reg (tk 0 .AQ_PI 0) 2]) (bit0 f_AMQ_STAT_CFG_ERR)
  && ok (.aqCfgWrite 0 0 0x1500000011) (tiles []) (fun u => regOf u (tk 0 .AQ_CFG 0) == 0x1500000011)
  && ok (.aqCfgWrite 0 0 1) (tiles []) (bit0 f_AMQ_STAT_CFG_ERR)
  && ok (.amqChanCfgWrite 0 1 0x4000000000000000) (tiles []) (fun u => isSend u 0 1)
  && ok (.amqChanCfgWrite 0 1 0xC000000000000000) (tiles []) (bit0 f_AMQ_STAT_CFG_ERR)) = true := by decide +kernel

/-! ### Wick, arbitration, epochs and quiesce -/

/-- Context 1 with members 0 and 1, and context 2 of two chips with the child port 3 and the parent 4 (R351, R359). -/
def ctx1 (es : List Eff) : State := tiles (.fld (tk 0 .CM_STAT) f_CM_STAT_SCRUB_DONE 1 :: .fld (dk .WICK_CTX_CFG 1) f_WICK_CTX_CFG_EN 1
  :: .fld (dk .WICK_CTX_CFG 1) f_WICK_CTX_CFG_FAR 1 :: .fld (dk .WICK_CTX_CFG 1) f_WICK_CTX_CFG_TMO 5 :: es)
def ctx2 (up : Nat) (es : List Eff) : State := tiles (.fld (dk .WICK_CTX_CFG 2) f_WICK_CTX_CFG_EN 1 :: .fld (dk .WICK_CTX_CFG 2) f_WICK_CTX_CFG_XCHIP 1
  :: .fld (dk .WICK_CTX_CFG 2) f_WICK_CTX_CFG_DOWN_MASK 8 :: .fld (dk .WICK_CTX_CFG 2) f_WICK_CTX_CFG_UPV up :: .fld (dk .WICK_CTX_CFG 2) f_WICK_CTX_CFG_UP_PORT 4 :: es)
def here0 : Eff := .reg (tk 0 .WICK_ARRIVED) 2
def gen1 (u : State) : Nat := ctxStat u 1 f_WICK_CTX_STAT_GEN
theorem test_wickArrive : (ok (.wickArrive 2 1) (ctx1 []) (fun u => tfld u 2 .WICK_STAT f_WICK_STAT_NONMEMBER == 1)
  && ok (.wickArrive 0 1) (ctx1 [.fld (dk .WICK_CTX_STAT 1) f_WICK_CTX_STAT_BROKEN 1]) (fun u => tfld u 0 .WICK_STAT f_WICK_STAT_BROKEN_SEEN == 1)
  && ok (.wickArrive 0 1) (ctx1 [here0]) (fun u => tfld u 0 .WICK_STAT f_WICK_STAT_DUP == 1)
  && ok (.wickArrive 0 1) (ctx1 []) (fun u => hasArrived u 0 1 && ctxStat u 1 f_WICK_CTX_STAT_PENDING == 1)
  && ok (.wickArrive 1 1) (ctx1 [here0]) (fun u => gen1 u == 1 && !hasArrived u 0 1 && rg u (tk 0 .WICK_REL_PEND) == 2)) = true := by decide +kernel
theorem test_wickTimeout : (stays (.wickCtxTimeout 1) (ctx1 [])
  && ok (.wickCtxTimeout 1) (ctx1 [here0, .fld (dk .WICK_CTX_STAT 1) f_WICK_CTX_STAT_PENDING 1]) (fun u => ctxStat u 1 f_WICK_CTX_STAT_BROKEN == 1
    && ctxStat u 1 f_WICK_CTX_STAT_LAST == 2 && ctxStat u 1 f_WICK_CTX_STAT_MISSING_CNT == 1 && gen1 u == 0)) = true := by decide +kernel
def ctxOn : W64 := 0x8000000000400005
theorem test_wickCfg : (ok (.wickCtxCfgWrite 1 ctxOn) (tiles []) (fun u => regOf u (dk .WICK_CTX_CFG 1) == ctxOn)
  && ok (.wickCtxCfgWrite 1 0xA000000000000000) (tiles []) (fun u => dfld u .WICK_DEV_STAT f_WICK_DEV_STAT_CFG_ERR == 1)
  && ok (.wickCtxCfgWrite 1 0) (ctx1 [here0, .fld (dk .WICK_CTX_STAT 1) f_WICK_CTX_STAT_PENDING 1]) (fun u => ctxStat u 1 f_WICK_CTX_STAT_LAST == 4)) = true := by decide +kernel
theorem test_wickFlags : (ok (.wickFlagOpWrite (some 0) 0x105) (tiles []) (fun u => wickFqAt u 0 == [(true, 5)])
  && ok (.wickFlagOpWrite none 0x005) (tiles []) (fun u => dfld u .WICK_DEV_STAT f_WICK_DEV_STAT_CFG_ERR == 1)
  && stays (.wickFlagUpdate none) (tiles [])
  && ok (.wickFlagUpdate (some 0)) (tiles [.putWickFq 0 [(true, 5)], .fld (tk 1 .WICK_WATCH 0) f_WICK_WATCH_EN 1, .fld (tk 1 .WICK_WATCH 0) f_WICK_WATCH_FLAG 5,
    .fld (tk 1 .WICK_WATCH 0) f_WICK_WATCH_VALUE 1]) (fun u => rg u (dk .WICK_FLAG_STATE 0) == 32 && dfld u .WICK_FLAG_SEQ f_WICK_FLAG_SEQ_SEQ == 1
      && tfld u 1 .WICK_WATCH f_WICK_WATCH_EN 0 == 0 && wickFqAt u 0 == [])) = true := by decide +kernel
theorem test_wickWatch : (ok (.wickWatchWrite 0 0 0xA005000000000000) (tiles []) (fun u => regOf u (tk 0 .WICK_WATCH 0) == 0xA005000000000000)
  && ok (.wickWatchWrite 0 0 0x8005000000000100) (ctx1 []) (fun u => tfld u 0 .WICK_WATCH f_WICK_WATCH_EN 0 == 0 && smRead 0 u.cm (cmKey 0 0x100) 8 == [5, 0, 0, 0, 0, 0, 0, 0])) = true := by
  decide +kernel
theorem test_wickDrops : (ok (.wickTokenArrive 3 2) (ctx2 1 []) (fun u => dfld u .WICK_TOKEN_DROP_CNT f_WICK_TOKEN_DROP_CNT_COUNT == 0)
  && [Instr.wickTokenArrive 5 2, .wickTokenArrive 3 0x2002, .wickTokenRelease 3 1, .wickTokenBreak 6 2].all (fun c => ok c (ctx2 1 []) (fun u =>
    dfld u .WICK_TOKEN_DROP_CNT f_WICK_TOKEN_DROP_CNT_COUNT == 1 && dfld u .WICK_DEV_STAT f_WICK_DEV_STAT_TOKEN_ERR == 1))) = true := by decide +kernel
def arrived0 : Eff := .reg (tk 0 .WICK_ARRIVED) 4
theorem test_wickTokens : (ok (.wickTokenArrive 3 2) (ctx2 1 []) (fun u => wickAt u 2 == ⟨8, false⟩ && ctxStat u 2 f_WICK_CTX_STAT_PENDING == 1)
  && ok (.wickTokenArrive 3 2) (ctx2 1 [arrived0]) (fun u => wickTxAt u 4 == [0x4002] && (wickAt u 2).sent)
  && ok (.wickTokenArrive 3 2) (ctx2 0 [arrived0]) (fun u => wickTxAt u 3 == [0x8002] && ctxStat u 2 f_WICK_CTX_STAT_GEN == 1)
  && ok (.wickTokenRelease 4 2) (ctx2 1 [arrived0]) (fun u => wickTxAt u 3 == [0x8002] && ctxStat u 2 f_WICK_CTX_STAT_GEN == 1)
  && ok (.wickTokenBreak 3 2) (ctx2 1 []) (fun u => wickTxAt u 4 == [0xC002] && ctxStat u 2 f_WICK_CTX_STAT_BROKEN == 1)
  && ok (.wickTokenBreak 3 2) (ctx2 1 [.fld (dk .WICK_CTX_STAT 2) f_WICK_CTX_STAT_BROKEN 1]) (fun u => wickTxAt u 4 == [])) = true := by decide +kernel
theorem test_fullSlot : ok (.cnAm 0 (amP 1) []) (recvRec chOpen [handlers, .fld (tk 0 .AMQ_CHAN_CFG 2) f_AMQ_CHAN_CFG_WIN 2, .runCm (cmKey 0 0x208) [3, 0, 3, 0]]) (fun u =>
  smRead 0 u.cm (cmKey 0 0x208) 8 == [4, 0, 3, 0, 0, 0, 0, 0] && tfld u 0 .AQ_PI f_AQ_PI_PI 0 == 0) = true := by decide +kernel
theorem test_arbWindow : (ok (.arbWindowBoundary (some 0) 3) (tiles []) (fun u => (arbOf u 0 3).g2 == 0 && (arbOf u 0 3).ws != [])
  && ok (.arbCntClr (some 0)) (tiles [.reg (arbGrantsK 0 0 0) 7]) (fun u => rg u (arbGrantsK 0 0 0) == 0)
  && stays (.arbCntClr none) (tiles [.reg (dk .ARB_DEV_SEL) 97])) = true := by decide +kernel
theorem test_snuffer : (stays (.snufferBite (some 0) 3 1 .none) (tiles [.reg (tk 0 .SNF_CFG 3) 0])
  && ok (.snufferBite (some 0) 3 1 .none) (tiles []) (fun u => tfld u 0 .SNF_STAT f_SNF_STAT_BITE == 1 && tfld u 0 .SNF_BITE_CNT f_SNF_BITE_CNT_COUNT 3 == 1
    && tfld u 0 .SNF_STAT f_SNF_STAT_FIRST_POINT == 3)) = true := by decide +kernel
def phased (n : Nat) (es : List Eff) : State := tiles (.fld (dk .EPC_STAT) f_EPC_STAT_PHASE n :: es)
theorem test_epcCommit : (stays (.epcCommitWrite 7 true) (tiles []) && ok (.epcCommitWrite 7 false) (tiles []) (fun u => epcPhase u == 1 && dfld u .EPC_STAT f_EPC_STAT_LAST_ID == 7)
  && ok (.epcCommitWrite 7 false) (phased 2 []) (fun u => dfld u .EPC_STAT f_EPC_STAT_BUSY_REFUSED == 1)) = true := by decide +kernel
theorem test_epochSwitch : (stays .epochSwitch (tiles []) && stays .epochSwitch (phased 1 [.fld (dk .TILE_MAP_STAT) f_TILE_MAP_STAT_APPLYING 1])
  && ok .epochSwitch (phased 1 [.reg (tk 0 .BN_PIN_SHADOW 2) 1]) (fun u => epcPhase u == 2 && epochNow u && rg u (tk 0 .BN_PIN_ACTIVE 2) == 1 && rg u (tk 0 .BN_PIN_SHADOW 2) == 2 ^ 64 - 1)) = true := by
  decide +kernel
theorem test_epochEnd : (stays (.epochCopyStart 9) (tiles []) && ok (.epochCopyStart 9) (phased 2 []) (fun u => epcPhase u == 3 && dfld u .EPC_DRAIN_LAST f_EPC_DRAIN_LAST_FCLKS == 9)
  && ok (.epochCopyStart 9) (phased 2 [.fld (dk .EPC_CFG) f_EPC_CFG_COPY_ON_DRAIN 0]) (fun u => epcPhase u == 0 && dfld u .EPC_COMMIT_CNT f_EPC_COMMIT_CNT_COUNT == 1)
  && stays .epochCommitEnd (tiles []) && ok .epochCommitEnd (phased 3 [.reg (tk 0 .BN_PIN_ACTIVE 2) 1]) (fun u => epcPhase u == 0 && rg u (tk 0 .BN_PIN_SHADOW 2) == 1)
  && stays .epochDrainSlow (tiles []) && ok .epochDrainSlow (phased 2 []) (fun u => dfld u .EPC_STAT f_EPC_STAT_DRAIN_SLOW == 1)) = true := by decide +kernel
theorem test_shadowWrite : (stays (.shadowWrite (some 0) 36864 true 1) (tiles [])
  && ok (.shadowWrite (some 0) 18440 true 3) (tiles []) (fun u => rg u (tk 0 .BN_PIN_SHADOW 1) == 3 && frame (tiles []) u [tk 0 .BN_PIN_SHADOW 1, tk 0 .SHP_DIRTY])
  && ok (.shadowWrite (some 0) 18440 true 3) (phased 2 []) (fun u => dfld u .EPC_STAT f_EPC_STAT_LATE_WRITE == 1 && rg u (tk 0 .BN_PIN_SHADOW 1) == 2 ^ 64 - 1)) = true := by decide +kernel
def quiesced (es : List Eff) : State := tiles (.fld (dk .EPC_QUIESCE) f_EPC_QUIESCE_REQ 1 :: es)
theorem test_quiesce : (stays .quiesceRequest (quiesced []) && stays .quiesceResume (tiles []) && ok .quiesceRequest (tiles []) (fun u => holdTraffic u)
  && stays .quiesceReached (tiles []) && ok .quiesceReached (quiesced [.fld (dk .EPC_STAT) f_EPC_STAT_QUIESCING 1]) (fun u => dfld u .EPC_STAT f_EPC_STAT_QUIESCED == 1)
  && stays .quiesceSlow (tiles []) && ok .quiesceSlow (quiesced [.fld (dk .EPC_STAT) f_EPC_STAT_QUIESCING 1]) (fun u => dfld u .EPC_STAT f_EPC_STAT_QSLOW == 1)
  && ok .quiesceResume (quiesced [.fld (dk .EPC_STAT) f_EPC_STAT_QUIESCED 1]) (fun u => !holdTraffic u)
  && ok .quiesceResume (quiesced [.fld (dk .TILE_MAP_STAT) f_TILE_MAP_STAT_APPLYING 1]) (fun u => rg u (dk .EPC_QUIESCE) == 0)) = true := by decide +kernel

/-! ### A Wylet port -/

/-- Port 2 in a state and step, with its link layer and other updates (R440, R441). -/
def port (st step : Nat) (k : WlpSt) (es : List Eff) : State := tiles (.putWlp 2 k :: .fld (dk .WLP_CFG 2) f_WLP_CFG_EN (if st = 0 then 0 else 1)
  :: .fld (dk .WLP_NONCE 2) f_WLP_NONCE_NONCE 9 :: .fld (dk .WLP_STAT 2) f_WLP_STAT_STATE st :: .fld (dk .WLP_STAT 2) f_WLP_STAT_STEP step :: es)
def k0 : WlpSt := WlpSt.init
def isAt (a b : Nat) (u : State) : Bool := portState u 2 == a && wlpStep u 2 == b
def evt2 (u : State) (b : Nat) : Bool := bitOf (rg u (dk .WLP_EVENT 2)) b
def cnt2 (u : State) (j : Nat) : Nat := dfld u .WLP_CNT f_WLP_CNT_COUNT (36 + j)
def cfgV (en : W64) : W64 := (regOf State.reset (dk .WLP_CFG 2) &&& ~~~1) ||| en
def f0 (sq : BitVec 16) : WlpFrame := ⟨5, 4, 1, 2, 0, sq, 0, [1, 2, 3, 4, 5, 6, 7, 8]⟩
theorem test_wlpCfg : (ok (.wlpCfgWrite 2 (cfgV 1)) (tiles []) (isAt 1 1) && ok (.wlpCfgWrite 2 (cfgV 1)) (port 2 0 k0 []) (isAt 2 0)
  && ok (.wlpCfgWrite 2 (cfgV 0)) (port 2 0 k0 []) (isAt 0 0) && ok (.wlpPortRst 2) (port 2 0 k0 []) (fun u => isAt 1 1 u && dfld u .WLP_INCARN f_WLP_INCARN_INCARN 2 == 1)
  && ok (.wlpExpectWrite 2 3) (port 2 0 k0 []) (isAt 2 0) && ok (.wlpExpectWrite 2 3) (port 5 0 { k0 with
    sess := true } []) (isAt 3 1) && ok (.wlpRetrain 2) (port 5 0 k0 []) (isAt 1 1) && stays (.wlpRetrain 2) (tiles []) && ok (.wlpRetrain 2) (port 1 3 k0 []) (isAt 1 1)) = true := by decide +kernel
def logical0 : List (BitVec 4) := (List.range 16).map (BitVec.ofNat 4)
theorem test_wlpSteps : (ok (.wlpSignalDetect 2) (port 1 1 k0 []) (isAt 1 2) && stays (.wlpSignalDetect 2) (port 1 3 k0 []) && ok (.wlpLaneLock 2) (port 1 2 k0 []) (isAt 1 3)
  && stays (.wlpLaneLock 2) (port 1 1 k0 []) && stays (.wlpLaneAlign 2 logical0 2) (port 1 1 k0 []) && ok (.wlpTrainTimeout 2) (port 1 4 k0 []) (isAt 1 1)
  && stays (.wlpTrainTimeout 2) (port 1 1 k0 []) && ok (.wlpLaneAlign 2 logical0 2) (port 1 3 k0 []) (fun u => isAt 1 4 u
    && dfld u .WLP_STAT f_WLP_STAT_LANE_LOCK 2 == 0xFFFF && dfld u .WLP_LANE_STAT f_WLP_LANE_STAT_INVERT 33 == 1)) = true := by decide +kernel
/-- A TRAIN block of a partner (R442). -/
def trainB (x nonce echo chip rx : Nat) : List Byte :=
  let body := leBytes 1 0x5B ++ leBytes 1 (0x10 + x) ++ leBytes 8 nonce ++ leBytes 2 1 ++ leBytes 3 chip ++ leBytes 1 7 ++ leBytes 2 rx ++ [0, 0] ++ leBytes 8 echo
  body ++ leBytes 4 (crc32c body)
def kr : WlpSt := { k0 with
  hs := 3, replay := [f0 0, f0 1], sess := true }
def partner : List Eff := [.fld (dk .WLP_PARTNER_NONCE 2) f_WLP_PARTNER_NONCE_NONCE 77, .fld (dk .WLP_PARTNER_ID 2) f_WLP_PARTNER_ID_INCARN 1,
  .fld (dk .WLP_PARTNER_ID 2) f_WLP_PARTNER_ID_CHIP_ID 6, .fld (dk .WLP_PARTNER_ID 2) f_WLP_PARTNER_ID_PORT 7, .fld (dk .WLP_SEQ 2) f_WLP_SEQ_TX_NEXT 2]
theorem test_wlpTrain : (stays (.trainBlockReceive 2 (trainB 1 77 0 6 0)) (port 1 3 k0 []) && stays (.trainBlockReceive 2 (List.replicate 32 0)) (port 1 4 k0 [])
  && ok (.trainBlockReceive 2 (trainB 1 77 0 6 0)) (port 1 4 k0 []) (fun u => (wlp u 2).hs == 2)
  && ok (.trainBlockReceive 2 (trainB 3 9 9 0 0)) (port 1 4 kr []) (fun u => isAt 5 0 u && evt2 u 12)
  && ok (.trainBlockReceive 2 (trainB 3 77 9 6 0)) (port 1 4 kr [.fld (dk .WLP_EXPECT 2) f_WLP_EXPECT_EN 1, .fld (dk .WLP_EXPECT 2) f_WLP_EXPECT_CHIP_ID 5]) (fun u => isAt 5 0 u && evt2 u 13)
  && ok (.trainBlockReceive 2 (trainB 3 77 9 6 1)) (port 3 4 kr partner) (fun u => isAt 2 0 u && evt2 u 1 && (wlp u 2).replay == [f0 1] && (wlp u 2).rep == some (1, 1))
  && ok (.trainBlockReceive 2 (trainB 3 78 9 6 1)) (port 3 4 kr partner) (fun u => evt2 u 2 && (wlp u 2).replay == [])
  && ok (.trainBlockReceive 2 (trainB 3 78 9 6 0)) (port 1 4 { k0 with
    hs := 3 } []) (fun u => isAt 2 0 u && (wlp u 2).cred == List.replicate 8 256)) = true := by decide +kernel
theorem test_wlpSend : (stays (.wlpFrameSend 2 0 0) (port 1 0 k0 []) && stays (.wlpFrameSend 2 0 0) (port 2 0 k0 [])
  && ok (.wlpFrameSend 2 0 0) (port 2 0 k0 [.putWlpEq 18 [f0 0], .fld (dk .WLP_SEQ 2) f_WLP_SEQ_TX_NEXT 65535]) (fun u => eqOf u 2 2 == [] && (wlp u 2).replay == [f0 65535]
    && wlpSeq u 2 f_WLP_SEQ_TX_NEXT == 0 && (wlp u 2).cred.getD 2 0 == 255 && cnt2 u 0 == 1 && cnt2 u 2 == 8)
  && ok (.wlpFrameSend 2 0 0) (port 2 0 { kr with
    rep := some (0, 1) } partner) (fun u => cnt2 u 4 == 1 && (wlp u 2).rep == none)
  && ok (.wlpFrameSend 2 0 0) (port 2 0 { kr with
    rep := some (0, 2) } partner) (fun u => cnt2 u 4 == 0 && (wlp u 2).rep == none)) = true := by decide +kernel
def rx (f : WlpFrame) : Instr := .wlpFrameReceive 2 .ok (frameBytes f) []
theorem test_wlpReceive : (stays (rx (f0 0)) (port 1 0 k0 []) && ok (rx (f0 0)) (port 2 0 k0 []) (fun u => poolOf u 2 2 == [f0 0] && wlpSeq u 2 f_WLP_SEQ_RX_NEXT == 1 && cnt2 u 1 == 1)
  && ok (rx (f0 1)) (port 2 0 k0 []) (fun u => cnt2 u 12 == 1 && evt2 u 10 && (wlp u 2).nakOut)
  && ok (rx (f0 65535)) (port 2 0 k0 []) (fun u => cnt2 u 13 == 1 && !(wlp u 2).nakOut)
  && ok (.wlpFrameReceive 2 .ok (List.replicate 32 0) []) (port 2 0 k0 []) (fun u => cnt2 u 10 == 1 && evt2 u 7)
  && ok (.wlpFrameReceive 2 .ok (List.replicate 23 0) []) (port 2 0 k0 []) (fun u => cnt2 u 8 == 1 && evt2 u 5)
  && ok (.wlpFrameReceive 2 .fecUe [] []) (port 2 0 k0 []) (fun u => cnt2 u 15 == 1 && evt2 u 8)
  && ok (rx (f0 0)) (port 2 0 k0 [.putWlpPool 18 (List.replicate 256 (f0 0))]) (fun u => isAt 3 1 u && evt2 u 11 && cnt2 u 11 == 1)) = true := by decide +kernel
def side (fl : Byte) (ack : Nat) (cred : Byte) (m : Nat) : List Byte := [0, fl] ++ leBytes 2 ack ++ [cred, 0, 0, 0, 0, 0, 0, 0, 0, 0, 0, 0, 0, 0, 0, 0, 0, 0, 0, 0] ++ leBytes 8 m
theorem test_wlpSide : (stays (.sideBlockReceive 2 (side 0 0 0 0) []) (port 1 0 k0 [])
  && ok (.sideBlockReceive 2 (side 0xA 0 4 99) []) (port 2 0 kr partner) (fun u => (wlp u 2).replay == [f0 1] && (wlp u 2).cred.headD 0 == 260 && (wlp u 2).mRxq == [99]
    && dfld u .WLP_STAT f_WLP_STAT_HOLD_RX 2 == 1)
  && ok (.sideBlockReceive 2 (side 1 0 0 0) []) (port 2 0 kr partner) (fun u => cnt2 u 6 == 1 && (wlp u 2).rep == some (1, 1))) = true := by decide +kernel
theorem test_wlpAck : (stays (.wlpAckTimeout 2) (port 2 0 k0 []) && ok (.wlpAckTimeout 2) (port 2 0 kr partner) (fun u => cnt2 u 7 == 1 && (wlp u 2).rep == some (0, 0))
  && ok (.wlpAckTimeout 2) (port 2 0 kr [.fld (dk .WLP_SEQ 2) f_WLP_SEQ_REPLAYS 8]) (fun u => isAt 3 1 u && evt2 u 4 && cnt2 u 16 == 1)) = true := by decide +kernel
theorem test_wlpSideband : (stays (.wlpSbResendTimeout 2 true) (port 1 0 k0 []) && ok (.wlpSbResendTimeout 2 false) (port 2 0 k0 []) (fun u => cnt2 u 17 == 0)
  && ok (.wlpSbResendTimeout 2 true) (port 2 0 { k0 with
    mUn := [5], mNext := 1 } []) (fun u => cnt2 u 17 == 1)) = true := by decide +kernel
theorem test_wlpLoss : (ok (.wlpLinkLoss 2) (port 2 0 { k0 with
    sess := true } []) (fun u => isAt 3 1 u && evt2 u 0)
  && ok (.wlpLinkLoss 2) (port 2 0 k0 [.fld (dk .WLP_CFG 2) f_WLP_CFG_REJOIN_MS 0]) (fun u => isAt 4 1 u && evt2 u 3)
  && ok (.wlpLinkLoss 2) (port 1 4 k0 []) (isAt 1 1) && stays (.wlpLinkLoss 2) (port 1 3 k0 []) && stays (.wlpRejoinExpire 2) (port 3 1 k0 [])
  && ok (.wlpRejoinExpire 2) (port 3 2 { k0 with
    sess := true } []) (fun u => isAt 4 2 u && evt2 u 3)) = true := by decide +kernel
theorem test_wlpMgmt : (ok (.wlpMgmtTxWrite 2 7) (port 1 1 { k0 with
    mTx := List.replicate 16 1 } []) (fun u => evt2 u 14) && ok (.wlpMgmtTxWrite 2 7) (port 1 1 k0 []) (fun u => (wlp u 2).mTx == [7])
  && ok (.wlpMgmtRxRead 2) (port 2 0 { k0 with
    mRxq := [258, 3] } []) (fun u => u.ansOut == [2, 1, 0, 0, 0, 0, 0, 0] && (wlp u 2).mRxq == [3])) = true := by decide +kernel

/-! ### Between chips -/

/-- Chip 1 of three in a line: port 2 goes up to chip 2 and port 3 down to chip 0, both ACTIVE; their gate is tile 16 (R470, R485). -/
def chip1 (es : List Eff) : State := tiles (.fld (dk .SYS_CHIP) f_SYS_CHIP_CHIP_ID 1 :: .fld (dk .SYS_SHAPE0) f_SYS_SHAPE0_K0M1 2 :: .reg (dk .SYS_PORT_MAP 0) 0xC0800000
  :: .fld (dk .WLP_STAT 2) f_WLP_STAT_STATE 2 :: .fld (dk .WLP_STAT 3) f_WLP_STAT_STATE 2 :: es)
/-- A write of 4 bytes from tile 3 of a chip to tile 3 of a chip. -/
def wrP (src dst : BitVec 17) : BnPkt := { bnp 1 4 64 [9, 8, 7, 6] with
  dchip := dst, schip := src, stile := 3, psn := [false] }
def leaving (p : BnPkt) : Eff := .setBn [⟨p, 16, 4, true, some 2, none⟩]
def frW (p : BnPkt) : WlpFrame := frameOf p p.schip false false none
theorem test_gateBuild : (stays (.gateFrameBuild 2 (wrP 1 2)) (chip1 [])
  && ok (.gateFrameBuild 2 (wrP 1 2)) (chip1 [leaving (wrP 1 2)]) (fun u => u.bn == [] && eqOf u 2 1 == [frW (wrP 1 2)])
  && stays (.gateFrameBuild 2 (wrP 1 2)) (chip1 [leaving (wrP 1 2), .fld (dk .PRG_EQ_FREE 17) f_PRG_EQ_FREE_BYTES 43])
  && ok (.gateFrameBuild 2 (wrP 1 2)) (chip1 [leaving (wrP 1 2), .fld (dk .WLP_STAT 2) f_WLP_STAT_STATE 4]) (fun u => dfld u .SYS_FAIL_CNT f_SYS_FAIL_CNT_COUNT == 1
    && (niuqAt u 16).map (fun r => (r.pkt.op.toNat, r.pkt.dtile.toNat)) == [(opWrAck, 3)])) = true := by decide +kernel
def arrives (f : WlpFrame) (es : List Eff) : State := chip1 (.putWlpPool 25 [f] :: es)
def onward (u : State) : List WlpFrame := eqOf u 2 1
theorem test_frames : (stays (.gateFrameInject 3 1) (chip1 []) && stays (.transitFrame 3 1 .ok 0) (chip1 []) && stays (.xmcastFrameReceive 3 1 none []) (chip1 [])
  && ok (.gateFrameInject 3 1) (arrives (frW (wrP 0 1)) []) (fun u => u.bn.map (fun f => (f.pkt.dtile.toNat, f.at_, f.inp)) == [(3, 16, 4)] && poolOf u 3 1 == [])
  && stays (.gateFrameInject 3 1) (arrives (frW (wrP 0 2)) []) && stays (.transitFrame 3 1 .ok 0) (arrives (frW (wrP 0 1)) [])
  && stays (.xmcastFrameReceive 3 1 none []) (arrives (frW (wrP 0 1)) [])
  && ok (.transitFrame 3 1 .ok 0) (arrives (frW (wrP 0 2)) []) (fun u => onward u == [frW (wrP 0 2)] && dfld u .PRG_IN_CNT f_PRG_IN_CNT_COUNT 3 == 1
    && dfld u .PRG_OUT_CNT f_PRG_OUT_CNT_COUNT 2 == 1 && (wlp u 3).freed.getD 1 0 == 2)
  && ok (.transitFrame 3 1 .ue 0) (arrives (frW (wrP 0 2)) []) (fun u => (onward u).map framePsn == [true])
  && ok (.transitFrame 3 1 .hdrUe 0) (arrives (frW (wrP 0 2)) []) (fun u => onward u == [] && dfld u .PRG_STAT f_PRG_STAT_HDR_UE == 1)
  && ok (.transitFrame 3 1 .ok 0) (arrives (frW (wrP 0 2)) [.fld (dk .WLP_STAT 2) f_WLP_STAT_STATE 4, .fld (dk .WLP_STAT 3) f_WLP_STAT_STATE 4]) (fun u =>
    dfld u .SYS_FAIL_CNT f_SYS_FAIL_CNT_COUNT == 1)) = true := by decide +kernel
theorem test_badFrame : [Instr.gateFrameInject 3 1, .transitFrame 3 1 .ok 0, .xmcastFrameReceive 3 1 none []].all (fun c => ok c (arrives { frW (wrP 0 1) with
  data := [1] } []) (fun u => dfld u .SYS_BAD_FRAME_CNT f_SYS_BAD_FRAME_CNT_COUNT == 1 && poolOf u 3 1 == [])) = true := by decide +kernel
/-- A multicast of chip 0 to chips 1 and 2, tile 3 of each (R491, R493). -/
def mcF : WlpFrame := frameOf { wrP 0 1 with
  op := 8, far := 3 } 0 false false (some (1, 1, 2))
theorem test_xmcast : (ok (.xmcastFrameReceive 3 1 none []) (arrives mcF []) (fun u => (onward u).map (·.dchip.toNat) == [2] && tagOf u 16 0 != .free && u.bn.length + (niuqAt u 16).length == 1)
  && ok (.xmcastFrameReceive 3 1 none []) (arrives mcF [.reg (dk .TILE_DOWN_MAP 0) 0x10000]) (fun u => (onward u).map (·.dchip.toNat) == [2] && (niuqAt u 16).length == 1 && tagOf u 16 0 == .free)) = true := by
  decide +kernel

/-! ### Collectives -/

/-- Group 0 of tile 0, over chips 0 and 1 of a line, in a state, with a descriptor posted (R508, R515, R529). -/
def colGroup (st : Nat) (bs : List Byte) (es : List Eff) : State := posted 14 bs (.fld (dk .SYS_SHAPE0) f_SYS_SHAPE0_K0M1 1 :: .fld (tk 0 .COL_GCFG0 0) f_COL_GCFG0_HI_CHIP 1
  :: .fld (tk 0 .COL_GCFG2 0) f_COL_GCFG2_NSLOT_LOG2 1 :: .fld (tk 0 .COL_GCFG2 0) f_COL_GCFG2_CHUNK_LOG2 12 :: .fld (tk 0 .COL_GCFG2 0) f_COL_GCFG2_STG_OFF 0x100000
  :: .fld (tk 0 .COL_GCFG1 0) f_COL_GCFG1_TMO 5 :: .fld (tk 0 .COL_GSTAT 0) f_COL_GSTAT_STATE st :: .fld (tk 0 .COL_GSTAT 0) f_COL_GSTAT_FORM 3
  :: .fld (tk 0 .TILE_CORE_CTRL) f_TILE_CORE_CTRL_COMM_RSV 1 :: .fld (tk 0 .COL_RT_STAT) f_COL_RT_STAT_RUNNING 1 :: es)
def entryNo (u : State) : Nat := tfld u 0 .COL_GSTAT f_COL_GSTAT_ENTRY 0
def runsNow (u : State) : List (Nat × Nat × Bool) := (queueOf u 0 14).run.map (fun d => (d.op, d.status, d.refused))
/-- An entry over 256 elements of 4 B at 0x1000, to 0x2000 (R513). -/
def colDesc (op : Byte) (cap gflag : Nat) : List Byte := d64 op 0 (leBytes 4 0x1000 ++ leBytes 4 0x2000 ++ leBytes 4 256 ++ leBytes 4 cap ++ [0, 0, 0, 0, 0, 0, 0, 0]
  ++ leBytes 4 0 ++ leBytes 4 0x3000 ++ leBytes 4 0x3800 ++ leBytes 4 gflag)
theorem test_colStart : (
  stays (.colBarrier 0 0 []) (colGroup 0 (d64 0x75 0 []) []) && stays (.colBarrier 0 0 []) (colGroup 1 (colDesc 0x70 0 0) [])
  && ok (.colBarrier 0 0 []) (colGroup 1 (d64 0x75 0 []) []) (fun u => entryNo u == 1 && runsNow u == [(0x75, 0, false)])
  && ok (.colBarrier 0 0 []) (colGroup 1 (d64 0x75 2 []) []) (fun u => entryNo u == 1 && runsNow u == [(0x75, stFmt, true)])
  && ok (.colBarrier 0 0 []) (colGroup 2 (d64 0x75 0 []) []) (fun u => runsNow u == [(0x75, stAborted, true)])) = true := by decide +kernel
def starts (op : Byte) (c : Instr) : Bool := ok c (colGroup 1 (colDesc op 0x100 0x3900) []) (fun u => entryNo u == 1 && runsNow u == [(op.toNat, 0, false)])
theorem test_colAllreduce : starts 0x70 (.colAllreduce 0 0 []) = true := by decide +kernel
theorem test_colReduceScatter : starts 0x71 (.colReduceScatter 0 0 []) = true := by decide +kernel
theorem test_colAllgather : starts 0x72 (.colAllgather 0 0 []) = true := by decide +kernel
theorem test_colBroadcast : starts 0x73 (.colBroadcast 0 0 []) = true := by decide +kernel
theorem test_colAlltoall : starts 0x74 (.colAlltoall 0 0 []) = true := by decide +kernel
def barrier (es : List Eff) : State := colGroup 1 (d64 0x75 0 []) (.putQueues (queueKey 0 14) ⟨1, [{ descRecord 0 (d64 0x75 0 []) with
  ext := .col ⟨1, 0, 0, 0, 0, 0⟩ }], none⟩ :: es)
def flagNow (w : Nat) : Eff := .runCm (cmKey 0 0x104000) (leBytes 8 w)
theorem test_colChunks : (stays (.colChunkSend 0 0 0 []) (colGroup 1 [] []) && stays (.colSlotFlagSeen 0 0 0 []) (colGroup 1 [] []) && stays (.colWaitTimeout 0 0) (colGroup 1 [] [])
  && ok (.colChunkSend 0 0 0 []) (barrier []) (fun u => (colG u 0 0).sent.headD 0 == 1
    && (queueOf u 0 7).run.map (fun c => (c.idx, c.op, c.flagVal)) == [(65536, 1, 3 * 2 ^ 56 + 2 ^ 32 + 1)])) = true := by decide +kernel
theorem test_colFlags : (ok (.colSlotFlagSeen 0 0 0 []) (barrier [flagNow (3 * 2 ^ 56 + 2 ^ 32 + 1)]) (fun u => (colG u 0 0).took.headD 0 == 1)
  && ok (.colSlotFlagSeen 0 0 0 []) (barrier [flagNow (3 * 2 ^ 56 + 2 * 2 ^ 32 + 1)]) (fun u => gState u 0 0 == 2 && tfld u 0 .COL_GSTAT f_COL_GSTAT_CAUSE 0 == 6)
  && ok (.colSlotFlagSeen 0 0 0 []) (barrier [flagNow (2 * 2 ^ 56 + 2 ^ 32 + 1)]) (fun u => tfld u 0 .COL_STALE_CNT f_COL_STALE_CNT_COUNT 0 == 1)) = true := by decide +kernel
theorem test_colTimeout : (stays (.colWaitTimeout 0 0) (barrier [.fld (tk 0 .COL_GCFG1 0) f_COL_GCFG1_TMO 0])
  && ok (.colWaitTimeout 0 0) (barrier []) (fun u => gState u 0 0 == 2 && tfld u 0 .COL_GSTAT f_COL_GSTAT_CAUSE 0 == 5)) = true := by decide +kernel
def cfgBad (u : State) : Bool := tfld u 0 .Q_STAT f_Q_STAT_CFG_ERR 14 == 1
def causeIs (n : Nat) (u : State) : Bool := gState u 0 0 == 0 && tfld u 0 .COL_GSTAT f_COL_GSTAT_CAUSE 0 == n
theorem test_colOpen : (ok (.colGctrlOpen 0 0) (colGroup 1 [] []) cfgBad && ok (.colGctrlOpen 0 0) (colGroup 0 [] [.reg (tk 0 .COL_RT_STAT) 0]) (causeIs 1)
  && ok (.colGctrlOpen 0 0) (colGroup 0 [] ((List.range 64).map (fun i => .reg (dk .COL_DEV_GRP i) (2 ^ 63)))) (causeIs 2)
  && ok (.colGctrlOpen 0 0) (colGroup 0 [] [.fld (tk 0 .COL_GCFG2 0) f_COL_GCFG2_NSLOT_LOG2 0]) (causeIs 3)
  && ok (.colGctrlOpen 0 0) (colGroup 0 [] [.fld (tk 0 .COL_GCFG1 0) f_COL_GCFG1_ONCHIP_EN 1, .fld (tk 0 .COL_GCFG1 1) f_COL_GCFG1_ONCHIP_EN 1,
    .fld (tk 0 .COL_GCFG3 0) f_COL_GCFG3_ACC_OFF 0x200000, .fld (tk 0 .COL_GSTAT 1) f_COL_GSTAT_STATE 1]) (causeIs 4)
  && ok (.colGctrlOpen 0 0) (colGroup 0 [] [.fld (tk 0 .TILE_PWR_STAT) f_TILE_PWR_STAT_STATE 2]) (fun u => gState u 0 0 == 1 && dfld u .COL_DEV_GRP f_COL_DEV_GRP_VALID 0 == 1 && tfld u 0 .COL_GSTAT f_COL_GSTAT_NAX 0 == 1)) = true := by decide +kernel
theorem test_colClose : (stays (.colGctrlClose 0 0) (colGroup 0 [] []) && ok (.colGctrlReform 0 0) (colGroup 0 [] []) cfgBad
  && ok (.colGctrlClose 0 0) (colGroup 1 [] [.reg (dk .COL_DEV_GRP 0) (2 ^ 63)]) (fun u => gState u 0 0 == 0 && rg u (dk .COL_DEV_GRP 0) == 0)
  && ok (.colGctrlReform 0 0) (barrier []) (fun u => gState u 0 0 == 1 && tfld u 0 .COL_GSTAT f_COL_GSTAT_FORM 0 == 4 && cm8 u 0 0x104600 == 4 * 2 ^ 56
    && (queueOf u 0 14).run.map (·.status) == [stAborted])) = true := by decide +kernel

/-! ### The host port -/

/-- The link is up and the function enabled; with other updates (R558, R571). -/
def hosted (es : List Eff) : State := tiles (.fld (dk .HIF_STAT) f_HIF_STAT_LINK_UP 1 :: .fld (dk .HIF_STAT) f_HIF_STAT_BME 1
  :: .setPci { PciCfg.init with
    mse := true, msixEn := true } :: es)
def hst (f : Fld) (u : State) : Bool := dfld u .HIF_STAT f == 1
def cplIs (st : Nat) (bs : List Byte) (u : State) : Bool := u.hostCpl == [⟨0, st, false, bs⟩]
theorem test_barOff : ([Instr.bar0Read 0 8 true, .bar2Read 0 8, .bar4Read 0 8, .bar0Write 0 [1] true, .bar2Write 0 [1] false, .bar4DoorbellWrite 0 [1]].all (fun c => stays c (tiles []))
  && stays (.bar2Read (2 ^ 36) 8) (hosted []) && stays (.bar2Write (2 ^ 36) [1] false) (hosted [])
  && [Instr.bar0Read 0 8 true, .bar2Read 0 8, .bar4Read 0 8].all (fun c => ok c (hosted [.fld (dk .HIF_STAT) f_HIF_STAT_D3HOT 1]) (cplIs 1 []))
  && ok (.bar0Write 0 [1] true) (hosted [.fld (dk .HIF_STAT) f_HIF_STAT_D3HOT 1]) (fun u => u.hostCpl == [] && u.hostQ == [])
  && ok (.bar4Read 64 4) (hosted []) (cplIs 0 [0, 0, 0, 0])) = true := by decide +kernel
def hubQ (u : State) : List (Nat × Nat × Nat) := (cnqAt u hub).map (fun p => (p.op.toNat, cnDst p, cnFld p 0 25))
theorem test_bar0 : (ok (.bar0Read 0x2009000 8 true) (hosted []) (fun u => hubQ u == [(0, 0, 0x9000)] && u.hostQ.map (fun r => (r.taken, r.dests)) == [(true, [0])])
  && ok (.bar0Write 0x40008 [1, 2, 3, 4] true) (hosted []) (fun u => hubQ u == [(1, hub, 0x40008)])
  && ok (.bar0Read 4 8 true) (hosted []) (fun u => hst f_HIF_STAT_BAR_ERR u && cplIs 2 [] u)
  && ok (.bar0Read 0x3FF0000 8 true) (hosted []) (fun u => hst f_HIF_STAT_BAR_ERR u && cplIs 1 [] u)
  && ok (.bar0Read 0 8 true) (hosted [.setHostQ [⟨7, 2, true, 0, 1, [1], false, true, [0], 1, 0, [], [], false⟩]]) (fun u => hubQ u == [] && u.hostQ.map (·.taken) == [true, false])) = true := by
  decide +kernel
def doorbell : Eff := .reg (dk .HIF_DB_MAP 3) 0x8000000000000118
theorem test_bar4 : (ok (.bar4DoorbellWrite 0x3000 [1, 0, 0, 0, 0, 0, 0, 0]) (hosted [doorbell]) (fun u => hubQ u == [(1, 0, 0x118)] && dfld u .HIF_DB_CNT f_HIF_DB_CNT_COUNT == 1)
  && ok (.bar4DoorbellWrite 0x3000 [1, 0, 0, 0]) (hosted [doorbell]) (fun u => hubQ u == [] && hst f_HIF_STAT_DB_ERR u && dfld u .HIF_DB_ERR_CNT f_HIF_DB_CNT_COUNT == 1)) = true := by decide +kernel
def gates (u : State) : List NiuReq := niuqAt u 7 ++ niuqAt u 8
theorem test_bar2 : (ok (.bar2Read (2 ^ 36 - 2 ^ 32) 8) (hosted []) (fun u => (gates u).map (fun x => (x.pkt.op.toNat, x.pkt.dtile.toNat)) == [(opRdReq, 0)])
  && ok (.bar2Write (2 ^ 36 - 2 ^ 32) [1, 2] false) (hosted []) (fun u => (gates u).map (fun x => (x.pkt.op.toNat, x.pkt.data)) == [(opWr, [1, 2])])
  && ok (.bar2Read (2 ^ 36 - 1) 1) (hosted []) (fun u => hst f_HIF_STAT_BAR_ERR u && cplIs 1 [] u)
  && ok (.bar2Write (2 ^ 36 - 1) [1] false) (hosted []) (fun u => hst f_HIF_STAT_BAR_ERR u && u.hostQ == [])) = true := by decide +kernel
/-- A packet of tile 3 at gate 7 for the host window, entry 1 (R563). -/
def toHost (op : BitVec 5) (len : BitVec 13) (data : List Byte) : BnPkt := { bnp op len 0x40000010 data with
  psn := [false] }
def atGate (p : BnPkt) : Eff := .setBn [⟨p, 7, 4, true, some 16, none⟩]
def hwin1 : Eff := .reg (dk .HIF_HWIN 1) 0x1400000001
def gaveBack (st : Nat) (u : State) : Bool := (gates u).map (fun x => bitsOf x.pkt.addr.toNat 0 8) == [st]
theorem test_hostWindow : (stays (.hostWindowRequest (toHost 0 8 [])) (hosted [])
  && ok (.hostWindowRequest (toHost 0 8 [])) (tiles [atGate (toHost 0 8 [])]) (fun u => hst f_HIF_STAT_HWIN_ERR u && u.bn == [] && (gates u).length == 1)
  && ok (.hostWindowRequest (toHost 0 8 [])) (hosted [atGate (toHost 0 8 [])]) (fun u => dfld u .HIF_HWIN_INV_CNT f_HIF_HWIN_INV_CNT_COUNT == 1 && (gates u).length == 1)
  && ok (.hostWindowRequest (toHost 1 2 [5, 6])) (hosted [atGate (toHost 1 2 [5, 6]), hwin1]) (fun u => u.tlpOut == [⟨true, 0x1400000010, 2, [5, 6], false, false, false⟩] && (gates u).length == 1)
  && ok (.hostWindowRequest (toHost 0 8 [])) (hosted [atGate (toHost 0 8 []), hwin1]) (fun u => u.tlpOut.map (fun x => (x.wr, x.addr, x.len)) == [(false, 0x1400000010, 8)]
    && u.hostRd.map (·.left) == [[(0, 8)]])) = true := by decide +kernel
def readOut (l : List (Nat × Nat)) : Eff := .setHostRd [⟨toHost 0 8 [], 7, l, stOK, List.replicate 8 0, [false]⟩]
def sevens : List Byte := List.replicate 8 7
theorem test_hostCompletions : (stays (.hostCompletionReceive 0 0 .data []) (hosted []) && stays (.hostCplTimeout 0 0) (hosted [])
  && ok (.hostCompletionReceive 0 0 .data sevens) (hosted [readOut [(0, 8)]]) (fun u => u.hostRd == [] && (gates u).map (·.pkt.data) == [sevens])
  && ok (.hostCompletionReceive 0 0 .data [7]) (hosted [readOut [(0, 1), (1, 7)]]) (fun u => u.hostRd.map (·.left) == [[(1, 7)]] && gates u == [])
  && ok (.hostCompletionReceive 0 0 .ep sevens) (hosted [readOut [(0, 8)]]) (fun u => u.hostRd == [] && dfld u .HIF_HWIN_PSN_CNT f_HIF_HWIN_PSN_CNT_COUNT == 1)
  && ok (.hostCompletionReceive 0 0 .refused []) (hosted [readOut [(0, 8)]]) (fun u => u.hostRd == [] && dfld u .HIF_HWIN_ERR_CNT f_HIF_HWIN_ERR_CNT_COUNT == 1)
  && ok (.hostCplTimeout 0 0) (hosted [readOut [(0, 8)]]) (fun u => u.hostRd == [] && dfld u .HIF_HWIN_TMO_CNT f_HIF_HWIN_TMO_CNT_COUNT == 1)) = true := by decide +kernel
theorem test_watchdog : (stays (.hifCplWatchdog 0) (hosted [])
  && ok (.hifCplWatchdog 5) (hosted [.setHostQ [⟨5, 0, false, 0, 8, [], false, true, [0], 1, 0, [], [], false⟩]]) (fun u => hst f_HIF_STAT_CPL_WD u
    && u.hostCpl == [⟨5, 2, false, []⟩] && u.hostQ.map (·.dead) == [true])) = true := by decide +kernel
theorem test_msix : (stays (.msixSend 3) (hosted [.setMsixPend 8])
  && ok (.msixSend 3) (hosted [.setMsixPend 9, .putMsixTbl 6 0x1000, .putMsixTbl 7 0x100000055]) (fun u => u.msixPend == 1 && u.tlpOut == [⟨true, 0x1000, 4, [0x55, 0, 0, 0], false, false, false⟩])
  && ok (.hifMsixTrigWrite 3) (hosted []) (fun u => u.msixPend == 8)) = true := by decide +kernel
theorem test_hostResets : ([Instr.perstNAssert false, .hostLinkDown, .flr].all (fun c => ok c (hosted [.reg (dk .HIF_BAR2_VBASE) (2 ^ 30), .putMsixTbl 6 5, hwin1]) (fun u =>
    rg u (dk .HIF_BAR2_VBASE) == 0 && msixTblAt u 6 == 0 && u.pci == PciCfg.init && !hst f_HIF_STAT_LINK_UP u && (rg u (dk .HIF_HWIN 1) == 0) == (c == .flr)))) = true := by decide +kernel
theorem test_hostPower : (ok .d3hotEnter (hosted [readOut [(0, 8)]]) (fun u => hst f_HIF_STAT_D3HOT u && u.hostRd == []) && ok .d3hotExit (hosted [.fld (dk .HIF_STAT) f_HIF_STAT_D3HOT 1]) (fun u =>
    !hst f_HIF_STAT_D3HOT u)
  && ok (.hostLinkUp true 6 16 false PciCfg.init) (tiles []) (fun u => hst f_HIF_STAT_LINK_UP u && dfld u .HIF_STAT f_HIF_STAT_SPEED == 6 && dfld u .HIF_STAT f_HIF_STAT_WIDTH == 16)
  && stays (.bar2Resize 33) (hosted []) && stays (.bar2Resize 29) (tiles []) && stays (.bar2Resize 38) (tiles [])
  && ok (.bar2Resize 30) (tiles []) (fun u => u.pci.bar2 == 30) && ok (.bar2Resize 37) (tiles []) (fun u => u.pci.bar2 == 37)) = true := by decide +kernel

/-! ### Well-formedness: what each check refuses -/

def okBn : BnPkt := bnp 0 4 64 []
def okCn : CnPkt := mkCn 1 0 0 0 8 0 []
theorem test_wfBn : ((Instr.bnRdReq 3 okBn []).wf && !(Instr.bnRdReq 3 { okBn with
  len := 4097 } []).wf && !(Instr.bnRdReq 3 { okBn with
  psn := [true] } []).wf && !(Instr.bnRdReq 3 { okBn with
  data := List.replicate 4097 0, psn := List.replicate 65 false } []).wf && !(Instr.bnRdReq 3 okBn [(1, .corr), (1, .uncorr)]).wf) = true := by decide +kernel
theorem test_wfCn : ((Instr.cnRrd okCn).wf && !(Instr.cnRrd { okCn with
  len := 65 }).wf && !(Instr.cnRrd { okCn with
  data := List.replicate 65 0 }).wf && !(Instr.cnRrd { okCn with
  dhub := true, dtile := 1 }).wf && !(Instr.cnRrd { okCn with
  shub := true }).wf) = true := by decide +kernel
theorem test_wfBitten : (!(Instr.snufferBite none 0 0 (.bn { okBn with
  len := 4097 } 0 0)).wf && !(Instr.snufferBite none 0 0 (.cn { okCn with
  len := 65 } 0 0)).wf && (Instr.snufferBite none 0 0 .none).wf) = true := by decide +kernel
theorem test_wfCan : (!(Instr.canFrameReceive ⟨0, 0, 0, 0, 0, List.replicate 65 0⟩ false).wf && (Instr.canFrameReceive ⟨0, 0, 0, 0, 0, []⟩ false).wf) = true := by decide +kernel
theorem test_wfPci : ((Instr.hostLinkUp true 6 16 true PciCfg.init).wf && !(Instr.hostLinkUp true 6 16 true { PciCfg.init with
  mps := 100 }).wf && !(Instr.hostLinkUp true 6 16 true { PciCfg.init with
  mrrs := 0 }).wf && !(Instr.hostLinkUp true 6 16 true { PciCfg.init with
  bar2 := 29 }).wf && !(Instr.hostLinkUp true 6 16 true { PciCfg.init with
  bar2 := 38 }).wf && !(Instr.bar2Resize 29).wf && !(Instr.bar2Resize 38).wf && (Instr.bar2Resize 37).wf) = true := by decide +kernel
theorem test_wfDoe : (!(Instr.doeRequest (.discovery 256)).wf && !(Instr.doeRequest (.getCertificate 8 0 0)).wf && !(Instr.doeRequest (.getCertificate 0 65536 0)).wf
  && !(Instr.doeRequest (.getCertificate 0 0 65536)).wf && !(Instr.doeRequest (.challenge 0 [])).wf && !(Instr.doeRequest (.challenge 8 (List.replicate 32 0))).wf
  && !(Instr.doeRequest (.getMeasurements 0 false 0 [])).wf && (Instr.doeRequest (.getMeasurements 0 false 0 (List.replicate 32 0))).wf) = true := by decide +kernel
theorem test_wfHost : (!(Instr.bar0Read 0 0 true).wf && !(Instr.bar0Read 0 4097 true).wf && !(Instr.bar2Read 0 0).wf && !(Instr.bar4Read 0 4097).wf && !(Instr.bar0Write 0 [] true).wf
  && !(Instr.bar2Write 0 (List.replicate 4097 0) false).wf && !(Instr.bar4DoorbellWrite 0 []).wf && !(Instr.hostCompletionReceive 0 0 .data (List.replicate 4097 0)).wf
  && (Instr.bar0Read 0 8 true).wf) = true := by decide +kernel
theorem test_wfWyl : (!(Instr.wlpLaneAlign 0 [] 0).wf && !(Instr.wlpLaneAlign 0 (List.replicate 16 3) 0).wf && !(Instr.trainBlockReceive 0 []).wf && !(Instr.sideBlockReceive 0 [] []).wf
  && !(Instr.wlpFrameReceive 0 .ok (List.replicate 2074 0) []).wf && !(Instr.wlpFrameReceive 0 .ok [] [(1, 2), (1, 3)]).wf && (Instr.trainBlockReceive 0 (List.replicate 32 0)).wf) = true := by
  decide +kernel
theorem test_wfSpi : (!(Instr.spiWriteWindow false 0 (List.replicate 257 0) 0).wf && !(Instr.spiWriteMailbox false (List.replicate 257 0) 0).wf
  && !(Instr.spiAbort false 0 0 (List.replicate 257 0)).wf && (Instr.spiWriteWindow false 0 [] 0).wf) = true := by decide +kernel
end Sys2Proof.Tests
end

section
/-!
PROOFS of the scope's statements: every step keeps a sound state sound (O4), what reset leaves (O5), and why the statement on control packets
and register writes fails (O51).
-/
namespace Sys2Proof.Machine

/-! ### RSVD bits: those outside the mask of a register's fields (R8) -/

/-- A word whose set bits lie in a mask has no bit outside it. -/
theorem and_not_eq_zero {w m : W64} (h : ∀ i, w.getLsbD i = true → m.getLsbD i = true) : w &&& ~~~m = 0 := by
  refine BitVec.eq_of_getLsbD_eq fun i hi => ?_
  have := h i
  cases hw : w.getLsbD i <;> simp_all

theorem getLsbD_foldl_or {β : Type} (g : β → W64) (l : List β) (a : W64) (i : Nat) :
    (l.foldl (fun m x => m ||| g x) a).getLsbD i = (a.getLsbD i || l.any (fun x => (g x).getLsbD i)) := by
  induction l generalizing a with
  | nil => simp
  | cons x l ih => simp [ih, Bool.or_assoc]

/-- A reset value that a field gives lies in the field. -/
theorem fmask_of_reset (f : Fld) (i : Nat) (h : (BitVec.ofNat 64 (f.rst % 2 ^ f.len * 2 ^ f.lo)).getLsbD i = true) :
    (fmask f).getLsbD i = true := by
  simp only [BitVec.getLsbD_ofNat, Nat.testBit_mul_two_pow, Nat.testBit_mod_two_pow, Bool.and_eq_true, decide_eq_true_eq] at h
  obtain ⟨hi, hlo, hlen, -⟩ := h
  rw [getLsbD_fmask]
  simp only [hi, hlo, decide_true, Bool.true_and, decide_eq_true_eq]
  omega

/-- The reset word of a list of fields has no bit outside them. -/
theorem fieldsReset_rsvd (fs : List Fld) : fieldsReset fs &&& ~~~(fieldsMask fs) = 0 := by
  apply and_not_eq_zero
  intro i h
  rw [fieldsReset, getLsbD_foldl_or (fun f : Fld => BitVec.ofNat 64 (f.rst % 2 ^ f.len * 2 ^ f.lo)), Bool.or_eq_true, List.any_eq_true] at h
  rw [fieldsMask, getLsbD_foldl_or, Bool.or_eq_true, List.any_eq_true]
  exact h.imp id (fun ⟨f, hf, hb⟩ => ⟨f, hf, fmask_of_reset f i hb⟩)

/-! ### The reset values of R392 and of HIF_EVT_VEC -/

theorem arbTileCfg_rsvd (p : Nat) : arbTileCfg p &&& ~~~(fieldsMask (tregFields .ARB_CFG_SHADOW)) = 0 := by
  unfold arbTileCfg
  split <;> decide

theorem arbTileReq_rsvd (p r : Nat) : arbTileReq p r &&& ~~~(fieldsMask (tregFields .ARB_REQ_SHADOW)) = 0 := by
  unfold arbTileReq
  split
  · decide
  · split
    · split <;> decide
    · decide

theorem arbDevCfg_rsvd (p : Nat) : arbDevCfg p &&& ~~~(fieldsMask (dregFields .ARB_DEV_CFG_SHADOW)) = 0 := by
  unfold arbDevCfg
  split
  · decide
  · split <;> decide

theorem arbDevReq_rsvd (p r : Nat) : arbDevReq p r &&& ~~~(fieldsMask (dregFields .ARB_DEV_REQ_SHADOW)) = 0 := by
  unfold arbDevReq
  split
  · decide
  · split
    · split <;> decide
    · decide

/-- HIF_EVT_VEC at reset depends on the low six bits of its index alone. -/
theorem evtVecReset_mod (i : Fin 65536) : regReset (.dev .HIF_EVT_VEC i) = regReset (.dev .HIF_EVT_VEC (ix (i.val % 64))) := by
  have hj : (ix (i.val % 64)).val = i.val % 64 := Nat.mod_eq_of_lt (by omega)
  simp only [regReset, hj]
  congr 1
  omega

theorem evtVecReset_rsvd (i : Fin 65536) : regReset (.dev .HIF_EVT_VEC i) &&& ~~~(fieldsMask (dregFields .HIF_EVT_VEC)) = 0 := by
  have hall : ∀ j : Fin 64, regReset (.dev .HIF_EVT_VEC (ix j.val)) &&& ~~~(fieldsMask (dregFields .HIF_EVT_VEC)) = 0 := by
    decide
  rw [evtVecReset_mod]
  exact hall ⟨i.val % 64, Nat.mod_lt _ (by decide)⟩

/-- Every register but TILE_IRQ_ROUTE has the same fields at every index. -/
theorem regMask_tile (t : Fin 512) (r : TReg) (i : Fin 65536) (h : r ≠ .TILE_IRQ_ROUTE) :
    regMask (.tile t r i) = fieldsMask (tregFields r) := by
  unfold regMask regFields
  split
  case h_1 heq => exact absurd (RKey.tile.inj heq).2.1 h
  case h_2 heq => rw [(RKey.tile.inj heq).2.1]
  case h_3 heq => exact RKey.noConfusion heq

theorem tileReset_rsvd (t : Fin 512) (r : TReg) (i : Fin 65536) :
    fieldsReset (tregFields r) &&& ~~~(regMask (.tile t r i)) = 0 := by
  by_cases hr : r = .TILE_IRQ_ROUTE
  · subst hr
    rw [show fieldsReset (tregFields .TILE_IRQ_ROUTE) = 0 by decide]
    exact BitVec.zero_and
  · rw [regMask_tile t r i hr]
    exact fieldsReset_rsvd _

/-- R8: no register has a RSVD bit set at reset. -/
theorem regReset_rsvd (k : RKey) : regReset k &&& ~~~(regMask k) = 0 := by
  unfold regReset
  split
  case h_1 => exact arbTileCfg_rsvd _
  case h_2 => exact arbTileCfg_rsvd _
  case h_3 => exact arbTileReq_rsvd _ _
  case h_4 => exact arbTileReq_rsvd _ _
  case h_5 => exact arbDevCfg_rsvd _
  case h_6 => exact arbDevCfg_rsvd _
  case h_7 => exact arbDevReq_rsvd _ _
  case h_8 => exact arbDevReq_rsvd _ _
  case h_9 i => exact evtVecReset_rsvd i
  case h_10 t r i _ _ _ _ => exact tileReset_rsvd t r i
  case h_11 r i _ _ _ _ _ => exact fieldsReset_rsvd (dregFields r)

/-! ### A sound state (R8) -/

/-- A sparse map reads its default at a key, or holds an entry there that it reads. -/
theorem smGet_eq_or_mem {α : Type} (d : α) (m : List (Nat × α)) (k : Nat) : smGet d m k = d ∨ (k, smGet d m k) ∈ m := by
  induction m with
  | nil => exact .inl rfl
  | cons e m ih =>
    obtain ⟨j, v⟩ := e
    by_cases h : k = j
    · subst h; right; simp [smGet]
    · simp only [smGet, h, if_false]
      exact ih.imp id (List.mem_cons_of_mem _)

/-- R8: in a sound state every RSVD bit of a register reads 0. -/
theorem regOf_rsvd {s : State} (h : s.Wf) (k : RKey) : regOf s k &&& ~~~(regMask k) = 0 := by
  obtain ⟨-, -, -, hentries⟩ := h
  rcases smGet_eq_or_mem (regReset k) s.regs k.code with hd | hm
  · rw [regOf, hd]
    exact regReset_rsvd k
  · obtain ⟨-, hrsvd⟩ := hentries _ hm k ⟨rfl, Iff.rfl⟩
    exact hrsvd

/-- What waits in the queue tells nothing about soundness. -/
theorem wf_withPending {s : State} (h : s.Wf) (q : List Instr) : { s with pending := q }.Wf := h

/-- A meaning that starts in a sound state ends in one. -/
theorem after_Wf (a : Act) (s : State) (h : s.Wf) : (after a s).Wf := after_keeps State.Wf applyEff_Wf a s h

/-- A step is a meaning run on the state without its front command. -/
theorem step_runs (s : State) : ∃ a q, step s = .next (after a { s with pending := q }) := by
  unfold step
  split
  next c rest _ =>
    obtain ⟨a, ha⟩ := exec_runs c { s with pending := rest }
    exact ⟨a, rest, by rw [ha, runA_next]⟩
  next => exact ⟨pilotTickA, s.pending, rfl⟩

theorem step_Wf {s t : State} (h : s.Wf) (hs : step s = .next t) : t.Wf := by
  obtain ⟨a, q, ha⟩ := step_runs s
  obtain rfl : after a { s with pending := q } = t := by simpa [ha] using hs
  exact after_Wf a _ (wf_withPending h q)

/-- Settles O4: a step is a meaning, every update of a meaning keeps the canonical forms (`applyEff_Wf`), and a canonical register store
holds no RSVD bit, as no reset value does. -/
theorem stepKeepsStateSound : Obligations.StepKeepsStateSound := by
  unfold Obligations.StepKeepsStateSound
  intro s t hs hstep
  have ht : t.Wf := step_Wf hs hstep
  exact ⟨ht, fun k => ⟨regOf_rsvd hs k, regOf_rsvd ht k⟩⟩

/-! ### The state right after reset -/

/-- Nothing is stored right after reset, so every canonical form holds. -/
theorem reset_Wf : State.reset.Wf := ⟨rfl, rfl, rfl, fun _ he => absurd he List.not_mem_nil⟩

/-- R7: right after reset a register reads the reset value of its table. -/
@[simp] theorem regOf_reset (k : RKey) : regOf State.reset k = regReset k := rfl

/-- A field of a tile's register right after reset, where R7's table of fields gives the reset value. -/
theorem tfld_reset (t : Nat) (r : TReg) (f : Fld) (i : Nat) (h : regReset (tk t r i) = fieldsReset (tregFields r)) :
    tfld State.reset t r f i = fget (fieldsReset (tregFields r)) f := by
  rw [tfld, fld, regOf_reset, h]

/-- R392: a point of a tile's arbiters reads its default right after reset. -/
theorem regReset_arbCfg (t p : Nat) (h : p < 65536) : regReset (tk t .ARB_CFG_ACTIVE p) = arbTileCfg p := by
  have hp : (ix p).val = p := Nat.mod_eq_of_lt h
  simp only [tk, regReset, hp]

/-- Settles O5: the stores are empty right after reset, so a register reads `regReset` and a byte reads 0. -/
theorem resetIsSoundAndAsTheTablesSay : Obligations.ResetIsSoundAndAsTheTablesSay := by
  unfold Obligations.ResetIsSoundAndAsTheTablesSay
  refine ⟨reset_Wf, regOf_reset, ?mtimecmp, ?stopped, ?queue, ?doze, ?bank, ?output, fun _ _ => ⟨rfl, rfl⟩⟩
  case mtimecmp =>
    intro t c
    rw [tfld_reset _ _ _ _ rfl]
    decide
  case stopped =>
    intro t
    rw [tfld_reset _ _ _ _ rfl]
    decide
  case queue =>
    intro t q
    rw [tfld_reset _ _ _ _ rfl]
    decide
  case doze =>
    intro t
    rw [tfld_reset _ _ _ _ rfl]
    decide
  case bank =>
    intro t b
    rw [regOf_reset, regReset_arbCfg _ _ (by omega), arbTileCfg, if_pos (by omega)]
    rfl
  case output =>
    intro t p
    rw [regOf_reset, regReset_arbCfg _ _ (by omega), arbTileCfg, if_neg (by omega)]
    rfl

/-! ### A write of half a register whose RSVD bits are not 0 -/

/-- A write of 0 to the low half of ERR_CFG from the host ends the host's latch and writes the register by its access codes. -/
theorem errCfgLowWrite_effects (s : State) : registerWriteA .host (placeOf none 0x40008) 4 0 s =
    [.setLatches (latchDrop s (reqNo .host 0) 512), .reg (dk .ERR_CFG) (wouldBe s (dk .ERR_CFG) (laneData 0x40008 4 0) (laneMask 0x40008 4))] := rfl

/-- R8: such a write leaves ERR_CFG with its RSVD bits 0, whatever it held. -/
theorem errCfgLowWrite_clears_rsvd {s u : State} (h : exec (.registerWrite .host none 0x40008 false 0) s = .next u) :
    regOf u (dk .ERR_CFG) &&& ~~~(regMask (dk .ERR_CFG)) = 0 := by
  have hu : after (registerWriteA .host (placeOf none 0x40008) 4 0) s = u := by
    simpa [exec, execRegisterWrite, runA_next] using h
  rw [← hu, regOf_after _ _ _ (by simp [dk]), errCfgLowWrite_effects, applyAll_cons, applyAll_cons, applyAll_nil, regOf_reg_same,
    BitVec.and_assoc, BitVec.and_not_self]
  exact BitVec.and_zero

/-- The state after reset but for ERR_CFG, which holds the RSVD bit 63, so that the register store is not sound (R8). -/
def errCfgRsvdSet : State := { State.reset with regs := [((dk .ERR_CFG).code, BitVec.ofNat 64 (2 ^ 63))] }

/-- Refutes O51: its clause on REGISTER_WRITE to a register that is only a setting promises `accWrite` of the old word in every state, not
only in a sound one. A write of half a register keeps the other half in `accWrite`, while the register store drops RSVD bits (R8): where
ERR_CFG holds bit 63, a write of its low half leaves that bit 0. -/
theorem not_controlPacketsAndRegisterWrites : ¬ Obligations.ControlPacketsAndRegisterWrites := by
  unfold Obligations.ControlPacketsAndRegisterWrites
  intro h
  obtain ⟨-, -, -, -, -, hwrite⟩ := h errCfgRsvdSet
  obtain ⟨-, hserved⟩ := hwrite .host none 0x40008 false 0
  obtain ⟨-, hplain⟩ := hserved (by decide) 512 0x40008 (.reg (dk .ERR_CFG)) (by rfl)
  obtain ⟨u, hu, -, hword⟩ := hplain (dk .ERR_CFG) rfl rfl
  have hclean := errCfgLowWrite_clears_rsvd hu
  rw [hword] at hclean
  exact absurd hclean (by decide)

end Sys2Proof.Machine
end
